-- ==== Sys2Proof/Word.lean ====
section
/-! DEFINITION. The plain words of the model: bytes, register words and the numbers the spec compares modulo a power of
two. Everything the spec treats as a number (a sequence, a count, a site, an address once computed) is a `Nat`. -/

namespace Sys2Proof

/-- One byte of memory or of a packet's payload. -/
abbrev Byte := BitVec 8

/-- A 64-bit register word; a 32-bit register uses its low half. -/
abbrev Word := BitVec 64

/-- `a - b` modulo `2 ^ w`. -/
def subMod (w a b : Nat) : Nat := (a + 2 ^ w - b % 2 ^ w) % 2 ^ w

/-- `a` is ahead of `b` modulo `2 ^ w` (R77 with `w = 24`): the difference lies between 1 and `2 ^ (w - 1) - 1`. -/
def aheadMod (w a b : Nat) : Bool :=
  decide (1 ≤ subMod w a b) && decide (subMod w a b ≤ 2 ^ (w - 1) - 1)

/-- A `w`-bit field of `n` starting at bit `lsb`. -/
def bitsOf (n lsb w : Nat) : Nat := n / 2 ^ lsb % 2 ^ w

/-- The signed value of the low `w` bits of `n`. -/
def toSigned (w n : Nat) : Int :=
  if n % 2 ^ w < 2 ^ (w - 1) then (n % 2 ^ w : Nat) else (n % 2 ^ w : Nat) - (2 ^ w : Nat)

/-- The low `w` bits of a signed number. -/
def ofSigned (w : Nat) (z : Int) : Nat := (z % (2 ^ w : Nat)).toNat

end Sys2Proof
end

