-- ==== Sys2Proof/Config.lean ====
section
/-! DEFINITION. What the spec leaves open and the model leaves free: constants without a body, which no proof can evaluate.
`freeValue n` is the n-th free value of a run; the state's counter `free` says how many have been taken. -/

namespace Sys2Proof

/-- The n-th free value: any 64-bit number. -/
opaque Config.freeValue : Nat → BitVec 64

/-- What a byte of a reserved area of a stack reads as at a time (R227): the areas hold job queues, directory copies, spill images and dumps, whose layouts
the spec leaves out. -/
opaque Config.areaByte : Nat → Nat → BitVec 8

/-- Which row of its stack a granule lies in: the spec names rows (R236) and states no size or layout of them. -/
opaque Config.hbmRow : Nat → Nat

/-- How far a division, a reciprocal square root, exp, log, tanh, erf or the sigmoid of given operands lies from the correctly rounded result (R194: within 2 ULP);
only the remainder by 5 is used. -/
opaque Config.ulp : Nat → Nat → Nat → Nat

/-- The bits of an MXFP6 or MXFP4 element of a block that holds a NaN (R193, R195): the formats have no NaN, and the spec states no code. -/
opaque Config.mxNan : Nat → Nat

/-- The byte that stands at an address where the spec states none: what an operator computes with where its read was refused, and
what fills a Sky write up to 16 bytes behind the packed bytes of a row. -/
opaque Config.freeByte : Nat → BitVec 8

/-- The byte of the Almanac at an offset that nothing has written since final test. -/
opaque Config.factory : Nat → BitVec 8

/-- The bytes of the Skegodel guard key, a public key of 48 bytes whose digest the boot ROM holds (R494); the spec gives no value. -/
opaque Config.guardKey : Nat → BitVec 8

/-- Where in the build record region of the Almanac the identity statement and its signature stand (R490, R495); the spec gives no value. -/
opaque Config.identAt : Nat

/-- Where in the identity statement the device public key of 32 bytes stands (R495); the spec gives no layout of the statement. -/
opaque Config.identKeyAt : Nat

/-- What the key engine derives from the PUF array's bytes with the helper data that final test stored: the device public key of 32 bytes and the bits that the
extractor corrected (R495, R496). The spec gives neither the code, nor the helper data, nor how SHA-256 expands the secret into the three seeds. -/
opaque Config.deviceKey : List (BitVec 8) → List (BitVec 8) × Nat

/-- A byte of the Almanac's directory and boot state (R490), by A_VALID, B_VALID, ACTIVE, NEXT, the boot count and the failure counter that it holds and its
offset; the spec gives no layout. -/
opaque Config.directory : List Nat → Nat → BitVec 8

/-- The serial number of the laser module in a slot (R499); R104 gives a module no register that tells it. -/
opaque Config.moduleSerial : Nat → Nat

/-- How many bytes of its 48 MiB region a firmware image takes (R490, R498); the spec gives no layout of an image. -/
opaque Config.imageLen : Nat

/-- The protocol versions that the MCTP endpoint reports for a message type (R497): the base specification's, whose number the spec leaves out. -/
opaque Config.mctpVersion : Nat → List Nat

/-- Where the numbering of the waveguides and of the grid channels of the built-in chart's all-pairs map begins (R294); the spec gives no assignment. -/
opaque Config.builtinShift : Nat × Nat

/-- The losses that the Almanac records at final test (R42), in 0.01 dB, by the kind (0 a writer ring, 1 a reader ring, 2 an intermediate site on a
waveguide, 3 a crossing on a waveguide) and the place; `none` where a record is missing or fails its check word. -/
opaque Config.loss : Nat → Nat → Option Nat

/-- From which loss on, less 1, in 0.01 dB, LOCATE takes a stage for lossy (R124): the spec gives no limit. -/
opaque Config.lossyAt : Nat

/-- The seed of a ring's heater table in the Almanac (R116), in 1/4200 of a heater code: the heater power that holds grid channel 0 at 35 °C at some
order of the ring. The spec gives no values and no layout of the table. -/
opaque Config.heaterSeed : Nat → Int

/-- The gain of a ring's Twinkle loop, in codes for an error of 1 less 1 (a loop that moved no code would be none), and its feed-forward coefficient, in
codes for each kelvin that its site has moved (R118); the spec gives neither. -/
opaque Config.loopGain : Nat → Nat
opaque Config.feedForward : Nat → Int

/-- The factory trims of the OMUs (R139): the level of the 10-bit input DAC for an input and a code (input 64 × OMU + i), the driver value of a
weight ring at a point of its table (ring 4,096 × OMU + 64 × row + i), and the heater setting of a weight ring at a site temperature in
0.25 °C. The spec gives no values. -/
opaque Config.inputSeed : Nat → Nat → Nat
opaque Config.driverSeed : Nat → Nat → Nat
opaque Config.weightHeater : Nat → Int → Int

/-- The trim of a row's 12-bit offset DAC (64 × OMU + row) before any pilot has set one (R139, R171); the spec gives no value. -/
opaque Config.offsetSeed : Nat → Nat

/-- The error of one ADC sample of a row (64 × OMU + row), in 1/16 of a code, with the levels of its inputs, the driver values and the heater
settings of its rings, its offset DAC's trim and its OMU's gain trim, and the noise of the sample (R139, R166, R170): the spec gives its RMS
alone. -/
opaque Config.rowError : Nat → List Nat → List Nat → List Int → Nat × Int → Nat → Int

/-- Whether the chart forbids FALLBACK for the passes of a layer, by its OP_ID, that a path pin holds on an optical path (R206): ERROR_TARGETS
(R281) has no place that says so. -/
opaque Config.noFallback : Nat → Bool

/-- Whether a guest chiplet decodes `n` bytes from an address, as its own design chooses (R28): site, address, length. -/
opaque Config.guestDecodes : Nat → Nat → Nat → Bool

/-- The FP32 bits that an output of a block whose partials were not formed carries beside its poison tag (R206), by the time, the row and the output; the
spec gives no value. -/
opaque Config.unformed : Nat → Nat → Nat → Nat

end Sys2Proof
end

