-- ==== Sys2Proof/Machine/Map.lean ====
section
/-! DEFINITION. Sparse tables keyed by a number: a list of (key, value) pairs whose keys rise strictly and which never lists
the default value, so that equal tables are equal data. Memory (the byte of each address), the register fields and
every repeated piece of the part's state are held this way. -/

namespace Sys2Proof.Machine

/-- The value listed for `k`, or the default. -/
def tabGet {α : Type} (d : α) : List (Nat × α) → Nat → α
  | [], _ => d
  | (k', v) :: m, k => if k' = k then v else tabGet d m k

/-- `v` listed for `k` in its place in a rising list. -/
def tabIns {α : Type} : List (Nat × α) → Nat → α → List (Nat × α)
  | [], k, v => [(k, v)]
  | (k', v') :: m, k, v =>
    if k < k' then (k, v) :: (k', v') :: m
    else if k = k' then (k, v) :: m
    else (k', v') :: tabIns m k v

/-- `v` listed for `k`, the list kept rising; the default value is not listed. -/
def tabPut {α : Type} [DecidableEq α] (d : α) (m : List (Nat × α)) (k : Nat) (v : α) : List (Nat × α) :=
  if v = d then m.filter fun p => decide (p.1 ≠ k) else tabIns m k v

/-- The keys of the list rise strictly, and each lies above `lo` when a bound is given. -/
def tabRising {α : Type} : Option Nat → List (Nat × α) → Bool
  | _, [] => true
  | none, (k, _) :: m => tabRising (some k) m
  | some lo, (k, _) :: m => decide (lo < k) && tabRising (some k) m

/-- The canonical form: keys rising strictly, no default listed. -/
def tabWf {α : Type} [DecidableEq α] (d : α) (m : List (Nat × α)) : Bool :=
  tabRising none m && m.all fun p => decide (p.2 ≠ d)

/-- A strictly rising list of keys with `k` put in. -/
def keyPut : List Nat → Nat → List Nat
  | [], k => [k]
  | k' :: m, k => if k < k' then k :: k' :: m else if k = k' then k' :: m else k' :: keyPut m k

/-- A list of keys with `k` taken out. -/
def keyDrop (m : List Nat) (k : Nat) : List Nat := m.filter fun x => decide (x ≠ k)

end Sys2Proof.Machine
end

