-- ==== Sys2Proof/Machine/Reg.lean ====
section
/-! DEFINITION. What a register and a register field are (R7, R9, R12, R76): place, width, access code, Reset column, and
the freeze rule a counter follows. The fields themselves stand in Machine/Fields.lean, the map in Machine/RegMap.lean. -/

namespace Sys2Proof.Machine

/-- Access codes (R9). -/
inductive Acc where
  | ro | rw | w1c | w1s | wo | lo
  deriving DecidableEq, Repr

/-- What the Reset column says (R12): a value, "keep", "loaded" or "trim". -/
inductive RstKind where
  | val | keep | loaded | trim
  deriving DecidableEq, Repr

/-- What kind of field it is: plain; a saturating, an error (saturating, and raising the station's source at its first
increment, R76) or a wrapping counter; a watermark. -/
inductive FldCls where
  | plain | sat | err | wrap | mark
  deriving DecidableEq, Repr

/-- Whose FREEZE bit a counter follows: none; the station of the same site; of memory site `24 + i`; a block's own CTRL. -/
inductive Frz where
  | free | stn | mem | trn | cmt | clk | thm
  deriving DecidableEq, Repr

/-- Whose reset resets the register, besides a device reset: nobody's; the station's; the Firmament site's; the tile stack's; the MBD's; the
front end's; that of the I/O chiplet of a port. -/
inductive RegDom where
  | dev | stn | site | tile | mbd | front | port
  deriving DecidableEq, Repr

/-- A register field: the BAR0 offset of its register at indices 0, the strides of its two indices, its lowest bit and
width, its access code and Reset column. -/
structure Fld where
  base : Nat
  s1   : Nat
  s2   : Nat
  lsb  : Nat
  w    : Nat
  acc  : Acc
  kind : RstKind
  rst  : Nat
  cls  : FldCls
  frz  : Frz
  deriving DecidableEq, Repr

/-- A register (or a family of them over two indices): name, place, whether it is 64 bits wide, whether a write of it is
configuration-class, whose reset resets it, and its fields. -/
structure Reg where
  name : String
  base : Nat
  n1   : Nat
  s1   : Nat
  n2   : Nat
  s2   : Nat
  wide : Bool
  cfg  : Bool
  dom  : RegDom
  flds : List Fld
  deriving DecidableEq, Repr

/-- The home of a field: its register's BAR0 offset times 64 plus its lowest bit. -/
def Fld.key (f : Fld) (i j : Nat) : Nat := (f.base + i * f.s1 + j * f.s2) * 64 + f.lsb

end Sys2Proof.Machine
end

