-- ==== Sys2Proof/Machine/Fields.lean ====
section
/-! DEFINITION. The register fields of the part, one definition for each field of the spec's field tables
(bits, access code and Reset column as the table gives them; the rule of each block stands above it). A field
of a repeated register takes its indices when it is read or written. -/

namespace Sys2Proof.Machine.F

/-! DLR block, BAR0 + 0x0 (R309, spec/10). -/

def DLR_STAT_LINK_UP : Fld := ⟨0x0, 0, 0, 0, 1, .ro, .val, 0, .plain, .free⟩
def DLR_STAT_DECKS_ON : Fld := ⟨0x0, 0, 0, 1, 7, .ro, .val, 0, .plain, .free⟩
def DLR_STAT_HWIN_PENDING : Fld := ⟨0x0, 0, 0, 8, 1, .ro, .val, 0, .plain, .free⟩
def DLR_ACCEPTED : Fld := ⟨0x8, 0, 0, 0, 64, .ro, .val, 0, .wrap, .free⟩
def DLR_REJECTED : Fld := ⟨0x10, 0, 0, 0, 32, .ro, .val, 0, .sat, .free⟩
def DLR_HWIN_BASE : Fld := ⟨0x20, 0, 0, 30, 22, .rw, .val, 0, .plain, .free⟩
def DLR_HWIN_SIZE_GIB : Fld := ⟨0x28, 0, 0, 0, 17, .rw, .val, 0, .plain, .free⟩
/-! DECK block, BAR0 + 0x1000 (R310, spec/10). -/

def DLR_DECK_SQBASE : Fld := ⟨0x1000, 0x40, 0, 12, 40, .rw, .val, 0, .plain, .free⟩
def DLR_DECK_CQBASE : Fld := ⟨0x1008, 0x40, 0, 12, 40, .rw, .val, 0, .plain, .free⟩
def DLR_DECK_HRBASE : Fld := ⟨0x1010, 0x40, 0, 6, 46, .rw, .val, 0, .plain, .free⟩
def DLR_DECK_CFG_ENABLE : Fld := ⟨0x1018, 0x40, 0, 0, 1, .rw, .val, 0, .plain, .free⟩
def DLR_DECK_CFG_SQ_LOG2 : Fld := ⟨0x1018, 0x40, 0, 1, 5, .rw, .val, 6, .plain, .free⟩
def DLR_DECK_CFG_CQ_LOG2 : Fld := ⟨0x1018, 0x40, 0, 6, 5, .rw, .val, 6, .plain, .free⟩
def DLR_DECK_CFG_WEIGHT : Fld := ⟨0x1018, 0x40, 0, 11, 4, .rw, .val, 1, .plain, .free⟩
def DLR_DECK_CFG_IRQ_COUNT : Fld := ⟨0x1018, 0x40, 0, 15, 8, .rw, .val, 1, .plain, .free⟩
def DLR_DECK_CFG_IRQ_TIME_US : Fld := ⟨0x1018, 0x40, 0, 23, 9, .rw, .val, 0, .plain, .free⟩
def DLR_DECK_STAT_SQ_HEAD : Fld := ⟨0x101C, 0x40, 0, 0, 16, .ro, .val, 0, .plain, .free⟩
def DLR_DECK_STAT_STATE : Fld := ⟨0x101C, 0x40, 0, 16, 3, .ro, .val, 0, .plain, .free⟩
def DLR_DECK_STAT_ERR : Fld := ⟨0x101C, 0x40, 0, 19, 3, .ro, .val, 0, .plain, .free⟩
def DLR_DECK_STAT_PART : Fld := ⟨0x101C, 0x40, 0, 22, 2, .ro, .val, 0, .plain, .free⟩
def DLR_DECK_STAT_CQ_HELD : Fld := ⟨0x101C, 0x40, 0, 24, 1, .ro, .val, 0, .plain, .free⟩
def DLR_DECK_CQ_CQ_TAIL : Fld := ⟨0x1020, 0x40, 0, 0, 16, .ro, .val, 0, .plain, .free⟩
def DLR_DECK_CQ_PHASE : Fld := ⟨0x1020, 0x40, 0, 16, 1, .ro, .val, 1, .plain, .free⟩
def DLR_DECK_OUT_OUTSTANDING : Fld := ⟨0x1024, 0x40, 0, 0, 17, .ro, .val, 0, .plain, .free⟩
def DLR_DECK_ACC : Fld := ⟨0x1028, 0x40, 0, 0, 64, .ro, .val, 0, .wrap, .free⟩
def DLR_DECK_REJ : Fld := ⟨0x1030, 0x40, 0, 0, 32, .ro, .val, 0, .sat, .free⟩
def DLR_DECK_IGN : Fld := ⟨0x1034, 0x40, 0, 0, 32, .ro, .val, 0, .sat, .free⟩
/-! EVF block, BAR0 + 0x10000 (R337, spec/10). -/

def EVF_DATA : Fld := ⟨0x10000, 0, 0, 0, 64, .ro, .val, 0, .plain, .free⟩
def EVF_STAT_COUNT : Fld := ⟨0x10008, 0, 0, 0, 13, .ro, .val, 0, .plain, .free⟩
def EVF_STAT_EMPTY : Fld := ⟨0x10008, 0, 0, 13, 1, .ro, .val, 1, .plain, .free⟩
def EVF_STAT_UNDERRUN : Fld := ⟨0x10008, 0, 0, 14, 1, .w1c, .val, 0, .plain, .free⟩
def EVF_STAT_FLUSHING : Fld := ⟨0x10008, 0, 0, 15, 1, .ro, .val, 0, .plain, .free⟩
def EVF_STAT_PARITY : Fld := ⟨0x10008, 0, 0, 16, 8, .ro, .val, 0, .sat, .free⟩
def EVF_CTRL_FLUSH : Fld := ⟨0x1000C, 0, 0, 0, 1, .w1s, .val, 0, .plain, .free⟩
def EVF_CTRL_IRQ_EN : Fld := ⟨0x1000C, 0, 0, 1, 1, .rw, .val, 0, .plain, .free⟩
def EVF_DROP : Fld := ⟨0x10010, 0, 0, 0, 32, .ro, .val, 0, .sat, .free⟩
def EVF_FLUSHED : Fld := ⟨0x10014, 0, 0, 0, 32, .ro, .val, 0, .sat, .free⟩
/-! TAL block, BAR0 + 0x20000 (R371, spec/11). -/

def TAL_CTRL_RECOVER : Fld := ⟨0x20000, 0, 0, 0, 1, .wo, .val, 0, .plain, .free⟩
def TAL_CTRL_HOLD : Fld := ⟨0x20000, 0, 0, 1, 1, .rw, .val, 0, .plain, .free⟩
def TAL_STAT_FULL : Fld := ⟨0x20004, 0, 0, 0, 1, .ro, .val, 0, .plain, .free⟩
def TAL_STAT_MIRROR_ERR : Fld := ⟨0x20004, 0, 0, 1, 1, .ro, .val, 0, .plain, .free⟩
def TAL_STAT_RECOVERY : Fld := ⟨0x20004, 0, 0, 2, 2, .ro, .val, 0, .plain, .free⟩
def TAL_STAT_REC_ERR : Fld := ⟨0x20004, 0, 0, 4, 2, .ro, .val, 0, .plain, .free⟩
def TAL_STAT_DEALER_HUB : Fld := ⟨0x20004, 0, 0, 6, 1, .ro, .val, 0, .plain, .free⟩
def TAL_STAT_STANDBY_OK : Fld := ⟨0x20004, 0, 0, 7, 1, .ro, .val, 0, .plain, .free⟩
def TAL_STAT_WAIT_TABLE : Fld := ⟨0x20004, 0, 0, 8, 1, .ro, .val, 0, .plain, .free⟩
def TAL_STAT_LINK_WAIT : Fld := ⟨0x20004, 0, 0, 9, 1, .ro, .val, 0, .plain, .free⟩
def TAL_STAT_IGN : Fld := ⟨0x20004, 0, 0, 10, 14, .ro, .val, 0, .sat, .free⟩
def TAL_MIRROR_BASE : Fld := ⟨0x20008, 0, 0, 23, 29, .rw, .val, 0, .plain, .free⟩
def TAL_HEAD_SEQ : Fld := ⟨0x20010, 0, 0, 0, 48, .ro, .val, 0, .plain, .free⟩
def TAL_NEXT_SEQ : Fld := ⟨0x20018, 0, 0, 0, 48, .ro, .val, 1, .plain, .free⟩
def TAL_WIN_SEL : Fld := ⟨0x20020, 0, 0, 0, 48, .rw, .val, 0, .plain, .free⟩
def TAL_TAKEOVERS : Fld := ⟨0x20028, 0, 0, 0, 32, .ro, .keep, 0, .sat, .free⟩
def TAL_REPLAYS : Fld := ⟨0x2002C, 0, 0, 0, 32, .ro, .val, 0, .sat, .free⟩
def TAL_WIN_ENTRY : Fld := ⟨0x20040, 0x8, 0, 0, 64, .ro, .val, 0, .plain, .free⟩
def TAL_WIN_CPL : Fld := ⟨0x20060, 0x8, 0, 0, 64, .ro, .val, 0, .plain, .free⟩
def TAL_WIN_CARD : Fld := ⟨0x20080, 0x8, 0, 0, 64, .ro, .val, 0, .plain, .free⟩
def TAL_RECOVER_HEAD : Fld := ⟨0x20100, 0x8, 0, 0, 48, .rw, .val, 0, .plain, .free⟩
def TAL_RECOVER_SLOT_NEXT_SLOT : Fld := ⟨0x20400, 0x8, 0, 0, 16, .ro, .val, 0, .plain, .free⟩
def TAL_RECOVER_SLOT_VALID : Fld := ⟨0x20400, 0x8, 0, 16, 1, .ro, .val, 0, .plain, .free⟩
/-! HND block, BAR0 + 0x30000 (R372, spec/11). -/

def HND_STAT_INFLIGHT : Fld := ⟨0x30000, 0, 0, 0, 5, .ro, .val, 0, .plain, .free⟩
def HND_STAT_POOL_ERR : Fld := ⟨0x30000, 0, 0, 5, 1, .ro, .val, 0, .plain, .free⟩
def HND_STAT_IGN : Fld := ⟨0x30000, 0, 0, 6, 16, .ro, .val, 0, .sat, .free⟩
def HND_STAT_SLOTS_FREE : Fld := ⟨0x30000, 0, 0, 22, 6, .ro, .val, 0x20, .plain, .free⟩
def HND_POOL_BASE_GIB : Fld := ⟨0x30100, 0x8, 0, 0, 7, .rw, .val, 0, .plain, .free⟩
def HND_POOL_SIZE_GIB : Fld := ⟨0x30100, 0x8, 0, 7, 7, .rw, .val, 0, .plain, .free⟩
def HND_POOL_FREE_MIB : Fld := ⟨0x30180, 0x8, 0, 0, 32, .ro, .val, 0, .plain, .free⟩
def HND_POOL_FREE_REDIR : Fld := ⟨0x30180, 0x8, 0, 32, 21, .ro, .val, 0, .plain, .free⟩
def HND_HAND0_ID : Fld := ⟨0x30200, 0x20, 0, 0, 16, .ro, .val, 0, .plain, .free⟩
def HND_HAND0_STATE : Fld := ⟨0x30200, 0x20, 0, 16, 3, .ro, .val, 0, .plain, .free⟩
def HND_HAND0_RESERVED_MIB : Fld := ⟨0x30200, 0x20, 0, 32, 13, .ro, .val, 0, .plain, .free⟩
def HND_HAND1_USED_MIB : Fld := ⟨0x30208, 0x20, 0, 0, 32, .ro, .val, 0, .plain, .free⟩
def HND_HAND1_ROWS : Fld := ⟨0x30208, 0x20, 0, 32, 32, .ro, .val, 0, .plain, .free⟩
def HND_HAND2_COMMIT_TRANSIT : Fld := ⟨0x30210, 0x20, 0, 0, 64, .ro, .val, 0, .plain, .free⟩
def HND_HAND3_WB_LEFT : Fld := ⟨0x30218, 0x20, 0, 0, 48, .ro, .val, 0, .plain, .free⟩
/-! SKY block, BAR0 + 0x1000000 (R76, spec/02). -/

def SKY_STN_CTRL_FREEZE : Fld := ⟨0x1000000, 0x10000, 0, 0, 1, .rw, .val, 0, .plain, .stn⟩
def SKY_STN_CTRL_CLEAR : Fld := ⟨0x1000000, 0x10000, 0, 1, 1, .wo, .val, 0, .plain, .stn⟩
def SKY_STN_STATUS_GEN : Fld := ⟨0x1000004, 0x10000, 0, 0, 8, .ro, .loaded, 0, .plain, .stn⟩
def SKY_STN_STATUS_STATE : Fld := ⟨0x1000004, 0x10000, 0, 8, 3, .ro, .val, 0, .plain, .stn⟩
def SKY_STN_STATUS_SITE : Fld := ⟨0x1000004, 0x10000, 0, 16, 6, .ro, .loaded, 0, .plain, .stn⟩
def SKY_STN_STATUS_PART : Fld := ⟨0x1000004, 0x10000, 0, 22, 2, .ro, .val, 0, .plain, .stn⟩
def SKY_STN_STATUS_POS : Fld := ⟨0x1000004, 0x10000, 0, 24, 6, .ro, .loaded, 0, .plain, .stn⟩
def SKY_STN_CAPS_TX_ORB : Fld := ⟨0x1000008, 0x10000, 0, 0, 7, .ro, .loaded, 0, .plain, .stn⟩
def SKY_STN_CAPS_RX_ORB : Fld := ⟨0x1000008, 0x10000, 0, 7, 7, .ro, .loaded, 0, .plain, .stn⟩
def SKY_STN_CAPS_TX_TOT : Fld := ⟨0x1000008, 0x10000, 0, 14, 9, .ro, .loaded, 0, .plain, .stn⟩
def SKY_STN_CAPS_RX_TOT : Fld := ⟨0x1000008, 0x10000, 0, 23, 9, .ro, .loaded, 0, .plain, .stn⟩
def SKY_QDEPTH_NOW : Fld := ⟨0x1000100, 0x10000, 0x4, 0, 16, .ro, .val, 0, .plain, .stn⟩
def SKY_QDEPTH_MAX : Fld := ⟨0x1000100, 0x10000, 0x4, 16, 16, .ro, .val, 0, .mark, .stn⟩
def SKY_STALL_CYCLES : Fld := ⟨0x1000200, 0x10000, 0x8, 0, 64, .ro, .val, 0, .wrap, .stn⟩
def SKY_INJ_PKT : Fld := ⟨0x1000300, 0x10000, 0, 0, 64, .ro, .val, 0, .wrap, .stn⟩
def SKY_INJ_BYTE : Fld := ⟨0x1000308, 0x10000, 0, 0, 64, .ro, .val, 0, .wrap, .stn⟩
def SKY_EJ_PKT : Fld := ⟨0x1000310, 0x10000, 0, 0, 64, .ro, .val, 0, .wrap, .stn⟩
def SKY_EJ_BYTE : Fld := ⟨0x1000318, 0x10000, 0, 0, 64, .ro, .val, 0, .wrap, .stn⟩
def SKY_RIN_PKT : Fld := ⟨0x1000320, 0x10000, 0, 0, 64, .ro, .val, 0, .wrap, .stn⟩
def SKY_RIN_BYTE : Fld := ⟨0x1000328, 0x10000, 0, 0, 64, .ro, .val, 0, .wrap, .stn⟩
def SKY_ROUT_PKT : Fld := ⟨0x1000330, 0x10000, 0, 0, 64, .ro, .val, 0, .wrap, .stn⟩
def SKY_ROUT_BYTE : Fld := ⟨0x1000338, 0x10000, 0, 0, 64, .ro, .val, 0, .wrap, .stn⟩
def SKY_DEFL1 : Fld := ⟨0x1000400, 0x10000, 0, 0, 64, .ro, .val, 0, .wrap, .stn⟩
def SKY_DEFL2 : Fld := ⟨0x1000408, 0x10000, 0, 0, 64, .ro, .val, 0, .wrap, .stn⟩
def SKY_LIMIT : Fld := ⟨0x1000410, 0x10000, 0, 0, 64, .ro, .val, 0, .wrap, .stn⟩
def SKY_HDR_CRC : Fld := ⟨0x1000500, 0x10000, 0, 0, 32, .ro, .val, 0, .err, .stn⟩
def SKY_PAY_CRC : Fld := ⟨0x1000504, 0x10000, 0, 0, 32, .ro, .val, 0, .err, .stn⟩
def SKY_BAD_SITE : Fld := ⟨0x1000508, 0x10000, 0, 0, 32, .ro, .val, 0, .err, .stn⟩
def SKY_BAD_FMT : Fld := ⟨0x100050C, 0x10000, 0, 0, 32, .ro, .val, 0, .err, .stn⟩
def SKY_PART : Fld := ⟨0x1000510, 0x10000, 0, 0, 32, .ro, .val, 0, .err, .stn⟩
def SKY_DECODE_REJ : Fld := ⟨0x1000514, 0x10000, 0, 0, 32, .ro, .val, 0, .err, .stn⟩
def SKY_RELAY_DROP : Fld := ⟨0x1000518, 0x10000, 0, 0, 32, .ro, .val, 0, .err, .stn⟩
def SKY_DIE_DOWN_REJ : Fld := ⟨0x100051C, 0x10000, 0, 0, 32, .ro, .val, 0, .err, .stn⟩
def SKY_BOUND_MISS : Fld := ⟨0x1000520, 0x10000, 0x4, 0, 32, .ro, .val, 0, .err, .stn⟩
def SKY_TXMAP_ORBIT : Fld := ⟨0x1001000, 0x10000, 0x4, 0, 2, .ro, .val, 0, .plain, .stn⟩
def SKY_TXMAP_WG : Fld := ⟨0x1001000, 0x10000, 0x4, 2, 6, .ro, .val, 0, .plain, .stn⟩
def SKY_TXMAP_LAMBDA : Fld := ⟨0x1001000, 0x10000, 0x4, 8, 5, .ro, .val, 0, .plain, .stn⟩
def SKY_TXMAP_PEER : Fld := ⟨0x1001000, 0x10000, 0x4, 13, 6, .ro, .val, 0, .plain, .stn⟩
def SKY_TXMAP_STATE : Fld := ⟨0x1001000, 0x10000, 0x4, 19, 3, .ro, .val, 0, .plain, .stn⟩
def SKY_TXMAP_ALLPAIRS : Fld := ⟨0x1001000, 0x10000, 0x4, 22, 1, .ro, .val, 0, .plain, .stn⟩
def SKY_RXMAP_ORBIT : Fld := ⟨0x1001800, 0x10000, 0x4, 0, 2, .ro, .val, 0, .plain, .stn⟩
def SKY_RXMAP_WG : Fld := ⟨0x1001800, 0x10000, 0x4, 2, 6, .ro, .val, 0, .plain, .stn⟩
def SKY_RXMAP_LAMBDA : Fld := ⟨0x1001800, 0x10000, 0x4, 8, 5, .ro, .val, 0, .plain, .stn⟩
def SKY_RXMAP_PEER : Fld := ⟨0x1001800, 0x10000, 0x4, 13, 6, .ro, .val, 0, .plain, .stn⟩
def SKY_RXMAP_STATE : Fld := ⟨0x1001800, 0x10000, 0x4, 19, 3, .ro, .val, 0, .plain, .stn⟩
def SKY_RXMAP_ALLPAIRS : Fld := ⟨0x1001800, 0x10000, 0x4, 22, 1, .ro, .val, 0, .plain, .stn⟩
def SKY_TXCNT_PKT : Fld := ⟨0x1002000, 0x10000, 0x10, 0, 64, .ro, .val, 0, .wrap, .stn⟩
def SKY_TXCNT_BYTE : Fld := ⟨0x1002008, 0x10000, 0x10, 0, 64, .ro, .val, 0, .wrap, .stn⟩
def SKY_RXCNT_PKT : Fld := ⟨0x1004000, 0x10000, 0x10, 0, 64, .ro, .val, 0, .wrap, .stn⟩
def SKY_RXCNT_BYTE : Fld := ⟨0x1004008, 0x10000, 0x10, 0, 64, .ro, .val, 0, .wrap, .stn⟩
/-! SKYG block, BAR0 + 0x1400000 (R74, spec/02). -/

def SKY_DIST_COST_LAT : Fld := ⟨0x1400000, 0x4, 0, 0, 12, .ro, .loaded, 0, .plain, .free⟩
def SKY_DIST_COST_BW : Fld := ⟨0x1400000, 0x4, 0, 12, 16, .ro, .loaded, 0, .plain, .free⟩
def SKY_DIST_ROW : Fld := ⟨0x1400100, 0x10, 0x8, 0, 64, .ro, .loaded, 0, .plain, .free⟩
def SKY_BAR_STAT_ARRIVED : Fld := ⟨0x1401000, 0x8, 0, 0, 44, .ro, .val, 0, .plain, .free⟩
def SKY_BAR_STAT_ABORTED : Fld := ⟨0x1401000, 0x8, 0, 44, 1, .w1c, .val, 0, .plain, .free⟩
def SKY_BAR_STAT_ROUNDS : Fld := ⟨0x1401000, 0x8, 0, 48, 16, .ro, .val, 0, .plain, .free⟩
/-! DLV block, BAR0 + 0x1500000 (R102, spec/03). -/

def SKY_DLV_STAT_HELD_NOW : Fld := ⟨0x1500000, 0x1000, 0, 0, 12, .ro, .val, 0, .plain, .stn⟩
def SKY_DLV_STAT_HELD_MAX : Fld := ⟨0x1500000, 0x1000, 0, 12, 12, .ro, .val, 0, .mark, .stn⟩
def SKY_DLV_STAT_FENCES : Fld := ⟨0x1500000, 0x1000, 0, 24, 5, .ro, .val, 0, .plain, .stn⟩
def SKY_DLV_DIE_DIE_GEN : Fld := ⟨0x1500004, 0x1000, 0, 0, 8, .ro, .val, 0, .plain, .stn⟩
def SKY_DLV_DIE_DIE_DOWN : Fld := ⟨0x1500004, 0x1000, 0, 8, 1, .ro, .val, 0, .plain, .stn⟩
def SKY_DLV_RESTART_SITE_A : Fld := ⟨0x1500008, 0x1000, 0, 0, 6, .wo, .val, 0, .plain, .stn⟩
def SKY_DLV_RESTART_SITE_B : Fld := ⟨0x1500008, 0x1000, 0, 6, 6, .wo, .val, 0, .plain, .stn⟩
def SKY_DLV_RESTART_SCOPE : Fld := ⟨0x1500008, 0x1000, 0, 12, 1, .wo, .val, 0, .plain, .stn⟩
def SKY_DLV_RESTART_NEW_GEN : Fld := ⟨0x1500008, 0x1000, 0, 13, 8, .wo, .val, 0, .plain, .stn⟩
def SKY_DLV_RESTAT_DONE : Fld := ⟨0x150000C, 0x1000, 0, 0, 1, .w1c, .val, 0, .plain, .stn⟩
def SKY_DLV_EJECT_CLOSED : Fld := ⟨0x1500010, 0x1000, 0, 0, 1, .rw, .val, 1, .plain, .stn⟩
def SKY_DUP : Fld := ⟨0x1500040, 0x1000, 0, 0, 32, .ro, .val, 0, .err, .stn⟩
def SKY_STALE_GEN : Fld := ⟨0x1500044, 0x1000, 0, 0, 32, .ro, .val, 0, .err, .stn⟩
def SKY_WINDOW : Fld := ⟨0x1500048, 0x1000, 0, 0, 32, .ro, .val, 0, .err, .stn⟩
def SKY_REORDER_FULL : Fld := ⟨0x150004C, 0x1000, 0, 0, 32, .ro, .val, 0, .err, .stn⟩
def SKY_LATE_GEN : Fld := ⟨0x1500050, 0x1000, 0, 0, 32, .ro, .val, 0, .err, .stn⟩
def SKY_RETX_LIMIT : Fld := ⟨0x1500054, 0x1000, 0, 0, 32, .ro, .val, 0, .err, .stn⟩
def SKY_REFUSED : Fld := ⟨0x1500058, 0x1000, 0, 0, 32, .ro, .val, 0, .err, .stn⟩
def SKY_CLOSED : Fld := ⟨0x150005C, 0x1000, 0, 0, 32, .ro, .val, 0, .err, .stn⟩
def SKY_RETX : Fld := ⟨0x1500060, 0x1000, 0, 0, 64, .ro, .val, 0, .wrap, .stn⟩
def SKY_ABORTED : Fld := ⟨0x1500068, 0x1000, 0, 0, 64, .ro, .val, 0, .wrap, .stn⟩
def SKY_ACK_TX : Fld := ⟨0x1500070, 0x1000, 0, 0, 64, .ro, .val, 0, .wrap, .stn⟩
def SKY_FENCE_DONE : Fld := ⟨0x1500078, 0x1000, 0, 0, 64, .ro, .val, 0, .wrap, .stn⟩
def SKY_DLV_PEER_TX_TX_NEXT : Fld := ⟨0x1500100, 0x1000, 0x10, 0, 24, .ro, .val, 0, .plain, .stn⟩
def SKY_DLV_PEER_TX_TX_OUT : Fld := ⟨0x1500100, 0x1000, 0x10, 24, 14, .ro, .val, 0, .plain, .stn⟩
def SKY_DLV_PEER_TX_TX_CUM : Fld := ⟨0x1500100, 0x1000, 0x10, 40, 24, .ro, .val, 0xffffff, .plain, .stn⟩
def SKY_DLV_PEER_RX_RX_CUM : Fld := ⟨0x1500108, 0x1000, 0x10, 0, 24, .ro, .val, 0xffffff, .plain, .stn⟩
def SKY_DLV_PEER_RX_RX_GEN : Fld := ⟨0x1500108, 0x1000, 0x10, 24, 8, .ro, .val, 0, .plain, .stn⟩
def SKY_DLV_PEER_RX_RX_HELD : Fld := ⟨0x1500108, 0x1000, 0x10, 32, 12, .ro, .val, 0, .plain, .stn⟩
/-! TWK block, BAR0 + 0x1600000 (R136, spec/04). -/

def TWK_CTRL_FAILMODE : Fld := ⟨0x1600000, 0, 0, 0, 1, .rw, .val, 0, .plain, .free⟩
def TWK_CTRL_COMMISSION : Fld := ⟨0x1600000, 0, 0, 1, 1, .wo, .val, 0, .plain, .free⟩
def TWK_CTRL_SWAP_GO : Fld := ⟨0x1600000, 0, 0, 2, 1, .wo, .val, 0, .plain, .free⟩
def TWK_CTRL_SWAP_FEED : Fld := ⟨0x1600000, 0, 0, 4, 3, .rw, .val, 0, .plain, .free⟩
def TWK_STAT_INTLK : Fld := ⟨0x1600004, 0, 0, 0, 1, .ro, .val, 0, .plain, .free⟩
def TWK_STAT_SPARES : Fld := ⟨0x1600004, 0, 0, 1, 2, .ro, .val, 0, .plain, .free⟩
def TWK_STAT_LIGHT : Fld := ⟨0x1600004, 0, 0, 3, 3, .ro, .val, 0, .plain, .free⟩
def TWK_STAT_START_ERR : Fld := ⟨0x1600004, 0, 0, 6, 4, .ro, .val, 0, .plain, .free⟩
def TWK_STAT_ERR_SLOT : Fld := ⟨0x1600004, 0, 0, 10, 3, .ro, .val, 0, .plain, .free⟩
def TWK_LOC_SITE : Fld := ⟨0x1600010, 0, 0, 0, 6, .ro, .val, 0, .plain, .free⟩
def TWK_LOC_PEER : Fld := ⟨0x1600010, 0, 0, 6, 6, .ro, .val, 0, .plain, .free⟩
def TWK_LOC_ORBIT : Fld := ⟨0x1600010, 0, 0, 12, 2, .ro, .val, 0, .plain, .free⟩
def TWK_LOC_WG : Fld := ⟨0x1600010, 0, 0, 14, 6, .ro, .val, 0, .plain, .free⟩
def TWK_LOC_LAMBDA : Fld := ⟨0x1600010, 0, 0, 20, 5, .ro, .val, 0, .plain, .free⟩
def TWK_LOC_STAGE : Fld := ⟨0x1600010, 0, 0, 25, 3, .ro, .val, 0, .plain, .free⟩
def TWK_LOC_STAGE_SITE : Fld := ⟨0x1600010, 0, 0, 28, 6, .ro, .val, 0, .plain, .free⟩
def TWK_LOC_LOSS : Fld := ⟨0x1600010, 0, 0, 34, 16, .ro, .val, 0, .plain, .free⟩
def TWK_LOC_DROPPED : Fld := ⟨0x1600010, 0, 0, 50, 1, .ro, .val, 0, .plain, .free⟩
def TWK_LOC_NEW : Fld := ⟨0x1600010, 0, 0, 63, 1, .w1c, .val, 0, .plain, .free⟩
def TWK_ELS_PRESENT : Fld := ⟨0x1600100, 0x8, 0, 0, 1, .ro, .val, 0, .plain, .free⟩
def TWK_ELS_EN : Fld := ⟨0x1600100, 0x8, 0, 1, 1, .ro, .val, 0, .plain, .free⟩
def TWK_ELS_LOCAL_INTLK : Fld := ⟨0x1600100, 0x8, 0, 2, 1, .ro, .val, 0, .plain, .free⟩
def TWK_ELS_GRID_LOCK : Fld := ⟨0x1600100, 0x8, 0, 3, 1, .ro, .val, 0, .plain, .free⟩
def TWK_ELS_ROLE : Fld := ⟨0x1600100, 0x8, 0, 4, 3, .ro, .val, 0, .plain, .free⟩
def TWK_ELS_FEED : Fld := ⟨0x1600100, 0x8, 0, 7, 3, .ro, .val, 7, .plain, .free⟩
def TWK_ELS_CASE_T : Fld := ⟨0x1600100, 0x8, 0, 10, 8, .ro, .val, 0, .plain, .free⟩
def TWK_ELS_OUT_PWR : Fld := ⟨0x1600100, 0x8, 0, 18, 16, .ro, .val, 0, .plain, .free⟩
def TWK_ELS_TAP : Fld := ⟨0x1600100, 0x8, 0, 34, 16, .ro, .val, 0, .plain, .free⟩
def TWK_FEED_SLOT : Fld := ⟨0x1600200, 0x8, 0, 0, 3, .ro, .val, 7, .plain, .free⟩
def TWK_FEED_STATE : Fld := ⟨0x1600200, 0x8, 0, 3, 3, .ro, .val, 0, .plain, .free⟩
def TWK_FEED_FADE : Fld := ⟨0x1600200, 0x8, 0, 6, 16, .ro, .val, 0, .plain, .free⟩
def TWK_FEED_SLOPE : Fld := ⟨0x1600200, 0x8, 0, 22, 16, .ro, .val, 0, .plain, .free⟩
def TWK_FEED_SWAPS : Fld := ⟨0x1600200, 0x8, 0, 38, 16, .ro, .keep, 0, .sat, .free⟩
/-! TWKS block, BAR0 + 0x1700000 (R137, spec/04). -/

def TWK_SITE_STAT_ACTIVE : Fld := ⟨0x1700000, 0x2000, 0, 0, 11, .ro, .val, 0, .plain, .stn⟩
def TWK_SITE_STAT_IDCHECK : Fld := ⟨0x1700000, 0x2000, 0, 11, 11, .ro, .val, 0, .plain, .stn⟩
def TWK_SITE_STAT_FAILED : Fld := ⟨0x1700000, 0x2000, 0, 22, 11, .ro, .val, 0, .plain, .stn⟩
def TWK_SITE_STAT_POPULATED : Fld := ⟨0x1700000, 0x2000, 0, 33, 11, .ro, .loaded, 0, .plain, .stn⟩
def TWK_LOCKLOSS : Fld := ⟨0x1700010, 0x2000, 0, 0, 32, .ro, .val, 0, .err, .stn⟩
def TWK_RELOCK : Fld := ⟨0x1700014, 0x2000, 0, 0, 32, .ro, .val, 0, .err, .stn⟩
def TWK_ALIAS : Fld := ⟨0x1700018, 0x2000, 0, 0, 32, .ro, .val, 0, .err, .stn⟩
def TWK_ALIAS_FAIL : Fld := ⟨0x170001C, 0x2000, 0, 0, 32, .ro, .val, 0, .err, .stn⟩
def TWK_RANGE_END : Fld := ⟨0x1700020, 0x2000, 0, 0, 32, .ro, .val, 0, .err, .stn⟩
def TWK_ID_RECHECK_FAIL : Fld := ⟨0x1700024, 0x2000, 0, 0, 32, .ro, .val, 0, .err, .stn⟩
def TWK_HEATER_FAULT : Fld := ⟨0x1700028, 0x2000, 0, 0, 32, .ro, .val, 0, .err, .stn⟩
def TWK_DROPS : Fld := ⟨0x170002C, 0x2000, 0, 0, 32, .ro, .val, 0, .err, .stn⟩
def TWK_RING_HEATER : Fld := ⟨0x1701000, 0x2000, 0x4, 0, 14, .ro, .val, 0, .plain, .stn⟩
def TWK_RING_LAMBDA : Fld := ⟨0x1701000, 0x2000, 0x4, 14, 5, .ro, .val, 0, .plain, .stn⟩
def TWK_RING_STATE : Fld := ⟨0x1701000, 0x2000, 0x4, 19, 3, .ro, .val, 0, .plain, .stn⟩
def TWK_RING_ALIASES : Fld := ⟨0x1701000, 0x2000, 0x4, 22, 2, .ro, .val, 0, .plain, .stn⟩
/-! OMU block, BAR0 + 0x1800000 (R165, spec/05). -/

def OMU_TILE_CTRL_HALT : Fld := ⟨0x1800000, 0x1000, 0, 0, 1, .rw, .val, 0, .plain, .stn⟩
def OMU_TILE_CTRL_PILOT_NOW : Fld := ⟨0x1800000, 0x1000, 0, 1, 4, .wo, .val, 0, .plain, .stn⟩
def OMU_TILE_STAT_READY : Fld := ⟨0x1800004, 0x1000, 0, 0, 4, .ro, .val, 0, .plain, .stn⟩
def OMU_TILE_STAT_DOWN : Fld := ⟨0x1800004, 0x1000, 0, 4, 4, .ro, .val, 0, .plain, .stn⟩
def OMU_TILE_STAT_HALTED : Fld := ⟨0x1800004, 0x1000, 0, 8, 1, .ro, .val, 0, .plain, .stn⟩
def OMU_PQ_BASE : Fld := ⟨0x1800008, 0x1000, 0, 0, 28, .ro, .loaded, 0, .plain, .stn⟩
def OMU_PQ_HEAD : Fld := ⟨0x180000C, 0x1000, 0, 0, 8, .ro, .val, 0, .plain, .stn⟩
def OMU_PQ_TAIL : Fld := ⟨0x1800010, 0x1000, 0, 0, 8, .rw, .val, 0, .plain, .stn⟩
def OMU_PILOT_CFG_EVERY : Fld := ⟨0x1800014, 0x1000, 0, 0, 11, .ro, .loaded, 0, .plain, .stn⟩
def OMU_FALLBACK : Fld := ⟨0x1800020, 0x1000, 0, 0, 32, .ro, .val, 0, .err, .stn⟩
def OMU_TEMP_REFUSE : Fld := ⟨0x1800024, 0x1000, 0, 0, 32, .ro, .val, 0, .err, .stn⟩
def OMU_BAD_DESC : Fld := ⟨0x1800028, 0x1000, 0, 0, 32, .ro, .val, 0, .err, .stn⟩
def OMU_W_CLAMP : Fld := ⟨0x180002C, 0x1000, 0, 0, 32, .ro, .val, 0, .err, .stn⟩
def OMU_PILOT_SKIP : Fld := ⟨0x1800030, 0x1000, 0, 0, 32, .ro, .val, 0, .err, .stn⟩
def OMU_STAT_STATE : Fld := ⟨0x1800100, 0x1000, 0x80, 0, 3, .ro, .val, 0, .plain, .stn⟩
def OMU_STAT_STALE : Fld := ⟨0x1800100, 0x1000, 0x80, 3, 1, .ro, .val, 0, .plain, .stn⟩
def OMU_STAT_TEMP_OK : Fld := ⟨0x1800100, 0x1000, 0x80, 4, 1, .ro, .val, 0, .plain, .stn⟩
def OMU_STAT_CLASS : Fld := ⟨0x1800100, 0x1000, 0x80, 5, 1, .ro, .val, 0, .plain, .stn⟩
def OMU_STAT_DOWN_INPUT : Fld := ⟨0x1800100, 0x1000, 0x80, 8, 6, .ro, .val, 0, .plain, .stn⟩
def OMU_STAT_LEFT : Fld := ⟨0x1800100, 0x1000, 0x80, 16, 20, .ro, .val, 0, .plain, .stn⟩
def OMU_LOADED_WBLOCK : Fld := ⟨0x1800108, 0x1000, 0x80, 0, 28, .ro, .val, 0, .plain, .stn⟩
def OMU_LOADED_VALID : Fld := ⟨0x1800108, 0x1000, 0x80, 28, 1, .ro, .val, 0, .plain, .stn⟩
def OMU_LOADED_BLOCK_ID : Fld := ⟨0x1800108, 0x1000, 0x80, 32, 32, .ro, .val, 0, .plain, .stn⟩
def OMU_PILOT_LAST : Fld := ⟨0x1800110, 0x1000, 0x80, 0, 32, .ro, .val, 0, .plain, .stn⟩
def OMU_PILOT_PHASE : Fld := ⟨0x1800110, 0x1000, 0x80, 32, 10, .ro, .loaded, 0, .plain, .stn⟩
def OMU_GAIN_TRIM : Fld := ⟨0x1800118, 0x1000, 0x80, 0, 10, .ro, .val, 0, .plain, .stn⟩
def OMU_VEC : Fld := ⟨0x1800120, 0x1000, 0x80, 0, 64, .ro, .val, 0, .wrap, .stn⟩
def OMU_PASS : Fld := ⟨0x1800128, 0x1000, 0x80, 0, 64, .ro, .val, 0, .wrap, .stn⟩
def OMU_LOAD : Fld := ⟨0x1800130, 0x1000, 0x80, 0, 64, .ro, .val, 0, .wrap, .stn⟩
def OMU_SAT : Fld := ⟨0x1800138, 0x1000, 0x80, 0, 32, .ro, .val, 0, .err, .stn⟩
def OMU_RERUN : Fld := ⟨0x180013C, 0x1000, 0x80, 0, 32, .ro, .val, 0, .err, .stn⟩
def OMU_GUARD_DELAY : Fld := ⟨0x1800140, 0x1000, 0x80, 0, 32, .ro, .val, 0, .err, .stn⟩
def OMU_SENTINEL : Fld := ⟨0x1800144, 0x1000, 0x80, 0, 32, .ro, .val, 0, .err, .stn⟩
/-! CAL block, BAR0 + 0x1900000 (R184, spec/06). -/

def OMU_CAL_CTRL_STALE_OUT : Fld := ⟨0x1900000, 0, 0, 0, 1, .rw, .val, 0, .plain, .free⟩
def OMU_CAL_STAT_STALE : Fld := ⟨0x1900004, 0, 0, 0, 7, .ro, .val, 0, .plain, .free⟩
def OMU_CAL_STAT_FAILING : Fld := ⟨0x1900004, 0, 0, 7, 7, .ro, .val, 0, .plain, .free⟩
def OMU_CAL_STAT_UNCAL : Fld := ⟨0x1900004, 0, 0, 14, 7, .ro, .val, 0, .plain, .free⟩
def OMU_CAL_COUNT_PILOTS : Fld := ⟨0x1901000, 0x40, 0, 0, 40, .ro, .loaded, 0, .sat, .free⟩
def OMU_CAL_COUNT_FULL : Fld := ⟨0x1901000, 0x40, 0, 40, 12, .ro, .loaded, 0, .sat, .free⟩
def OMU_CAL_COUNT_VERIFY_FAIL : Fld := ⟨0x1901000, 0x40, 0, 52, 12, .ro, .keep, 0, .sat, .free⟩
def OMU_CAL_TIME_LAST : Fld := ⟨0x1901008, 0x40, 0, 0, 64, .ro, .val, 0, .plain, .free⟩
def OMU_CAL_RESID_FAST : Fld := ⟨0x1901010, 0x40, 0, 0, 12, .ro, .val, 0, .plain, .free⟩
def OMU_CAL_RESID_FINE : Fld := ⟨0x1901010, 0x40, 0, 12, 12, .ro, .val, 0, .plain, .free⟩
def OMU_CAL_RESID_GAIN : Fld := ⟨0x1901010, 0x40, 0, 24, 12, .ro, .val, 0, .plain, .free⟩
def OMU_CAL_RESID_OFFSET : Fld := ⟨0x1901010, 0x40, 0, 36, 8, .ro, .val, 0, .plain, .free⟩
def OMU_CAL_RESID_TEMP : Fld := ⟨0x1901010, 0x40, 0, 44, 8, .ro, .val, 0, .plain, .free⟩
def OMU_CAL_RESID_VALID : Fld := ⟨0x1901010, 0x40, 0, 63, 1, .ro, .val, 0, .plain, .free⟩
def OMU_CAL_DT_DT : Fld := ⟨0x1901018, 0x40, 0, 0, 16, .ro, .val, 0, .plain, .free⟩
def OMU_CAL_DT_DT_PILOTS : Fld := ⟨0x1901018, 0x40, 0, 16, 16, .ro, .val, 0, .sat, .free⟩
def OMU_CAL_OFFTAB_BASE : Fld := ⟨0x190101C, 0x40, 0, 0, 28, .ro, .loaded, 0, .plain, .free⟩
/-! CMP block, BAR0 + 0x1A00000 (R224, spec/07). -/

def CMP_STAT_STEP : Fld := ⟨0x1A00000, 0x1000, 0, 0, 3, .ro, .val, 0, .plain, .stn⟩
def CMP_STAT_CEIL : Fld := ⟨0x1A00000, 0x1000, 0, 3, 3, .ro, .trim, 0, .plain, .stn⟩
def CMP_STAT_SEL_BUSY : Fld := ⟨0x1A00000, 0x1000, 0, 6, 1, .ro, .val, 0, .plain, .stn⟩
def CMP_STAT_RUNNING : Fld := ⟨0x1A00000, 0x1000, 0, 7, 1, .ro, .val, 0, .plain, .stn⟩
def CMP_OPS : Fld := ⟨0x1A00008, 0x1000, 0, 0, 64, .ro, .val, 0, .wrap, .stn⟩
def CMP_TOPK_SCORES : Fld := ⟨0x1A00010, 0x1000, 0, 0, 64, .ro, .val, 0, .wrap, .stn⟩
def CMP_SAT_KEPT : Fld := ⟨0x1A00020, 0x1000, 0, 0, 32, .ro, .val, 0, .err, .stn⟩
def CMP_SAT_RECOMP : Fld := ⟨0x1A00024, 0x1000, 0, 0, 32, .ro, .val, 0, .err, .stn⟩
def CMP_NAN : Fld := ⟨0x1A00028, 0x1000, 0, 0, 32, .ro, .val, 0, .err, .stn⟩
def CMP_EMPTY : Fld := ⟨0x1A0002C, 0x1000, 0, 0, 32, .ro, .val, 0, .err, .stn⟩
def CMP_SHORT : Fld := ⟨0x1A00030, 0x1000, 0, 0, 32, .ro, .val, 0, .err, .stn⟩
def CMP_POISON : Fld := ⟨0x1A00034, 0x1000, 0, 0, 32, .ro, .val, 0, .err, .stn⟩
/-! MBD block, BAR0 + 0x1B00000 (R256, spec/08). -/

def MBD_STAT_STATE : Fld := ⟨0x1B00000, 0x1000, 0, 0, 3, .ro, .val, 0, .plain, .mem⟩
def MBD_STAT_SWEEP_ON : Fld := ⟨0x1B00000, 0x1000, 0, 3, 1, .ro, .val, 0, .plain, .mem⟩
def MBD_STAT_JOBS_NOW : Fld := ⟨0x1B00000, 0x1000, 0, 8, 10, .ro, .val, 0, .plain, .mem⟩
def MBD_UE_LOG_DPA : Fld := ⟨0x1B00008, 0x1000, 0, 0, 52, .ro, .val, 0, .plain, .mem⟩
def MBD_UE_LOG_SOURCE : Fld := ⟨0x1B00008, 0x1000, 0, 52, 2, .ro, .val, 0, .plain, .mem⟩
def MBD_UE_LOG_VALID : Fld := ⟨0x1B00008, 0x1000, 0, 63, 1, .w1c, .val, 0, .plain, .mem⟩
def MBD_SWEEP_POS : Fld := ⟨0x1B00010, 0x1000, 0, 0, 31, .ro, .val, 0, .plain, .mem⟩
def MBD_SWEEP_CYCLES : Fld := ⟨0x1B00010, 0x1000, 0, 32, 16, .ro, .val, 0, .sat, .mem⟩
def MBD_REPAIR_USED : Fld := ⟨0x1B00018, 0x1000, 0, 0, 10, .ro, .loaded, 0, .plain, .mem⟩
def MBD_REPAIR_FREE : Fld := ⟨0x1B00018, 0x1000, 0, 10, 10, .ro, .loaded, 0, .plain, .mem⟩
def MBD_REPAIR_EXHAUSTED : Fld := ⟨0x1B00018, 0x1000, 0, 20, 1, .ro, .val, 0, .plain, .mem⟩
def MBD_CE : Fld := ⟨0x1B00040, 0x1000, 0, 0, 32, .ro, .val, 0, .err, .mem⟩
def MBD_UE : Fld := ⟨0x1B00044, 0x1000, 0, 0, 32, .ro, .val, 0, .err, .mem⟩
def MBD_MIRROR_FIX : Fld := ⟨0x1B00048, 0x1000, 0, 0, 32, .ro, .val, 0, .err, .mem⟩
def MBD_PARTIAL_POISON : Fld := ⟨0x1B0004C, 0x1000, 0, 0, 32, .ro, .val, 0, .err, .mem⟩
def MBD_ODECC : Fld := ⟨0x1B00050, 0x1000, 0, 0, 32, .ro, .val, 0, .err, .mem⟩
def MBD_SWEEP_YIELD : Fld := ⟨0x1B00054, 0x1000, 0, 0, 32, .ro, .val, 0, .err, .mem⟩
def MBD_HDM_DROP : Fld := ⟨0x1B00058, 0x1000, 0, 0, 32, .ro, .val, 0, .err, .mem⟩
def MBD_REPAIR_FAIL : Fld := ⟨0x1B0005C, 0x1000, 0, 0, 32, .ro, .val, 0, .err, .mem⟩
def MBD_JOBS : Fld := ⟨0x1B00080, 0x1000, 0, 0, 64, .ro, .val, 0, .wrap, .mem⟩
def MBD_BAGS : Fld := ⟨0x1B00088, 0x1000, 0, 0, 64, .ro, .val, 0, .wrap, .mem⟩
def MBD_ROWS : Fld := ⟨0x1B00090, 0x1000, 0, 0, 64, .ro, .val, 0, .wrap, .mem⟩
def MBD_GRANULES : Fld := ⟨0x1B00098, 0x1000, 0, 0, 64, .ro, .val, 0, .wrap, .mem⟩
def MBD_OOB : Fld := ⟨0x1B000C0, 0x1000, 0, 0, 32, .ro, .val, 0, .err, .mem⟩
def MBD_EMPTY_BAG : Fld := ⟨0x1B000C4, 0x1000, 0, 0, 32, .ro, .val, 0, .err, .mem⟩
def MBD_BUSY : Fld := ⟨0x1B000C8, 0x1000, 0, 0, 32, .ro, .val, 0, .err, .mem⟩
def MBD_BAG_FMT : Fld := ⟨0x1B000CC, 0x1000, 0, 0, 32, .ro, .val, 0, .err, .mem⟩
/-! CCH block, BAR0 + 0x1B10000 (R257, spec/08). -/

def CCH_CE : Fld := ⟨0x1B10000, 0x100, 0, 0, 32, .ro, .val, 0, .err, .stn⟩
def CCH_UE : Fld := ⟨0x1B10004, 0x100, 0, 0, 32, .ro, .val, 0, .err, .stn⟩
def CCH_SWEEP_POS : Fld := ⟨0x1B10008, 0x100, 0, 0, 22, .ro, .val, 0, .plain, .stn⟩
def CCH_UE_LOG_UE_DPA : Fld := ⟨0x1B10010, 0x100, 0, 0, 52, .ro, .val, 0, .plain, .stn⟩
def CCH_UE_LOG_VALID : Fld := ⟨0x1B10010, 0x100, 0, 63, 1, .w1c, .val, 0, .plain, .stn⟩
/-! CHK block, BAR0 + 0x1C00000 (R258, spec/08). -/

def CHK_STAT_BUSY_REJ : Fld := ⟨0x1C00000, 0x1000, 0, 0, 4, .ro, .val, 0, .sat, .free⟩
def CHK_STAT_RUNNING : Fld := ⟨0x1C00000, 0x1000, 0, 4, 8, .ro, .val, 0, .plain, .free⟩
def CHK_START : Fld := ⟨0x1C00100, 0x1000, 0x80, 0, 52, .rw, .val, 0, .plain, .free⟩
def CHK_LEN : Fld := ⟨0x1C00108, 0x1000, 0x80, 0, 48, .rw, .val, 0, .plain, .free⟩
def CHK_CTRL_GO : Fld := ⟨0x1C00110, 0x1000, 0x80, 0, 1, .wo, .val, 0, .plain, .free⟩
def CHK_CTRL_ABORT : Fld := ⟨0x1C00110, 0x1000, 0x80, 1, 1, .wo, .val, 0, .plain, .free⟩
def CHK_CTRL_ALGO : Fld := ⟨0x1C00110, 0x1000, 0x80, 2, 2, .rw, .val, 0, .plain, .free⟩
def CHK_CTRL_FOLD : Fld := ⟨0x1C00110, 0x1000, 0x80, 4, 1, .rw, .val, 0, .plain, .free⟩
def CHK_CTRL_SEQ0 : Fld := ⟨0x1C00110, 0x1000, 0x80, 16, 16, .rw, .val, 0, .plain, .free⟩
def CHK_STATUS_STATE : Fld := ⟨0x1C00114, 0x1000, 0x80, 0, 2, .ro, .val, 0, .plain, .free⟩
def CHK_STATUS_ERR : Fld := ⟨0x1C00114, 0x1000, 0x80, 2, 3, .ro, .val, 0, .plain, .free⟩
def CHK_STATUS_VALID : Fld := ⟨0x1C00114, 0x1000, 0x80, 5, 1, .ro, .val, 0, .plain, .free⟩
def CHK_STATUS_DONE : Fld := ⟨0x1C00114, 0x1000, 0x80, 6, 1, .w1c, .val, 0, .plain, .free⟩
def CHK_POS : Fld := ⟨0x1C00118, 0x1000, 0x80, 0, 49, .ro, .val, 0, .plain, .free⟩
def CHK_POISON_DPA : Fld := ⟨0x1C00120, 0x1000, 0x80, 0, 52, .ro, .val, 0, .plain, .free⟩
def CHK_RESULT0 : Fld := ⟨0x1C00140, 0x1000, 0x80, 0, 64, .ro, .val, 0, .plain, .free⟩
def CHK_RESULT1 : Fld := ⟨0x1C00148, 0x1000, 0x80, 0, 64, .ro, .val, 0, .plain, .free⟩
def CHK_RESULT2 : Fld := ⟨0x1C00150, 0x1000, 0x80, 0, 64, .ro, .val, 0, .plain, .free⟩
def CHK_RESULT3 : Fld := ⟨0x1C00158, 0x1000, 0x80, 0, 64, .ro, .val, 0, .plain, .free⟩
/-! TRN block, BAR0 + 0x1D00000 (R299, spec/09). -/

def TRN_CTRL_FREEZE : Fld := ⟨0x1D00000, 0, 0, 0, 1, .rw, .val, 0, .plain, .trn⟩
def TRN_CTRL_CLEAR : Fld := ⟨0x1D00000, 0, 0, 1, 1, .wo, .val, 0, .plain, .trn⟩
def TRN_STAT_PHASE : Fld := ⟨0x1D00004, 0, 0, 0, 3, .ro, .val, 0, .plain, .trn⟩
def TRN_STAT_STAGING : Fld := ⟨0x1D00004, 0, 0, 3, 1, .ro, .val, 0, .plain, .trn⟩
def TRN_STAT_LATE : Fld := ⟨0x1D00004, 0, 0, 4, 1, .ro, .val, 0, .plain, .trn⟩
def TRN_STAT_LATE64 : Fld := ⟨0x1D00004, 0, 0, 5, 7, .ro, .val, 0, .plain, .trn⟩
def TRN_STAT_SYNC : Fld := ⟨0x1D00004, 0, 0, 12, 3, .ro, .val, 0, .plain, .trn⟩
def TRN_STAT_FRAME_ERR : Fld := ⟨0x1D00004, 0, 0, 15, 8, .ro, .val, 0, .sat, .trn⟩
def TRN_CFG_PERIOD_US : Fld := ⟨0x1D00008, 0, 0, 0, 11, .ro, .loaded, 0, .plain, .trn⟩
def TRN_CFG_QUIET_US : Fld := ⟨0x1D00008, 0, 0, 11, 6, .ro, .loaded, 0, .plain, .trn⟩
def TRN_CFG_SETTLE_US : Fld := ⟨0x1D00008, 0, 0, 17, 5, .ro, .loaded, 0, .plain, .trn⟩
def TRN_CFG_ROLE : Fld := ⟨0x1D00008, 0, 0, 22, 2, .ro, .loaded, 0, .plain, .trn⟩
def TRN_CFG_SOURCE : Fld := ⟨0x1D00008, 0, 0, 24, 1, .ro, .loaded, 0, .plain, .trn⟩
def TRN_CFG_STEP : Fld := ⟨0x1D00008, 0, 0, 25, 3, .ro, .loaded, 0, .plain, .trn⟩
def TRN_TIME : Fld := ⟨0x1D00010, 0, 0, 0, 64, .ro, .keep, 0, .plain, .trn⟩
def TRN_NUM : Fld := ⟨0x1D00018, 0, 0, 0, 64, .ro, .keep, 0, .plain, .trn⟩
def TRN_TSYNC_DELAY_NS : Fld := ⟨0x1D00020, 0, 0, 0, 10, .rw, .val, 0, .plain, .trn⟩
def TRN_TSYNC_OFFSET : Fld := ⟨0x1D00020, 0, 0, 10, 16, .ro, .val, 0, .plain, .trn⟩
def TRN_LATE : Fld := ⟨0x1D00024, 0, 0, 0, 32, .ro, .val, 0, .sat, .trn⟩
def TRN_LATE_MAX_NS : Fld := ⟨0x1D00028, 0, 0, 0, 32, .ro, .val, 0, .mark, .trn⟩
def TRN_SLACK_MIN_NS : Fld := ⟨0x1D00100, 0x8, 0, 0, 21, .ro, .val, 0x1fffff, .mark, .trn⟩
def TRN_SLACK_OVERRUNS : Fld := ⟨0x1D00100, 0x8, 0, 21, 16, .ro, .val, 0, .sat, .trn⟩
def TRN_SLACK_STRETCH_NS : Fld := ⟨0x1D00100, 0x8, 0, 37, 27, .ro, .val, 0, .sat, .trn⟩
/-! CHT block, BAR0 + 0x1D10000 (R300, spec/09). -/

def CHT_ACTIVE_SLOT : Fld := ⟨0x1D10000, 0, 0, 0, 1, .ro, .loaded, 0, .plain, .free⟩
def CHT_ACTIVE_VARIANT : Fld := ⟨0x1D10000, 0, 0, 1, 4, .ro, .loaded, 0, .plain, .free⟩
def CHT_ACTIVE_DEFAULT : Fld := ⟨0x1D10000, 0, 0, 5, 1, .ro, .loaded, 0, .plain, .free⟩
def CHT_SWITCH_STATE : Fld := ⟨0x1D10008, 0, 0, 0, 3, .ro, .val, 0, .plain, .free⟩
def CHT_SWITCH_POSTPONED : Fld := ⟨0x1D10008, 0, 0, 3, 4, .ro, .val, 0, .plain, .free⟩
def CHT_SWITCH_POSTPONE_TOTAL : Fld := ⟨0x1D10008, 0, 0, 7, 16, .ro, .val, 0, .sat, .free⟩
def CHT_SWITCH_LAST_ERR : Fld := ⟨0x1D10008, 0, 0, 23, 3, .ro, .val, 0, .plain, .free⟩
def CHT_SWITCH_AUTO : Fld := ⟨0x1D10008, 0, 0, 26, 1, .ro, .val, 0, .plain, .free⟩
def CHT_SWITCH_SWITCHES : Fld := ⟨0x1D10008, 0, 0, 32, 16, .ro, .val, 0, .sat, .free⟩
def CHT_SLOT_STATE : Fld := ⟨0x1D10020, 0x20, 0, 0, 3, .ro, .loaded, 0, .plain, .free⟩
def CHT_SLOT_ERR : Fld := ⟨0x1D10020, 0x20, 0, 3, 5, .ro, .val, 0, .plain, .free⟩
def CHT_SLOT_SIGNED : Fld := ⟨0x1D10020, 0x20, 0, 8, 1, .ro, .val, 0, .plain, .free⟩
def CHT_SLOT_VARIANTS : Fld := ⟨0x1D10020, 0x20, 0, 9, 5, .ro, .val, 0, .plain, .free⟩
def CHT_SLOT_ERR_SECT : Fld := ⟨0x1D10020, 0x20, 0, 14, 10, .ro, .val, 0, .plain, .free⟩
def CHT_SLOT_STAGE_TRANSITS : Fld := ⟨0x1D10020, 0x20, 0, 24, 12, .ro, .val, 0, .plain, .free⟩
def CHT_ID : Fld := ⟨0x1D10028, 0x20, 0, 0, 64, .ro, .loaded, 0, .plain, .free⟩
def CHT_LOADED_TIME : Fld := ⟨0x1D10030, 0x20, 0, 0, 64, .ro, .loaded, 0, .plain, .free⟩
/-! CMT block, BAR0 + 0x1E00000 (R407, spec/12). -/

def CMT_CTRL_FREEZE : Fld := ⟨0x1E00000, 0, 0, 0, 1, .rw, .val, 0, .plain, .cmt⟩
def CMT_CTRL_CLEAR : Fld := ⟨0x1E00000, 0, 0, 1, 1, .wo, .val, 0, .plain, .cmt⟩
def CMT_CTRL_RTO_US : Fld := ⟨0x1E00000, 0, 0, 2, 8, .rw, .val, 0x14, .plain, .cmt⟩
def CMT_CTRL_RETRIES : Fld := ⟨0x1E00000, 0, 0, 10, 4, .rw, .val, 8, .plain, .cmt⟩
def CMT_STAT_PART_ID : Fld := ⟨0x1E00004, 0, 0, 0, 12, .ro, .loaded, 0, .plain, .cmt⟩
def CMT_STAT_WIN_PENDING : Fld := ⟨0x1E00004, 0, 0, 12, 1, .ro, .val, 0, .plain, .cmt⟩
def CMT_STAT_WIN_ERR : Fld := ⟨0x1E00004, 0, 0, 13, 1, .w1c, .val, 0, .plain, .cmt⟩
def CMT_STAT_WIN_IGN : Fld := ⟨0x1E00004, 0, 0, 14, 8, .ro, .val, 0, .sat, .cmt⟩
def CMT_STAT_PEERS_LOST : Fld := ⟨0x1E00004, 0, 0, 22, 10, .ro, .val, 0, .plain, .cmt⟩
def CMT_ETYPE : Fld := ⟨0x1E00008, 0, 0, 0, 16, .rw, .val, 0x88b5, .plain, .cmt⟩
def CMT_PEER_SEL_PART : Fld := ⟨0x1E0000C, 0, 0, 0, 12, .rw, .val, 0, .plain, .cmt⟩
def CMT_ID_PART_ID : Fld := ⟨0x1E00010, 0, 0, 0, 12, .ro, .loaded, 0, .plain, .cmt⟩
def CMT_ID_MAC_BASE : Fld := ⟨0x1E00010, 0, 0, 16, 48, .ro, .loaded, 0, .plain, .cmt⟩
def CMT_TIMING_PATH_NS : Fld := ⟨0x1E00018, 0, 0, 0, 16, .ro, .val, 0, .plain, .cmt⟩
def CMT_TIMING_TSYNC_NS : Fld := ⟨0x1E00018, 0, 0, 16, 16, .ro, .val, 0, .plain, .cmt⟩
def CMT_TIMING_JITTER_NS : Fld := ⟨0x1E00018, 0, 0, 32, 16, .ro, .val, 0, .plain, .cmt⟩
def CMT_ALOG_Q_STACK : Fld := ⟨0x1E00020, 0, 0, 0, 4, .rw, .val, 0, .plain, .cmt⟩
def CMT_ALOG_Q_SLOT : Fld := ⟨0x1E00020, 0, 0, 4, 10, .rw, .val, 0, .plain, .cmt⟩
def CMT_ALOG_Q_SEQ : Fld := ⟨0x1E00020, 0, 0, 14, 32, .rw, .val, 0, .plain, .cmt⟩
def CMT_ALOG_R0_STATE : Fld := ⟨0x1E00028, 0, 0, 0, 2, .ro, .val, 0, .plain, .cmt⟩
def CMT_ALOG_R0_STATUS : Fld := ⟨0x1E00028, 0, 0, 2, 8, .ro, .val, 0, .plain, .cmt⟩
def CMT_ALOG_R0_DONE : Fld := ⟨0x1E00028, 0, 0, 10, 1, .ro, .val, 0, .plain, .cmt⟩
def CMT_ALOG_R1_OLD : Fld := ⟨0x1E00030, 0, 0, 0, 64, .ro, .val, 0, .plain, .cmt⟩
def CMT_RETX : Fld := ⟨0x1E00040, 0, 0, 0, 64, .ro, .val, 0, .wrap, .cmt⟩
def CMT_REROUTE : Fld := ⟨0x1E00048, 0, 0, 0, 32, .ro, .val, 0, .sat, .cmt⟩
def CMT_PATH_FAIL : Fld := ⟨0x1E0004C, 0, 0, 0, 32, .ro, .val, 0, .sat, .cmt⟩
def CMT_REFUSED_OUT : Fld := ⟨0x1E00050, 0, 0, 0, 32, .ro, .val, 0, .sat, .cmt⟩
def CMT_REFUSED_IN : Fld := ⟨0x1E00054, 0, 0, 0, 32, .ro, .val, 0, .sat, .cmt⟩
def CMT_ATOMIC_DUP : Fld := ⟨0x1E00058, 0, 0, 0, 32, .ro, .val, 0, .sat, .cmt⟩
def CMT_RESULT_LOST : Fld := ⟨0x1E0005C, 0, 0, 0, 32, .ro, .val, 0, .sat, .cmt⟩
def CMT_GW_FLUSH : Fld := ⟨0x1E00060, 0, 0, 0, 32, .ro, .val, 0, .sat, .cmt⟩
def CMT_HELLO : Fld := ⟨0x1E00064, 0, 0, 0, 32, .ro, .val, 0, .sat, .cmt⟩
def CMT_PEER_VIEW0_KNOWN : Fld := ⟨0x1E00080, 0, 0, 0, 1, .ro, .val, 0, .plain, .cmt⟩
def CMT_PEER_VIEW0_UP : Fld := ⟨0x1E00080, 0, 0, 1, 1, .ro, .val, 0, .plain, .cmt⟩
def CMT_PEER_VIEW0_FAR : Fld := ⟨0x1E00080, 0, 0, 2, 1, .ro, .val, 0, .plain, .cmt⟩
def CMT_PEER_VIEW0_PATHS_UP : Fld := ⟨0x1E00080, 0, 0, 3, 4, .ro, .val, 0, .plain, .cmt⟩
def CMT_PEER_VIEW0_ORD_PORT : Fld := ⟨0x1E00080, 0, 0, 7, 5, .ro, .val, 0, .plain, .cmt⟩
def CMT_PEER_VIEW0_EPOCH : Fld := ⟨0x1E00080, 0, 0, 16, 16, .ro, .val, 0, .plain, .cmt⟩
def CMT_PEER_VIEW1_TX_NEXT : Fld := ⟨0x1E00088, 0, 0, 0, 32, .ro, .val, 0, .plain, .cmt⟩
def CMT_PEER_VIEW1_TX_CUM : Fld := ⟨0x1E00088, 0, 0, 32, 32, .ro, .val, 0, .plain, .cmt⟩
def CMT_PEER_VIEW2_RX_CUM : Fld := ⟨0x1E00090, 0, 0, 0, 32, .ro, .val, 0, .plain, .cmt⟩
def CMT_PEER_VIEW2_UNACKED : Fld := ⟨0x1E00090, 0, 0, 32, 32, .ro, .val, 0, .plain, .cmt⟩
def CMT_PORT_LANES : Fld := ⟨0x1E00100, 0x20, 0, 0, 4, .ro, .val, 0, .plain, .cmt⟩
def CMT_PORT_STATE : Fld := ⟨0x1E00100, 0x20, 0, 4, 3, .ro, .val, 0, .plain, .cmt⟩
def CMT_PORT_LANE_OK : Fld := ⟨0x1E00100, 0x20, 0, 7, 8, .ro, .val, 0, .plain, .cmt⟩
def CMT_PORT_RETRAIN : Fld := ⟨0x1E00100, 0x20, 0, 15, 1, .wo, .val, 0, .plain, .cmt⟩
def CMT_PORT_PEER : Fld := ⟨0x1E00100, 0x20, 0, 16, 12, .ro, .val, 0, .plain, .cmt⟩
def CMT_PORT_PEER_PORT : Fld := ⟨0x1E00100, 0x20, 0, 28, 5, .ro, .val, 0, .plain, .cmt⟩
def CMT_PORT_TX_BYTES : Fld := ⟨0x1E00108, 0x20, 0, 0, 64, .ro, .val, 0, .wrap, .cmt⟩
def CMT_PORT_RX_BYTES : Fld := ⟨0x1E00110, 0x20, 0, 0, 64, .ro, .val, 0, .wrap, .cmt⟩
def CMT_PORT_FEC_UNCORR : Fld := ⟨0x1E00118, 0x20, 0, 0, 32, .ro, .val, 0, .sat, .cmt⟩
def CMT_PORT_DROP : Fld := ⟨0x1E0011C, 0x20, 0, 0, 32, .ro, .val, 0, .sat, .cmt⟩
def CMT_WIN0_VALID : Fld := ⟨0x1E01000, 0x20, 0, 0, 1, .rw, .val, 0, .plain, .cmt⟩
def CMT_WIN0_READ : Fld := ⟨0x1E01000, 0x20, 0, 1, 1, .rw, .val, 0, .plain, .cmt⟩
def CMT_WIN0_WRITE : Fld := ⟨0x1E01000, 0x20, 0, 2, 1, .rw, .val, 0, .plain, .cmt⟩
def CMT_WIN0_ATOMIC : Fld := ⟨0x1E01000, 0x20, 0, 3, 1, .rw, .val, 0, .plain, .cmt⟩
def CMT_WIN0_BULK : Fld := ⟨0x1E01000, 0x20, 0, 4, 1, .rw, .val, 0, .plain, .cmt⟩
def CMT_WIN0_GATEWAY : Fld := ⟨0x1E01000, 0x20, 0, 5, 1, .rw, .val, 0, .plain, .cmt⟩
def CMT_WIN0_PEER : Fld := ⟨0x1E01000, 0x20, 0, 16, 12, .rw, .val, 0, .plain, .cmt⟩
def CMT_WIN1_LOCAL_BASE : Fld := ⟨0x1E01008, 0x20, 0, 16, 36, .rw, .val, 0, .plain, .cmt⟩
def CMT_WIN2_SIZE : Fld := ⟨0x1E01010, 0x20, 0, 0, 48, .rw, .val, 0, .plain, .cmt⟩
def CMT_WIN3_REMOTE_BASE : Fld := ⟨0x1E01018, 0x20, 0, 16, 36, .rw, .val, 0, .plain, .cmt⟩
/-! CLK block, BAR0 + 0x2000000 (R429, spec/13). -/

def CLK_CTRL_FREEZE : Fld := ⟨0x2000000, 0, 0, 0, 1, .rw, .val, 0, .plain, .clk⟩
def CLK_CTRL_CLEAR : Fld := ⟨0x2000000, 0, 0, 1, 1, .wo, .val, 0, .plain, .clk⟩
def CLK_CTRL_CEIL_RESTORE : Fld := ⟨0x2000000, 0, 0, 2, 1, .wo, .val, 0, .plain, .clk⟩
def CLK_STAT_TREF_OK : Fld := ⟨0x2000004, 0, 0, 0, 1, .ro, .val, 0, .plain, .clk⟩
def CLK_STAT_HOLDOVER : Fld := ⟨0x2000004, 0, 0, 1, 1, .ro, .val, 0, .plain, .clk⟩
def CLK_STAT_PLAN_PENDING : Fld := ⟨0x2000004, 0, 0, 2, 1, .ro, .val, 0, .plain, .clk⟩
def CLK_STAT_PLAN_ERR : Fld := ⟨0x2000004, 0, 0, 3, 1, .w1c, .val, 0, .plain, .clk⟩
def CLK_STAT_CMP_STEP : Fld := ⟨0x2000004, 0, 0, 4, 3, .ro, .loaded, 0, .plain, .clk⟩
def CLK_STAT_CACHE_STEP : Fld := ⟨0x2000004, 0, 0, 7, 2, .ro, .val, 3, .plain, .clk⟩
def CLK_STAT_STOPPED_ACC : Fld := ⟨0x2000004, 0, 0, 16, 16, .ro, .val, 0, .sat, .clk⟩
def CLK_PLAN_CMP_STEP : Fld := ⟨0x2000008, 0, 0, 0, 3, .rw, .loaded, 0, .plain, .clk⟩
def CLK_PLAN_CACHE_STEP : Fld := ⟨0x2000008, 0, 0, 4, 2, .rw, .val, 3, .plain, .clk⟩
def CLK_PLAN_ARM : Fld := ⟨0x2000008, 0, 0, 8, 1, .wo, .val, 0, .plain, .clk⟩
def CLK_PLAN_AT_AT : Fld := ⟨0x2000010, 0, 0, 0, 64, .rw, .val, 0, .plain, .clk⟩
def CLK_SEAM_W_SLOW : Fld := ⟨0x2000018, 0, 0, 0, 1, .ro, .val, 0, .plain, .clk⟩
def CLK_SEAM_E_SLOW : Fld := ⟨0x2000018, 0, 0, 1, 1, .ro, .val, 0, .plain, .clk⟩
def CLK_SEAM_W_CAP : Fld := ⟨0x2000018, 0, 0, 2, 1, .ro, .val, 0, .plain, .clk⟩
def CLK_SEAM_E_CAP : Fld := ⟨0x2000018, 0, 0, 3, 1, .ro, .val, 0, .plain, .clk⟩
def CLK_SEAM_ENTRIES : Fld := ⟨0x2000018, 0, 0, 16, 16, .ro, .val, 0, .sat, .clk⟩
def CLK_DIE_PLAN : Fld := ⟨0x2000100, 0x20, 0, 0, 3, .ro, .loaded, 0, .plain, .clk⟩
def CLK_DIE_CEIL_TRIM : Fld := ⟨0x2000100, 0x20, 0, 3, 3, .ro, .trim, 0, .plain, .clk⟩
def CLK_DIE_CEIL_FIELD : Fld := ⟨0x2000100, 0x20, 0, 6, 3, .ro, .keep, 0, .plain, .clk⟩
def CLK_DIE_THROTTLE : Fld := ⟨0x2000100, 0x20, 0, 9, 3, .ro, .val, 7, .plain, .clk⟩
def CLK_DIE_EFF : Fld := ⟨0x2000100, 0x20, 0, 12, 3, .ro, .val, 0, .plain, .clk⟩
def CLK_DIE_CAPPED : Fld := ⟨0x2000100, 0x20, 0, 15, 1, .ro, .val, 0, .plain, .clk⟩
def CLK_DIE_STRETCHING : Fld := ⟨0x2000100, 0x20, 0, 16, 1, .ro, .val, 0, .plain, .clk⟩
def CLK_DIE_DROOP : Fld := ⟨0x2000100, 0x20, 0, 17, 4, .ro, .val, 0, .plain, .clk⟩
def CLK_STRETCH_CYC : Fld := ⟨0x2000108, 0x20, 0, 0, 64, .ro, .val, 0, .wrap, .clk⟩
def CLK_DROOP_EVT : Fld := ⟨0x2000110, 0x20, 0, 0, 32, .ro, .val, 0, .err, .clk⟩
def CLK_MON_FAIL : Fld := ⟨0x2000114, 0x20, 0, 0, 32, .ro, .val, 0, .err, .clk⟩
def CLK_CACHE_EFF : Fld := ⟨0x2000400, 0x10, 0, 0, 2, .ro, .val, 3, .plain, .clk⟩
def CLK_CACHE_CEIL_TRIM : Fld := ⟨0x2000400, 0x10, 0, 2, 2, .ro, .trim, 0, .plain, .clk⟩
def CLK_CACHE_CEIL_FIELD : Fld := ⟨0x2000400, 0x10, 0, 4, 2, .ro, .keep, 0, .plain, .clk⟩
def CLK_CACHE_CAPPED : Fld := ⟨0x2000400, 0x10, 0, 6, 1, .ro, .val, 0, .plain, .clk⟩
def CLK_CACHE_MON_FAIL : Fld := ⟨0x2000404, 0x10, 0, 0, 32, .ro, .val, 0, .err, .clk⟩
def CLK_MBD_EFF : Fld := ⟨0x2000600, 0x10, 0, 0, 2, .ro, .val, 0, .plain, .clk⟩
def CLK_MBD_CEIL_TRIM : Fld := ⟨0x2000600, 0x10, 0, 2, 2, .ro, .val, 0, .plain, .clk⟩
def CLK_MBD_CEIL_FIELD : Fld := ⟨0x2000600, 0x10, 0, 4, 2, .ro, .val, 0, .plain, .clk⟩
def CLK_MBD_CAPPED : Fld := ⟨0x2000600, 0x10, 0, 6, 1, .ro, .val, 0, .plain, .clk⟩
def CLK_MBD_MON_FAIL : Fld := ⟨0x2000604, 0x10, 0, 0, 32, .ro, .val, 0, .err, .clk⟩
/-! THM block, BAR0 + 0x2100000 (R455, spec/14). -/

def THM_CTRL_FREEZE : Fld := ⟨0x2100000, 0, 0, 0, 1, .rw, .val, 0, .plain, .thm⟩
def THM_CTRL_CLEAR : Fld := ⟨0x2100000, 0, 0, 1, 1, .wo, .val, 0, .plain, .thm⟩
def THM_CTRL_SITE_MIN : Fld := ⟨0x2100000, 0, 0, 4, 6, .rw, .val, 0x2d, .plain, .thm⟩
def THM_STAT_PREWARM : Fld := ⟨0x2100004, 0, 0, 0, 1, .ro, .val, 0, .plain, .thm⟩
def THM_STAT_POWER_CAP : Fld := ⟨0x2100004, 0, 0, 1, 1, .ro, .val, 0, .plain, .thm⟩
def THM_STAT_ALM_OK : Fld := ⟨0x2100004, 0, 0, 2, 1, .ro, .val, 0, .plain, .thm⟩
def THM_STAT_ALM_HELD : Fld := ⟨0x2100004, 0, 0, 3, 11, .ro, .val, 0, .plain, .thm⟩
def THM_STAT_TRIPPED : Fld := ⟨0x2100004, 0, 0, 14, 1, .ro, .keep, 0, .plain, .thm⟩
def THM_PWR_NOW_W : Fld := ⟨0x2100008, 0, 0, 0, 16, .ro, .val, 0, .plain, .thm⟩
def THM_PWR_PEAK_W : Fld := ⟨0x2100008, 0, 0, 16, 16, .ro, .val, 0, .mark, .thm⟩
def THM_PWR_CEIL_W : Fld := ⟨0x2100008, 0, 0, 32, 16, .ro, .loaded, 0, .plain, .thm⟩
def THM_PWR_CAPS : Fld := ⟨0x2100008, 0, 0, 48, 16, .ro, .val, 0, .sat, .thm⟩
def ALM_HELD_DROP : Fld := ⟨0x2100010, 0, 0, 0, 32, .ro, .val, 0, .sat, .thm⟩
def THM_RAIL_MV : Fld := ⟨0x2100040, 0x8, 0, 0, 16, .ro, .val, 0, .plain, .thm⟩
def THM_RAIL_CURRENT : Fld := ⟨0x2100040, 0x8, 0, 16, 16, .ro, .val, 0, .plain, .thm⟩
def THM_RAIL_OUT_TOL : Fld := ⟨0x2100040, 0x8, 0, 32, 1, .ro, .val, 0, .plain, .thm⟩
def THM_TILE_T_TJ : Fld := ⟨0x2101000, 0x40, 0, 0, 12, .ro, .val, 0, .plain, .thm⟩
def THM_TILE_T_SITE : Fld := ⟨0x2101000, 0x40, 0, 12, 12, .ro, .val, 0, .plain, .thm⟩
def THM_TILE_T_SITE_MAX : Fld := ⟨0x2101000, 0x40, 0, 24, 12, .ro, .val, 0, .plain, .thm⟩
def THM_TILE_T_CACHE_MAX : Fld := ⟨0x2101000, 0x40, 0, 36, 12, .ro, .val, 0, .plain, .thm⟩
def THM_TILE_T_CACHE_EST : Fld := ⟨0x2101000, 0x40, 0, 48, 12, .ro, .val, 0, .plain, .thm⟩
def THM_TILE_LIMIT : Fld := ⟨0x2101008, 0x40, 0, 0, 3, .ro, .val, 7, .plain, .thm⟩
def THM_TILE_BY_TJ : Fld := ⟨0x2101008, 0x40, 0, 3, 1, .ro, .val, 0, .plain, .thm⟩
def THM_TILE_BY_SITE : Fld := ⟨0x2101008, 0x40, 0, 4, 1, .ro, .val, 0, .plain, .thm⟩
def THM_TILE_BY_CACHE : Fld := ⟨0x2101008, 0x40, 0, 5, 1, .ro, .val, 0, .plain, .thm⟩
def THM_TILE_BY_POWER : Fld := ⟨0x2101008, 0x40, 0, 6, 1, .ro, .val, 0, .plain, .thm⟩
def THM_TILE_VERDICT : Fld := ⟨0x2101008, 0x40, 0, 7, 2, .ro, .val, 0, .plain, .thm⟩
def THM_TILE_OUT_WINDOW : Fld := ⟨0x2101008, 0x40, 0, 9, 1, .ro, .val, 0, .plain, .thm⟩
def THM_TILE_WARMER : Fld := ⟨0x2101008, 0x40, 0, 10, 8, .ro, .val, 0, .plain, .thm⟩
def THM_TILE_CANARY : Fld := ⟨0x2101008, 0x40, 0, 18, 5, .ro, .val, 0, .plain, .thm⟩
def THM_STEPS_DOWN : Fld := ⟨0x2101010, 0x40, 0, 0, 32, .ro, .val, 0, .sat, .thm⟩
def THM_CACHE_HOT : Fld := ⟨0x2101014, 0x40, 0, 0, 32, .ro, .val, 0, .sat, .thm⟩
def THM_CANARY_FLIPS : Fld := ⟨0x2101018, 0x40, 0, 0, 32, .ro, .val, 0, .sat, .thm⟩
def THM_GUARD_LATE : Fld := ⟨0x210101C, 0x40, 0, 0, 32, .ro, .val, 0, .sat, .thm⟩
def THM_LIMIT_EXCEED : Fld := ⟨0x2101020, 0x40, 0, 0, 32, .ro, .val, 0, .sat, .thm⟩
def THM_SENSOR_FAIL : Fld := ⟨0x2101024, 0x40, 0, 0, 32, .ro, .val, 0, .sat, .thm⟩
def THM_MBD_MBD_T : Fld := ⟨0x2102000, 0x10, 0, 0, 12, .ro, .val, 0, .plain, .thm⟩
def THM_MBD_HBM_T : Fld := ⟨0x2102000, 0x10, 0, 12, 12, .ro, .val, 0, .plain, .thm⟩
def THM_MBD_CAP : Fld := ⟨0x2102000, 0x10, 0, 24, 2, .ro, .val, 0, .plain, .thm⟩
def THM_MBD_REFRESH_2X : Fld := ⟨0x2102000, 0x10, 0, 26, 1, .ro, .val, 0, .plain, .thm⟩
def THM_CAP_STEPS : Fld := ⟨0x2102004, 0x10, 0, 0, 32, .ro, .val, 0, .sat, .thm⟩
def THM_EDGE_TEMP : Fld := ⟨0x2103000, 0x4, 0, 0, 12, .ro, .val, 0, .plain, .thm⟩
/-! FLT block, BAR0 + 0x2200000 (R479, spec/15). -/

def FLT_STAT_STATE : Fld := ⟨0x2200000, 0, 0, 0, 2, .ro, .val, 0, .plain, .free⟩
def FLT_STAT_DEGRADED : Fld := ⟨0x2200000, 0, 0, 2, 1, .ro, .val, 0, .plain, .free⟩
def FLT_STAT_FAULT : Fld := ⟨0x2200000, 0, 0, 3, 1, .ro, .val, 0, .plain, .free⟩
def FLT_STAT_ALERT : Fld := ⟨0x2200000, 0, 0, 4, 1, .ro, .val, 0, .plain, .free⟩
def FLT_STAT_BOOT_MODE : Fld := ⟨0x2200000, 0, 0, 5, 2, .ro, .loaded, 0, .plain, .free⟩
def FLT_STAT_LAST_SRC : Fld := ⟨0x2200000, 0, 0, 7, 9, .ro, .val, 0, .plain, .free⟩
def FLT_CTRL_RESET : Fld := ⟨0x2200004, 0, 0, 0, 8, .wo, .val, 0, .plain, .free⟩
def FLT_CTRL_DOM : Fld := ⟨0x2200004, 0, 0, 8, 8, .wo, .val, 0, .plain, .free⟩
def FLT_CTRL_REINSTATE : Fld := ⟨0x2200004, 0, 0, 16, 1, .wo, .val, 0, .plain, .free⟩
def FLT_CTRL_PATIENCE_RETRY : Fld := ⟨0x2200004, 0, 0, 17, 1, .wo, .val, 0, .plain, .free⟩
def FLT_CTRL_CLEAR_ALL : Fld := ⟨0x2200004, 0, 0, 18, 1, .wo, .val, 0, .plain, .free⟩
def FLT_BOOT_STEP : Fld := ⟨0x2200008, 0, 0, 0, 4, .ro, .val, 0, .plain, .free⟩
def FLT_BOOT_FAILS : Fld := ⟨0x2200008, 0, 0, 4, 4, .ro, .loaded, 0, .sat, .free⟩
def FLT_BOOT_LAST_REASON : Fld := ⟨0x2200008, 0, 0, 8, 5, .ro, .loaded, 0, .plain, .free⟩
def FLT_BOOT_IMAGE : Fld := ⟨0x2200008, 0, 0, 13, 1, .ro, .val, 0, .plain, .free⟩
def FLT_BOOT_FALLBACK : Fld := ⟨0x2200008, 0, 0, 14, 1, .ro, .val, 0, .plain, .free⟩
def FLT_BOOT_WARM : Fld := ⟨0x2200008, 0, 0, 15, 1, .ro, .val, 0, .plain, .free⟩
def FLT_BOOT_BOOT_MS : Fld := ⟨0x2200008, 0, 0, 16, 32, .ro, .val, 0, .plain, .free⟩
def FLT_BOOT_BOOTS : Fld := ⟨0x2200008, 0, 0, 48, 16, .ro, .loaded, 0, .plain, .free⟩
def FLT_RETIRED_TILE : Fld := ⟨0x2200010, 0, 0, 0, 24, .ro, .keep, 0, .plain, .free⟩
def FLT_RETIRED_MEM : Fld := ⟨0x2200010, 0, 0, 24, 12, .ro, .keep, 0, .plain, .free⟩
def FLT_RETIRED_XIO : Fld := ⟨0x2200010, 0, 0, 36, 4, .ro, .keep, 0, .plain, .free⟩
def FLT_RETIRED_FE : Fld := ⟨0x2200010, 0, 0, 40, 2, .ro, .keep, 0, .plain, .free⟩
def FLT_HANG_HUNT : Fld := ⟨0x2200018, 0, 0, 0, 24, .ro, .val, 0, .plain, .free⟩
def FLT_HANG_SUSPECTS : Fld := ⟨0x2200018, 0, 0, 24, 8, .ro, .val, 0, .plain, .free⟩
def FLT_HANG_GUILTY : Fld := ⟨0x2200018, 0, 0, 32, 16, .ro, .keep, 0, .sat, .free⟩
def FLT_HANG_HANGS : Fld := ⟨0x2200018, 0, 0, 48, 16, .ro, .keep, 0, .sat, .free⟩
def FLT_DUMP_VALID : Fld := ⟨0x2200020, 0, 0, 0, 1, .w1c, .keep, 0, .plain, .free⟩
def FLT_DUMP_SRC : Fld := ⟨0x2200020, 0, 0, 1, 9, .ro, .keep, 0, .plain, .free⟩
def FLT_DUMP_KIND : Fld := ⟨0x2200020, 0, 0, 10, 3, .ro, .keep, 0, .plain, .free⟩
def FLT_DUMP_TRANSIT : Fld := ⟨0x2200020, 0, 0, 32, 32, .ro, .keep, 0, .plain, .free⟩
def FLT_SRC_SEV : Fld := ⟨0x2201000, 0x8, 0, 0, 3, .rw, .loaded, 0, .plain, .free⟩
def FLT_SRC_FIXED : Fld := ⟨0x2201000, 0x8, 0, 3, 1, .ro, .loaded, 0, .plain, .free⟩
def FLT_SRC_STICKY : Fld := ⟨0x2201000, 0x8, 0, 4, 1, .w1c, .keep, 0, .plain, .free⟩
def FLT_SRC_COUNT : Fld := ⟨0x2201000, 0x8, 0, 32, 32, .ro, .keep, 0, .sat, .free⟩
def FLT_DOM0_GEN : Fld := ⟨0x2202000, 0x10, 0, 0, 8, .ro, .loaded, 0, .plain, .free⟩
def FLT_DOM0_STATE : Fld := ⟨0x2202000, 0x10, 0, 8, 3, .ro, .loaded, 0, .plain, .free⟩
def FLT_DOM0_WINDOW : Fld := ⟨0x2202000, 0x10, 0, 11, 2, .ro, .keep, 0, .plain, .free⟩
def FLT_DOM0_LATE : Fld := ⟨0x2202000, 0x10, 0, 16, 16, .ro, .keep, 0, .sat, .free⟩
def FLT_DOM0_RESETS : Fld := ⟨0x2202000, 0x10, 0, 32, 32, .ro, .keep, 0, .sat, .free⟩
def FLT_DOM1_LAST : Fld := ⟨0x2202008, 0x10, 0, 0, 64, .ro, .keep, 0, .plain, .free⟩
/-! GRD block, BAR0 + 0x2300000 (R483, spec/16). -/

def GRD_STAT_LOADED : Fld := ⟨0x2300000, 0, 0, 0, 1, .ro, .val, 0, .plain, .free⟩
def GRD_STAT_SIGNER : Fld := ⟨0x2300000, 0, 0, 1, 1, .ro, .loaded, 0, .plain, .free⟩
def GRD_STAT_VENDOR_LOCK : Fld := ⟨0x2300000, 0, 0, 2, 1, .ro, .loaded, 0, .plain, .free⟩
def GRD_STAT_NKEYS : Fld := ⟨0x2300000, 0, 0, 3, 4, .ro, .loaded, 0, .plain, .free⟩
def GRD_STAT_BLOCKED : Fld := ⟨0x2300000, 0, 0, 16, 16, .ro, .val, 0, .sat, .free⟩
def GRD_VERSION_RECORD : Fld := ⟨0x2300004, 0, 0, 0, 32, .ro, .loaded, 0, .plain, .free⟩
def GRD_FWMIN_FW_MIN : Fld := ⟨0x2300008, 0, 0, 0, 32, .ro, .loaded, 0, .plain, .free⟩
def GRD_LIMITS_LASER_CAP : Fld := ⟨0x2300010, 0, 0, 0, 12, .lo, .loaded, 0, .plain, .free⟩
def GRD_LIMITS_HTR_CAP : Fld := ⟨0x2300010, 0, 0, 12, 11, .lo, .loaded, 0, .plain, .free⟩
def GRD_LIMITS_PWR_CEIL : Fld := ⟨0x2300010, 0, 0, 23, 12, .lo, .loaded, 0, .plain, .free⟩
def GRD_LIMITS_EGRESS : Fld := ⟨0x2300010, 0, 0, 35, 16, .lo, .loaded, 0, .plain, .free⟩
def GRD_TRIP_CMP : Fld := ⟨0x2300018, 0, 0, 0, 8, .lo, .loaded, 0, .plain, .free⟩
def GRD_TRIP_CACHE : Fld := ⟨0x2300018, 0, 0, 8, 8, .lo, .loaded, 0, .plain, .free⟩
def GRD_TRIP_SITE : Fld := ⟨0x2300018, 0, 0, 16, 8, .lo, .loaded, 0, .plain, .free⟩
def GRD_TRIP_MBD : Fld := ⟨0x2300018, 0, 0, 24, 8, .lo, .loaded, 0, .plain, .free⟩
def GRD_TRIP_HBM : Fld := ⟨0x2300018, 0, 0, 32, 8, .lo, .loaded, 0, .plain, .free⟩
def GRD_TRIP_EDGE : Fld := ⟨0x2300018, 0, 0, 40, 8, .lo, .loaded, 0, .plain, .free⟩
def GRD_WP_FW_UPDATE : Fld := ⟨0x2300020, 0, 0, 0, 1, .lo, .loaded, 0, .plain, .free⟩
def GRD_WP_LOG_CLEAR : Fld := ⟨0x2300020, 0, 0, 1, 1, .lo, .loaded, 0, .plain, .free⟩
def GRD_WP_DUMP_CLEAR : Fld := ⟨0x2300020, 0, 0, 2, 1, .lo, .loaded, 0, .plain, .free⟩
def GRD_WP_UNSIGNED_CHARTS : Fld := ⟨0x2300020, 0, 0, 3, 1, .lo, .loaded, 0, .plain, .free⟩
def GRD_KEY_ID_KEY_ID : Fld := ⟨0x2300100, 0x8, 0, 0, 64, .ro, .loaded, 0, .plain, .free⟩
/-! ALM block, BAR0 + 0x2400000 (R502, spec/16). -/

def ALM_STAT_STATE : Fld := ⟨0x2400000, 0, 0, 0, 2, .ro, .val, 0, .plain, .free⟩
def ALM_STAT_LAST : Fld := ⟨0x2400000, 0, 0, 2, 4, .ro, .val, 0, .plain, .free⟩
def ALM_STAT_ACTIVE : Fld := ⟨0x2400000, 0, 0, 6, 1, .ro, .loaded, 0, .plain, .free⟩
def ALM_STAT_NEXT : Fld := ⟨0x2400000, 0, 0, 7, 1, .ro, .loaded, 0, .plain, .free⟩
def ALM_STAT_A_VALID : Fld := ⟨0x2400000, 0, 0, 8, 1, .ro, .loaded, 0, .plain, .free⟩
def ALM_STAT_B_VALID : Fld := ⟨0x2400000, 0, 0, 9, 1, .ro, .loaded, 0, .plain, .free⟩
def ALM_CMD_CMD : Fld := ⟨0x2400004, 0, 0, 0, 4, .wo, .val, 0, .plain, .free⟩
def ALM_ADDR : Fld := ⟨0x2400008, 0, 0, 0, 28, .rw, .val, 0, .plain, .free⟩
def ALM_LEN : Fld := ⟨0x240000C, 0, 0, 0, 17, .rw, .val, 0, .plain, .free⟩
def ALM_CLOG_SEQ : Fld := ⟨0x2400010, 0, 0, 0, 32, .ro, .loaded, 0, .plain, .free⟩
def ALM_CLOG_WRAPS : Fld := ⟨0x2400010, 0, 0, 32, 32, .ro, .loaded, 0, .plain, .free⟩
def ALM_LIFE_PTR : Fld := ⟨0x2400018, 0, 0, 0, 28, .ro, .loaded, 0, .plain, .free⟩
def ALM_LIFE_SEQ : Fld := ⟨0x2400018, 0, 0, 32, 32, .ro, .loaded, 0, .plain, .free⟩
def ALM_CMDIGN : Fld := ⟨0x2400020, 0, 0, 0, 32, .ro, .val, 0, .sat, .free⟩
def ALM_READ : Fld := ⟨0x2401000, 0x4, 0, 0, 32, .ro, .val, 0, .plain, .free⟩
def ALM_STAGE : Fld := ⟨0x2410000, 0x4, 0, 0, 32, .rw, .val, 0, .plain, .free⟩
/-! MGT block, BAR0 + 0x3800000 (R503, spec/16). -/

def MGT_STAT_CROUPIER : Fld := ⟨0x3800000, 0, 0, 0, 2, .ro, .val, 0, .plain, .free⟩
def MGT_STAT_WDOG : Fld := ⟨0x3800000, 0, 0, 16, 16, .ro, .keep, 0, .sat, .free⟩
def MGT_UNMAPPED : Fld := ⟨0x3800004, 0, 0, 0, 32, .ro, .val, 0, .sat, .free⟩
def MGT_SERIAL : Fld := ⟨0x3800008, 0, 0, 0, 64, .ro, .loaded, 0, .plain, .free⟩
def MGT_IDSTATE_STATE : Fld := ⟨0x3800010, 0, 0, 0, 2, .ro, .val, 0, .plain, .free⟩
def MGT_IDSTATE_FLIPS : Fld := ⟨0x3800010, 0, 0, 16, 16, .ro, .val, 0, .plain, .free⟩
def MGT_SITE_PRESENT_TILE : Fld := ⟨0x3800100, 0, 0, 0, 24, .ro, .loaded, 0, .plain, .free⟩
def MGT_SITE_PRESENT_MEM : Fld := ⟨0x3800100, 0, 0, 24, 12, .ro, .loaded, 0, .plain, .free⟩
def MGT_SITE_PRESENT_XIO : Fld := ⟨0x3800100, 0, 0, 36, 4, .ro, .loaded, 0, .plain, .free⟩
def MGT_SITE_PRESENT_GUEST : Fld := ⟨0x3800100, 0, 0, 40, 2, .ro, .loaded, 0, .plain, .free⟩
def MGT_SITE_PRESENT_HUB : Fld := ⟨0x3800100, 0, 0, 42, 2, .ro, .loaded, 0, .plain, .free⟩

/-! MSI-X, BAR2 + 0x4_0000 (R302, R331): 65 entries and the pending bits; the fields and their reset values are PCI Express's (PRESUMED, log entry 25). -/

def MSIX_ADDR_LO : Fld := ⟨0x4040000, 0x10, 0, 0, 32, .rw, .val, 0, .plain, .free⟩
def MSIX_ADDR_HI : Fld := ⟨0x4040004, 0x10, 0, 0, 32, .rw, .val, 0, .plain, .free⟩
def MSIX_DATA : Fld := ⟨0x4040008, 0x10, 0, 0, 32, .rw, .val, 0, .plain, .free⟩
def MSIX_MASK : Fld := ⟨0x404000C, 0x10, 0, 0, 1, .rw, .val, 1, .plain, .free⟩
def MSIX_PENDING : Fld := ⟨0x4041000, 0x4, 0, 0, 32, .ro, .val, 0, .plain, .free⟩

end Sys2Proof.Machine.F
end

