-- ==== Sys2Proof/Machine/RegMap.lean ====
section
/-! DEFINITION. The BAR0 register map (R302): every register of the part with its place, its width, whether a write
of it is configuration-class (R488), and its fields. An offset no register covers is unmapped (R8). BAR2's MSI-X table follows behind BAR0's 64 MiB,
BAR2's offset `o` at 0x400_0000 + `o` (DESIGN CHOICE, log entry 25). -/

namespace Sys2Proof.Machine

/-- DLR block (R309). -/
def regsDLR : List Reg :=
  [
   ⟨"DLR_STAT", 0x0, 1, 0x0, 1, 0x0, false, false, .dev,
    [F.DLR_STAT_LINK_UP, F.DLR_STAT_DECKS_ON, F.DLR_STAT_HWIN_PENDING]⟩,
   ⟨"DLR_ACCEPTED", 0x8, 1, 0x0, 1, 0x0, true, false, .dev,
    [F.DLR_ACCEPTED]⟩,
   ⟨"DLR_REJECTED", 0x10, 1, 0x0, 1, 0x0, false, false, .dev,
    [F.DLR_REJECTED]⟩,
   ⟨"DLR_HWIN_BASE", 0x20, 1, 0x0, 1, 0x0, true, true, .dev,
    [F.DLR_HWIN_BASE]⟩,
   ⟨"DLR_HWIN_SIZE", 0x28, 1, 0x0, 1, 0x0, true, true, .dev,
    [F.DLR_HWIN_SIZE_GIB]⟩]

/-- DECK block (R310). -/
def regsDECK : List Reg :=
  [
   ⟨"DLR_DECK_SQBASE", 0x1000, 64, 0x40, 1, 0x0, true, false, .dev,
    [F.DLR_DECK_SQBASE]⟩,
   ⟨"DLR_DECK_CQBASE", 0x1008, 64, 0x40, 1, 0x0, true, false, .dev,
    [F.DLR_DECK_CQBASE]⟩,
   ⟨"DLR_DECK_HRBASE", 0x1010, 64, 0x40, 1, 0x0, true, false, .dev,
    [F.DLR_DECK_HRBASE]⟩,
   ⟨"DLR_DECK_CFG", 0x1018, 64, 0x40, 1, 0x0, false, false, .dev,
    [F.DLR_DECK_CFG_ENABLE, F.DLR_DECK_CFG_SQ_LOG2, F.DLR_DECK_CFG_CQ_LOG2, F.DLR_DECK_CFG_WEIGHT, F.DLR_DECK_CFG_IRQ_COUNT, F.DLR_DECK_CFG_IRQ_TIME_US]⟩,
   ⟨"DLR_DECK_STAT", 0x101C, 64, 0x40, 1, 0x0, false, false, .dev,
    [F.DLR_DECK_STAT_SQ_HEAD, F.DLR_DECK_STAT_STATE, F.DLR_DECK_STAT_ERR, F.DLR_DECK_STAT_PART, F.DLR_DECK_STAT_CQ_HELD]⟩,
   ⟨"DLR_DECK_CQ", 0x1020, 64, 0x40, 1, 0x0, false, false, .dev,
    [F.DLR_DECK_CQ_CQ_TAIL, F.DLR_DECK_CQ_PHASE]⟩,
   ⟨"DLR_DECK_OUT", 0x1024, 64, 0x40, 1, 0x0, false, false, .dev,
    [F.DLR_DECK_OUT_OUTSTANDING]⟩,
   ⟨"DLR_DECK_ACC", 0x1028, 64, 0x40, 1, 0x0, true, false, .dev,
    [F.DLR_DECK_ACC]⟩,
   ⟨"DLR_DECK_REJ", 0x1030, 64, 0x40, 1, 0x0, false, false, .dev,
    [F.DLR_DECK_REJ]⟩,
   ⟨"DLR_DECK_IGN", 0x1034, 64, 0x40, 1, 0x0, false, false, .dev,
    [F.DLR_DECK_IGN]⟩]

/-- EVF block (R337). -/
def regsEVF : List Reg :=
  [
   ⟨"EVF_DATA", 0x10000, 1, 0x0, 1, 0x0, true, false, .dev,
    [F.EVF_DATA]⟩,
   ⟨"EVF_STAT", 0x10008, 1, 0x0, 1, 0x0, false, false, .dev,
    [F.EVF_STAT_COUNT, F.EVF_STAT_EMPTY, F.EVF_STAT_UNDERRUN, F.EVF_STAT_FLUSHING, F.EVF_STAT_PARITY]⟩,
   ⟨"EVF_CTRL", 0x1000C, 1, 0x0, 1, 0x0, false, false, .dev,
    [F.EVF_CTRL_FLUSH, F.EVF_CTRL_IRQ_EN]⟩,
   ⟨"EVF_DROP", 0x10010, 1, 0x0, 1, 0x0, false, false, .dev,
    [F.EVF_DROP]⟩,
   ⟨"EVF_FLUSHED", 0x10014, 1, 0x0, 1, 0x0, false, false, .dev,
    [F.EVF_FLUSHED]⟩]

/-- TAL block (R371). -/
def regsTAL : List Reg :=
  [
   ⟨"TAL_CTRL", 0x20000, 1, 0x0, 1, 0x0, false, false, .dev,
    [F.TAL_CTRL_RECOVER, F.TAL_CTRL_HOLD]⟩,
   ⟨"TAL_STAT", 0x20004, 1, 0x0, 1, 0x0, false, false, .dev,
    [F.TAL_STAT_FULL, F.TAL_STAT_MIRROR_ERR, F.TAL_STAT_RECOVERY, F.TAL_STAT_REC_ERR, F.TAL_STAT_DEALER_HUB, F.TAL_STAT_STANDBY_OK, F.TAL_STAT_WAIT_TABLE, F.TAL_STAT_LINK_WAIT, F.TAL_STAT_IGN]⟩,
   ⟨"TAL_MIRROR_BASE", 0x20008, 1, 0x0, 1, 0x0, true, true, .dev,
    [F.TAL_MIRROR_BASE]⟩,
   ⟨"TAL_HEAD_SEQ", 0x20010, 1, 0x0, 1, 0x0, true, false, .dev,
    [F.TAL_HEAD_SEQ]⟩,
   ⟨"TAL_NEXT_SEQ", 0x20018, 1, 0x0, 1, 0x0, true, false, .dev,
    [F.TAL_NEXT_SEQ]⟩,
   ⟨"TAL_WIN_SEL", 0x20020, 1, 0x0, 1, 0x0, true, false, .dev,
    [F.TAL_WIN_SEL]⟩,
   ⟨"TAL_TAKEOVERS", 0x20028, 1, 0x0, 1, 0x0, false, false, .dev,
    [F.TAL_TAKEOVERS]⟩,
   ⟨"TAL_REPLAYS", 0x2002C, 1, 0x0, 1, 0x0, false, false, .dev,
    [F.TAL_REPLAYS]⟩,
   ⟨"TAL_WIN_ENTRY", 0x20040, 4, 0x8, 1, 0x0, true, false, .dev,
    [F.TAL_WIN_ENTRY]⟩,
   ⟨"TAL_WIN_CPL", 0x20060, 4, 0x8, 1, 0x0, true, false, .dev,
    [F.TAL_WIN_CPL]⟩,
   ⟨"TAL_WIN_CARD", 0x20080, 8, 0x8, 1, 0x0, true, false, .dev,
    [F.TAL_WIN_CARD]⟩,
   ⟨"TAL_RECOVER_HEAD", 0x20100, 64, 0x8, 1, 0x0, true, false, .dev,
    [F.TAL_RECOVER_HEAD]⟩,
   ⟨"TAL_RECOVER_SLOT", 0x20400, 64, 0x8, 1, 0x0, true, false, .dev,
    [F.TAL_RECOVER_SLOT_NEXT_SLOT, F.TAL_RECOVER_SLOT_VALID]⟩]

/-- HND block (R372). -/
def regsHND : List Reg :=
  [
   ⟨"HND_STAT", 0x30000, 1, 0x0, 1, 0x0, false, false, .dev,
    [F.HND_STAT_INFLIGHT, F.HND_STAT_POOL_ERR, F.HND_STAT_IGN, F.HND_STAT_SLOTS_FREE]⟩,
   ⟨"HND_POOL", 0x30100, 12, 0x8, 1, 0x0, true, true, .dev,
    [F.HND_POOL_BASE_GIB, F.HND_POOL_SIZE_GIB]⟩,
   ⟨"HND_POOL_FREE", 0x30180, 12, 0x8, 1, 0x0, true, false, .dev,
    [F.HND_POOL_FREE_MIB, F.HND_POOL_FREE_REDIR]⟩,
   ⟨"HND_HAND0", 0x30200, 32, 0x20, 1, 0x0, true, false, .dev,
    [F.HND_HAND0_ID, F.HND_HAND0_STATE, F.HND_HAND0_RESERVED_MIB]⟩,
   ⟨"HND_HAND1", 0x30208, 32, 0x20, 1, 0x0, true, false, .dev,
    [F.HND_HAND1_USED_MIB, F.HND_HAND1_ROWS]⟩,
   ⟨"HND_HAND2", 0x30210, 32, 0x20, 1, 0x0, true, false, .dev,
    [F.HND_HAND2_COMMIT_TRANSIT]⟩,
   ⟨"HND_HAND3", 0x30218, 32, 0x20, 1, 0x0, true, false, .dev,
    [F.HND_HAND3_WB_LEFT]⟩]

/-- SKY block (R76). -/
def regsSKY : List Reg :=
  [
   ⟨"SKY_STN_CTRL", 0x1000000, 44, 0x10000, 1, 0x0, false, false, .stn,
    [F.SKY_STN_CTRL_FREEZE, F.SKY_STN_CTRL_CLEAR]⟩,
   ⟨"SKY_STN_STATUS", 0x1000004, 44, 0x10000, 1, 0x0, false, false, .stn,
    [F.SKY_STN_STATUS_GEN, F.SKY_STN_STATUS_STATE, F.SKY_STN_STATUS_SITE, F.SKY_STN_STATUS_PART, F.SKY_STN_STATUS_POS]⟩,
   ⟨"SKY_STN_CAPS", 0x1000008, 44, 0x10000, 1, 0x0, false, false, .stn,
    [F.SKY_STN_CAPS_TX_ORB, F.SKY_STN_CAPS_RX_ORB, F.SKY_STN_CAPS_TX_TOT, F.SKY_STN_CAPS_RX_TOT]⟩,
   ⟨"SKY_QDEPTH", 0x1000100, 44, 0x10000, 6, 0x4, false, false, .stn,
    [F.SKY_QDEPTH_NOW, F.SKY_QDEPTH_MAX]⟩,
   ⟨"SKY_STALL", 0x1000200, 44, 0x10000, 4, 0x8, true, false, .stn,
    [F.SKY_STALL_CYCLES]⟩,
   ⟨"SKY_INJ_PKT", 0x1000300, 44, 0x10000, 1, 0x0, true, false, .stn,
    [F.SKY_INJ_PKT]⟩,
   ⟨"SKY_INJ_BYTE", 0x1000308, 44, 0x10000, 1, 0x0, true, false, .stn,
    [F.SKY_INJ_BYTE]⟩,
   ⟨"SKY_EJ_PKT", 0x1000310, 44, 0x10000, 1, 0x0, true, false, .stn,
    [F.SKY_EJ_PKT]⟩,
   ⟨"SKY_EJ_BYTE", 0x1000318, 44, 0x10000, 1, 0x0, true, false, .stn,
    [F.SKY_EJ_BYTE]⟩,
   ⟨"SKY_RIN_PKT", 0x1000320, 44, 0x10000, 1, 0x0, true, false, .stn,
    [F.SKY_RIN_PKT]⟩,
   ⟨"SKY_RIN_BYTE", 0x1000328, 44, 0x10000, 1, 0x0, true, false, .stn,
    [F.SKY_RIN_BYTE]⟩,
   ⟨"SKY_ROUT_PKT", 0x1000330, 44, 0x10000, 1, 0x0, true, false, .stn,
    [F.SKY_ROUT_PKT]⟩,
   ⟨"SKY_ROUT_BYTE", 0x1000338, 44, 0x10000, 1, 0x0, true, false, .stn,
    [F.SKY_ROUT_BYTE]⟩,
   ⟨"SKY_DEFL1", 0x1000400, 44, 0x10000, 1, 0x0, true, false, .stn,
    [F.SKY_DEFL1]⟩,
   ⟨"SKY_DEFL2", 0x1000408, 44, 0x10000, 1, 0x0, true, false, .stn,
    [F.SKY_DEFL2]⟩,
   ⟨"SKY_LIMIT", 0x1000410, 44, 0x10000, 1, 0x0, true, false, .stn,
    [F.SKY_LIMIT]⟩,
   ⟨"SKY_HDR_CRC", 0x1000500, 44, 0x10000, 1, 0x0, false, false, .stn,
    [F.SKY_HDR_CRC]⟩,
   ⟨"SKY_PAY_CRC", 0x1000504, 44, 0x10000, 1, 0x0, false, false, .stn,
    [F.SKY_PAY_CRC]⟩,
   ⟨"SKY_BAD_SITE", 0x1000508, 44, 0x10000, 1, 0x0, false, false, .stn,
    [F.SKY_BAD_SITE]⟩,
   ⟨"SKY_BAD_FMT", 0x100050C, 44, 0x10000, 1, 0x0, false, false, .stn,
    [F.SKY_BAD_FMT]⟩,
   ⟨"SKY_PART", 0x1000510, 44, 0x10000, 1, 0x0, false, false, .stn,
    [F.SKY_PART]⟩,
   ⟨"SKY_DECODE_REJ", 0x1000514, 44, 0x10000, 1, 0x0, false, false, .stn,
    [F.SKY_DECODE_REJ]⟩,
   ⟨"SKY_RELAY_DROP", 0x1000518, 44, 0x10000, 1, 0x0, false, false, .stn,
    [F.SKY_RELAY_DROP]⟩,
   ⟨"SKY_DIE_DOWN_REJ", 0x100051C, 44, 0x10000, 1, 0x0, false, false, .stn,
    [F.SKY_DIE_DOWN_REJ]⟩,
   ⟨"SKY_BOUND_MISS", 0x1000520, 44, 0x10000, 4, 0x4, false, false, .stn,
    [F.SKY_BOUND_MISS]⟩,
   ⟨"SKY_TXMAP", 0x1001000, 44, 0x10000, 384, 0x4, false, false, .stn,
    [F.SKY_TXMAP_ORBIT, F.SKY_TXMAP_WG, F.SKY_TXMAP_LAMBDA, F.SKY_TXMAP_PEER, F.SKY_TXMAP_STATE, F.SKY_TXMAP_ALLPAIRS]⟩,
   ⟨"SKY_RXMAP", 0x1001800, 44, 0x10000, 384, 0x4, false, false, .stn,
    [F.SKY_RXMAP_ORBIT, F.SKY_RXMAP_WG, F.SKY_RXMAP_LAMBDA, F.SKY_RXMAP_PEER, F.SKY_RXMAP_STATE, F.SKY_RXMAP_ALLPAIRS]⟩,
   ⟨"SKY_TXCNT_PKT", 0x1002000, 44, 0x10000, 384, 0x10, true, false, .stn,
    [F.SKY_TXCNT_PKT]⟩,
   ⟨"SKY_TXCNT_BYTE", 0x1002008, 44, 0x10000, 384, 0x10, true, false, .stn,
    [F.SKY_TXCNT_BYTE]⟩,
   ⟨"SKY_RXCNT_PKT", 0x1004000, 44, 0x10000, 384, 0x10, true, false, .stn,
    [F.SKY_RXCNT_PKT]⟩,
   ⟨"SKY_RXCNT_BYTE", 0x1004008, 44, 0x10000, 384, 0x10, true, false, .stn,
    [F.SKY_RXCNT_BYTE]⟩]

/-- SKYG block (R74). -/
def regsSKYG : List Reg :=
  [
   ⟨"SKY_DIST_COST", 0x1400000, 4, 0x4, 1, 0x0, false, false, .dev,
    [F.SKY_DIST_COST_LAT, F.SKY_DIST_COST_BW]⟩,
   ⟨"SKY_DIST_ROW", 0x1400100, 64, 0x10, 2, 0x8, true, false, .dev,
    [F.SKY_DIST_ROW]⟩,
   ⟨"SKY_BAR_STAT", 0x1401000, 32, 0x8, 1, 0x0, true, false, .dev,
    [F.SKY_BAR_STAT_ARRIVED, F.SKY_BAR_STAT_ABORTED, F.SKY_BAR_STAT_ROUNDS]⟩]

/-- DLV block (R102). -/
def regsDLV : List Reg :=
  [
   ⟨"SKY_DLV_STAT", 0x1500000, 44, 0x1000, 1, 0x0, false, false, .stn,
    [F.SKY_DLV_STAT_HELD_NOW, F.SKY_DLV_STAT_HELD_MAX, F.SKY_DLV_STAT_FENCES]⟩,
   ⟨"SKY_DLV_DIE", 0x1500004, 44, 0x1000, 1, 0x0, false, false, .stn,
    [F.SKY_DLV_DIE_DIE_GEN, F.SKY_DLV_DIE_DIE_DOWN]⟩,
   ⟨"SKY_DLV_RESTART", 0x1500008, 44, 0x1000, 1, 0x0, false, false, .stn,
    [F.SKY_DLV_RESTART_SITE_A, F.SKY_DLV_RESTART_SITE_B, F.SKY_DLV_RESTART_SCOPE, F.SKY_DLV_RESTART_NEW_GEN]⟩,
   ⟨"SKY_DLV_RESTAT", 0x150000C, 44, 0x1000, 1, 0x0, false, false, .stn,
    [F.SKY_DLV_RESTAT_DONE]⟩,
   ⟨"SKY_DLV_EJECT", 0x1500010, 44, 0x1000, 1, 0x0, false, false, .stn,
    [F.SKY_DLV_EJECT_CLOSED]⟩,
   ⟨"SKY_DUP", 0x1500040, 44, 0x1000, 1, 0x0, false, false, .stn,
    [F.SKY_DUP]⟩,
   ⟨"SKY_STALE_GEN", 0x1500044, 44, 0x1000, 1, 0x0, false, false, .stn,
    [F.SKY_STALE_GEN]⟩,
   ⟨"SKY_WINDOW", 0x1500048, 44, 0x1000, 1, 0x0, false, false, .stn,
    [F.SKY_WINDOW]⟩,
   ⟨"SKY_REORDER_FULL", 0x150004C, 44, 0x1000, 1, 0x0, false, false, .stn,
    [F.SKY_REORDER_FULL]⟩,
   ⟨"SKY_LATE_GEN", 0x1500050, 44, 0x1000, 1, 0x0, false, false, .stn,
    [F.SKY_LATE_GEN]⟩,
   ⟨"SKY_RETX_LIMIT", 0x1500054, 44, 0x1000, 1, 0x0, false, false, .stn,
    [F.SKY_RETX_LIMIT]⟩,
   ⟨"SKY_REFUSED", 0x1500058, 44, 0x1000, 1, 0x0, false, false, .stn,
    [F.SKY_REFUSED]⟩,
   ⟨"SKY_CLOSED", 0x150005C, 44, 0x1000, 1, 0x0, false, false, .stn,
    [F.SKY_CLOSED]⟩,
   ⟨"SKY_RETX", 0x1500060, 44, 0x1000, 1, 0x0, true, false, .stn,
    [F.SKY_RETX]⟩,
   ⟨"SKY_ABORTED", 0x1500068, 44, 0x1000, 1, 0x0, true, false, .stn,
    [F.SKY_ABORTED]⟩,
   ⟨"SKY_ACK_TX", 0x1500070, 44, 0x1000, 1, 0x0, true, false, .stn,
    [F.SKY_ACK_TX]⟩,
   ⟨"SKY_FENCE_DONE", 0x1500078, 44, 0x1000, 1, 0x0, true, false, .stn,
    [F.SKY_FENCE_DONE]⟩,
   ⟨"SKY_DLV_PEER_TX", 0x1500100, 44, 0x1000, 64, 0x10, true, false, .stn,
    [F.SKY_DLV_PEER_TX_TX_NEXT, F.SKY_DLV_PEER_TX_TX_OUT, F.SKY_DLV_PEER_TX_TX_CUM]⟩,
   ⟨"SKY_DLV_PEER_RX", 0x1500108, 44, 0x1000, 64, 0x10, true, false, .stn,
    [F.SKY_DLV_PEER_RX_RX_CUM, F.SKY_DLV_PEER_RX_RX_GEN, F.SKY_DLV_PEER_RX_RX_HELD]⟩]

/-- TWK block (R136). -/
def regsTWK : List Reg :=
  [
   ⟨"TWK_CTRL", 0x1600000, 1, 0x0, 1, 0x0, false, true, .dev,
    [F.TWK_CTRL_FAILMODE, F.TWK_CTRL_COMMISSION, F.TWK_CTRL_SWAP_GO, F.TWK_CTRL_SWAP_FEED]⟩,
   ⟨"TWK_STAT", 0x1600004, 1, 0x0, 1, 0x0, false, false, .dev,
    [F.TWK_STAT_INTLK, F.TWK_STAT_SPARES, F.TWK_STAT_LIGHT, F.TWK_STAT_START_ERR, F.TWK_STAT_ERR_SLOT]⟩,
   ⟨"TWK_LOC", 0x1600010, 1, 0x0, 1, 0x0, true, false, .dev,
    [F.TWK_LOC_SITE, F.TWK_LOC_PEER, F.TWK_LOC_ORBIT, F.TWK_LOC_WG, F.TWK_LOC_LAMBDA, F.TWK_LOC_STAGE, F.TWK_LOC_STAGE_SITE, F.TWK_LOC_LOSS, F.TWK_LOC_DROPPED, F.TWK_LOC_NEW]⟩,
   ⟨"TWK_ELS", 0x1600100, 8, 0x8, 1, 0x0, true, false, .dev,
    [F.TWK_ELS_PRESENT, F.TWK_ELS_EN, F.TWK_ELS_LOCAL_INTLK, F.TWK_ELS_GRID_LOCK, F.TWK_ELS_ROLE, F.TWK_ELS_FEED, F.TWK_ELS_CASE_T, F.TWK_ELS_OUT_PWR, F.TWK_ELS_TAP]⟩,
   ⟨"TWK_FEED", 0x1600200, 6, 0x8, 1, 0x0, true, false, .dev,
    [F.TWK_FEED_SLOT, F.TWK_FEED_STATE, F.TWK_FEED_FADE, F.TWK_FEED_SLOPE, F.TWK_FEED_SWAPS]⟩]

/-- TWKS block (R137). -/
def regsTWKS : List Reg :=
  [
   ⟨"TWK_SITE_STAT", 0x1700000, 44, 0x2000, 1, 0x0, true, false, .site,
    [F.TWK_SITE_STAT_ACTIVE, F.TWK_SITE_STAT_IDCHECK, F.TWK_SITE_STAT_FAILED, F.TWK_SITE_STAT_POPULATED]⟩,
   ⟨"TWK_LOCKLOSS", 0x1700010, 44, 0x2000, 1, 0x0, false, false, .site,
    [F.TWK_LOCKLOSS]⟩,
   ⟨"TWK_RELOCK", 0x1700014, 44, 0x2000, 1, 0x0, false, false, .site,
    [F.TWK_RELOCK]⟩,
   ⟨"TWK_ALIAS", 0x1700018, 44, 0x2000, 1, 0x0, false, false, .site,
    [F.TWK_ALIAS]⟩,
   ⟨"TWK_ALIAS_FAIL", 0x170001C, 44, 0x2000, 1, 0x0, false, false, .site,
    [F.TWK_ALIAS_FAIL]⟩,
   ⟨"TWK_RANGE_END", 0x1700020, 44, 0x2000, 1, 0x0, false, false, .site,
    [F.TWK_RANGE_END]⟩,
   ⟨"TWK_ID_RECHECK_FAIL", 0x1700024, 44, 0x2000, 1, 0x0, false, false, .site,
    [F.TWK_ID_RECHECK_FAIL]⟩,
   ⟨"TWK_HEATER_FAULT", 0x1700028, 44, 0x2000, 1, 0x0, false, false, .site,
    [F.TWK_HEATER_FAULT]⟩,
   ⟨"TWK_DROPS", 0x170002C, 44, 0x2000, 1, 0x0, false, false, .site,
    [F.TWK_DROPS]⟩,
   ⟨"TWK_RING", 0x1701000, 44, 0x2000, 1024, 0x4, false, false, .site,
    [F.TWK_RING_HEATER, F.TWK_RING_LAMBDA, F.TWK_RING_STATE, F.TWK_RING_ALIASES]⟩]

/-- OMU block (R165). -/
def regsOMU : List Reg :=
  [
   ⟨"OMU_TILE_CTRL", 0x1800000, 24, 0x1000, 1, 0x0, false, false, .site,
    [F.OMU_TILE_CTRL_HALT, F.OMU_TILE_CTRL_PILOT_NOW]⟩,
   ⟨"OMU_TILE_STAT", 0x1800004, 24, 0x1000, 1, 0x0, false, false, .site,
    [F.OMU_TILE_STAT_READY, F.OMU_TILE_STAT_DOWN, F.OMU_TILE_STAT_HALTED]⟩,
   ⟨"OMU_PQ_BASE", 0x1800008, 24, 0x1000, 1, 0x0, false, false, .site,
    [F.OMU_PQ_BASE]⟩,
   ⟨"OMU_PQ_HEAD", 0x180000C, 24, 0x1000, 1, 0x0, false, false, .site,
    [F.OMU_PQ_HEAD]⟩,
   ⟨"OMU_PQ_TAIL", 0x1800010, 24, 0x1000, 1, 0x0, false, false, .site,
    [F.OMU_PQ_TAIL]⟩,
   ⟨"OMU_PILOT_CFG", 0x1800014, 24, 0x1000, 1, 0x0, false, false, .site,
    [F.OMU_PILOT_CFG_EVERY]⟩,
   ⟨"OMU_FALLBACK", 0x1800020, 24, 0x1000, 1, 0x0, false, false, .site,
    [F.OMU_FALLBACK]⟩,
   ⟨"OMU_TEMP_REFUSE", 0x1800024, 24, 0x1000, 1, 0x0, false, false, .site,
    [F.OMU_TEMP_REFUSE]⟩,
   ⟨"OMU_BAD_DESC", 0x1800028, 24, 0x1000, 1, 0x0, false, false, .site,
    [F.OMU_BAD_DESC]⟩,
   ⟨"OMU_W_CLAMP", 0x180002C, 24, 0x1000, 1, 0x0, false, false, .site,
    [F.OMU_W_CLAMP]⟩,
   ⟨"OMU_PILOT_SKIP", 0x1800030, 24, 0x1000, 1, 0x0, false, false, .site,
    [F.OMU_PILOT_SKIP]⟩,
   ⟨"OMU_STAT", 0x1800100, 24, 0x1000, 4, 0x80, true, false, .site,
    [F.OMU_STAT_STATE, F.OMU_STAT_STALE, F.OMU_STAT_TEMP_OK, F.OMU_STAT_CLASS, F.OMU_STAT_DOWN_INPUT, F.OMU_STAT_LEFT]⟩,
   ⟨"OMU_LOADED", 0x1800108, 24, 0x1000, 4, 0x80, true, false, .site,
    [F.OMU_LOADED_WBLOCK, F.OMU_LOADED_VALID, F.OMU_LOADED_BLOCK_ID]⟩,
   ⟨"OMU_PILOT", 0x1800110, 24, 0x1000, 4, 0x80, true, false, .site,
    [F.OMU_PILOT_LAST, F.OMU_PILOT_PHASE]⟩,
   ⟨"OMU_GAIN", 0x1800118, 24, 0x1000, 4, 0x80, false, false, .site,
    [F.OMU_GAIN_TRIM]⟩,
   ⟨"OMU_VEC", 0x1800120, 24, 0x1000, 4, 0x80, true, false, .site,
    [F.OMU_VEC]⟩,
   ⟨"OMU_PASS", 0x1800128, 24, 0x1000, 4, 0x80, true, false, .site,
    [F.OMU_PASS]⟩,
   ⟨"OMU_LOAD", 0x1800130, 24, 0x1000, 4, 0x80, true, false, .site,
    [F.OMU_LOAD]⟩,
   ⟨"OMU_SAT", 0x1800138, 24, 0x1000, 4, 0x80, false, false, .site,
    [F.OMU_SAT]⟩,
   ⟨"OMU_RERUN", 0x180013C, 24, 0x1000, 4, 0x80, false, false, .site,
    [F.OMU_RERUN]⟩,
   ⟨"OMU_GUARD_DELAY", 0x1800140, 24, 0x1000, 4, 0x80, false, false, .site,
    [F.OMU_GUARD_DELAY]⟩,
   ⟨"OMU_SENTINEL", 0x1800144, 24, 0x1000, 4, 0x80, false, false, .site,
    [F.OMU_SENTINEL]⟩]

/-- CAL block (R184). -/
def regsCAL : List Reg :=
  [
   ⟨"OMU_CAL_CTRL", 0x1900000, 1, 0x0, 1, 0x0, false, true, .dev,
    [F.OMU_CAL_CTRL_STALE_OUT]⟩,
   ⟨"OMU_CAL_STAT", 0x1900004, 1, 0x0, 1, 0x0, false, false, .dev,
    [F.OMU_CAL_STAT_STALE, F.OMU_CAL_STAT_FAILING, F.OMU_CAL_STAT_UNCAL]⟩,
   ⟨"OMU_CAL_COUNT", 0x1901000, 96, 0x40, 1, 0x0, true, false, .dev,
    [F.OMU_CAL_COUNT_PILOTS, F.OMU_CAL_COUNT_FULL, F.OMU_CAL_COUNT_VERIFY_FAIL]⟩,
   ⟨"OMU_CAL_TIME", 0x1901008, 96, 0x40, 1, 0x0, true, false, .dev,
    [F.OMU_CAL_TIME_LAST]⟩,
   ⟨"OMU_CAL_RESID", 0x1901010, 96, 0x40, 1, 0x0, true, false, .dev,
    [F.OMU_CAL_RESID_FAST, F.OMU_CAL_RESID_FINE, F.OMU_CAL_RESID_GAIN, F.OMU_CAL_RESID_OFFSET, F.OMU_CAL_RESID_TEMP, F.OMU_CAL_RESID_VALID]⟩,
   ⟨"OMU_CAL_DT", 0x1901018, 96, 0x40, 1, 0x0, false, false, .dev,
    [F.OMU_CAL_DT_DT, F.OMU_CAL_DT_DT_PILOTS]⟩,
   ⟨"OMU_CAL_OFFTAB", 0x190101C, 96, 0x40, 1, 0x0, false, false, .dev,
    [F.OMU_CAL_OFFTAB_BASE]⟩]

/-- CMP block (R224). -/
def regsCMP : List Reg :=
  [
   ⟨"CMP_STAT", 0x1A00000, 24, 0x1000, 1, 0x0, false, false, .tile,
    [F.CMP_STAT_STEP, F.CMP_STAT_CEIL, F.CMP_STAT_SEL_BUSY, F.CMP_STAT_RUNNING]⟩,
   ⟨"CMP_OPS", 0x1A00008, 24, 0x1000, 1, 0x0, true, false, .tile,
    [F.CMP_OPS]⟩,
   ⟨"CMP_TOPK_SCORES", 0x1A00010, 24, 0x1000, 1, 0x0, true, false, .tile,
    [F.CMP_TOPK_SCORES]⟩,
   ⟨"CMP_SAT_KEPT", 0x1A00020, 24, 0x1000, 1, 0x0, false, false, .tile,
    [F.CMP_SAT_KEPT]⟩,
   ⟨"CMP_SAT_RECOMP", 0x1A00024, 24, 0x1000, 1, 0x0, false, false, .tile,
    [F.CMP_SAT_RECOMP]⟩,
   ⟨"CMP_NAN", 0x1A00028, 24, 0x1000, 1, 0x0, false, false, .tile,
    [F.CMP_NAN]⟩,
   ⟨"CMP_EMPTY", 0x1A0002C, 24, 0x1000, 1, 0x0, false, false, .tile,
    [F.CMP_EMPTY]⟩,
   ⟨"CMP_SHORT", 0x1A00030, 24, 0x1000, 1, 0x0, false, false, .tile,
    [F.CMP_SHORT]⟩,
   ⟨"CMP_POISON", 0x1A00034, 24, 0x1000, 1, 0x0, false, false, .tile,
    [F.CMP_POISON]⟩]

/-- MBD block (R256). -/
def regsMBD : List Reg :=
  [
   ⟨"MBD_STAT", 0x1B00000, 12, 0x1000, 1, 0x0, false, false, .mbd,
    [F.MBD_STAT_STATE, F.MBD_STAT_SWEEP_ON, F.MBD_STAT_JOBS_NOW]⟩,
   ⟨"MBD_UE_LOG", 0x1B00008, 12, 0x1000, 1, 0x0, true, false, .mbd,
    [F.MBD_UE_LOG_DPA, F.MBD_UE_LOG_SOURCE, F.MBD_UE_LOG_VALID]⟩,
   ⟨"MBD_SWEEP", 0x1B00010, 12, 0x1000, 1, 0x0, true, false, .mbd,
    [F.MBD_SWEEP_POS, F.MBD_SWEEP_CYCLES]⟩,
   ⟨"MBD_REPAIR", 0x1B00018, 12, 0x1000, 1, 0x0, false, false, .mbd,
    [F.MBD_REPAIR_USED, F.MBD_REPAIR_FREE, F.MBD_REPAIR_EXHAUSTED]⟩,
   ⟨"MBD_CE", 0x1B00040, 12, 0x1000, 1, 0x0, false, false, .mbd,
    [F.MBD_CE]⟩,
   ⟨"MBD_UE", 0x1B00044, 12, 0x1000, 1, 0x0, false, false, .mbd,
    [F.MBD_UE]⟩,
   ⟨"MBD_MIRROR_FIX", 0x1B00048, 12, 0x1000, 1, 0x0, false, false, .mbd,
    [F.MBD_MIRROR_FIX]⟩,
   ⟨"MBD_PARTIAL_POISON", 0x1B0004C, 12, 0x1000, 1, 0x0, false, false, .mbd,
    [F.MBD_PARTIAL_POISON]⟩,
   ⟨"MBD_ODECC", 0x1B00050, 12, 0x1000, 1, 0x0, false, false, .mbd,
    [F.MBD_ODECC]⟩,
   ⟨"MBD_SWEEP_YIELD", 0x1B00054, 12, 0x1000, 1, 0x0, false, false, .mbd,
    [F.MBD_SWEEP_YIELD]⟩,
   ⟨"MBD_HDM_DROP", 0x1B00058, 12, 0x1000, 1, 0x0, false, false, .mbd,
    [F.MBD_HDM_DROP]⟩,
   ⟨"MBD_REPAIR_FAIL", 0x1B0005C, 12, 0x1000, 1, 0x0, false, false, .mbd,
    [F.MBD_REPAIR_FAIL]⟩,
   ⟨"MBD_JOBS", 0x1B00080, 12, 0x1000, 1, 0x0, true, false, .mbd,
    [F.MBD_JOBS]⟩,
   ⟨"MBD_BAGS", 0x1B00088, 12, 0x1000, 1, 0x0, true, false, .mbd,
    [F.MBD_BAGS]⟩,
   ⟨"MBD_ROWS", 0x1B00090, 12, 0x1000, 1, 0x0, true, false, .mbd,
    [F.MBD_ROWS]⟩,
   ⟨"MBD_GRANULES", 0x1B00098, 12, 0x1000, 1, 0x0, true, false, .mbd,
    [F.MBD_GRANULES]⟩,
   ⟨"MBD_OOB", 0x1B000C0, 12, 0x1000, 1, 0x0, false, false, .mbd,
    [F.MBD_OOB]⟩,
   ⟨"MBD_EMPTY_BAG", 0x1B000C4, 12, 0x1000, 1, 0x0, false, false, .mbd,
    [F.MBD_EMPTY_BAG]⟩,
   ⟨"MBD_BUSY", 0x1B000C8, 12, 0x1000, 1, 0x0, false, false, .mbd,
    [F.MBD_BUSY]⟩,
   ⟨"MBD_BAG_FMT", 0x1B000CC, 12, 0x1000, 1, 0x0, false, false, .mbd,
    [F.MBD_BAG_FMT]⟩]

/-- CCH block (R257). -/
def regsCCH : List Reg :=
  [
   ⟨"CCH_CE", 0x1B10000, 24, 0x100, 1, 0x0, false, false, .tile,
    [F.CCH_CE]⟩,
   ⟨"CCH_UE", 0x1B10004, 24, 0x100, 1, 0x0, false, false, .tile,
    [F.CCH_UE]⟩,
   ⟨"CCH_SWEEP_POS", 0x1B10008, 24, 0x100, 1, 0x0, false, false, .tile,
    [F.CCH_SWEEP_POS]⟩,
   ⟨"CCH_UE_LOG", 0x1B10010, 24, 0x100, 1, 0x0, true, false, .tile,
    [F.CCH_UE_LOG_UE_DPA, F.CCH_UE_LOG_VALID]⟩]

/-- CHK block (R258). -/
def regsCHK : List Reg :=
  [
   ⟨"CHK_STAT", 0x1C00000, 2, 0x1000, 1, 0x0, false, false, .front,
    [F.CHK_STAT_BUSY_REJ, F.CHK_STAT_RUNNING]⟩,
   ⟨"CHK_START", 0x1C00100, 2, 0x1000, 8, 0x80, true, false, .front,
    [F.CHK_START]⟩,
   ⟨"CHK_LEN", 0x1C00108, 2, 0x1000, 8, 0x80, true, false, .front,
    [F.CHK_LEN]⟩,
   ⟨"CHK_CTRL", 0x1C00110, 2, 0x1000, 8, 0x80, false, false, .front,
    [F.CHK_CTRL_GO, F.CHK_CTRL_ABORT, F.CHK_CTRL_ALGO, F.CHK_CTRL_FOLD, F.CHK_CTRL_SEQ0]⟩,
   ⟨"CHK_STATUS", 0x1C00114, 2, 0x1000, 8, 0x80, false, false, .dev,
    [F.CHK_STATUS_STATE, F.CHK_STATUS_ERR, F.CHK_STATUS_VALID, F.CHK_STATUS_DONE]⟩,
   ⟨"CHK_POS", 0x1C00118, 2, 0x1000, 8, 0x80, true, false, .dev,
    [F.CHK_POS]⟩,
   ⟨"CHK_POISON", 0x1C00120, 2, 0x1000, 8, 0x80, true, false, .dev,
    [F.CHK_POISON_DPA]⟩,
   ⟨"CHK_RESULT0", 0x1C00140, 2, 0x1000, 8, 0x80, true, false, .dev,
    [F.CHK_RESULT0]⟩,
   ⟨"CHK_RESULT1", 0x1C00148, 2, 0x1000, 8, 0x80, true, false, .dev,
    [F.CHK_RESULT1]⟩,
   ⟨"CHK_RESULT2", 0x1C00150, 2, 0x1000, 8, 0x80, true, false, .dev,
    [F.CHK_RESULT2]⟩,
   ⟨"CHK_RESULT3", 0x1C00158, 2, 0x1000, 8, 0x80, true, false, .dev,
    [F.CHK_RESULT3]⟩]

/-- TRN block (R299). -/
def regsTRN : List Reg :=
  [
   ⟨"TRN_CTRL", 0x1D00000, 1, 0x0, 1, 0x0, false, false, .dev,
    [F.TRN_CTRL_FREEZE, F.TRN_CTRL_CLEAR]⟩,
   ⟨"TRN_STAT", 0x1D00004, 1, 0x0, 1, 0x0, false, false, .dev,
    [F.TRN_STAT_PHASE, F.TRN_STAT_STAGING, F.TRN_STAT_LATE, F.TRN_STAT_LATE64, F.TRN_STAT_SYNC, F.TRN_STAT_FRAME_ERR]⟩,
   ⟨"TRN_CFG", 0x1D00008, 1, 0x0, 1, 0x0, false, false, .dev,
    [F.TRN_CFG_PERIOD_US, F.TRN_CFG_QUIET_US, F.TRN_CFG_SETTLE_US, F.TRN_CFG_ROLE, F.TRN_CFG_SOURCE, F.TRN_CFG_STEP]⟩,
   ⟨"TRN_TIME", 0x1D00010, 1, 0x0, 1, 0x0, true, false, .dev,
    [F.TRN_TIME]⟩,
   ⟨"TRN_NUM", 0x1D00018, 1, 0x0, 1, 0x0, true, false, .dev,
    [F.TRN_NUM]⟩,
   ⟨"TRN_TSYNC", 0x1D00020, 1, 0x0, 1, 0x0, false, true, .dev,
    [F.TRN_TSYNC_DELAY_NS, F.TRN_TSYNC_OFFSET]⟩,
   ⟨"TRN_LATE", 0x1D00024, 1, 0x0, 1, 0x0, false, false, .dev,
    [F.TRN_LATE]⟩,
   ⟨"TRN_LATE_MAX", 0x1D00028, 1, 0x0, 1, 0x0, false, false, .dev,
    [F.TRN_LATE_MAX_NS]⟩,
   ⟨"TRN_SLACK", 0x1D00100, 24, 0x8, 1, 0x0, true, false, .dev,
    [F.TRN_SLACK_MIN_NS, F.TRN_SLACK_OVERRUNS, F.TRN_SLACK_STRETCH_NS]⟩]

/-- CHT block (R300). -/
def regsCHT : List Reg :=
  [
   ⟨"CHT_ACTIVE", 0x1D10000, 1, 0x0, 1, 0x0, false, false, .dev,
    [F.CHT_ACTIVE_SLOT, F.CHT_ACTIVE_VARIANT, F.CHT_ACTIVE_DEFAULT]⟩,
   ⟨"CHT_SWITCH", 0x1D10008, 1, 0x0, 1, 0x0, true, false, .dev,
    [F.CHT_SWITCH_STATE, F.CHT_SWITCH_POSTPONED, F.CHT_SWITCH_POSTPONE_TOTAL, F.CHT_SWITCH_LAST_ERR, F.CHT_SWITCH_AUTO, F.CHT_SWITCH_SWITCHES]⟩,
   ⟨"CHT_SLOT", 0x1D10020, 2, 0x20, 1, 0x0, true, false, .dev,
    [F.CHT_SLOT_STATE, F.CHT_SLOT_ERR, F.CHT_SLOT_SIGNED, F.CHT_SLOT_VARIANTS, F.CHT_SLOT_ERR_SECT, F.CHT_SLOT_STAGE_TRANSITS]⟩,
   ⟨"CHT_ID", 0x1D10028, 2, 0x20, 1, 0x0, true, false, .dev,
    [F.CHT_ID]⟩,
   ⟨"CHT_LOADED", 0x1D10030, 2, 0x20, 1, 0x0, true, false, .dev,
    [F.CHT_LOADED_TIME]⟩]

/-- CMT block (R407). -/
def regsCMT : List Reg :=
  [
   ⟨"CMT_CTRL", 0x1E00000, 1, 0x0, 1, 0x0, false, true, .dev,
    [F.CMT_CTRL_FREEZE, F.CMT_CTRL_CLEAR, F.CMT_CTRL_RTO_US, F.CMT_CTRL_RETRIES]⟩,
   ⟨"CMT_STAT", 0x1E00004, 1, 0x0, 1, 0x0, false, false, .dev,
    [F.CMT_STAT_PART_ID, F.CMT_STAT_WIN_PENDING, F.CMT_STAT_WIN_ERR, F.CMT_STAT_WIN_IGN, F.CMT_STAT_PEERS_LOST]⟩,
   ⟨"CMT_ETYPE", 0x1E00008, 1, 0x0, 1, 0x0, false, true, .dev,
    [F.CMT_ETYPE]⟩,
   ⟨"CMT_PEER_SEL", 0x1E0000C, 1, 0x0, 1, 0x0, false, false, .dev,
    [F.CMT_PEER_SEL_PART]⟩,
   ⟨"CMT_ID", 0x1E00010, 1, 0x0, 1, 0x0, true, false, .dev,
    [F.CMT_ID_PART_ID, F.CMT_ID_MAC_BASE]⟩,
   ⟨"CMT_TIMING", 0x1E00018, 1, 0x0, 1, 0x0, true, false, .dev,
    [F.CMT_TIMING_PATH_NS, F.CMT_TIMING_TSYNC_NS, F.CMT_TIMING_JITTER_NS]⟩,
   ⟨"CMT_ALOG_Q", 0x1E00020, 1, 0x0, 1, 0x0, true, false, .dev,
    [F.CMT_ALOG_Q_STACK, F.CMT_ALOG_Q_SLOT, F.CMT_ALOG_Q_SEQ]⟩,
   ⟨"CMT_ALOG_R0", 0x1E00028, 1, 0x0, 1, 0x0, true, false, .dev,
    [F.CMT_ALOG_R0_STATE, F.CMT_ALOG_R0_STATUS, F.CMT_ALOG_R0_DONE]⟩,
   ⟨"CMT_ALOG_R1", 0x1E00030, 1, 0x0, 1, 0x0, true, false, .dev,
    [F.CMT_ALOG_R1_OLD]⟩,
   ⟨"CMT_RETX", 0x1E00040, 1, 0x0, 1, 0x0, true, false, .dev,
    [F.CMT_RETX]⟩,
   ⟨"CMT_REROUTE", 0x1E00048, 1, 0x0, 1, 0x0, false, false, .dev,
    [F.CMT_REROUTE]⟩,
   ⟨"CMT_PATH_FAIL", 0x1E0004C, 1, 0x0, 1, 0x0, false, false, .dev,
    [F.CMT_PATH_FAIL]⟩,
   ⟨"CMT_REFUSED_OUT", 0x1E00050, 1, 0x0, 1, 0x0, false, false, .dev,
    [F.CMT_REFUSED_OUT]⟩,
   ⟨"CMT_REFUSED_IN", 0x1E00054, 1, 0x0, 1, 0x0, false, false, .dev,
    [F.CMT_REFUSED_IN]⟩,
   ⟨"CMT_ATOMIC_DUP", 0x1E00058, 1, 0x0, 1, 0x0, false, false, .dev,
    [F.CMT_ATOMIC_DUP]⟩,
   ⟨"CMT_RESULT_LOST", 0x1E0005C, 1, 0x0, 1, 0x0, false, false, .dev,
    [F.CMT_RESULT_LOST]⟩,
   ⟨"CMT_GW_FLUSH", 0x1E00060, 1, 0x0, 1, 0x0, false, false, .dev,
    [F.CMT_GW_FLUSH]⟩,
   ⟨"CMT_HELLO", 0x1E00064, 1, 0x0, 1, 0x0, false, false, .dev,
    [F.CMT_HELLO]⟩,
   ⟨"CMT_PEER_VIEW0", 0x1E00080, 1, 0x0, 1, 0x0, true, false, .dev,
    [F.CMT_PEER_VIEW0_KNOWN, F.CMT_PEER_VIEW0_UP, F.CMT_PEER_VIEW0_FAR, F.CMT_PEER_VIEW0_PATHS_UP, F.CMT_PEER_VIEW0_ORD_PORT, F.CMT_PEER_VIEW0_EPOCH]⟩,
   ⟨"CMT_PEER_VIEW1", 0x1E00088, 1, 0x0, 1, 0x0, true, false, .dev,
    [F.CMT_PEER_VIEW1_TX_NEXT, F.CMT_PEER_VIEW1_TX_CUM]⟩,
   ⟨"CMT_PEER_VIEW2", 0x1E00090, 1, 0x0, 1, 0x0, true, false, .dev,
    [F.CMT_PEER_VIEW2_RX_CUM, F.CMT_PEER_VIEW2_UNACKED]⟩,
   ⟨"CMT_PEER_VIEW3", 0x1E00098, 1, 0x0, 1, 0x0, true, false, .dev,
    []⟩,
   ⟨"CMT_PORT", 0x1E00100, 32, 0x20, 1, 0x0, true, false, .port,
    [F.CMT_PORT_LANES, F.CMT_PORT_STATE, F.CMT_PORT_LANE_OK, F.CMT_PORT_RETRAIN, F.CMT_PORT_PEER, F.CMT_PORT_PEER_PORT]⟩,
   ⟨"CMT_PORT_TX_BYTES", 0x1E00108, 32, 0x20, 1, 0x0, true, false, .port,
    [F.CMT_PORT_TX_BYTES]⟩,
   ⟨"CMT_PORT_RX_BYTES", 0x1E00110, 32, 0x20, 1, 0x0, true, false, .port,
    [F.CMT_PORT_RX_BYTES]⟩,
   ⟨"CMT_PORT_FEC_UNCORR", 0x1E00118, 32, 0x20, 1, 0x0, false, false, .port,
    [F.CMT_PORT_FEC_UNCORR]⟩,
   ⟨"CMT_PORT_DROP", 0x1E0011C, 32, 0x20, 1, 0x0, false, false, .port,
    [F.CMT_PORT_DROP]⟩,
   ⟨"CMT_WIN0", 0x1E01000, 256, 0x20, 1, 0x0, true, true, .dev,
    [F.CMT_WIN0_VALID, F.CMT_WIN0_READ, F.CMT_WIN0_WRITE, F.CMT_WIN0_ATOMIC, F.CMT_WIN0_BULK, F.CMT_WIN0_GATEWAY, F.CMT_WIN0_PEER]⟩,
   ⟨"CMT_WIN1", 0x1E01008, 256, 0x20, 1, 0x0, true, true, .dev,
    [F.CMT_WIN1_LOCAL_BASE]⟩,
   ⟨"CMT_WIN2", 0x1E01010, 256, 0x20, 1, 0x0, true, true, .dev,
    [F.CMT_WIN2_SIZE]⟩,
   ⟨"CMT_WIN3", 0x1E01018, 256, 0x20, 1, 0x0, true, true, .dev,
    [F.CMT_WIN3_REMOTE_BASE]⟩]

/-- CLK block (R429). -/
def regsCLK : List Reg :=
  [
   ⟨"CLK_CTRL", 0x2000000, 1, 0x0, 1, 0x0, false, true, .dev,
    [F.CLK_CTRL_FREEZE, F.CLK_CTRL_CLEAR, F.CLK_CTRL_CEIL_RESTORE]⟩,
   ⟨"CLK_STAT", 0x2000004, 1, 0x0, 1, 0x0, false, false, .dev,
    [F.CLK_STAT_TREF_OK, F.CLK_STAT_HOLDOVER, F.CLK_STAT_PLAN_PENDING, F.CLK_STAT_PLAN_ERR, F.CLK_STAT_CMP_STEP, F.CLK_STAT_CACHE_STEP, F.CLK_STAT_STOPPED_ACC]⟩,
   ⟨"CLK_PLAN", 0x2000008, 1, 0x0, 1, 0x0, false, true, .dev,
    [F.CLK_PLAN_CMP_STEP, F.CLK_PLAN_CACHE_STEP, F.CLK_PLAN_ARM]⟩,
   ⟨"CLK_PLAN_AT", 0x2000010, 1, 0x0, 1, 0x0, true, true, .dev,
    [F.CLK_PLAN_AT_AT]⟩,
   ⟨"CLK_SEAM", 0x2000018, 1, 0x0, 1, 0x0, false, false, .dev,
    [F.CLK_SEAM_W_SLOW, F.CLK_SEAM_E_SLOW, F.CLK_SEAM_W_CAP, F.CLK_SEAM_E_CAP, F.CLK_SEAM_ENTRIES]⟩,
   ⟨"CLK_DIE", 0x2000100, 24, 0x20, 1, 0x0, false, false, .dev,
    [F.CLK_DIE_PLAN, F.CLK_DIE_CEIL_TRIM, F.CLK_DIE_CEIL_FIELD, F.CLK_DIE_THROTTLE, F.CLK_DIE_EFF, F.CLK_DIE_CAPPED, F.CLK_DIE_STRETCHING, F.CLK_DIE_DROOP]⟩,
   ⟨"CLK_STRETCH_CYC", 0x2000108, 24, 0x20, 1, 0x0, true, false, .dev,
    [F.CLK_STRETCH_CYC]⟩,
   ⟨"CLK_DROOP_EVT", 0x2000110, 24, 0x20, 1, 0x0, false, false, .dev,
    [F.CLK_DROOP_EVT]⟩,
   ⟨"CLK_MON_FAIL", 0x2000114, 24, 0x20, 1, 0x0, false, false, .dev,
    [F.CLK_MON_FAIL]⟩,
   ⟨"CLK_CACHE", 0x2000400, 24, 0x10, 1, 0x0, false, false, .dev,
    [F.CLK_CACHE_EFF, F.CLK_CACHE_CEIL_TRIM, F.CLK_CACHE_CEIL_FIELD, F.CLK_CACHE_CAPPED]⟩,
   ⟨"CLK_CACHE_MON_FAIL", 0x2000404, 24, 0x10, 1, 0x0, false, false, .dev,
    [F.CLK_CACHE_MON_FAIL]⟩,
   ⟨"CLK_MBD", 0x2000600, 12, 0x10, 1, 0x0, false, false, .dev,
    [F.CLK_MBD_EFF, F.CLK_MBD_CEIL_TRIM, F.CLK_MBD_CEIL_FIELD, F.CLK_MBD_CAPPED]⟩,
   ⟨"CLK_MBD_MON_FAIL", 0x2000604, 12, 0x10, 1, 0x0, false, false, .dev,
    [F.CLK_MBD_MON_FAIL]⟩]

/-- THM block (R455). -/
def regsTHM : List Reg :=
  [
   ⟨"THM_CTRL", 0x2100000, 1, 0x0, 1, 0x0, false, true, .dev,
    [F.THM_CTRL_FREEZE, F.THM_CTRL_CLEAR, F.THM_CTRL_SITE_MIN]⟩,
   ⟨"THM_STAT", 0x2100004, 1, 0x0, 1, 0x0, false, false, .dev,
    [F.THM_STAT_PREWARM, F.THM_STAT_POWER_CAP, F.THM_STAT_ALM_OK, F.THM_STAT_ALM_HELD, F.THM_STAT_TRIPPED]⟩,
   ⟨"THM_PWR", 0x2100008, 1, 0x0, 1, 0x0, true, false, .dev,
    [F.THM_PWR_NOW_W, F.THM_PWR_PEAK_W, F.THM_PWR_CEIL_W, F.THM_PWR_CAPS]⟩,
   ⟨"ALM_HELD_DROP", 0x2100010, 1, 0x0, 1, 0x0, false, false, .dev,
    [F.ALM_HELD_DROP]⟩,
   ⟨"THM_RAIL", 0x2100040, 14, 0x8, 1, 0x0, true, false, .dev,
    [F.THM_RAIL_MV, F.THM_RAIL_CURRENT, F.THM_RAIL_OUT_TOL]⟩,
   ⟨"THM_TILE_T", 0x2101000, 24, 0x40, 1, 0x0, true, false, .dev,
    [F.THM_TILE_T_TJ, F.THM_TILE_T_SITE, F.THM_TILE_T_SITE_MAX, F.THM_TILE_T_CACHE_MAX, F.THM_TILE_T_CACHE_EST]⟩,
   ⟨"THM_TILE", 0x2101008, 24, 0x40, 1, 0x0, false, false, .dev,
    [F.THM_TILE_LIMIT, F.THM_TILE_BY_TJ, F.THM_TILE_BY_SITE, F.THM_TILE_BY_CACHE, F.THM_TILE_BY_POWER, F.THM_TILE_VERDICT, F.THM_TILE_OUT_WINDOW, F.THM_TILE_WARMER, F.THM_TILE_CANARY]⟩,
   ⟨"THM_STEPS_DOWN", 0x2101010, 24, 0x40, 1, 0x0, false, false, .dev,
    [F.THM_STEPS_DOWN]⟩,
   ⟨"THM_CACHE_HOT", 0x2101014, 24, 0x40, 1, 0x0, false, false, .dev,
    [F.THM_CACHE_HOT]⟩,
   ⟨"THM_CANARY_FLIPS", 0x2101018, 24, 0x40, 1, 0x0, false, false, .dev,
    [F.THM_CANARY_FLIPS]⟩,
   ⟨"THM_GUARD_LATE", 0x210101C, 24, 0x40, 1, 0x0, false, false, .dev,
    [F.THM_GUARD_LATE]⟩,
   ⟨"THM_LIMIT_EXCEED", 0x2101020, 24, 0x40, 1, 0x0, false, false, .dev,
    [F.THM_LIMIT_EXCEED]⟩,
   ⟨"THM_SENSOR_FAIL", 0x2101024, 24, 0x40, 1, 0x0, false, false, .dev,
    [F.THM_SENSOR_FAIL]⟩,
   ⟨"THM_MBD", 0x2102000, 12, 0x10, 1, 0x0, false, false, .dev,
    [F.THM_MBD_MBD_T, F.THM_MBD_HBM_T, F.THM_MBD_CAP, F.THM_MBD_REFRESH_2X]⟩,
   ⟨"THM_CAP_STEPS", 0x2102004, 12, 0x10, 1, 0x0, false, false, .dev,
    [F.THM_CAP_STEPS]⟩,
   ⟨"THM_EDGE", 0x2103000, 7, 0x4, 1, 0x0, false, false, .dev,
    [F.THM_EDGE_TEMP]⟩]

/-- FLT block (R479). -/
def regsFLT : List Reg :=
  [
   ⟨"FLT_STAT", 0x2200000, 1, 0x0, 1, 0x0, false, false, .dev,
    [F.FLT_STAT_STATE, F.FLT_STAT_DEGRADED, F.FLT_STAT_FAULT, F.FLT_STAT_ALERT, F.FLT_STAT_BOOT_MODE, F.FLT_STAT_LAST_SRC]⟩,
   ⟨"FLT_CTRL", 0x2200004, 1, 0x0, 1, 0x0, false, true, .dev,
    [F.FLT_CTRL_RESET, F.FLT_CTRL_DOM, F.FLT_CTRL_REINSTATE, F.FLT_CTRL_PATIENCE_RETRY, F.FLT_CTRL_CLEAR_ALL]⟩,
   ⟨"FLT_BOOT", 0x2200008, 1, 0x0, 1, 0x0, true, false, .dev,
    [F.FLT_BOOT_STEP, F.FLT_BOOT_FAILS, F.FLT_BOOT_LAST_REASON, F.FLT_BOOT_IMAGE, F.FLT_BOOT_FALLBACK, F.FLT_BOOT_WARM, F.FLT_BOOT_BOOT_MS, F.FLT_BOOT_BOOTS]⟩,
   ⟨"FLT_RETIRED", 0x2200010, 1, 0x0, 1, 0x0, true, false, .dev,
    [F.FLT_RETIRED_TILE, F.FLT_RETIRED_MEM, F.FLT_RETIRED_XIO, F.FLT_RETIRED_FE]⟩,
   ⟨"FLT_HANG", 0x2200018, 1, 0x0, 1, 0x0, true, false, .dev,
    [F.FLT_HANG_HUNT, F.FLT_HANG_SUSPECTS, F.FLT_HANG_GUILTY, F.FLT_HANG_HANGS]⟩,
   ⟨"FLT_DUMP", 0x2200020, 1, 0x0, 1, 0x0, true, false, .dev,
    [F.FLT_DUMP_VALID, F.FLT_DUMP_SRC, F.FLT_DUMP_KIND, F.FLT_DUMP_TRANSIT]⟩,
   ⟨"FLT_SRC", 0x2201000, 512, 0x8, 1, 0x0, true, true, .dev,
    [F.FLT_SRC_SEV, F.FLT_SRC_FIXED, F.FLT_SRC_STICKY, F.FLT_SRC_COUNT]⟩,
   ⟨"FLT_DOM0", 0x2202000, 132, 0x10, 1, 0x0, true, false, .dev,
    [F.FLT_DOM0_GEN, F.FLT_DOM0_STATE, F.FLT_DOM0_WINDOW, F.FLT_DOM0_LATE, F.FLT_DOM0_RESETS]⟩,
   ⟨"FLT_DOM1", 0x2202008, 132, 0x10, 1, 0x0, true, false, .dev,
    [F.FLT_DOM1_LAST]⟩]

/-- GRD block (R483). -/
def regsGRD : List Reg :=
  [
   ⟨"GRD_STAT", 0x2300000, 1, 0x0, 1, 0x0, false, false, .dev,
    [F.GRD_STAT_LOADED, F.GRD_STAT_SIGNER, F.GRD_STAT_VENDOR_LOCK, F.GRD_STAT_NKEYS, F.GRD_STAT_BLOCKED]⟩,
   ⟨"GRD_VERSION", 0x2300004, 1, 0x0, 1, 0x0, false, false, .dev,
    [F.GRD_VERSION_RECORD]⟩,
   ⟨"GRD_FWMIN", 0x2300008, 1, 0x0, 1, 0x0, false, false, .dev,
    [F.GRD_FWMIN_FW_MIN]⟩,
   ⟨"GRD_LIMITS", 0x2300010, 1, 0x0, 1, 0x0, true, true, .dev,
    [F.GRD_LIMITS_LASER_CAP, F.GRD_LIMITS_HTR_CAP, F.GRD_LIMITS_PWR_CEIL, F.GRD_LIMITS_EGRESS]⟩,
   ⟨"GRD_TRIP", 0x2300018, 1, 0x0, 1, 0x0, true, true, .dev,
    [F.GRD_TRIP_CMP, F.GRD_TRIP_CACHE, F.GRD_TRIP_SITE, F.GRD_TRIP_MBD, F.GRD_TRIP_HBM, F.GRD_TRIP_EDGE]⟩,
   ⟨"GRD_WP", 0x2300020, 1, 0x0, 1, 0x0, false, true, .dev,
    [F.GRD_WP_FW_UPDATE, F.GRD_WP_LOG_CLEAR, F.GRD_WP_DUMP_CLEAR, F.GRD_WP_UNSIGNED_CHARTS]⟩,
   ⟨"GRD_KEY_ID", 0x2300100, 8, 0x8, 1, 0x0, true, false, .dev,
    [F.GRD_KEY_ID_KEY_ID]⟩]

/-- ALM block (R502). -/
def regsALM : List Reg :=
  [
   ⟨"ALM_STAT", 0x2400000, 1, 0x0, 1, 0x0, false, false, .dev,
    [F.ALM_STAT_STATE, F.ALM_STAT_LAST, F.ALM_STAT_ACTIVE, F.ALM_STAT_NEXT, F.ALM_STAT_A_VALID, F.ALM_STAT_B_VALID]⟩,
   ⟨"ALM_CMD", 0x2400004, 1, 0x0, 1, 0x0, false, true, .dev,
    [F.ALM_CMD_CMD]⟩,
   ⟨"ALM_ADDR", 0x2400008, 1, 0x0, 1, 0x0, false, false, .dev,
    [F.ALM_ADDR]⟩,
   ⟨"ALM_LEN", 0x240000C, 1, 0x0, 1, 0x0, false, false, .dev,
    [F.ALM_LEN]⟩,
   ⟨"ALM_CLOG", 0x2400010, 1, 0x0, 1, 0x0, true, false, .dev,
    [F.ALM_CLOG_SEQ, F.ALM_CLOG_WRAPS]⟩,
   ⟨"ALM_LIFE", 0x2400018, 1, 0x0, 1, 0x0, true, false, .dev,
    [F.ALM_LIFE_PTR, F.ALM_LIFE_SEQ]⟩,
   ⟨"ALM_CMDIGN", 0x2400020, 1, 0x0, 1, 0x0, false, false, .dev,
    [F.ALM_CMDIGN]⟩,
   ⟨"ALM_READ", 0x2401000, 1024, 0x4, 1, 0x0, false, false, .dev,
    [F.ALM_READ]⟩,
   ⟨"ALM_STAGE", 0x2410000, 16384, 0x4, 1, 0x0, false, false, .dev,
    [F.ALM_STAGE]⟩]

/-- MGT block (R503). -/
def regsMGT : List Reg :=
  [
   ⟨"MGT_STAT", 0x3800000, 1, 0x0, 1, 0x0, false, false, .dev,
    [F.MGT_STAT_CROUPIER, F.MGT_STAT_WDOG]⟩,
   ⟨"MGT_UNMAPPED", 0x3800004, 1, 0x0, 1, 0x0, false, false, .dev,
    [F.MGT_UNMAPPED]⟩,
   ⟨"MGT_SERIAL", 0x3800008, 1, 0x0, 1, 0x0, true, false, .dev,
    [F.MGT_SERIAL]⟩,
   ⟨"MGT_IDSTATE", 0x3800010, 1, 0x0, 1, 0x0, false, false, .dev,
    [F.MGT_IDSTATE_STATE, F.MGT_IDSTATE_FLIPS]⟩,
   ⟨"MGT_SITE_PRESENT", 0x3800100, 1, 0x0, 1, 0x0, true, false, .dev,
    [F.MGT_SITE_PRESENT_TILE, F.MGT_SITE_PRESENT_MEM, F.MGT_SITE_PRESENT_XIO, F.MGT_SITE_PRESENT_GUEST, F.MGT_SITE_PRESENT_HUB]⟩]

/-- The MSI-X table and its pending bits (R302, R331). -/
def regsMSIX : List Reg :=
  [
   ⟨"MSIX_ADDR_LO", 0x4040000, 65, 0x10, 1, 0x0, false, false, .dev,
    [F.MSIX_ADDR_LO]⟩,
   ⟨"MSIX_ADDR_HI", 0x4040004, 65, 0x10, 1, 0x0, false, false, .dev,
    [F.MSIX_ADDR_HI]⟩,
   ⟨"MSIX_DATA", 0x4040008, 65, 0x10, 1, 0x0, false, false, .dev,
    [F.MSIX_DATA]⟩,
   ⟨"MSIX_MASK", 0x404000C, 65, 0x10, 1, 0x0, false, false, .dev,
    [F.MSIX_MASK]⟩,
   ⟨"MSIX_PENDING", 0x4041000, 4, 0x4, 1, 0x0, false, false, .dev,
    [F.MSIX_PENDING]⟩]

/-- Every register of BAR0 (R302). -/
def regMap : List Reg :=
  regsDLR ++ regsDECK ++ regsEVF ++ regsTAL ++ regsHND ++ regsSKY ++ regsSKYG ++ regsDLV ++ regsTWK ++ regsTWKS ++ regsOMU ++ regsCAL ++ regsCMP ++ regsMBD ++ regsCCH ++ regsCHK ++ regsTRN ++ regsCHT ++ regsCMT ++ regsCLK ++ regsTHM ++ regsFLT ++ regsGRD ++ regsALM ++ regsMGT ++ regsMSIX

end Sys2Proof.Machine
end

