-- ==== Sys2Proof/Machine/Bits.lean ====
section
/-! DEFINITION. Bytes and bit fields: little-endian numbers (R6), field packing, population counts. -/

namespace Sys2Proof.Machine

/-- The little-endian number a list of bytes spells (R6). -/
def leNat : List Byte → Nat
  | [] => 0
  | b :: bs => b.toNat + 256 * leNat bs

/-- The `n` little-endian bytes of `v` (R6). -/
def natLe : Nat → Nat → List Byte
  | 0, _ => []
  | n + 1, v => BitVec.ofNat 8 v :: natLe n (v / 256)

/-- The big-endian number a list of bytes spells (network byte order). -/
def beNat (bs : List Byte) : Nat := leNat bs.reverse

/-- The `n` big-endian bytes of `v`. -/
def natBe (n v : Nat) : List Byte := (natLe n v).reverse

/-- `n` bytes of `bs` from byte `off`, zero-filled past the end. -/
def slice (bs : List Byte) (off n : Nat) : List Byte :=
  let p := (bs.drop off).take n
  p ++ List.replicate (n - p.length) 0

/-- The little-endian number in bytes `off` to `off + n - 1`. -/
def leAt (bs : List Byte) (off n : Nat) : Nat := leNat (slice bs off n)

/-- Bit `i` of `n`. -/
def bit (n i : Nat) : Bool := n.testBit i

/-- 1 for true. -/
def b2n (b : Bool) : Nat := if b then 1 else 0

/-- A word packed from (lowest bit, width, value) triples that do not overlap. -/
def packBits (fs : List (Nat × Nat × Nat)) : Nat :=
  fs.foldl (fun acc f => acc + f.2.2 % 2 ^ f.2.1 * 2 ^ f.1) 0

/-- How many of the low `w` bits of `n` are set. -/
def popCount : Nat → Nat → Nat
  | 0, _ => 0
  | w + 1, n => b2n (bit n w) + popCount w n

/-- The numbers below `w` whose bits are set in `n`, rising. -/
def bitList (w n : Nat) : List Nat := (List.range w).filter fun i => bit n i

/-- The number with exactly the listed bits set. -/
def bitMask (is : List Nat) : Nat := is.foldl (fun m i => m ||| 2 ^ i) 0

/-- A list with element `i` changed by `f`. -/
def modAt {α : Type} : List α → Nat → (α → α) → List α
  | [], _, _ => []
  | x :: xs, 0, f => f x :: xs
  | x :: xs, i + 1, f => x :: modAt xs i f

/-- ⌈a ÷ b⌉. -/
def ceilDiv (a b : Nat) : Nat := (a + b - 1) / b

/-- A number raised to at most `m`. -/
def satTo (m n : Nat) : Nat := if n ≤ m then n else m

end Sys2Proof.Machine
end

