-- ==== Sys2Proof/Machine/Sites.lean ====
section
/-! DEFINITION. Sites, the route and the distance classes (R16 to R18, R36, R37, R46, R73). -/

namespace Sys2Proof.Machine

/-- What kind of site a site number names (R16); 44 and above are no sites. -/
inductive SiteKind where
  | tile | mem | xio | guest | hub | none
  deriving DecidableEq, Repr

/-- The kind of site `s` (R16). -/
def siteKind (s : Nat) : SiteKind :=
  if s < 24 then .tile else if s < 36 then .mem else if s < 40 then .xio
  else if s < 42 then .guest else if s < 44 then .hub else .none

/-- Whether `s` lies in the East half (R16). -/
def siteEast (s : Nat) : Bool :=
  (12 ≤ s && s < 24) || (30 ≤ s && s < 36) || s = 38 || s = 39 || s = 41 || s = 43

/-- The quadrant of a site, 0 NW, 1 SW, 2 NE, 3 SE; none for hubs and guests (R17). -/
def siteQuad (s : Nat) : Option Nat :=
  if s < 24 then some (s / 6) else if s < 36 then some ((s - 24) / 3)
  else if s < 40 then some (s - 36) else none

/-- The sites in route order, position 0 first (R36). -/
def route : List Nat :=
  [12, 14, 16, 38, 32, 31, 30, 13, 15, 17, 41, 43, 18, 20, 22, 39, 35, 34, 33, 19, 21, 23] ++
  [7, 9, 11, 37, 29, 28, 27, 6, 8, 10, 40, 42, 1, 3, 5, 36, 26, 25, 24, 0, 2, 4]

/-- The route position of a site (R36). -/
def sitePos (s : Nat) : Nat := route.idxOf s

/-- How far downstream of `a` site `b` lies (R37). -/
def downstream (a b : Nat) : Nat := (sitePos b + 44 - sitePos a) % 44

/-- Whether the path from `a` to `b` passes the Meridian, the boundary of positions 43 and 0 (R36, R37). -/
def crossesMeridian (a b : Nat) : Bool := decide (sitePos b ≤ sitePos a)

/-- Whether the path from `a` to `b` passes the south crossing, the boundary of positions 21 and 22 (R36, R37). -/
def crossesSouth (a b : Nat) : Bool :=
  let pa := sitePos a
  let pb := sitePos b
  if pa < pb then decide (pa ≤ 21) && decide (22 ≤ pb) else decide (pa ≤ 21) || decide (22 ≤ pb)

/-- Seam crossings of the path from `a` to `b`. -/
def crossings (a b : Nat) : Nat := b2n (crossesMeridian a b) + b2n (crossesSouth a b)

/-- The FLT_DOM index of the stack above a site (R479): tile stack, MBD or I/O chiplet. -/
def dieDom (k : Nat) : Option Nat :=
  if k < 24 then some k else if k < 40 then some (44 + k) else none

/-- The site a reset domain belongs to (R479). -/
def domSite (d : Nat) : Option Nat :=
  if d < 24 then some d else if d < 68 then some (d - 24) else if d < 84 then some (d - 44) else if d < 128 then some (d - 84) else none

/-- The reset domains of a site: its die's, its Firmament site's, its station's (R474, R479). -/
def siteDoms (k : Nat) : List Nat := (dieDom k).toList ++ [24 + k, 84 + k]

/-- The home memory site of tile `t` (R18). -/
def homeMem (t : Nat) : Nat := 24 + t / 2

/-- The distance class of a pair: 0 to 3 for D0 to D3; 0 for a site with itself or no site (R73, R74). -/
def distClass (a b : Nat) : Nat :=
  if 44 ≤ a || 44 ≤ b || a = b then 0
  else if (a < 24 && b = homeMem a) || (b < 24 && a = homeMem b) then 0
  else if siteEast a ≠ siteEast b then 3
  else match siteQuad a, siteQuad b with
    | some qa, some qb => if qa = qb then 1 else 2
    | _, _ => 2

/-- Writer or reader channels per orbit that a site may have (R46). -/
def capOrbit (s : Nat) : Nat :=
  match siteKind s with
  | .tile => 96 | .mem => 96 | .xio => 64 | .guest => 48 | .hub => 48 | .none => 0

/-- Writer or reader channels in total that a site may have (R46). -/
def capTotal (s : Nat) : Nat :=
  match siteKind s with
  | .tile => 384 | .mem => 384 | .xio => 200 | .guest => 128 | .hub => 96 | .none => 0

/-- The ejection rate of a site in MB/s (R46). -/
def ejectRate (s : Nat) : Nat :=
  match siteKind s with
  | .tile => 3072000 | .mem => 3072000 | .xio => 1600000 | .guest => 1024000 | .hub => 768000 | .none => 0

/-- Unacknowledged packets a station's retransmission store holds, per space and per site (R78). -/
def storeLimit (s : Nat) : Nat := if s < 36 then 8192 else 1024

/-- Packets a station's reorder store holds (R81). -/
def reorderLimit (s : Nat) : Nat := if s < 36 then 2048 else 256

/-- Whether the station relays: tile and memory stations only (R49). -/
def relays (s : Nat) : Bool := decide (s < 36)

/-- Rings of a site (R41, R46): a writer and a reader ring for each channel it may have in total, and 256 OMU inputs on a tile site. -/
def ringCount (s : Nat) : Nat := 2 * capTotal s + (if siteKind s = .tile then 256 else 0)

/-- Writer or reader rings of a site on an orbit: as many on O0 as its limit there allows, the others spread over O1 to O3. The spec gives the sum (R46)
and, but for tile and memory sites, no places (DESIGN CHOICE, log entry 162). -/
def orbitRings (s o : Nat) : Nat := if o = 0 then capOrbit s else (capTotal s - capOrbit s + 3 - o) / 3

/-- The deflection threshold of a class in ns (R59). -/
def deflectNs (c : Nat) : Nat := if c = 0 then 16 else if c = 1 then 64 else if c = 2 then 128 else 512

/-- The bounded wait of a class in ns (R59). -/
def boundNs (c : Nat) : Nat := if c = 0 then 64 else if c = 1 then 256 else if c = 2 then 512 else 2000

end Sys2Proof.Machine
end

