-- ==== Sys2Proof/Syntax.lean ====
section
/-! DEFINITION. The commands of the block, one constructor for each row of the table of operations and events, and the data
they carry. A command carries what the step's rule takes from outside the part's own state: a packet off a channel,
a reading of a sensor, a value written to a register, the data the host returns. Numbers are `Nat`; a field wider
than its place in a header or a register is cut where the place is filled. -/

namespace Sys2Proof

/-- The interfaces that reach BAR0 (R7, R486). -/
inductive Iface where
  | host      -- CXL.io
  | smbus     -- MCTP over SMBus
  | vdm       -- MCTP over PCIe VDM
  | croupier  -- the Croupier's firmware
  deriving DecidableEq, Repr

/-- A Sky packet: the header flit of R51, reserved bits too, and the payload bytes. -/
structure Pkt where
  dest    : Nat := 0
  src     : Nat := 0
  cls     : Nat := 0
  vc      : Nat := 0
  defl    : Nat := 0
  op      : Nat := 0
  len     : Nat := 0
  part    : Nat := 0
  poison  : Nat := 0
  rsv31   : Nat := 0
  seq     : Nat := 0
  gen     : Nat := 0
  addr    : Nat := 0
  rtag    : Nat := 0
  aux     : Nat := 0
  birth   : Nat := 0
  pcrc    : Nat := 0
  rsv228  : Nat := 0
  hcrc    : Nat := 0
  payload : List Byte := []
  deriving DecidableEq, Repr

/-- The agents that issue packets at a site (R77), a guest chiplet's own logic, and `memory`, the die's memory side, which answers reads and forwards
writes (R52, R242) and issues no fence. -/
inductive Agent where
  | core (k : Nat)
  | engine
  | chk (ctx : Nat)
  | dealer
  | croupier
  | chiplet
  | guest
  | mover
  | memory
  deriving DecidableEq, Repr

/-- What an agent asks its station to send (R77): everything the station does not fill in itself. -/
structure SendReq where
  dest    : Nat
  cls     : Nat
  op      : Nat
  len     : Nat := 0
  addr    : Nat := 0
  aux     : Nat := 0
  rtag    : Nat := 0
  poison  : Nat := 0
  payload : List Byte := []
  agent   : Agent
  /-- The Tally sequence of the card the packet carries work of. -/
  work    : Option Nat := none
  /-- The PART a hub's response echoes (R524). -/
  part    : Option Nat := none
  /-- The write this packet forwards to a mirror copy (R242): its source site and sequence, or the host's write. -/
  fwd     : Option (Nat × Nat) := none
  deriving DecidableEq, Repr

/-- A read of a register: its offset, and the bits of the event FIFO's word that read other than they were stored, its parity bits from bit 64 on (R334;
only EVF_DATA's read has any). -/
structure ReadAt where
  off  : Nat
  flip : Nat := 0
  deriving DecidableEq, Repr

/-- How a fetch of cards ended: as it should, with its host read failed, or with a host write of its deck failed, one that it led to or one that was under
way (R310). -/
inductive FetchEnd where
  | ok | readFailed | writeFailed
  deriving DecidableEq, Repr

/-- What an access finds in a granule or a line (R229): the symbols of its codeword that are in error, each with the bits that differ (0 to 63 the data
bytes, 64 to 67 the check bytes), and whether the core die's own correction reports an error. -/
structure EccKind where
  syms  : List (Nat × Nat) := []
  odecc : Bool := false
  deriving DecidableEq, Repr

/-- What an access finds in a granule (its address divided by 64). -/
structure EccHit where
  granule : Nat
  kind    : EccKind
  deriving DecidableEq, Repr

/-- The scope of a fence (R94). -/
inductive FenceScope where
  | all
  | one (dest : Nat)
  deriving DecidableEq, Repr

/-- What a cold power-on finds (R29, R458, R495, R519): the Almanac's build record as (BAR0 offset, lowest bit, value), and the bytes that the PUF array of 8 KiB
powers up with, which are the part's own only from a discharged state. -/
structure PowerReport where
  build : List (Nat × Nat × Nat) := []
  puf   : List (BitVec 8) := []
  deriving DecidableEq, Repr

/-- What the parts of a boot step report when it completes (R460, R461): step 1, whether images A and B verify; step 2, the factory trims as (BAR0 offset,
lowest bit, value) and how many copies of trims and of helper data failed their check words (R491); step 3, the regulators and the bond chains; any step, the
self-tests of hub W with the Croupier and of the Dummy hub, and the FLT_DOM indices of what failed its part. -/
structure BootReport where
  imgA     : Bool := true
  imgB     : Bool := true
  trims    : List (Nat × Nat × Nat) := []
  badCopies : Nat := 0
  railsOk  : Bool := true
  bondOpen : Bool := false
  hubOk    : Bool := true
  dummyOk  : Bool := true
  bad      : List Nat := []
  deriving DecidableEq, Repr

/-- The power taps with a place of their own (R128): the input tap of P0 to P7, the tap of a dump arm, the splitter output of a waveguide of
a feed (orbits 0 to 3, trunks 4 and 5), the through port of a waveguide at a site. -/
inductive Tap where
  | input (p : Nat)
  | dump (arm : Nat)
  | splitter (feed wg : Nat)
  | through (orbit wg site : Nat)
  deriving DecidableEq, Repr

/-- What LOCATE reads along a channel's path (R124, R128), against the factory reference in 0.01 dB: the output of the module that feeds it, the taps
it passes, the reader's photodiode at its drop port, and whether a loss that shows there alone is the reader ring's own. -/
structure LocateRead where
  chan : Nat
  els  : Int := 0
  taps : List (Tap × Int) := []
  drop : Int := 0
  ring : Bool := false
  deriving DecidableEq, Repr

/-- What the tasks of a quiet window find (R262): LOCATE readings (R124), stacks whose banks have no spare row left (R236), the taps of a
commissioning capture, every module at full output, against the factory reference in 0.01 dB (R129). -/
structure QuietReport where
  locate : List LocateRead := []
  spent  : List Nat := []
  taps   : List (Tap × Int) := []
  deriving DecidableEq, Repr

/-- What the part reads of a laser module (R104, R128): whether it answers, its type, its status bits, its case temperature, its set point and
the powers of its 32 lines in 0.01 dBm, its input tap against the factory reference in 0.01 dB, the input taps that show light while it alone
emits, the depths of its 32 identity tones in 0.01 %, and, for a spare, the tap of its dump arm against the factory reference of its mode in 0.01 dB. -/
structure ModRead where
  answers : Bool := true
  type    : Nat := 0x4C53
  grid    : Bool := true
  intlk   : Bool := true
  fault   : Bool := false
  temp    : Int := 25
  setPt   : Int := 0
  lines   : List Int := []
  tap     : Int := 0
  taps    : List Nat := []
  tones   : List Nat := List.replicate 32 100
  dump    : Int := 0
  deriving DecidableEq, Repr

/-- What reads of host or remote memory returned: pieces by address, each with its bytes and whether it came poisoned (R201, R382). -/
abbrev Ext := List (Nat × List Byte × Bool)

/-- The hot prefix that a tile has copied (R241): the table's id, and what lay outside the part at the rows it read over Comet. -/
structure HotRows where
  table : Nat := 0
  ext   : Ext := []
  deriving DecidableEq, Repr

/-- What a tone decoder's window shows (R115, R119): the depth of each of the 32 tones in 0.01 %, channel 0 first, and the photodiode level
A + B at that moment. -/
structure ToneRead where
  tones : List Nat := []
  level : Nat := 0
  deriving DecidableEq, Repr

/-- A TSYNC frame as received (R269), at the time base's reading of its tick edge. -/
structure TsyncFrame where
  time    : Nat := 0
  transit : Nat := 0
  flags   : Nat := 0
  crc     : Nat := 0
  deriving DecidableEq, Repr

/-- What a pilot found (R171, R172, R185): the RMS errors in 0.001 % of F, the largest gain error in 0.001 %, the largest offset in 0.01 LSB, the
row offset table of R177, the refitted transfer tables of the 64 inputs (the DAC level of each code) and the refitted weight-driver tables
(17 points each) of the rows it refined, row by row, 64 rings each, the trims of the 64 offset DACs, and the trunk's tap over the last 1 ms
in steps of 0.005 dB. -/
structure PilotReport where
  fast   : Nat := 0
  fine   : Nat := 0
  gain   : Nat := 0
  offset : Nat := 0
  offtab : List Nat := []
  inputs  : List (List Nat) := []
  drivers : List (List Nat) := []
  dacs    : List Nat := []
  tap     : Int := 0
  deriving DecidableEq, Repr

/-- What the sensors read at one sample (R430, R431, R439, R443), temperatures in 0.25 °C: the readings of each die (0 to 23 compute, 24 to 47 cache,
48 to 91 the Firmament sites, 92 to 103 MBDs, 116 to 119 I/O chiplets, 122 the Almanac), the power of cache dies in mW, the change of the
heater power of tile sites in mW since the site's last pilot, the power that the regulators of warm sites' warmers ask for in 0.1 W by site, and the current of
the ring heaters and weight-ring heaters in mA. -/
structure SensorReport where
  dies   : List (Nat × List Int) := []
  caches : List (Nat × Nat) := []
  heat   : List (Nat × Int) := []
  warm   : List (Nat × Nat) := []
  rings  : Nat := 0
  deriving DecidableEq, Repr

/-- What the check of the guard registers finds (R484): whether one disagrees with its shadow copy. -/
structure GuardReport where
  shadow : Bool := false
  deriving DecidableEq, Repr

/-- A Comet frame (R381, R382): the Ethernet fields, the header, the payload and the trailer; `rsv` stands for the reserved bits of
the header, 0 when all are 0. The FCS is the port's and arrives as its verdict. -/
structure Frame where
  dmac    : Nat := 0
  smac    : Nat := 0
  tagged  : Bool := false
  pcp     : Nat := 0
  vid     : Nat := 0
  etype   : Nat := 0x88B5
  ver     : Nat := 1
  kind    : Nat := 0
  op      : Nat := 0
  space   : Nat := 0
  srcPart : Nat := 0
  dstPart : Nat := 0
  len     : Nat := 0
  seq     : Nat := 0
  ack     : Nat := 0
  addr    : Nat := 0
  rtag    : Nat := 0
  aop     : Nat := 0
  atype   : Nat := 0
  ackOk   : Bool := false
  gateway : Bool := false
  poison  : Bool := false
  epoch   : Nat := 0
  aux     : Nat := 0
  rsv     : Nat := 0
  payload : List Byte := []
  pcrc    : Nat := 0
  deriving DecidableEq, Repr

/-- The commands. The mnemonic of the table stands beside each. -/
inductive Instr where
  -- chapter 2 and 3: the Sky, delivery, barriers, fences
  | guestPacketSubmit (g : Nat) (p : Pkt)                               -- GUEST_PACKET_SUBMIT
  | packetInject (site : Nat) (r : SendReq)                             -- PACKET_INJECT
  | channelFree (site ch : Nat)                                         -- CHANNEL_FREE
  | deflectionTimeout (site q cls : Nat)                                -- DEFLECTION_TIMEOUT
  | relaySearch (site q cls : Nat)                                      -- RELAY_SEARCH
  | boundMiss (site q cls : Nat)                                        -- BOUND_MISS
  | packetReceive (site ch : Nat) (p : Pkt) (ecc : List EccHit)         -- PACKET_RECEIVE
  | skyAck (site ch : Nat) (p : Pkt)                                    -- SKY_ACK
  | ackTimerExpiry (site src : Nat)                                     -- ACK_TIMER_EXPIRY
  | retransmitTimeout (site dest seq : Nat)                             -- RETRANSMIT_TIMEOUT
  | retxLimit (site dest seq : Nat)                                     -- RETX_LIMIT
  | skyDlvRestart (src : Iface) (site v : Nat)                          -- SKY_DLV_RESTART
  | spaceRestartReopen                                                  -- SPACE_RESTART_REOPEN
  | fenceIssue (site : Nat) (a : Agent) (scope : FenceScope) (work : Option Nat)  -- FENCE_ISSUE
  | fenceComplete (site id : Nat)                                       -- FENCE_COMPLETE
  | acceptFlagPublish (site : Nat)                                      -- ACCEPT_FLAG_PUBLISH
  | barrierArrive (ctx site : Nat)                                      -- BARRIER_ARRIVE
  -- chapters 1, 15, 17: power, contacts, boot, reset, registers
  | coldPowerOn (railsOk intlk : Bool) (loads : PowerReport)                                                   -- COLD_POWER_ON
  | pgInDeassert                                                        -- PG_IN_DEASSERT
  | railLoss (rail : Nat)                                               -- RAIL_LOSS
  | perstNAssert                                                        -- PERST_N_ASSERT
  | perstNRelease (bootMode : Nat)                                      -- PERST_N_RELEASE
  | reset (src : Iface) (v : Nat)                                       -- RESET
  | deviceResetRequest (source : Nat)                                   -- DEVICE_RESET_REQUEST
  | bootStepDone (step : Nat) (r : BootReport)                          -- BOOT_STEP_DONE
  | bootWatchdogExpiry                                                  -- BOOT_WATCHDOG_EXPIRY
  | patienceRetry (src : Iface) (v : Nat)                               -- PATIENCE_RETRY
  | readLowHalf (src : Iface) (off : ReadAt)                            -- READ_LOW_HALF
  | writeLowHalf (src : Iface) (off v : Nat)                            -- WRITE_LOW_HALF
  | writeHighHalf (src : Iface) (off v : Nat)                           -- WRITE_HIGH_HALF
  | registerWrite (src : Iface) (off : Nat) (wide : Bool) (v : Nat)     -- REGISTER_WRITE
  | changeLogFlush                                                      -- CHANGE_LOG_FLUSH
  | unmappedAccess (src : Iface) (off : Nat) (write : Bool)             -- UNMAPPED_ACCESS
  | stoppedAccess (src : Iface) (off : Nat) (write : Bool)              -- STOPPED_ACCESS
  -- chapter 9: transits and charts
  | transitTick                                                         -- TRANSIT_TICK
  | dealPhase                                                           -- DEAL_PHASE
  | runPhaseStart                                                       -- RUN_PHASE_START
  | scheduleEntryStart (idx scratch : Nat) (ext : Ext) -- SCHEDULE_ENTRY_START
  | operatorComplete (idx : Nat)                                        -- OPERATOR_COMPLETE
  | runPhaseEnd (site : Nat)                                            -- RUN_PHASE_END
  | settleStart                                                         -- SETTLE_START
  | quietWindowOpen (q : QuietReport)                                   -- QUIET_WINDOW_OPEN
  | drainComplete                                                       -- DRAIN_COMPLETE
  | mapSwitchResume                                                     -- MAP_SWITCH_RESUME
  | drainPostpone                                                       -- DRAIN_POSTPONE
  | tsyncFrame (f : TsyncFrame)                                         -- TSYNC_FRAME
  | tsyncTimeout                                                        -- TSYNC_TIMEOUT
  | holdoverExpiry                                                      -- HOLDOVER_EXPIRY
  | successorTakeover                                                   -- SUCCESSOR_TAKEOVER
  | poleListenDone (heard : Bool)                                       -- POLE_LISTEN_DONE
  | chartCopyDone (image : List Byte) (ok : Bool) (ecc : List EccHit)  -- CHART_COPY_DONE
  | switchPrepareDone (bad : List (Nat × Nat))  -- SWITCH_PREPARE_DONE
  | stnClear (src : Iface) (site v : Nat)                               -- STN_CLEAR
  | trnClear (src : Iface) (v : Nat)                                    -- TRN_CLEAR
  | cmtClear (src : Iface) (v : Nat)                                    -- CMT_CLEAR
  | clkClear (src : Iface) (v : Nat)                                    -- CLK_CLEAR
  | thmClear (src : Iface) (v : Nat)                                    -- THM_CLEAR
  -- chapter 4: light
  | elsIntlkOpen                                                        -- ELS_INTLK_OPEN
  | laserInterlockFault (slot : Nat)                                    -- LASER_INTERLOCK_FAULT
  | lightStart (mods : List ModRead) (feedsOk : Bool)                   -- LIGHT_START
  | lightStartRetry (mods : List ModRead) (feedsOk : Bool)              -- LIGHT_START_RETRY
  | prewarmTimeout (site : Nat)                                         -- PREWARM_TIMEOUT
  | moduleWriteDone (slot mode : Nat) (tap : Int)                       -- MODULE_WRITE_DONE
  | modulePoll (slot : Nat) (r : ModRead)                               -- MODULE_POLL
  | spareCheck (rs : List (Nat × ModRead))                              -- SPARE_CHECK
  | moduleDetect (slot : Nat) (r : ModRead)                             -- MODULE_DETECT
  | fadeSample (feed : Nat) (tap : Int) (splits : List (Nat × Int)) (dumps : List Int) -- FADE_SAMPLE
  | swapCrossbarMove (feed : Nat)                                       -- SWAP_CROSSBAR_MOVE
  | swapTapCheck (feed : Nat) (taps : List (Tap × Int))                 -- SWAP_TAP_CHECK
  | swapPauseEnd (feed : Nat)                                           -- SWAP_PAUSE_END
  | swapGo (src : Iface) (v : Nat)                                      -- SWAP_GO
  | fastSwapCrossbarMove (feed : Nat)                                   -- FAST_SWAP_CROSSBAR_MOVE
  | fastSwapTapCheck (feed : Nat) (taps : List (Tap × Int))             -- FAST_SWAP_TAP_CHECK
  | fastSwapResume (feed : Nat)                                         -- FAST_SWAP_RESUME
  | commission (src : Iface) (v : Nat)                                  -- COMMISSION
  | ringSweepDone (site ring pick : Nat) (peaks : List Nat)             -- RING_SWEEP_DONE
  | toneDecodeDone (site ring : Nat) (r : ToneRead)                     -- TONE_DECODE_DONE
  | twinkleVisit (site engine ring a b : Nat)                           -- TWINKLE_VISIT
  | heaterFault (site ring : Nat) (short : Bool)                        -- HEATER_FAULT
  | relockTimeout (site ring : Nat)                                     -- RELOCK_TIMEOUT
  | idRecheck (site ring : Nat) (r : ToneRead)                          -- ID_RECHECK
  -- chapters 5 and 6: optical matrix units
  | omuPqTail (src : Iface) (tile v : Nat)                              -- OMU_PQ_TAIL
  | passStart (tile : Nat)                                              -- PASS_START
  | guardSlotRecheck (tile : Nat)                                       -- GUARD_SLOT_RECHECK
  | passComplete (tile omu : Nat)                                       -- PASS_COMPLETE
  | sentinelTrip (tile omu : Nat)                                       -- SENTINEL_TRIP
  | pilotSlot (tile omu : Nat)                                          -- PILOT_SLOT
  | pilotNow (src : Iface) (tile v : Nat)                               -- PILOT_NOW
  | pilotComplete (tile omu : Nat) (r : PilotReport)                    -- PILOT_COMPLETE
  | pilotStale (tile omu : Nat)                                         -- PILOT_STALE
  | gainTrimUpdate (tile omu : Nat) (tap : Int)                         -- GAIN_TRIM_UPDATE
  -- chapter 8: memory, pooling, check values
  | sweepRead (loc : Nat) (ecc : List EccHit)                                                 -- SWEEP_READ
  | hotPrefixReady (tile : Nat) (hot : HotRows)                         -- HOT_PREFIX_READY
  | shardRebuildDone (table shard : Nat)                                -- SHARD_REBUILD_DONE
  | engineJob (m : Nat) (ecc : List EccHit) (ext : Ext) -- ENGINE_JOB
  | engineJobComplete (m job : Nat)                                     -- ENGINE_JOB_COMPLETE
  | jobCompletionReceive (tile : Nat)                                   -- JOB_COMPLETION_RECEIVE
  | chkGo (src : Iface) (hub ctx v : Nat)                               -- CHK_GO
  | chkAbort (src : Iface) (hub ctx v : Nat)                            -- CHK_ABORT
  | checkScanDone (hub ctx : Nat) (host : List Byte) (bad : Option Nat) (ecc : List EccHit) (stop : Option Nat)                                       -- CHECK_SCAN_DONE
  -- chapter 10: host interface and cards
  | cxlMemWrite (addr : Nat) (data : List Byte) (poison : Bool) (ecc : List EccHit)         -- CXL_MEM_WRITE
  | cxlMemRead (addr : Nat) (ecc : List EccHit)                                             -- CXL_MEM_READ
  | cxlLinkDown                                                         -- CXL_LINK_DOWN
  | cxlLinkUp                                                           -- CXL_LINK_UP
  | deckEnable (src : Iface) (d v : Nat)                                -- DECK_ENABLE
  | deckDisable (src : Iface) (d v : Nat)                               -- DECK_DISABLE
  | sqTail (d v : Nat)                                                  -- SQ_TAIL
  | cqHead (d v : Nat)                                                  -- CQ_HEAD
  | cardFetch (d : Nat) (cards : List (List Byte × List Byte)) (end_ : FetchEnd) -- CARD_FETCH
  | dummyAck (seq : Nat)                                                -- DUMMY_ACK
  | dummyAckTimeout (seq : Nat)                                         -- DUMMY_ACK_TIMEOUT
  | mirrorWriteDone (seq : Nat) (done ok : Bool)                        -- MIRROR_WRITE_DONE
  | nop (seq : Nat)                                                     -- NOP
  | infer (seq : Nat)                                                   -- INFER
  | gather (seq : Nat)                                                  -- GATHER
  | score (seq : Nat)                                                   -- SCORE
  | topk (seq : Nat)                                                    -- TOPK
  | copy (seq : Nat)                                                    -- COPY
  | fill (seq : Nat)                                                    -- FILL
  | check (seq : Nat)                                                   -- CHECK
  | handBegin (seq : Nat)                                               -- HAND_BEGIN
  | handWrite (seq : Nat)                                               -- HAND_WRITE
  | handCommit (seq : Nat)                                              -- HAND_COMMIT
  | handAbort (seq : Nat)                                               -- HAND_ABORT
  | fence (seq : Nat)                                                   -- FENCE
  | chartLoad (seq : Nat)                                               -- CHART_LOAD
  | chartSwitch (seq : Nat)                                             -- CHART_SWITCH
  | tableDefine (seq : Nat)                                             -- TABLE_DEFINE
  | telemetrySnapshot (seq : Nat)                                       -- TELEMETRY_SNAPSHOT
  | telemetryCapture (seq j : Nat)                                      -- TELEMETRY_CAPTURE
  | cometBulk (seq : Nat) (host : List Byte) (bad : Bool) (ecc : List EccHit)  -- COMET_BULK
  | moverDone (seq : Nat) (host : List Byte) (bad : Bool) (ecc : List EccHit) -- MOVER_DONE
  | irqTimerExpiry (d : Nat)                                            -- IRQ_TIMER_EXPIRY
  | evfDataRead (src : Iface) (flip : Nat)                              -- EVF_DATA_READ
  | flush (src : Iface) (v : Nat)                                       -- FLUSH
  -- chapter 11: the two hubs, recovery
  | stateCopyAck                                                        -- STATE_COPY_ACK
  | heartbeat                                                           -- HEARTBEAT
  | takeover (cause : Nat)                                              -- TAKEOVER
  | takeoverReplay (mirror : List (Nat × List Byte)) (rings : List (Nat × List (List Byte))) (imageOk : Bool) -- TAKEOVER_REPLAY
  | takeoverTimeout                                                     -- TAKEOVER_TIMEOUT
  | standbyResync                                                       -- STANDBY_RESYNC
  | standbyResyncDone                                                   -- STANDBY_RESYNC_DONE
  | writeBackDone (h : Nat)                                             -- WRITE_BACK_DONE
  | recover (src : Iface) (v : Nat)                                     -- RECOVER
  | recoveryDone (recs : List (Nat × List Byte)) (readable : Bool)      -- RECOVERY_DONE
  | talWinSel (src : Iface) (v : Nat)                                   -- TAL_WIN_SEL
  -- chapter 12: Comet
  | cometWrite (port : Nat) (f : Frame) (fcsOk : Bool) (ecc : List EccHit)  -- COMET_WRITE
  | cometRead (port : Nat) (f : Frame) (fcsOk : Bool) (ecc : List EccHit)  -- COMET_READ
  | readResp (port : Nat) (f : Frame) (fcsOk : Bool)  -- READ_RESP
  | atomic (port : Nat) (f : Frame) (fcsOk : Bool) (ecc : List EccHit)  -- ATOMIC
  | atomicResp (port : Nat) (f : Frame) (fcsOk : Bool)  -- ATOMIC_RESP
  | bulkWrite (port : Nat) (f : Frame) (fcsOk : Bool) (ecc : List EccHit)  -- BULK_WRITE
  | bulkRead (port : Nat) (f : Frame) (fcsOk : Bool) (ecc : List EccHit)  -- BULK_READ
  | refuse (port : Nat) (f : Frame) (fcsOk : Bool)  -- REFUSE
  | ack (port : Nat) (f : Frame) (fcsOk : Bool)  -- ACK
  | hello (port : Nat) (f : Frame) (fcsOk : Bool)  -- HELLO
  | timing (port : Nat) (f : Frame) (fcsOk : Bool)  -- TIMING
  | barrier (port : Nat) (f : Frame) (fcsOk : Bool)  -- BARRIER
  | atomicRequest (site : Nat)                                          -- ATOMIC_REQUEST
  | writePackTimeout (peer : Nat)                                       -- WRITE_PACK_TIMEOUT
  | cometRto (peer space seq : Nat)                                     -- COMET_RTO
  | helloRetry (peer : Nat)                                             -- HELLO_RETRY
  | peerLost (peer : Nat)                                               -- PEER_LOST
  | gatewayFlush (win site : Nat)  -- GATEWAY_FLUSH
  | timingExchange                                                      -- TIMING_EXCHANGE
  | portDown (port : Nat)                                               -- PORT_DOWN
  | retrainAttempt (port : Nat) (ok : Bool) (lanes : Nat)  -- RETRAIN_ATTEMPT
  | retrain (src : Iface) (port v : Nat)                                -- RETRAIN
  | alogQuery (src : Iface) (v : Nat)                                   -- ALOG_QUERY
  | alogQueryDone                                                       -- ALOG_QUERY_DONE
  -- chapters 13 and 14: clocks, thermal, power
  | trefLoss                                                            -- TREF_LOSS
  | trefHoldoverEnd                                                     -- TREF_HOLDOVER_END
  | arm (src : Iface) (v : Nat)                                         -- ARM
  | monitorSample (region : Nat) (fail : Bool)                          -- MONITOR_SAMPLE
  | ceilRestore (src : Iface) (v : Nat)                                 -- CEIL_RESTORE
  | droopTrip (tile k : Nat)                                              -- DROOP_TRIP
  | droopClear (tile k : Nat)                                             -- DROOP_CLEAR
  | seamSlowSwitch (half : Nat)                                         -- SEAM_SLOW_SWITCH
  | seamRelease (half : Nat)                                            -- SEAM_RELEASE
  | seamCapClear (half : Nat)                                           -- SEAM_CAP_CLEAR
  | sensorSample (r : SensorReport)                                     -- SENSOR_SAMPLE
  | hbmTempRead (m : Nat) (readings : List Int)                                               -- HBM_TEMP_READ
  | canaryRead (tile arrays cells : Nat)                                       -- CANARY_READ
  | limitExceed (tile : Nat)                                            -- LIMIT_EXCEED
  | powerSample (rails : List (Nat × Nat × Bool))                                           -- POWER_SAMPLE
  | clusterLevelReport (tile : Nat) (shares : List Nat)                 -- CLUSTER_LEVEL_REPORT
  -- chapter 15: faults and resets
  | crashDumpDone                                                       -- CRASH_DUMP_DONE
  | tileStackReset (t : Nat)                                            -- TILE_STACK_RESET
  | firmamentSiteReset (k : Nat)                                        -- FIRMAMENT_SITE_RESET
  | stationReset (k : Nat)                                              -- STATION_RESET
  | mbdReset (m : Nat)                                                  -- MBD_RESET
  | ioChipletReset (c : Nat)                                            -- IO_CHIPLET_RESET
  | frontEndReset (h : Nat)                                             -- FRONT_END_RESET
  | croupierWatchdog                                                    -- CROUPIER_WATCHDOG
  | domainResetEnd (d : Nat)                                            -- DOMAIN_RESET_END
  | tileHang (t : Nat)                                                  -- TILE_HANG
  | reinstate (src : Iface) (v : Nat)                                   -- REINSTATE
  | clearAll (src : Iface) (v : Nat)                                    -- CLEAR_ALL
  | guardCheck (r : GuardReport)                                                          -- GUARD_CHECK
  -- chapter 16: management, identity, lifetime
  | read (src : Iface)                                        -- READ
  | program (src : Iface)                                     -- PROGRAM
  | verifyFw (src : Iface)                                    -- VERIFY_FW
  | activateFw (src : Iface)                                  -- ACTIVATE_FW
  | guardUpdate (src : Iface)                                 -- GUARD_UPDATE
  | saveLife (src : Iface)                                    -- SAVE_LIFE
  | clearLog (src : Iface)                                    -- CLEAR_LOG
  | clearDump (src : Iface)                                   -- CLEAR_DUMP
  | eraseImage (src : Iface)                                  -- ERASE_IMAGE
  | almCmdDone (verdict : Nat)                                          -- ALM_CMD_DONE
  | lifetimeRecord                                                      -- LIFETIME_RECORD
  | getIdentity (src : Iface) (off len : Nat)                           -- GET_IDENTITY
  | quoteStart (src : Iface) (nonce : List Byte)                        -- QUOTE_START
  | quoteSigned (sig : List Byte)                                       -- QUOTE_SIGNED
  | quoteRead (src : Iface) (off len : Nat)                             -- QUOTE_READ
  | regRead (src : Iface) (off : ReadAt) (width : Nat)                   -- REG_READ
  | regWrite (src : Iface) (off width v : Nat)                          -- REG_WRITE
  | setEndpointId (src : Iface) (op eid : Nat)                          -- SET_ENDPOINT_ID
  | getEndpointId (src : Iface)                                         -- GET_ENDPOINT_ID
  | getMctpVersionSupport (src : Iface) (type : Nat)                    -- GET_MCTP_VERSION_SUPPORT
  | getMessageTypeSupport (src : Iface)                                 -- GET_MESSAGE_TYPE_SUPPORT
  -- contacts, the host link, ends of windows
  | bondCheck (fail : Bool)                                             -- BOND_CHECK
  | elsIntlkClose                                                       -- ELS_INTLK_CLOSE
  | trefReturn                                                          -- TREF_RETURN
  | cxlSnoop (addr : Nat)                                               -- CXL_SNOOP
  | hostAccessComplete (id : Nat) (data : List Byte) (poison : Nat)    -- HOST_ACCESS_COMPLETE
  | frameTransmitDone (port : Nat)                                      -- FRAME_TRANSMIT_DONE
  | escalationWindowExpiry (d : Nat)                                    -- ESCALATION_WINDOW_EXPIRY
  deriving DecidableEq, Repr

end Sys2Proof
end

