-- ==== Sys2Proof/Machine/CometTypes.lean ====
section
/-! DEFINITION. The part of the state that Comet holds: windows, sessions with peers, ports, gateways, constellation barriers,
timing (chapter "Comet rack fabric and constellations"). -/

namespace Sys2Proof.Machine

/-- An installed entry of the outbound window table (R377, R378). -/
structure Win where
  valid   : Bool := false
  read    : Bool := false
  write   : Bool := false
  atomic  : Bool := false
  bulk    : Bool := false
  gateway : Bool := false
  peer    : Nat := 0
  base    : Nat := 0
  size    : Nat := 0
  remote  : Nat := 0
  deriving DecidableEq, Repr

/-- A frame of the ordered or a bulk space that waits for its number, its acknowledgement or, an ATOMIC, its response (R385): how often
and when it was last sent and on which path, when its chiplet took it in from the Sky (none: a response), the site and the
card it was taken for. -/
structure CTx where
  f      : Frame
  bulk   : Bool := false
  sends  : Nat := 0
  sentAt : Nat := 0
  path   : Nat := 0
  took   : Option Nat := none
  site   : Nat := 63
  work   : Option Nat := none
  acked  : Bool := false
  deriving DecidableEq, Repr

/-- What a request that awaits its responses was made for (R389, R398): a Sky read, an atomic, a pull of a card, or a load that a
gateway serves. -/
inductive ReqKind where
  | load | atomic | pull | gateway
  deriving DecidableEq, Repr

/-- A request that awaits its responses (R382 RTAG, R389): the chiplet that took it, the source site, the remote range, the Sky packet it
answers, the reply's site, mailbox and TAG, or the card and its local address; the pieces received. `off` is where a gateway's load
starts in its block, or how many bytes a pull wants. -/
structure CReq where
  rtag : Nat
  kind : ReqKind
  chip : Nat
  site : Nat
  addr : Nat
  len  : Nat
  off  : Nat := 0
  pkt  : Pkt := {}
  dest : Nat := 0
  box  : Nat := 0
  tag  : Nat := 0
  work : Option Nat := none
  dst  : Nat := 0
  took : Nat := 0
  got  : List (Nat × List Byte × Bool) := []
  deriving DecidableEq, Repr

/-- Consecutive writes of one site being packed into a frame (R389). -/
structure Pack where
  site  : Nat
  addr  : Nat
  bytes : List Byte
  bad   : Bool
  since : Nat
  deriving DecidableEq, Repr

/-- The session with a peer (R385 to R388): the peer's epoch; `fresh` until the first HELLO after a reset of this part or of the chiplet that
held its numbering; whether it is up, since when it is not, whether the peer is lost; paths not established, paths greeted,
the ordered path; both ends of the ordered space and of the bulk spaces; requests and the pack under way; the answers to
taken reads that have not left yet, each with the space, SEQ, RTAG and address (a read is committed when its response has been sent);
whether frames may come again that were committed before the cumulative point was lost (R388); `blank` while the peer has yet to learn, by a HELLO, that
this side has lost its numbering and its points (log entry 177). -/
structure Sess where
  epoch    : Option Nat := none
  fresh    : Bool := true
  rxLost   : Bool := true
  up       : Bool := false
  since    : Nat := 0
  lost     : Bool := false
  failed   : List Nat := []
  hailed   : List Nat := []
  ord      : Option Nat := none
  stripe   : Nat := 0
  txNext   : Nat := 0
  txCum    : Nat := 0xFFFFFFFF
  bulkNext : List (Nat × Nat) := []
  tx       : List CTx := []
  wait     : List CTx := []
  rxCum    : Nat := 0xFFFFFFFF
  held     : List Frame := []
  bulkCum  : List (Nat × Nat) := []
  bulkHeld : List (Nat × Nat) := []
  reqs     : List CReq := []
  nextTag  : Nat := 0
  pack     : Option Pack := none
  owed     : List (Nat × Nat × Nat × Nat) := []
  doubt    : Bool := false
  blank    : Bool := true
  deriving DecidableEq, Repr

/-- A port's transmit queues by class, the frame on the wire, and the retraining attempt under way with its start (R383, R399). -/
structure CPort where
  q0      : List Frame := []
  q1      : List Frame := []
  q2      : List Frame := []
  q3      : List Frame := []
  cur     : Option Frame := none
  attempt : Nat := 0
  since   : Nat := 0
  deriving DecidableEq, Repr

/-- A gateway's staging block (R398): its window and source site, its 64 KiB block at the peer, the bytes stored by offset, each 1 above its value, the granules stored
poisoned, when the first store came, the peer of the window's entry then (R378). -/
structure Gw where
  win   : Nat
  site  : Nat
  block : Nat
  bytes : List (Nat × Nat)
  bad   : List Nat
  since : Nat
  peer  : Nat
  deriving DecidableEq, Repr

/-- The round of a constellation barrier entry (R405): its number, the parts counted at the root, whether this part has arrived. -/
structure CBar where
  round   : Nat := 0
  arrived : List Nat := []
  mine    : Bool := false
  deriving DecidableEq, Repr

/-- Comet: the installed window table, the entries staged for the next quiet window, the I/O chiplet that serves each peer (R380), the
EtherType in force and whether a written one waits (R407), sessions by peer, ports, gateways, barrier rounds by entry;
timing (R402): T2 − T1 of the last tick frame, the time T3 of the exchange under way, the last 16 delays; whether a
successor acts as Pole, whether a Pole listens, since when, whether it heard SUCCESSOR frames meanwhile, and whether it
follows the successor it heard (R404); whether a log query is under way; cards with the chiplets their traffic went through (R400); the bytes sent since the last check of the guards (R484), and the egress ceiling that shapes the UP ports, in
Gbit/s (R483). -/
structure Comet where
  wins      : List (Nat × Win) := []
  staged    : List Nat := []
  server    : List (Nat × Nat) := []
  etype     : Nat := 0x88B5
  etypePend : Bool := false
  sess      : List (Nat × Sess) := []
  ports     : List (Nat × CPort) := []
  gws       : List Gw := []
  bars      : List (Nat × CBar) := []
  there     : Option Int := none
  asked     : Option Nat := none
  delays    : List Int := []
  acting    : Bool := false
  listening : Bool := false
  listenAt  : Nat := 0
  heard     : Bool := false
  yields    : Bool := false
  query     : Bool := false
  users     : List (Nat × Nat) := []
  egress    : Nat := 0
  shape     : Nat := 0
  deriving DecidableEq, Repr

end Sys2Proof.Machine
end

