-- ==== Sys2Proof/Machine/MemTypes.lean ====
section
/-! DEFINITION. The parts of the state that memory, and the tables hold. -/

namespace Sys2Proof.Machine

/-- A shard record (R239). -/
structure Shard where
  firstRow : Nat
  nrows    : Nat
  engine   : Nat
  mirror   : Nat
  state    : Nat
  base     : Nat
  mbase    : Nat
  /-- The copy that a DEGRADED shard has lost: 1 the primary, 2 the mirror (R242). -/
  lost     : Nat := 0
  deriving DecidableEq, Repr

/-- A table descriptor in force (R237). -/
structure Table where
  id       : Nat
  fmt      : Nat
  part     : Nat
  d        : Nat
  stride   : Nat
  rows     : Nat
  hotRows  : Nat
  hotTiles : Nat
  version  : Nat := 1
  shards   : List Shard
  deriving DecidableEq, Repr

/-- Memory's state beside its bytes: the table directory in force (rising ids), the READY flags of row caches as
`tile * 4096 + table` (R241), the Sweep reads whose write-back is under way (granule, by site), how many correctable errors each granule showed in its stack's current Sweep cycle (R236), rows waiting
for repair by stack, rows repaired (the Almanac's repair list). -/
structure Mems where
  tables  : List Table := []
  ready   : List Nat := []
  sweeping : List (Nat × Nat) := []
  ceSeen  : List (Nat × Nat) := []
  repair  : List (Nat × Nat) := []
  repaired : List (Nat × Nat) := []
  deriving DecidableEq, Repr

end Sys2Proof.Machine
end

