-- ==== Sys2Proof/Machine/ChartTypes.lean ====
section
/-! DEFINITION. A chart as the loader has read it (R273 to R287, R401). -/

namespace Sys2Proof.Machine

/-- An operand reference (R199). -/
structure Opnd where
  dpa    : Nat := 0
  fmt    : Nat := 0
  rows   : Nat := 0
  cols   : Nat := 0
  stride : Nat := 0
  deriving DecidableEq, Repr

/-- An operator descriptor (R198); `param` is its bytes 96 to 127. -/
structure OpDesc where
  opcode : Nat := 0
  path   : Nat := 0
  opId   : Nat := 0
  tiles  : Nat := 0
  out    : Opnd := {}
  in0    : Opnd := {}
  in1    : Opnd := {}
  in2    : Opnd := {}
  in3    : Opnd := {}
  param  : List Byte := []
  deriving DecidableEq, Repr

/-- A schedule entry (R285). -/
structure SchedEnt where
  tile    : Nat
  barrier : Nat
  waitBar : Bool
  op      : Nat
  start   : Nat
  dur     : Nat
  deriving DecidableEq, Repr

/-- A partition (R286): valid, its sites and its decks as masks. -/
structure PartDef where
  valid : Bool := false
  sites : Nat := 0
  decks : Nat := 0
  deriving DecidableEq, Repr

/-- A degradation variant (R287). -/
structure Variant where
  retTiles : Nat := 0
  retMem   : Nat := 0
  deriving DecidableEq, Repr

/-- A channel as the SKY_MAP section gives it (R278). -/
structure ChanSpec where
  orbit    : Nat
  wg       : Nat
  lambda   : Nat
  writer   : Nat
  reader   : Nat
  allpairs : Bool
  wring    : Nat
  rring    : Nat
  deriving DecidableEq, Repr

/-- A declared flow (R279). -/
structure Flow where
  src  : Nat
  dest : Nat
  cls  : Nat
  load : Nat
  deriving DecidableEq, Repr

/-- A tile's cache layout (R280). -/
structure Layout where
  pqBase  : Nat := 0x0FBF8000
  offtab  : Nat := 0x0FBFC000
  rowBase : Nat := 0
  rowMib  : Nat := 0
  deriving DecidableEq, Repr

/-- A run of weight blocks (R280): tile, cache offset, count, and where the first block stands in the chart image. -/
structure Weights where
  tile   : Nat
  offset : Nat
  count  : Nat
  pos    : Nat
  deriving DecidableEq, Repr

/-- The PILOT section (R280): EVERY, and each OMU's phase and run-phase offset. -/
structure Pilots where
  every : Nat := 64
  omus  : List (Nat × Nat) := []
  deriving DecidableEq, Repr

/-- An error target or path pin (R281). -/
structure Target where
  kind  : Nat
  path  : Nat
  opId  : Nat
  value : Nat
  deriving DecidableEq, Repr

/-- The activity map (R282): slot length, and 24 words for each slot. -/
structure Activity where
  slotNs : Nat := 0
  words  : List Nat := []
  deriving DecidableEq, Repr

/-- A barrier context (R283). -/
structure BarDef where
  valid : Bool := false
  part  : Nat := 0
  sites : Nat := 0
  deriving DecidableEq, Repr

/-- A peer of the constellation (R401): PART_ID, FAR, MEMBER, its atomic source slot (0xFFFF: none), its MAC_BASE, its paths as (local
port, remote port), in order. -/
structure PeerDef where
  part   : Nat
  far    : Bool
  member : Bool
  slot   : Nat
  mac    : Nat
  paths  : List (Nat × Nat)
  deriving DecidableEq, Repr

/-- A constellation barrier entry (R401, R405): valid, local context, root part, member parts counted at the root. -/
structure ConBar where
  valid    : Bool
  ctx      : Nat
  root     : Nat
  nmembers : Nat
  deriving DecidableEq, Repr

/-- The CONSTELLATION section (R401). -/
structure Constell where
  partId    : Nat := 0
  pole      : Nat := 0
  successor : Nat := 0xFFF
  vlan      : Bool := false
  vid       : Nat := 0
  sources   : Nat := 0
  logs      : List Nat := []
  peers     : List PeerDef := []
  bars      : List ConBar := []
  deriving DecidableEq, Repr

/-- A chart as the loader has read it (R273 to R287): sections by variant, 255 the common one. -/
structure Chart where
  builtin  : Bool := false
  id       : Nat := 0
  signed   : Bool := false
  keyId    : Nat := 0
  period   : Nat := 100
  quiet    : Nat := 4
  settle   : Nat := 2
  role     : Nat := 0
  source   : Nat := 0
  step     : Nat := 7
  variants : List Variant := []
  parts    : List PartDef := []
  maps     : List (Nat × List ChanSpec) := []
  flows    : List (Nat × List Flow) := []
  tables   : List (Nat × List Table) := []
  ops      : List (Nat × List OpDesc) := []
  sched    : List (Nat × List SchedEnt) := []
  weights  : List (Nat × List Weights) := []
  layouts  : List (Nat × List Layout) := []
  pilots   : List (Nat × Pilots) := []
  typical  : Bool := false
  targets  : List Target := []
  activity : List (Nat × Activity) := []
  barriers : List (Nat × List BarDef) := []
  constell : Option Constell := none
  stage    : Nat := 0
  deriving DecidableEq, Repr

end Sys2Proof.Machine
end

