-- ==== Sys2Proof/Machine/DealTypes.lean ====
section
/-! DEFINITION. The parts of the state that the Dealer, hands, charts and transits hold. -/

namespace Sys2Proof.Machine

/-- The status-dependent fields of a completion (R326, R327, R329). -/
structure Result where
  status : Nat := 0
  detail : Nat := 0
  count  : Nat := 0
  result : Nat := 0
  deriving DecidableEq, Repr

/-- Counts of an operator run, and of the card that ran it (R201, R224, R245). -/
structure Counts where
  satKept : Nat := 0
  recomp  : Nat := 0
  nans    : Nat := 0
  empty   : Nat := 0
  short   : Nat := 0
  poison  : Nat := 0
  scores  : Nat := 0
  oob     : Nat := 0
  deriving DecidableEq, Repr

/-- A Tally entry with its card copy (R345), the Dummy's acknowledgement (R342, R344), the visibility of its mirror records
(R342, R349), a TABLE_DEFINE's descriptor as accepted, the run of a dealt card (slot, start, end, the statuses it has met, R327), and its posting (R330, R346).
`accT` is the transit of acceptance, which a replay restores (R345); `held` says that the Dummy has acknowledged it while a mirror write fails (R349), `again`
that a replay's line 0 is not visible yet (R348).
`state` is 1 ACCEPTED, 2 DEALT, 3 DONE; 0 marks an index that holds no entry. -/
structure Entry where
  deck     : Nat := 0
  part     : Nat := 0
  state    : Nat := 0
  commit   : Bool := false
  replays  : Nat := 0
  slot     : Nat := 0
  hand     : Nat := 0
  opcode   : Nat := 0
  transit  : Nat := 0
  accT     : Nat := 0
  card     : List Byte := []
  desc     : List Byte := []
  acked    : Bool := false
  held     : Bool := false
  again    : Bool := false
  tries    : Nat := 0
  visible  : Bool := false
  chart    : Nat := 0
  pipe     : Option Nat := none
  started  : Bool := false
  finished : Bool := false
  runs     : List Result := []
  counts   : Counts := {}
  value    : Nat := 0
  fin      : Result := {}
  doneVis  : Bool := false
  posted   : Bool := false
  freed    : Bool := false
  suspect  : Bool := false
  warm     : Bool := false
  deriving DecidableEq, Repr

/-- A deck beside its registers (R310 to R315, R330, R331): the doorbell values, the next slot to fetch, the posted and not
yet consumed completion slots with the Tally sequence each holds (0 when not journalled), interrupt moderation, and whether its vector waits while it is
masked. -/
structure Deck where
  sqTail : Nat := 0
  cqHead : Nat := 0
  fetch  : Nat := 0
  posted : List (Nat × Nat) := []
  unsig  : Nat := 0
  unsigAt : Option Nat := none
  accSeq : Nat := 0
  pend   : Bool := false
  deriving DecidableEq, Repr

/-- A row staged by a hand in the shadow of the stacks that hold its shard's copies, with the Tally sequence of the HAND_WRITE (R360). -/
structure StagedRow where
  table  : Nat
  row    : Nat
  data   : List Byte
  poison : Bool
  held   : List Nat
  seq    : Nat := 0
  deriving DecidableEq, Repr

/-- A hand slot (R358 to R366, R372): `state` is 0 FREE, 1 OPEN, 2 CLOSING, 3 WRITING_BACK; the rows staged and not yet
written back, the descriptors staged, the tables as they stood when their rows were staged, the first transit of the
new version; the Tally sequences of its HAND_BEGIN and of its HAND_COMMIT, and the descriptors its flip has replaced (R366). -/
structure Hand where
  id       : Nat := 0
  state    : Nat := 0
  part     : Nat := 0
  reserved : Nat := 0
  rows     : List StagedRow := []
  defs     : List Table := []
  shapes   : List Table := []
  commitT  : Nat := 0
  begun    : Nat := 0
  ended    : Nat := 0
  was      : List Table := []
  deriving DecidableEq, Repr

/-- Hands and shadow pools: slots in use, pools installed by stack (base and size in GiB), the stacks whose pool write waits
for the quiet window, the descriptors of TABLE_DEFINE cards without a hand by Tally sequence, and the commits decided
in this settle whose flip falls at the next tick (hand slots; 32 and above: a solo descriptor's sequence plus 32). -/
structure Hands where
  slots    : List (Nat × Hand) := []
  pools    : List (Nat × Nat × Nat) := []
  poolPend : List Nat := []
  solo     : List (Nat × Table) := []
  flips    : List Nat := []
  deriving DecidableEq, Repr

/-- An access of hub W to host memory that the link has not completed (R307): the packet of the Sky that waits on it. -/
structure HostAcc where
  id  : Nat
  pkt : Pkt
  deriving DecidableEq, Repr

/-- The host window in force (R306), accesses that wait on the link, the host's writes whose link completion waits for forwards (R303: number, address,
how many), and the width and the rate in GT/s that the link has trained to (R301). -/
structure HostIf where
  base   : Nat := 0
  gib    : Nat := 0
  accs   : List HostAcc := []
  next   : Nat := 1
  writes : List (Nat × Nat × Nat) := []
  width  : Nat := 0
  rate   : Nat := 0
  deriving DecidableEq, Repr

/-- A chart load under way (R291). -/
structure Load where
  seq  : Nat
  slot : Nat
  src  : Nat
  len  : Nat
  deriving DecidableEq, Repr

/-- A chart switch under way (R295, R298): its card (none where a retirement began it), slot, variant and AT; whether
preparation has ended, whether the map has been switched, the transits of staging left, whether the content has been written. -/
structure Switch where
  seq     : Option Nat
  slot    : Nat
  variant : Nat
  atT     : Nat
  ready   : Bool := false
  mapped  : Bool := false
  left    : Nat := 0
  content : Bool := false
  deriving DecidableEq, Repr

/-- Charts (R290 to R298): the chart in force, the parsed charts of the slots, the load and the switch under way, the ids
the directory holds through a TABLE_DEFINE, how many charts have come into force, the CHART_SWITCH card whose switch a device
reset ended. -/
structure Charts where
  chart   : Chart := {}
  slots   : List (Nat × Chart) := []
  load    : Option Load := none
  sw      : Option Switch := none
  defined : List Nat := []
  epoch   : Nat := 0
  ended   : Option Nat := none
  owed    : Bool := false
  deriving DecidableEq, Repr

/-- The transit under way (R261 to R272): the time of its tick, the sites whose run phase has ended and whose implicit fence has, when the
last run phase ended, the time the last of a tile's entries ended, the time stretched periods cost by tile in 1/110880 ns, when settle began, when the quiet
window opened, the end of a swap pause, the last 64 transits' lateness, the frames a follower has accepted in a row with the
last TRANSIT and the time of its tick, whether it is locked to a successor and since when it is locked, transits since frames stopped, schedule entries
started and ended, since when the drained Sky stands, and whether a drain was put off in this quiet window (R99). -/
structure Transit where
  tick     : Nat := 0
  runOver  : List Nat := []
  fenced   : List Nat := []
  runEnd   : Nat := 0
  ends     : List (Nat × Nat) := []
  stretch  : List (Nat × Nat) := []
  settled  : Nat := 0
  quietAt  : Nat := 0
  pauseEnd : Nat := 0
  lates    : List Bool := []
  good     : Nat := 0
  lastT    : Nat := 0
  poleAt   : Nat := 0
  succ     : Bool := false
  lockAt   : Nat := 0
  hold     : Nat := 0
  started  : List Nat := []
  ended    : List Nat := []
  drain    : Option Nat := none
  putOff   : Bool := false
  emptied  : Bool := false
  deriving DecidableEq, Repr

/-- What the standby holds of the Dealer's state: the copy it acknowledged last, and the transit it is of (R353, R354). -/
structure Image where
  transit : Nat := 0
  entries : List (Nat × Entry) := []
  decks   : List (Nat × Deck) := []
  cursors : List (Nat × Nat × Nat) := []
  hands   : List (Nat × Hand) := []
  deriving DecidableEq, Repr

/-- The Tally and the two hubs' roles (R342 to R356, R368): entries by sequence, decks, the standby's image, whether the
end-of-settle copy awaits its acknowledgement, a takeover under way (its detection time), the deck the round robin
stands at and its turn's remainder, the heartbeat's time, whether the standby is resynchronising, the transit in which the takeover was detected (R354), and the
mirror writes that have failed and not succeeded since (R349: the sequence, and whether it is the record of DONE). -/
structure Tally where
  entries  : List (Nat × Entry) := []
  decks    : List (Nat × Deck) := []
  image    : Image := {}
  copyWait : Bool := false
  takeover : Option Nat := none
  turn     : Nat := 0
  left     : Nat := 0
  beat     : Nat := 0
  resync   : Bool := false
  noDummy  : Bool := false
  takeT    : Nat := 0
  failed   : List (Nat × Bool) := []
  deriving DecidableEq, Repr

end Sys2Proof.Machine
end

