-- ==== Sys2Proof/Machine/ComputeTypes.lean ====
section
/-! DEFINITION. The parts of the state that operators, engine jobs and OMU passes hold. -/

namespace Sys2Proof.Machine

/-- Bytes an operator or an engine writes, from an address on, with the granules of it that carry the poison tag. -/
structure OutPiece where
  addr  : Nat
  bytes : List Byte
  bad   : List Nat := []
  deriving DecidableEq, Repr

/-- A job the GATHER operator has sent and not seen complete (R246 to R249): its tag, table and shard, the copy it reads, its MBD, its
message, its bags (in the order of its outputs), whether its outputs are partials and where they start, how often it was resent
for BUSY, whether it waits for such a resend, whether its one resend for a failure or for NO_SHARD has been used, and its number among the jobs that the MBD runs, once it does (R249). -/
structure SentJob where
  tag    : Nat
  table  : Nat
  shard  : Nat
  mcopy  : Bool
  mbd    : Nat
  body   : List Byte
  bags   : List Nat := []
  part   : Bool := false
  outAt  : Nat := 0
  stride : Nat := 0
  busy   : Nat := 0
  wait   : Bool := false
  failed : Bool := false
  moved  : Bool := false
  ord    : Option Nat := none
  deriving DecidableEq, Repr

/-- What one place contributes to a bag (R246): the bag, the place (a shard number, or 16 for the tile's own row cache), D FP32
bit patterns, how many rows were pooled, and whether the contribution carries the tag. -/
structure Partial where
  bag   : Nat
  place : Nat
  vals  : List Nat
  n     : Nat
  bad   : Bool
  deriving DecidableEq, Repr

/-- An operator running on a tile (R285): the schedule entry, its tile and operator with the card's overrides, the card whose slot it is, what it will
write, its counts and the statuses it met; for GATHER its jobs, its contributions, its bags that wait for combining, and the bags
whose jobs failed for good (R249); for a GEMM on an optical path the rows of the batch that the tile takes, where its work area starts in the cache
die, the pass descriptors not yet in the ring (R203), and what host and remote memory returned for its operands. -/
structure OpRun where
  idx    : Nat
  tile   : Nat
  op     : OpDesc
  seq    : Option Nat
  outs   : List OutPiece := []
  counts : Counts := {}
  jobs   : List SentJob := []
  parts  : List Partial := []
  bags   : List Nat := []
  lost   : List Nat := []
  status : List Result := []
  rows   : List Nat := []
  base   : Nat := 0
  todo   : List (List Byte) := []
  ext    : Ext := []
  deriving DecidableEq, Repr

/-- An engine job under way in an MBD (R247, R248). -/
structure Job where
  id     : Nat
  mbd    : Nat
  src    : Nat
  notify : Nat
  box    : Nat
  tag    : Nat
  status : Nat
  rows   : Nat := 0
  oob    : Nat := 0
  pbags  : Nat := 0
  gran   : Nat := 0
  bags   : Nat := 0
  empty  : Nat := 0
  waits  : List (Nat × Nat) := []
  deriving DecidableEq, Repr

/-- A pass under way or discarded and waiting to rerun (R155 to R160): its OMU (4: the compute die runs it), the ring index it came from, its
descriptor, whether it loaded its block, how often it was discarded, whether it waits for its rerun (OMU 5: for any of its mask that is free),
whether it has been rerun, what it will write and where its saturated codes stand (R143), the ring index of its group's first descriptor, its own where it has no group (R153), and whether the
guard holds its rerun to the next slot boundary (R448). -/
structure Pass where
  tile   : Nat
  omu    : Nat
  slot   : Nat
  desc   : List Byte
  start  : Nat
  loaded : Bool := false
  drops  : Nat := 0
  waits  : Bool := false
  redo   : Bool := false
  outs   : List OutPiece := []
  status : Nat := 0
  sat    : Nat := 0
  ends   : List Nat := []
  bad    : Nat := 0
  lead   : Nat := 0
  held   : Bool := false
  deriving DecidableEq, Repr

/-- The OMUs beside their registers, by global index (R138): those that make no start until a pilot on the new source has run (R132), extra pilots wanted, scheduled pilots whose slot has come (R164), OMUs whose request for
a drift still stands (R173), pilots to be tried again each transit, the pilot in progress (its start, and whether it is a full one), OMUs whose
last pilot failed verification, failed full pilots in a row, OMUs left in OFF, OMUs waiting for light since a site reset, tiles whose next pass
the guard holds, and the latest level of each cluster (`tile * 4 + cluster`); how many descriptors of a tile's ring still run one by one since their
group found too few OMUs (R153); the 4,160 bytes of the block last loaded (R149); the tables that pilots have committed (R139, R171): the input
transfer tables by input (64 × OMU + i), the weight-driver tables by ring (4,096 × OMU + 64 × row + i), the trims of the rows' offset DACs, the
trunk tap that the gain trim refers to (R151, in 0.005 dB), and the row offset tables (R177); each tile's site temperature at the site's last pilot
(R431, in 0.25 °C); the
addresses at which the output codes that stand in the cache dies are saturated (R143): a sum of two samples does not show it. -/
structure Omus where
  owed    : List Nat := []
  want    : List Nat := []
  due     : List Nat := []
  drifted : List Nat := []
  retry   : List Nat := []
  pilots  : List (Nat × Nat × Bool) := []
  failing : List Nat := []
  fails   : List (Nat × Nat) := []
  uncal   : List Nat := []
  relock  : List Nat := []
  guard   : List Nat := []
  levels  : List (Nat × Nat) := []
  inputs  : List (Nat × List Nat) := []
  drivers : List (Nat × List Nat) := []
  apart   : List (Nat × Nat) := []
  blocks  : List (Nat × List Byte) := []
  dacs    : List (Nat × List Nat) := []
  taps    : List (Nat × Int) := []
  offtabs : List (Nat × List Nat) := []
  siteAt  : List (Nat × Option Int) := []
  clipped : List Nat := []
  deriving DecidableEq, Repr

/-- A scan of a check-value engine (R253 to R255): its context (hub times 8 plus context), its range and algorithm as it took them at its
start, and the CHECK card it runs for. -/
structure Scan where
  ctx   : Nat
  start : Nat
  len   : Nat
  algo  : Nat
  fold  : Bool
  seq0  : Nat
  seq   : Option Nat
  deriving DecidableEq, Repr

/-- Operators, engine jobs, passes and scans under way, and the next numbers. -/
structure Compute where
  scans  : List Scan := []
  runs   : List OpRun := []
  jobs   : List Job := []
  passes : List Pass := []
  next   : Nat := 1
  deriving DecidableEq, Repr

end Sys2Proof.Machine
end

