-- ==== Sys2Proof/Machine/LightTypes.lean ====
section
/-! DEFINITION. What the light control and the rings hold beside their registers (R104 to R135). -/

namespace Sys2Proof.Machine

/-- A swap of a feed (R131, R133, R134): its kind, the step it stands at (1 ordered, 2 paused or stopped, 3 the spare on the feed, 4 its check
passed, 5 the old input back on the feed, 6 its taps checked), the slot that gives the feed up (8: none, the feed was dark), the slot that takes it, whether the tap check
has been repeated, when its step began, and the orbit whose module it takes where no spare was left. -/
structure Swap where
  feed   : Nat
  fast   : Bool
  step   : Nat
  old    : Nat
  spare  : Nat
  again  : Bool := false
  since  : Nat
  donor  : Option Nat := none
  deriving DecidableEq, Repr

/-- A ring that relocks (R121): its key, when the relock in progress began, and the relocks in a row that failed to confirm as (start, end), the
last three of them. -/
structure Relock where
  ring  : Nat
  since : Nat
  fails : List (Nat × Nat) := []
  deriving DecidableEq, Repr

/-- The light control (R105, R112 to R135). Rings are keyed by `site * 1024 + ring`.

Modules: the start-up steps passed, since when the start stands at one, whether it keeps heater codes, the module modes (0 dark, 1 standby, 2 full),
the enable requests, the set points as last read, the switch network's setting (input to feed 0 to 5, or dump arm 6 or 7), swaps, orbits and trunks
stopped, feeds for which R134 applies from the next quiet window, a commissioning asked for, the taps as last read, the commissioning reference of
each tap against the factory reference in 0.01 dB, the stage losses derived from it.

Rings: those relocking, those that a tone decoder reads, those whose ambiguous window is being repeated, those whose lost lock waits for the end
of a pause, whether the rings of O1 to O3 still wait for those of O0 (R112 step 8), channels held for LOCATE and those it drops at the end of
the window, the setting a ring's next short sweep is centred on (R120), the prediction its last whole sweep was centred on, the corrections of the
heater tables in codes, the photodiode level of each ring at its confirmation, the site temperature at its last visit, the ring each Twinkle engine
visited last (by `site * 16 + engine`), rings whose heater fault waits for the end of a pause (R135).

Taps (R128, R129): by slot the samples of the input tap of the last millisecond, and the fades of the last 200 ms with their times. -/
structure Light where
  step    : Nat := 0
  since   : Nat := 0
  keep    : Bool := false
  modes   : List (Nat × Nat) := []
  asks    : List Nat := []
  setPts  : List (Nat × Int) := []
  net     : List Nat := [0, 1, 2, 3, 4, 5, 6, 7]
  swaps   : List Swap := []
  stopped : List Nat := []
  bare    : List Nat := []
  commission : Bool := false
  taps    : List (Tap × Int) := []
  refs    : List (Tap × Int) := []
  losses  : List (Nat × Nat) := []
  relocks : List Relock := []
  reading : List Nat := []
  again   : List Nat := []
  later   : List Nat := []
  rest    : Bool := false
  locate  : List Nat := []
  doomed  : List Nat := []
  aims    : List (Nat × Nat) := []
  preds   : List (Nat × Option Int) := []
  tables  : List (Nat × Int) := []
  sums    : List (Nat × Nat) := []
  visitT  : List (Nat × Option Int) := []
  turns   : List (Nat × Nat) := []
  broken  : List Nat := []
  samples : List (Nat × List Int) := []
  fades   : List (Nat × List (Nat × Int)) := []
  deriving DecidableEq, Repr

end Sys2Proof.Machine
end

