-- ==== Sys2Proof/Machine/MgmtTypes.lean ====
section
/-! DEFINITION. What the management controller, the Almanac and the key engine hold beside their registers (R480 to R502). -/

namespace Sys2Proof.Machine

/-- A quote (R497, R498): its body, and its signature once signed. -/
structure Quote where
  body : List Byte
  sig  : Option (List Byte) := none
  deriving DecidableEq, Repr

/-- The Almanac and the Croupier (R480 to R502): the Almanac bytes written since final test, the 64 KiB sectors erased since, the change-log
entries not yet written, the command running and whether the Croupier gave it, the guard record in force (bytes 0 to 16,755), which of its two copies that is,
the counters of the lifetime record by their offset in it (time in units of the samples), the SEQ of the newest lifetime and calibration records and of the
newest crash summary, the newest quote, the endpoint ids by interface, the boot count, whether the field ceilings have been recorded, the last pilot's time base
and boot count by OMU, the bytes of the PUF array (R495), and the firmware image in the Croupier's SRAM (R480). -/
structure Mgmt where
  alm      : List (Nat × Option Byte) := []
  erased   : List Nat := []
  pend     : List (List Byte) := []
  cmd      : Option (Nat × Bool) := none
  guard    : List Byte := []
  copy     : Nat := 0
  life     : List (Nat × Nat) := []
  lifeSeq  : Nat := 0
  dumpSeq  : Nat := 0
  lifeAt   : Nat := 0
  quote    : Option Quote := none
  eids     : List (Nat × Nat) := []
  boots    : Nat := 0
  ceilings : Bool := false
  pilots   : List (Nat × Nat × Nat) := []
  puf      : List Byte := []
  firmware : List Byte := []
  deriving DecidableEq, Repr

end Sys2Proof.Machine
end

