-- ==== Sys2Proof/Machine/PlantTypes.lean ====
section
/-! DEFINITION. What the clocks, the thermal controls and the management controller hold beside their registers (R408 to R457, R480 to
R502). -/

namespace Sys2Proof.Machine

/-- The clocks (R410 to R420): the plan armed (AT, compute step, cache step), whether the dividers are loaded for it, the last 100
samples of each monitor region (0–23 compute dies, 24–47 cache dies, 48–59 MBDs; `true` a failed one), the tick at which a compute
die's lowered field ceiling takes effect, up to when each stretched die's periods are counted (1/110880 ns, plus 1; 0 while it is not
stretched), since when TREF has been back, and the core and the SRAM voltage of quadrants NW, SW, NE and SE in mV (R414, R451; none before the
first plan). -/
structure Clk where
  plan    : Option (Nat × Nat × Nat) := none
  loaded  : Bool := false
  mon     : List (Nat × List Bool) := []
  drops   : List (Nat × Nat) := []
  stretch : List (Nat × Nat) := []
  trefAt  : Option Nat := none
  rails   : List (Nat × Nat) := []
  deriving DecidableEq, Repr

/-- The thermal controls (R430 to R453), in 0.25 °C and ns: the temperature of each die as last read (0–23 compute dies' Tj, 24–47 cache
maxima, 48–91 site temperatures, 92–103 MBDs, 104–115 HBM stacks, 116–119 I/O chiplets, 120 and 121 hubs, 122 the Almanac,
128–151 compute dies' means, 160–203 site maxima), sensors out of use (die times 256 plus
sensor), since when a sensor has lain far from its median, since when a site's heaters disagree and sites whose disagreement has been
counted, the last change of each tile's limit and since when it could rise, throttle episodes, sites out of window, since when each
half is in the emergency step and since when all its sites have been cool, the same for the MBDs' caps, reads since a tile's last
canary flip, the package power samples of the last 10 ms and since when their average has been low, when the prewarm began, sites it
no longer heats, the power of each site's warmer in mW, how many sensors each HBM stack has, the exact means of compute dies and sites (R430, in
1/720720 of 0.25 °C) and each cache die's exact estimate (R443, in units of `estUnit`), since when the heater current (0) and the package power (1) have
exceeded their guards (R484). -/
structure Therm where
  temps    : List (Nat × Int) := []
  failed   : List Nat := []
  far      : List (Nat × Nat) := []
  heatFar  : List (Nat × Nat) := []
  heatSaid : List Nat := []
  changed  : List (Nat × Nat) := []
  okSince  : List (Nat × Nat) := []
  hot      : List Nat := []
  half     : List (Nat × Nat) := []
  cool     : List (Nat × Nat) := []
  capAt    : List (Nat × Nat) := []
  capOk    : List (Nat × Nat) := []
  reads    : List (Nat × Nat) := []
  watts    : List Nat := []
  low      : Option Nat := none
  prewarm  : Option Nat := none
  warmed   : List Nat := []
  warmers  : List (Nat × Nat) := []
  hbmN     : List (Nat × Nat) := []
  means    : List (Nat × Int) := []
  est      : List (Nat × Int) := []
  excess   : List (Nat × Nat) := []
  deriving DecidableEq, Repr

end Sys2Proof.Machine
end

