-- ==== Sys2Proof/Machine/SkyTypes.lean ====
section
/-! DEFINITION. The parts of the state that the Sky holds: stations, spaces, channels, fences, barriers. -/

namespace Sys2Proof.Machine

/-- A packet in an injection queue or a relay buffer: when it entered, since when it is the head, whether its wait has been
counted in BOUND_MISS (R60) and in LIMIT (R76), whether its station is searching a relay for it (R62), and whether its station's full store
holds it back (R78). -/
structure Queued where
  pkt    : Pkt
  since  : Nat
  head   : Option Nat := none
  missed : Bool := false
  search : Bool := false
  limit  : Bool := false
  hold   : Bool := false
  deriving DecidableEq, Repr

/-- A packet in a source's retransmission store (R78): the packet, the request it was built from, how often it was sent and when its last
serialisation started (R84; 0 sends: none has), whether a selective bit covers it (R85), and the window entry it was issued under (R378). -/
structure TxEnt where
  pkt    : Pkt
  req    : SendReq
  sends  : Nat := 0
  sentAt : Nat := 0
  sel    : Bool := false
  gaveUp : Bool := false
  win    : Option (Nat × Win) := none
  deriving DecidableEq, Repr

/-- The two ends of one sequence space (R77 to R85): the source's numbering, its store, the numbered packets that wait for room in it (R78) and
the last packets it released (R87: a reject ack may follow the ack that released its packet), and the reader's cumulative point, expected
generation, reorder store, ack state and the commits that wait on a mirror forward (R242). -/
structure Space where
  txNext   : Nat := 0
  txCum    : Nat := 0xFFFFFF
  store    : List TxEnt := []
  waits    : List TxEnt := []
  past     : List TxEnt := []
  txClosed : Bool := false
  rxCum    : Nat := 0xFFFFFF
  rxGen    : Nat := 0
  rxClosed : Bool := false
  held     : List Pkt := []
  unacked  : Nat := 0
  oldest   : Option Nat := none
  reject   : Option (Nat × Nat) := none
  fwdHold  : List Nat := []
  deriving DecidableEq, Repr

/-- A fence pending or waiting at a station (R94 to R96): every packet it covers, as (destination, SEQ); those still to be released, the reads
still to be answered, the destinations whose spaces aborted a packet it covers and have not reopened (R89 step 5), and what it has recorded. -/
structure Fence where
  id       : Nat
  agent    : Agent
  scope    : FenceScope
  work     : Option Nat
  implicit : Bool := false
  holds    : List (Nat × Nat) := []
  covers   : List (Nat × Nat) := []
  reads    : List Nat := []
  cut      : List Nat := []
  unreach  : Bool := false
  aborted  : Bool := false
  refused  : Option Nat := none
  deriving DecidableEq, Repr

/-- An outstanding read request (R52, R90, R468): RTAG, destination, return DPA, length, the domain of its issuer and that domain's
tag when it was issued. -/
structure ReadTag where
  rtag   : Nat
  dest   : Nat
  ret    : Nat
  len    : Nat
  dom    : Nat
  dieGen : Nat
  work   : Option Nat
  deriving DecidableEq, Repr

/-- One station (R49): injection queues by class, relay buffers by VC, requests its die holds, the published accepting
flags, read tags, fences, committed messages, the round-robin pointers of R49, by class since when a head has waited uncounted in SKY_STALL
(as that time plus 1; 0: none waits), and whether its rings are being locked (R525). -/
structure Station where
  q0      : List Queued := []
  q1      : List Queued := []
  q2      : List Queued := []
  q3      : List Queued := []
  r0      : List Queued := []
  r1      : List Queued := []
  backlog : List SendReq := []
  acc0    : Bool := true
  acc1    : Bool := true
  pub0    : Bool := true
  pub1    : Bool := true
  rtags   : List ReadTag := []
  fences  : List Fence := []
  fwait   : List Fence := []
  mailbox : List (Nat × Nat × List Byte) := []
  robin   : List (Nat × Nat) := []
  stall   : List (Nat × Nat) := []
  locking : Bool := false
  deriving DecidableEq, Repr

/-- States of a channel in the map in force (R76 TXMAP.STATE); `busy`: its writer is serialising a packet on it. -/
structure Chan where
  orbit    : Nat
  wg       : Nat
  lambda   : Nat
  writer   : Nat
  reader   : Nat
  allpairs : Bool
  wring    : Nat
  rring    : Nat
  state    : Nat := 2
  busy     : Bool := false
  deriving DecidableEq, Repr

/-- A space restart in progress (R89): the scope (one site, or a pair), its trigger time, the stations that have done step 3. -/
structure Restart where
  scopeOne : Bool
  a        : Nat
  b        : Nat
  gen      : Nat
  since    : Nat
  done     : List Nat := []
  deriving DecidableEq, Repr

/-- One report of a packet's end to the agent that issued it (R86, R87, R89): why it ended. -/
inductive PktEnd where
  | refused (reason : Nat)
  | unreachable
  | aborted
  deriving DecidableEq, Repr

/-- The Sky: stations, spaces, the channel map in force, restarts in progress, the next fence id, and
the barrier contexts released and released with ABORTED since the run phase began. -/
structure Sky where
  stations : List (Nat × Station) := []
  spaces   : List (Nat × Space) := []
  chans    : List Chan := []
  restarts : List Restart := []
  nextId   : Nat := 1
  released : List Nat := []
  broken   : List Nat := []
  deriving DecidableEq, Repr

end Sys2Proof.Machine
end

