-- ==== Sys2Proof/Machine/State.lean ====
section
/-! DEFINITION. The state of the part: plain data, every piece the spec gives the machine. Tables keyed by a number (a site,
a pair of sites, a register field) are sorted sparse lists (Machine/Map.lean); what they do not list stands at its
reset value. -/

namespace Sys2Proof.Machine

/-- No step of this model faults: every effect the spec gives an error is a next state. The one constructor names the fault
a reader may expect of a block that leaves its commands' domain; nothing raises it (safe). -/
inductive Fault where
  /-- Raised by no meaning. Safe. -/
  | none
  deriving DecidableEq, Repr

/-- Why a command has no meaning. -/
inductive Refusal where
  /-- A command whose meaning has not been written; only Machine/Dispatch.lean's arms answer it (safe). -/
  | notModelled (mnemonic : String)
  deriving DecidableEq, Repr

/-- Power of the part (R452, R508): rails up with PG_IN low; held in reset by a failed rail check; on; stopped after
PG_IN fell or a rail was lost. -/
inductive Power where
  | waiting | held | on | stopped
  deriving DecidableEq, Repr

/-- What the last command sent out of the part. -/
inductive Out where
  /-- A packet starts on writer channel `ch` of `site`. -/
  | sent (site ch : Nat) (p : Pkt)
  /-- An agent is told how a packet of it ended. -/
  | report (site : Nat) (a : Agent) (work : Option Nat) (e : PktEnd)
  /-- A fence's result: 0 OK, 1 REFUSED, 2 ABORTED, 3 UNREACHABLE, and the first refusal reason (R95). -/
  | fence (site id result reason : Nat)
  /-- A barrier context is released to its participants, with ABORTED or without (R70, R71). -/
  | release (ctx : Nat) (aborted : Bool)
  /-- A message is committed in a mailbox. -/
  | message (site src box : Nat) (body : List Byte)
  /-- An MSI-X vector is sent. -/
  | msix (vec : Nat)
  /-- A read of cards from a deck's ring (R313): its host physical address and bytes. -/
  | cards (deck addr len : Nat)
  /-- A completion of 32 bytes in a slot of a deck's completion ring (R326, R330), at its host physical address (R310). -/
  | completion (deck slot addr : Nat) (bytes : List Byte)
  /-- A deck's head record of 16 bytes (R314), at its host physical address (R310). -/
  | head (deck addr : Nat) (bytes : List Byte)
  /-- A 64-byte line of a mirror record (R348): line 0 or 1 of record `seq mod 65536`, at its host physical address. -/
  | mirror (seq line addr : Nat) (bytes : List Byte)
  /-- A Tally entry with its card copy sent to the Dummy (R342). -/
  | toDummy (seq : Nat)
  /-- Bytes written into host memory through the host window, at a host physical address (R306), with their poison. -/
  | hostWrite (addr : Nat) (bytes : List Byte) (poison : Bool)
  /-- The answer to a register read (R7, R8, R497): the interface, the offset, the value. -/
  | value (src : Iface) (off v : Nat)
  /-- The answer to an MCTP request (R497): status and bytes. -/
  | mctp (src : Iface) (status : Nat) (bytes : List Byte)
  /-- A byte or a 16-bit value written to a register of a laser module over I²C (R104). -/
  | module (slot reg v : Nat)
  /-- A Comet frame starts on a port (R381, R383). -/
  | frame (port : Nat) (f : Frame)
  /-- A TSYNC frame on TSYNC_OUT, its 160 bits as a number whose highest bit is sent first (R269). -/
  | tsync (bits : Nat)
  /-- A packet delivered to a guest chiplet over its port (R28). -/
  | toGuest (site : Nat) (p : Pkt)
  /-- The data of a read response, with its POISON bits, handed to the agent that chose its RTAG (R52). -/
  | readData (site rtag : Nat) (bytes : List Byte) (poison : Nat)
  /-- The answer to a CXL.mem read (R305): the data and the data-poison indication. -/
  | cxlData (addr : Nat) (bytes : List Byte) (poison : Bool)
  /-- A CXL.mem write to this address completes on the link (R303, R305). -/
  | cxlDone (addr : Nat)
  /-- The answer to a CXL.cache snoop: a miss (R301). -/
  | snoopMiss (addr : Nat)
  /-- A read of host memory through the host window, at a host physical address (R306). -/
  | hostRead (addr len : Nat)
  deriving DecidableEq, Repr

/-- A crash dump to be written (R476): its source, its kind (1 Fold, 2 FATAL, 3 part-requested reset, 4 takeover failure), the transit
number at its trigger, and for a thermal trip the die and its temperature in 0.25 °C (R446). -/
structure Dump where
  src     : Nat
  kind    : Nat
  transit : Nat
  die     : Option (Nat × Int) := none
  deriving DecidableEq, Repr

/-- The fault collector's state beside its registers (R464): the severity of each source's last raise, the time of its last
FAULT record, the sources raised while a device reset ran (R477), the counted resets of the last 60 s as (domain, time), oldest first
(R474), the crash dumps to be written, oldest first, since when a device reset that the part asked for waits for them (R459 step 2, R481), and where the dump
that FLT_DUMP tells of lies in HBM (R476). -/
structure Collector where
  lastSev : List (Nat × Nat) := []
  noteAt  : List (Nat × Nat) := []
  late    : List Nat := []
  window  : List (Nat × Nat) := []
  dumps   : List Dump := []
  asked   : Option Nat := none
  place   : Option Nat := none
  deriving DecidableEq, Repr

/-- The event FIFO (R332 to R337): the words held, the last word read, the records lost since the last OVERFLOW, and whether vector 64 waits while it is
masked (R331). -/
structure EventFifo where
  words : List Nat := []
  last  : Nat := 0
  lost  : Nat := 0
  pend  : Bool := false
  deriving DecidableEq, Repr

/-- The contacts whose level no register shows (R508): PG_IN, PERST_N, the BOOT_MODE straps, THERMTRIP_N, and whether
TSYNC_OUT is driven. `true` is asserted. -/
structure Pins where
  pgIn      : Bool := false
  perst     : Bool := true
  bootStrap : Nat := 0
  thermtrip : Bool := false
  tsyncOn   : Bool := false
  deriving DecidableEq, Repr

/-- What the part's own records in the Almanac hold beside its bytes (R236, R450, R458, R462): the registers' fields kept over a power cycle, the repaired rows,
the losses and fades measured at commissioning, and whether the field ceilings have been recorded. -/
structure Kept where
  regs     : List (Nat × Nat) := []
  repaired : List (Nat × Nat) := []
  refs     : List (Tap × Int) := []
  losses   : List (Nat × Nat) := []
  ceilings : Bool := false
  deriving DecidableEq, Repr

/-- The boot sequencer beside FLT_BOOT (R458 to R463): whether the start is cold, the steps that have completed since step 1
began, whether the watchdog is suspended, when the trigger came, the times of the counted device resets of R475, whether
the Almanac's temperature lets step 1 run (R462), whether fetching, dealing and ticks have stopped (R459),
whether the transit in which Fold began has settled (R465), and what the Almanac keeps while its temperature lies outside its window (R450). -/
structure Boot where
  cold    : Bool := true
  done    : List Nat := []
  suspend : Bool := false
  start   : Nat := 0
  counted : List Nat := []
  almOk   : Bool := true
  halt    : Bool := false
  folded  : Bool := false
  frozen  : Option Kept := none
  deriving DecidableEq, Repr

/-- The 32-bit halves of 64-bit registers in flight (R7), keyed by `offset * 4 + interface`: the high halves latched by
low-half reads, and the low halves held by low-half writes. -/
structure Halves where
  latched : List (Nat × Nat) := []
  held    : List (Nat × Nat) := []
  deriving DecidableEq, Repr

/-- The state of the part. -/
structure State where
  pending : List Instr := []
  now     : Nat := 0
  power   : Power := .waiting
  regs    : List (Nat × Nat) := []
  mem     : List Host.Cell := []
  poison  : List Nat := []
  mems    : Mems := {}
  cmt     : Comet := {}
  tally   : Tally := {}
  hands   : Hands := {}
  host    : HostIf := {}
  cht     : Charts := {}
  trn     : Transit := {}
  cmp     : Compute := {}
  omus    : Omus := {}
  light   : Light := {}
  clk     : Clk := {}
  thm     : Therm := {}
  mgt     : Mgmt := {}
  halves  : Halves := {}
  pins    : Pins := {}
  boot    : Boot := {}
  sky     : Sky := {}
  flt     : Collector := {}
  evf     : EventFifo := {}
  out     : List Out := []
  free    : Nat := 0
  deriving DecidableEq, Repr

/-- The part with its rails up and PG_IN low (R508, R518 step 2): every register at its Reset column, nothing in memory. -/
def State.reset : State := {}

end Sys2Proof.Machine
end

