-- ==== Sys2Proof/Machine/Ops.lean ====
section
/-! DEFINITION. The shared operations on the state: register fields (R9, R11, R12), counters and watermarks (R76), time, free
values, outputs, the event FIFO (R332 to R337) and the fault collector (R464 to R466). -/

namespace Sys2Proof.Machine

/-- The outcome of a command. -/
abbrev Res := Host.Outcome State Fault Refusal

/-! ## Register fields -/

/-- A field's value; its Reset column where nothing has been written (R12). -/
def State.get (s : State) (f : Fld) (i : Nat := 0) (j : Nat := 0) : Nat := tabGet f.rst s.regs (f.key i j)

/-- A field set to `v`, cut to its width. -/
def State.set (s : State) (f : Fld) (v : Nat) (i : Nat := 0) (j : Nat := 0) : State :=
  { s with regs := tabPut f.rst s.regs (f.key i j) (v % 2 ^ f.w) }

/-- Whether a one-bit field reads 1. -/
def State.isSet (s : State) (f : Fld) (i : Nat := 0) (j : Nat := 0) : Bool := decide (s.get f i j = 1)

/-- Whether a counter's FREEZE bit holds it (R76). -/
def State.frozen (s : State) (f : Fld) (i : Nat) : Bool :=
  match f.frz with
  | .free => false
  | .stn => s.isSet F.SKY_STN_CTRL_FREEZE i
  | .mem => s.isSet F.SKY_STN_CTRL_FREEZE (24 + i)
  | .trn => s.isSet F.TRN_CTRL_FREEZE
  | .cmt => s.isSet F.CMT_CTRL_FREEZE
  | .clk => s.isSet F.CLK_CTRL_FREEZE
  | .thm => s.isSet F.THM_CTRL_FREEZE

/-- The place in the lifetime record (R499) that counts what a register counts, over the part's life. -/
def lifeOff (f : Fld) (i : Nat) : Option Nat :=
  if f = F.TWK_RELOCK then some (0x3DC0 + 16 * i) else if f = F.TWK_ALIAS then some (0x3DC4 + 16 * i)
  else if f = F.TWK_ALIAS_FAIL then some (0x3DC8 + 16 * i) else if f = F.TWK_HEATER_FAULT then some (0x3DCE + 16 * i)
  else if f = F.MBD_CE then some (0x4080 + 16 * i) else if f = F.MBD_UE then some (0x4084 + 16 * i)
  else if f = F.MBD_MIRROR_FIX then some (0x4088 + 16 * i) else if f = F.CCH_CE then some (0x4140 + 8 * i)
  else if f = F.CCH_UE then some (0x4144 + 8 * i) else if f = F.FLT_DOM0_RESETS then some (0x4200 + 4 * i)
  else none

/-- `n` counted at a place of the lifetime record (R499). -/
def State.lifeAdd (s : State) (off n : Nat) : State :=
  { s with mgt := { s.mgt with life := tabPut 0 s.mgt.life off (tabGet 0 s.mgt.life off + n) } }

/-- A counter advanced by `n`: wrapping or saturating as its field says, held while frozen (R76); its lifetime counter goes on. -/
def State.add (s : State) (f : Fld) (n : Nat) (i : Nat := 0) (j : Nat := 0) : State :=
  let s1 := match lifeOff f i with
    | some off => s.lifeAdd off n
    | none => s
  if s.frozen f i then s1
  else match f.cls with
    | .wrap => s1.set f ((s1.get f i j + n) % 2 ^ f.w) i j
    | _ => s1.set f (satTo (2 ^ f.w - 1) (s1.get f i j + n)) i j

/-- A watermark raised to `v` (R76). -/
def State.mark (s : State) (f : Fld) (v : Nat) (i : Nat := 0) (j : Nat := 0) : State :=
  if s.frozen f i then s
  else if s.get f i j < v then s.set f (satTo (2 ^ f.w - 1) v) i j else s

/-! ## Time, free values, outputs -/

/-- The stretched periods of a compute die that have passed since their count was last brought up (R419, R420), in periods of its effective step: a period
of step `k` lasts 10 / (10 + 2 k) ns, a stretched one a quarter more. The times of `clk.stretch` are in 1/110880 ns, in which that is a whole number. -/
def State.stretchPeriod (s : State) (t : Nat) : Nat := 693000 / (5 + s.get F.CLK_DIE_EFF t)

def State.stretchDue (s : State) (t : Nat) : Nat :=
  match tabGet 0 s.clk.stretch t with
  | 0 => 0
  | b => (s.now * 110880 + 1 - b) / s.stretchPeriod t

/-- Stretched periods counted up to now, and in a run phase the time they cost, a fifth of a stretched period each (R420). The part of a period that has
begun stays to be counted. -/
def State.accrue (s : State) (t : Nat) : State :=
  if tabGet 0 s.clk.stretch t = 0 then s
  else
    let n := s.stretchDue t
    let s1 := s.add F.CLK_STRETCH_CYC n t
    let b := tabGet 0 s1.clk.stretch t + n * s.stretchPeriod t
    let s2 := { s1 with clk := { s1.clk with stretch := tabPut 0 s1.clk.stretch t b } }
    if s2.get F.TRN_STAT_PHASE = 2 then
      { s2 with trn := { s2.trn with stretch := tabPut 0 s2.trn.stretch t (tabGet 0 s2.trn.stretch t + n * (s.stretchPeriod t / 5)) } }
    else s2

/-- The state with the last command's outputs taken away. -/
def State.fresh (s : State) : State := { s with out := [] }

/-- An output added. -/
def State.emit (s : State) (o : Out) : State := { s with out := s.out ++ [o] }

/-- The next free value, its low `w` bits (the spec states none). -/
def State.draw (s : State) (w : Nat) : Nat × State :=
  ((Config.freeValue s.free).toNat % 2 ^ w, { s with free := s.free + 1 })

/-- The time base moved to `t` where it has not reached it: the event is that of `t` (R13). -/
def State.atLeast (s : State) (t : Nat) : State := { s with now := max s.now t }

/-- Whether the part is powered and runs (R452, R508). -/
def State.on (s : State) : Bool := decide (s.power = .on)

/-- Whether the part is in FATAL (R466). -/
def State.fatal (s : State) : Bool := decide (s.get F.FLT_STAT_STATE = 2)

/-- Whether the part runs and its clocks do: on and not in FATAL (R446, R466). -/
def State.alive (s : State) : Bool := s.on && !s.fatal

/-- Whether the part is in Patience mode (R463). -/
def State.patience (s : State) : Bool := decide (s.get F.FLT_STAT_STATE = 3)

/-- Whether the part is in service: boot step 8 has ended (R460, FLT_BOOT.STEP 9). -/
def State.inService (s : State) : Bool := decide (s.get F.FLT_BOOT_STEP = 9)

/-- The meaning of a command that acts while the part runs; a part that is off or whose clocks stand does not act. -/
def live (s : State) (f : State → State) : Res := .next (if s.alive then f s.fresh else s.fresh)

/-- The meaning of a command that hub W serves in FATAL too (R466). -/
def liveHub (s : State) (f : State → State) : Res := .next (if s.on then f s.fresh else s.fresh)

/-- The meaning of a command that acts whatever the power. -/
def always (s : State) (f : State → State) : Res := .next (f s.fresh)

/-! ## Stations, spaces -/

/-- The station of a site. -/
def State.stn (s : State) (k : Nat) : Station := tabGet {} s.sky.stations k

/-- The station of a site replaced. -/
def State.setStn (s : State) (k : Nat) (x : Station) : State :=
  { s with sky := { s.sky with stations := tabPut {} s.sky.stations k x } }

/-- The space from `a` to `b` (R77). -/
def State.space (s : State) (a b : Nat) : Space := tabGet {} s.sky.spaces (a * 64 + b)

/-- The space from `a` to `b` replaced. -/
def State.setSpace (s : State) (a b : Nat) (x : Space) : State :=
  { s with sky := { s.sky with spaces := tabPut {} s.sky.spaces (a * 64 + b) x } }

/-- Whether a site is present (R29). -/
def State.present (s : State) (k : Nat) : Bool :=
  if k < 24 then bit (s.get F.MGT_SITE_PRESENT_TILE) k
  else if k < 36 then bit (s.get F.MGT_SITE_PRESENT_MEM) (k - 24)
  else if k < 40 then bit (s.get F.MGT_SITE_PRESENT_XIO) (k - 36)
  else if k < 42 then bit (s.get F.MGT_SITE_PRESENT_GUEST) (k - 40)
  else decide (k < 44) && bit (s.get F.MGT_SITE_PRESENT_HUB) (k - 42)

/-- Whether a site is retired (R474). -/
def State.retired (s : State) (k : Nat) : Bool :=
  if k < 24 then bit (s.get F.FLT_RETIRED_TILE) k
  else if k < 36 then bit (s.get F.FLT_RETIRED_MEM) (k - 24)
  else if k < 40 then bit (s.get F.FLT_RETIRED_XIO) (k - 36)
  else false

/-- The sites that are present. -/
def State.sites (s : State) : List Nat := (List.range 44).filter s.present

/-! ## The event FIFO -/

/-- Vector 64 sent, or pending while it is masked (R331, R337). -/
def State.evfVector (s : State) : State :=
  if s.get F.MSIX_MASK 64 = 1 then { s with evf := { s.evf with pend := true } } else s.emit (.msix 64)

/-- A two-word record put in the FIFO whole, or dropped and counted (R332, R333); vector 64 when the FIFO was empty (R337). -/
def State.record (s : State) (type site content : Nat) : State :=
  let w0 := packBits [(0, 8, type), (8, 2, 1), (10, 6, site), (16, 32, s.get F.TRN_NUM), (63, 1, 1)]
  if s.evf.words.length + 2 ≤ 4096 then
    let s1 := { s with evf := { s.evf with words := s.evf.words ++ [w0, content % 2 ^ 62] } }
    if s.evf.words.isEmpty && s.isSet F.EVF_CTRL_IRQ_EN then s1.evfVector else s1
  else ({ s with evf := { s.evf with lost := s.evf.lost + 1 } }).add F.EVF_DROP 1

/-- The site a fault source belongs to; the spec names none for the others (R332, R464). -/
def srcSite (src : Nat) : Option Nat :=
  if src < 44 then some src else if src < 68 then some (src - 44) else if src < 80 then some (src - 68 + 24)
  else if src < 84 then some (src - 80 + 36) else if src < 180 then some ((src - 84) / 4)
  else if src < 224 then some (src - 180) else none

/-- The FAULT record of a source (R332); its SITE is a free value where the source has no site. -/
def State.faultRecord (s : State) (src sev : Nat) : State :=
  let c := packBits [(0, 9, src), (9, 3, sev), (12, 32, s.get F.FLT_SRC_COUNT src)]
  match srcSite src with
  | some k => s.record 1 k c
  | none => let (k, s1) := s.draw 6
            s1.record 1 k c

/-! ## The fault collector -/

/-- ALERT_N and FLT_STAT.DEGRADED follow the severities kept from each source's last raise (R464). -/
def State.alert (s : State) : State :=
  let a := b2n (s.flt.lastSev.any fun p => decide (2 ≤ p.2) && s.isSet F.FLT_SRC_STICKY p.1)
  (s.set F.FLT_STAT_ALERT a).set F.FLT_STAT_DEGRADED a

/-- Whether a device reset still runs as far as the event FIFO goes: before boot step 2 has ended (R337, R460). -/
def State.resetting (s : State) : Bool := decide (s.get F.FLT_BOOT_STEP ≤ 2) && !s.patience

/-- A NOTE's record: at most one per 1 ms for a source (R464); kept for afterwards while a device reset runs (R477). -/
def State.note (s : State) (src sev : Nat) : State :=
  if s.resetting then { s with flt := { s.flt with late := keyPut s.flt.late src } }
  else
    let last := tabGet 0 s.flt.noteAt src
    if last ≠ 0 && decide (s.now < last - 1 + 1000000) then s
    else ({ s with flt := { s.flt with noteAt := tabPut 0 s.flt.noteAt src (s.now + 1) } }).faultRecord src sev

/-- Every ELS_EN line released and every enable request cleared (R105, R106, R446, R452; DEDUCED, log entry 166). -/
def State.releaseEls (s : State) : State :=
  (List.range 8).foldl (fun t n => t.set F.TWK_ELS_EN 0 n) { s with light := { s.light with asks := [] } }

/-- A raise's bookkeeping and its NOTE and DEGRADE actions (R464). -/
def State.raiseBasic (s : State) (src : Nat) : State :=
  let sev := s.get F.FLT_SRC_SEV src
  let s1 := ((s.set F.FLT_SRC_STICKY 1 src).add F.FLT_SRC_COUNT 1 src)
  let s2 := { s1 with flt := { s1.flt with lastSev := tabPut 0 s1.flt.lastSev src sev } }
  let s3 := if 1 ≤ sev then (s2.set F.FLT_STAT_LAST_SRC src).note src sev else s2
  s3.alert

/-! ## Device reset and boot failure (R459 to R463, R468, R477) -/

/-- Where a BAR0 offset falls in a register's family: its two indices. -/
def Reg.hit (r : Reg) (off : Nat) : Option (Nat × Nat) :=
  if off < r.base then none
  else
    let d := off - r.base
    let i := if r.s1 = 0 then 0 else d / r.s1
    let e := d - i * r.s1
    let j := if r.s2 = 0 then 0 else e / r.s2
    if e = j * r.s2 && decide (i < r.n1) && decide (j < r.n2) then some (i, j) else none

/-- The register at a BAR0 offset, with its indices. -/
def regAt (off : Nat) : Option (Reg × Nat × Nat) :=
  regMap.findSome? fun r => (r.hit off).map fun p => (r, p.1, p.2)

/-- The field whose home is `key`. -/
def fldAt (key : Nat) : Option Fld :=
  (regAt (key / 64)).bind fun p => p.1.flds.find? fun f => decide (f.lsb = key % 64)

/-- Fields outside "keep", "loaded" and "trim" that a device reset leaves: the light gate, modules and switch network (R113),
heater codes (R137), warmers (R459), ALERT_N (R508), the loop and the reference clock as the board holds them, the change-log entries that hub W's SRAM holds (R450), THERMTRIP_N's state (R446). -/
def keptFlds : List Fld :=
  [F.TWK_ELS_PRESENT, F.TWK_ELS_EN, F.TWK_ELS_LOCAL_INTLK, F.TWK_ELS_GRID_LOCK, F.TWK_ELS_ROLE, F.TWK_ELS_FEED,
   F.TWK_ELS_CASE_T, F.TWK_ELS_OUT_PWR, F.TWK_ELS_TAP, F.TWK_FEED_SLOT, F.TWK_RING_HEATER, F.TWK_STAT_INTLK, F.TWK_STAT_SPARES, F.THM_TILE_WARMER,
   F.FLT_STAT_ALERT, F.FLT_STAT_DEGRADED, F.CLK_STAT_TREF_OK, F.CLK_STAT_HOLDOVER,
   F.THM_STAT_ALM_HELD]

/-- Whether the value at `key` survives a device reset (R12, R477). -/
def survives (key : Nat) : Bool :=
  match fldAt key with
  | none => false
  | some f => decide (f.kind ≠ .val) || keptFlds.contains f

/-- A reset of domain `d` recorded in its FLT_DOM (R468): the tag moves unless the domain is retired. -/
def State.domReset (s : State) (d : Nat) : State :=
  let s1 := if s.get F.FLT_DOM0_STATE d = 3 then s else s.set F.FLT_DOM0_GEN (s.get F.FLT_DOM0_GEN d + 1) d
  (s1.add F.FLT_DOM0_RESETS 1 d).set F.FLT_DOM1_LAST s.now d

/-- Every domain reset with the device (R88, R468): the tags of stations, sites, stacks, MBDs and chiplets stand at 0, those of retired
domains too. -/
def State.domResetAll (s : State) : State :=
  let s1 := (List.range 132).foldl State.domReset s
  let s2 := (List.range 128).foldl (fun t d => t.set F.FLT_DOM0_GEN 0 d) s1
  let s3 := (List.range 132).foldl (fun t d => if t.get F.FLT_DOM0_STATE d = 1 || t.get F.FLT_DOM0_STATE d = 2
    then t.set F.FLT_DOM0_STATE 0 d else t) s2
  let s4 := (List.range 44).foldl (fun t k => t.set F.SKY_STN_STATUS_GEN 0 k) s3
  ((List.range 44).filter s4.retired).foldl (fun t k =>
    let t1 := t.set F.SKY_STN_STATUS_STATE 6 k
    if k < 24 then (List.range 4).foldl (fun t2 u => t2.set F.OMU_STAT_STATE 6 k u) t1 else t1) s4

/-- The light control as a device reset leaves it (R113, R459): modules and the switch network as they stand, the references and the tables;
`keep` where the light was on. -/
def State.wipedLight (s : State) : Light :=
  { modes := s.light.modes, asks := s.light.asks, setPts := s.light.setPts, net := s.light.net, taps := s.light.taps, refs := s.light.refs
    losses := s.light.losses, tables := s.light.tables, sums := s.light.sums
    keep := s.get F.TWK_STAT_LIGHT = 2 || s.get F.TWK_STAT_LIGHT = 3 }

/-- The charts as a device reset leaves them (R291, R294, R298, R477): their slots in HBM, and the switch card the reset ended. -/
def State.wipedCharts (s : State) : Charts :=
  { slots := s.cht.slots, defined := s.cht.defined, epoch := s.cht.epoch
    ended := match s.cht.sw with
      | some w => w.seq
      | none => s.cht.ended }

/-- The hands with no flip to come: a commit whose flip has not been made waits for its commit record (R354 step 5, R366). -/
def Hands.unflip (x : Hands) : Hands :=
  { x with slots := x.slots.map fun p => if x.flips.contains p.1 then (p.1, { p.2 with state := 2, commitT := 0 }) else p, flips := [] }

/-- The hands as a device reset leaves them (R366, R477): what lies in HBM. -/
def State.wipedHands (s : State) : Hands := { s.hands.unflip with pools := [], poolPend := [] }

/-- The channels of the map as a device reset leaves them: their rings are confirmed again before they carry traffic (R113). -/
def State.wipedChans (s : State) : List Chan :=
  s.sky.chans.map fun c => { c with state := if c.state = 4 then 4 else 2, busy := false }

/-- The state a device reset leaves before boot step 1 (R459 step 4, R477): memory, the time base, the contacts, the
collector, and the registers that survive. -/
def State.wiped (s : State) : State :=
  { State.reset with
    pending := s.pending, now := s.now, power := s.power, out := s.out, free := s.free
    regs := s.regs.filter fun p => survives p.1
    mem := s.mem, poison := s.poison
    mems := { tables := s.mems.tables, repaired := s.mems.repaired }
    cht := s.wipedCharts
    hands := s.wipedHands
    cmp := { next := s.cmp.next }
    light := s.wipedLight
    clk := { trefAt := s.clk.trefAt, rails := s.clk.rails }
    thm := { temps := s.thm.temps, warmers := s.thm.warmers }
    mgt := { s.mgt with cmd := none, quote := none, eids := [] }
    pins := { s.pins with tsyncOn := true }
    sky := { chans := s.wipedChans, nextId := s.sky.nextId }
    boot := { s.boot with done := [], suspend := false, halt := false, folded := false }
    flt := { s.flt with dumps := [], asked := none } }

/-- What a device reset leaves of a chart load and a chart switch in their registers (R291, R298); ticks are held (R260). -/
def State.cutCharts (s was : State) : State :=
  let s1 := match was.cht.load with
    | some l => (s.set F.CHT_SLOT_STATE 4 l.slot).set F.CHT_SLOT_ERR 24 l.slot
    | none => s
  let s2 := if was.cht.sw.isSome then s1.set F.CHT_SWITCH_LAST_ERR 7 else s1
  (s2.set F.TRN_STAT_PHASE 5).set F.THM_STAT_ALM_OK (b2n s2.boot.almOk)

/-- A FAULT record sent now, from which the 1 ms of its source run (R464). -/
def State.tellFault (s : State) (src sev : Nat) : State :=
  ({ s with flt := { s.flt with noteAt := tabPut 0 s.flt.noteAt src (s.now + 1) } }).faultRecord src sev

/-- The FAULT records of the sources raised while a device reset ran (R477). -/
def State.lateRecords (s : State) : State :=
  s.flt.late.foldl (fun t src => t.tellFault src (tabGet 0 t.flt.lastSev src)) { s with flt := { s.flt with late := [] } }

/-- A crash dump to be written, triggered now (R476). -/
def State.addDump (s : State) (src kind : Nat) : State :=
  { s with flt := { s.flt with dumps := s.flt.dumps ++ [{ src := src, kind := kind, transit := s.get F.TRN_NUM }] } }

/-- The part enters FATAL (R446, R466, R499): THERMTRIP_N for a trip only, every laser released, the clocks stopped; a device reset that waited is refused. -/
def State.enterFatal (s : State) (src : Nat) : State :=
  let s1 := (((s.set F.FLT_STAT_STATE 2).set F.FLT_STAT_FAULT 1).releaseEls.addDump src 2).lifeAdd 0x4534 1
  { s1 with pins := { s1.pins with thermtrip := s1.pins.thermtrip || decide (src = 238) }
            flt := { s1.flt with asked := none } }

/-- The part enters Patience mode (R463): lasers released, one FAULT record of the boot source whatever its severity. A boot source set to FATAL then puts the
part in FATAL (R464); at FOLD it fails the boot, which has failed already (R461). -/
def State.enterPatience (s : State) (reason : Nat) : State :=
  let s1 := (((s.set F.FLT_STAT_STATE 3).set F.FLT_BOOT_LAST_REASON reason).releaseEls).set F.TRN_STAT_PHASE 5
  let sev := s1.get F.FLT_SRC_SEV 246
  let s2 := (s1.set F.FLT_SRC_STICKY 1 246).add F.FLT_SRC_COUNT 1 246
  let s3 := { s2 with flt := { s2.flt with lastSev := tabPut 0 s2.flt.lastSev 246 sev, late := keyDrop s2.flt.late 246 } }
  let s4 := if 1 ≤ sev then s3.set F.FLT_STAT_LAST_SRC 246 else s3
  let s5 := s4.lateRecords.alert.tellFault 246 sev
  if sev = 4 then s5.enterFatal 246 else s5

/-- Boot step 1 begins where PERST_N is released and the Almanac's temperature allows it; the failure counter and the boot count move
first (R387, R458, R462). A warm start that finds the failure counter at 3 returns to Patience mode (R463). -/
def State.startBoot (s : State) : State :=
  if s.pins.perst || !s.boot.almOk || decide (s.get F.FLT_BOOT_STEP ≠ 0) || decide (s.get F.FLT_STAT_STATE ≠ 0) then s
  else if !s.boot.cold && decide (3 ≤ s.get F.FLT_BOOT_FAILS) then s.enterPatience (s.get F.FLT_BOOT_LAST_REASON)
  else
    let n := s.mgt.boots + 1
    let s1 := { s with mgt := { s.mgt with boots := n }, boot := { s.boot with start := s.now } }
    (((s1.set F.FLT_BOOT_STEP 1).set F.FLT_BOOT_WARM (b2n !s1.boot.cold)).set F.FLT_BOOT_BOOTS n).set F.FLT_BOOT_FAILS
      (satTo 15 (s1.get F.FLT_BOOT_FAILS + 1))

/-- Whether a device reset leaves the part in Patience mode with reason 15 (R475). -/
def State.outOfService (s : State) : Bool :=
  (s.patience && decide (s.get F.FLT_BOOT_LAST_REASON = 15)) || decide (3 ≤ s.boot.counted.length)

/-- Steps 3 and 4 of R459; `counted` are the counted resets kept. The lifetime record counts a warm reset, and a failed boot where it cuts one off (R499,
R521). -/
def State.resetAll (s : State) (counted : List Nat) : State :=
  let cut := decide (1 ≤ s.get F.FLT_BOOT_STEP) && decide (s.get F.FLT_BOOT_STEP < 9) && decide (s.get F.FLT_STAT_STATE = 0)
  let s1 := (((s.wiped.cutCharts s).domResetAll).lifeAdd 0x452C 1).lifeAdd 0x4524 (b2n cut)
  { s1 with boot := { s1.boot with cold := false, counted := counted } }

/-- A warm device reset from its step 3 on (R459), followed by the boot. A part out of service stays in Patience mode (R475), and the third
counted reset within 10 min puts it there. -/
def State.deviceReset (s : State) : State :=
  if s.outOfService then (s.resetAll []).enterPatience 15 else (s.resetAll s.boot.counted).startBoot

/-- A boot fails with a reason (R461, R463): it is repeated until the failure counter reaches 3. The boot source acts at its severity, but for FOLD, which fails
the boot that has failed already (DEDUCED, log entry 211). -/
def State.bootFail (s : State) (reason : Nat) : State :=
  if s.get F.FLT_STAT_STATE ≠ 0 then s
  else if 3 ≤ s.get F.FLT_BOOT_FAILS then (s.lifeAdd 0x4524 1).enterPatience reason
  else
    let t := (s.set F.FLT_BOOT_LAST_REASON reason).deviceReset.raiseBasic 246
    if t.get F.FLT_SRC_SEV 246 = 4 then t.enterFatal 246 else t

/-- The part enters Fold (R465, R499); before boot step 8 the boot fails instead (R461). A transit whose settle has been made, and a part without ticks, has
nothing left to run. -/
def State.enterFold (s : State) (src : Nat) : State :=
  if s.get F.FLT_STAT_STATE = 0 then
    if s.inService then
      let s1 := ((((s.set F.FLT_STAT_STATE 1).set F.FLT_STAT_FAULT 1)).addDump src 1).lifeAdd 0x4530 1
      { s1 with boot := { s1.boot with folded := s1.boot.folded || decide (3 ≤ s1.get F.TRN_STAT_PHASE) } }
    else s.bootFail 8
  else s

/-- A fault source raised (R464). Sources 248 and above are not used. -/
def State.raise (s : State) (src : Nat) : State :=
  if 248 ≤ src then s
  else
    let sev := s.get F.FLT_SRC_SEV src
    let s1 := s.raiseBasic src
    if sev = 3 then s1.enterFold src else if sev = 4 then s1.enterFatal src else s1

/-- The station source an error counter raises at its first increment after a clear (R76): that of its site, which for an MBD's counters is the memory
site (R429). -/
def errSource (f : Fld) (i : Nat) : Nat :=
  match f.frz with
  | .mem => 24 + i
  | .clk => if f.base = 0x2000604 then 24 + i else i
  | _ => i

/-- An event counted: an error counter's first increment raises its station's source (R76). -/
def State.bump (s : State) (f : Fld) (i : Nat := 0) (j : Nat := 0) (n : Nat := 1) : State :=
  if n = 0 then s
  else if f.cls = .err && decide (s.get f i j = 0) && !s.frozen f i then (s.add f n i j).raise (errSource f i)
  else s.add f n i j

end Sys2Proof.Machine
end

