-- ==== Sys2Proof/Machine/Flags.lean ====
section
/-! DEFINITION. Check words: CRC-16 of Sky headers and TSYNC frames, CRC-32C, CRC-64, SHA-256 and SHA-512 (R54, R253, R269, R284). -/

namespace Sys2Proof.Machine

/-- One bit of a non-reflected CRC-16 with polynomial 0x1021. -/
def crc16Bit (r : Nat) : Nat := if bit r 15 then (r * 2 % 65536) ^^^ 0x1021 else r * 2 % 65536

/-- One byte of a non-reflected CRC-16 (R54). -/
def crc16Byte (r : Nat) (b : Byte) : Nat := Nat.repeat crc16Bit 8 (r ^^^ (b.toNat * 256))

/-- CRC-16 with initial value 0xFFFF, no reflection, no final XOR (R54). -/
def crc16 (bs : List Byte) : Nat := bs.foldl crc16Byte 0xFFFF

/-- One bit of a reflected CRC with polynomial `p`. -/
def crcRBit (p r : Nat) : Nat := if bit r 0 then (r / 2) ^^^ p else r / 2

/-- One byte of a reflected CRC with polynomial `p`. -/
def crcRByte (p r : Nat) (b : Byte) : Nat := Nat.repeat (crcRBit p) 8 (r ^^^ b.toNat)

/-- CRC-32C (Castagnoli): reflected, initial value and final XOR all ones (R54, R253). -/
def crc32c (bs : List Byte) : Nat := (bs.foldl (crcRByte 0x82F63B78) 0xFFFFFFFF) ^^^ 0xFFFFFFFF

/-- CRC-64: the polynomial 0xAD93_D235_94C9_35A9 reflected, initial value and final XOR all ones (R253; DEDUCED, unsafe, log entry 137). -/
def crc64 (bs : List Byte) : Nat := (bs.foldl (crcRByte 0x95AC9329AC4BC9B5) 0xFFFFFFFFFFFFFFFF) ^^^ 0xFFFFFFFFFFFFFFFF

/-! ## SHA-256 and SHA-512 (FIPS 180-4), each constant computed from its definition -/

/-- The integer part of the `d`-th root of `v`, its `n` lowest bits still to find on top of `x`. -/
def rootBits (d v : Nat) : Nat → Nat → Nat
  | 0, x => x
  | n + 1, x => rootBits d v n (if (x + 2 ^ n) ^ d ≤ v then x + 2 ^ n else x)

/-- The first `w` bits of the fraction of the `d`-th root of `p`. -/
def rootFrac (w d p : Nat) : BitVec w := BitVec.ofNat w (rootBits d (p * 2 ^ (w * d)) (w + 5) 0)

/-- The first 80 primes. -/
def primes80 : List Nat :=
  (List.range 410).filter fun n => 2 ≤ n && (List.range 21).all fun d => d < 2 || n ≤ d || n % d != 0

/-- A hash of the family with words of `w` bits: its constants, one for each round, and the rotations of its mixing functions: of the two sequences of
working words, then of the message words, with the shift that ends each of these. -/
structure Sha2 (w : Nat) where
  consts : List (BitVec w)
  mixA   : List Nat
  mixE   : List Nat
  msg15  : List Nat × Nat
  msg2   : List Nat × Nat

def sha2with32 : Sha2 32 :=
  { consts := (primes80.take 64).map (rootFrac 32 3), mixA := [2, 13, 22], mixE := [6, 11, 25], msg15 := ([7, 18], 3), msg2 := ([17, 19], 10) }

def sha2with64 : Sha2 64 :=
  { consts := primes80.map (rootFrac 64 3), mixA := [28, 34, 39], mixE := [14, 18, 41], msg15 := ([1, 8], 7), msg2 := ([19, 61], 6) }

/-- The exclusive or of the rotations of `x` to the right by the amounts of `rs`. -/
def rotXor {w : Nat} (rs : List Nat) (x : BitVec w) : BitVec w :=
  rs.foldl (fun acc r => acc ^^^ x.rotateRight r) 0

/-- The working words: the last four of each of the two sequences, newest first. -/
structure ShaState (w : Nat) where
  /-- The words a, b, c, d. -/
  hi : List (BitVec w)
  /-- The words e, f, g, h. -/
  lo : List (BitVec w)

/-- The hash value before the first block: the square roots of the first 8 primes. -/
def shaStart (w : Nat) : ShaState w :=
  { hi := (primes80.take 4).map (rootFrac w 2), lo := ((primes80.drop 4).take 4).map (rootFrac w 2) }

/-- The message words of a block, the newest first, `n` more of them. -/
def msgWords {w : Nat} (k : Sha2 w) : Nat → List (BitVec w) → List (BitVec w)
  | 0, ws => ws
  | n + 1, ws =>
    let back (i : Nat) := ws.getD (i - 1) 0
    msgWords k n ((back 16 + (rotXor k.msg15.1 (back 15) ^^^ (back 15 >>> k.msg15.2)) + back 7 +
      (rotXor k.msg2.1 (back 2) ^^^ (back 2 >>> k.msg2.2))) :: ws)

/-- A round takes one round constant plus message word and puts one new word before each sequence. -/
def shaRound {w : Nat} (k : Sha2 w) (st : ShaState w) (kw : BitVec w) : ShaState w :=
  let u (i : Nat) := st.hi.getD i 0
  let v (i : Nat) := st.lo.getD i 0
  let mixed := v 3 + kw + rotXor k.mixE (v 0) + (v 2 ^^^ (v 0 &&& (v 1 ^^^ v 2)))
  { hi := (mixed + rotXor k.mixA (u 0) + ((u 0 &&& (u 1 ||| u 2)) ||| (u 1 &&& u 2))) :: st.hi.take 3
    lo := (mixed + u 3) :: st.lo.take 3 }

/-- A block of 16 words: its rounds, then the words added to those before it. -/
def shaBlock {w : Nat} (k : Sha2 w) (st : ShaState w) (block : List Byte) : ShaState w :=
  let first := (List.range 16).map fun i => BitVec.ofNat w (beNat (slice block (w / 8 * i) (w / 8)))
  let fin := (k.consts.zipWith (· + ·) (msgWords k (k.consts.length - 16) first.reverse).reverse).foldl (shaRound k) st
  { hi := st.hi.zipWith (· + ·) fin.hi, lo := st.lo.zipWith (· + ·) fin.lo }

/-- The digest of a message: closed by 0x80, zeros and its length in bits, hashed block by block. -/
def sha2 {w : Nat} (k : Sha2 w) (bs : List Byte) : List Byte :=
  let block := 2 * w
  let body := bs ++ 0x80 :: List.replicate ((2 * block - 1 - w / 4 - bs.length % block) % block) 0 ++ natBe (w / 4) (bs.length * 8)
  let fin := (List.range (body.length / block)).foldl (fun (st : ShaState w) i => shaBlock k st (slice body (block * i) block)) (shaStart w)
  (fin.hi ++ fin.lo).flatMap fun x => natBe (w / 8) x.toNat

/-- SHA-256: 32 digest bytes in output order (R253). -/
def sha256 (bs : List Byte) : List Byte := sha2 sha2with32 bs

/-- SHA-512: 64 digest bytes in output order. -/
def sha512 (bs : List Byte) : List Byte := sha2 sha2with64 bs

/-- The check value of an algorithm as the 32 bytes of CHK_RESULT (R253, R258). -/
def checkValue (algo : Nat) (bs : List Byte) : List Byte :=
  match algo with
  | 0 => natLe 32 (crc32c bs)
  | 1 => natLe 32 (crc64 bs)
  | _ => sha256 bs

end Sys2Proof.Machine
end

