-- ==== Sys2Proof/Machine/Sign.lean ====
section
/-! DEFINITION. Signatures: SLH-DSA-SHA2-192s as FIPS 205 defines it, the checking of a signature only (R284, R292, R494). Its parameters: values of 24
bytes; 7 layers of trees of height 9; 17 trees of height 14 below them; one-time signatures of 51 chains of 16 values. -/

namespace Sys2Proof.Machine

/-- Where a hash stands: its layer, tree and kind, and the three words whose meaning the kind gives. -/
structure HashAt where
  layer : Nat := 0
  tree  : Nat
  kind  : Nat
  pair  : Nat := 0
  up    : Nat := 0
  ix    : Nat := 0

/-- The 22 bytes of a place as the hashes take them. -/
def HashAt.bytes (p : HashAt) : List Byte :=
  natBe 1 p.layer ++ natBe 8 p.tree ++ natBe 1 p.kind ++ natBe 4 p.pair ++ natBe 4 p.up ++ natBe 4 p.ix

/-- A hash of one value: SHA-256 over a block that holds the seed. -/
def hashOne (seed : List Byte) (p : HashAt) (x : List Byte) : List Byte :=
  (sha256 (seed ++ List.replicate 40 0 ++ p.bytes ++ x)).take 24

/-- A hash of several values: SHA-512 in the same manner. -/
def hashMany (seed : List Byte) (p : HashAt) (x : List Byte) : List Byte :=
  (sha512 (seed ++ List.replicate 104 0 ++ p.bytes ++ x)).take 24

/-- `n` digits of `b` bits from the front of some bytes. -/
def digits (b n : Nat) (bs : List Byte) : List Nat :=
  (List.range n).map fun i => beNat bs / 2 ^ (8 * bs.length - b * (i + 1)) % 2 ^ b

/-- The `i`-th of a list of 24-byte values. -/
def value24 (bs : List Byte) (i : Nat) : List Byte := slice bs (24 * i) 24

/-- The root of a tree from its `i`-th node of height `h` and the sibling of each node on the way, which stand in `sibs`. -/
def treeRoot (seed : List Byte) (p : HashAt) : List (List Byte) → Nat → Nat → List Byte → List Byte
  | [], _, _, x => x
  | y :: sibs, h, i, x =>
    treeRoot seed p sibs (h + 1) (i / 2) (hashMany seed { p with up := h + 1, ix := i / 2 } (if i % 2 = 0 then x ++ y else y ++ x))

/-- A chain followed from its value `x` at `from_` to its end. -/
def chainEnd (seed : List Byte) (p : HashAt) (from_ : Nat) (x : List Byte) : List Byte :=
  (List.range (15 - from_)).foldl (fun v j => hashOne seed { p with ix := from_ + j } v) x

/-- The public key that a one-time signature of 24 bytes belongs to: 48 digits of the message and 3 of their check sum. -/
def oneTimeKey (seed : List Byte) (layer tree leaf : Nat) (sig msg : List Byte) : List Byte :=
  let ds := digits 4 48 msg
  let ds := ds ++ digits 4 3 (natBe 2 (16 * ds.foldl (fun n d => n + (15 - d)) 0))
  let ends := ds.zipIdx.map fun d => chainEnd seed { layer := layer, tree := tree, kind := 0, pair := leaf, up := d.2 } d.1 (value24 sig d.2)
  hashMany seed { layer := layer, tree := tree, kind := 1, pair := leaf } ends.flatten

/-- The root of the topmost tree: each layer signs the root of the one below, from the leaf that `at_` names on. -/
def topRoot (seed : List Byte) (sig : List Byte) : Nat → Nat → Nat → List Byte → List Byte
  | 0, _, _, x => x
  | n + 1, layer, at_, x =>
    let (leaf, tree) := (at_ % 512, at_ / 512)
    let part := slice sig (1440 * layer) 1440
    let key := oneTimeKey seed layer tree leaf part x
    topRoot seed sig n (layer + 1) tree
      (treeRoot seed { layer := layer, tree := tree, kind := 2 } ((List.range 9).map fun k => value24 part (51 + k)) 0 leaf key)

/-- The public key of the few-time signature of a digest: a leaf of each of its 17 trees is shown. -/
def fewTimeKey (seed : List Byte) (at_ : Nat) (sig md : List Byte) : List Byte :=
  let (leaf, tree) := (at_ % 512, at_ / 512)
  let roots := (digits 14 17 md).zipIdx.map fun d =>
    let p : HashAt := { tree := tree, kind := 3, pair := leaf }
    let i := 2 ^ 14 * d.2 + d.1
    let shown := hashOne seed { p with ix := i } (value24 sig (15 * d.2))
    treeRoot seed p ((List.range 14).map fun k => value24 sig (15 * d.2 + 1 + k)) 0 i shown
  hashMany seed { tree := tree, kind := 4, pair := leaf } roots.flatten

/-- Whether a signature of 16,224 bytes of a message verifies under a public key of 48, with an empty context (R284). -/
def slhVerify (key sig msg : List Byte) : Bool :=
  let (seed, root) := (slice key 0 24, slice key 24 24)
  let r := slice sig 0 24
  let inner := sha512 (r ++ key ++ [0, 0] ++ msg)
  let digest := (sha512 (r ++ seed ++ inner ++ [0, 0, 0, 0])).take 39
  let tree := beNat (slice digest 30 7) % 2 ^ 54
  let at_ := 512 * tree + beNat (slice digest 37 2) % 512
  sig.length = 16224 && key.length = 48 &&
    topRoot seed (slice sig 6144 10080) 7 0 at_ (fewTimeKey seed at_ (slice sig 24 6120) (slice digest 0 30)) = root

/-- The KEY_ID of a public key (R284): the first 8 bytes of its SHA-256 digest. -/
def keyId (key : List Byte) : Nat := leNat ((sha256 key).take 8)

/-- Whether a signature section verifies over a message (R284): KEY_ID selects the key. -/
def sigOk (keys : List (List Byte)) (sec msg : List Byte) : Bool :=
  leAt sec 8 4 = 1 && leAt sec 12 4 = 16224 &&
  (match keys.find? fun k => decide (keyId k = leAt sec 0 8) with
   | some k => slhVerify k (slice sec 16 16224) msg
   | none => false)

/-- The Skegodel guard key, whose digest the boot ROM holds (R494). -/
def guardKey : List Byte := (List.range 48).map Config.guardKey

end Sys2Proof.Machine
end

