-- ==== Sys2Proof/Machine/AlmOps.lean ====
section
/-! DEFINITION. The Almanac (R489 to R494): its bytes, the change log (R488), the guard record, lifetime and calibration records (R499, R500), crash
summaries (R501). -/

namespace Sys2Proof.Machine

/-- One byte of the Almanac (R489): written, erased (all ones), or as final test left it. -/
def State.almByte (s : State) (a : Nat) : Byte :=
  match tabGet none s.mgt.alm a with
  | some b => b
  | none => if s.mgt.erased.contains (a / 65536) then 0xFF else Config.factory a

/-- Bytes of the Almanac. -/
def State.almBytes (s : State) (a n : Nat) : List Byte := (List.range n).map fun i => s.almByte (a + i)

/-- A byte as READ shows it (R490, R493): the directory and boot state hold what the registers say. -/
def State.almShown (s : State) (a : Nat) : Byte :=
  if a < 0x100000 then Config.directory [s.get F.ALM_STAT_A_VALID, s.get F.ALM_STAT_B_VALID, s.get F.ALM_STAT_ACTIVE, s.get F.ALM_STAT_NEXT, s.mgt.boots,
    s.get F.FLT_BOOT_FAILS] a
  else s.almByte a

/-- Bytes programmed into the Almanac. -/
def State.almWrite (s : State) (a : Nat) (bs : List Byte) : State :=
  { s with mgt := { s.mgt with alm := bs.zipIdx.foldl (fun m p => tabPut none m (a + p.2) (some p.1)) s.mgt.alm } }

/-- One 64 KiB sector erased. -/
def State.almErase (s : State) (sector : Nat) : State :=
  { s with mgt := { s.mgt with
      alm := s.mgt.alm.filter fun p => decide (p.1 / 65536 ≠ sector), erased := keyPut s.mgt.erased sector } }

/-- Sectors erased from an offset on. -/
def State.almEraseN (s : State) (a n : Nat) : State := (List.range n).foldl (fun t i => t.almErase (a / 65536 + i)) s

/-- Whether BAR0 answers: the part is on, and boot step 3 has brought up the link's clocks, or the part is in Patience mode or in FATAL
(R460, R463, R466). -/
def State.barUp (s : State) : Bool := s.on && (decide (3 ≤ s.get F.FLT_BOOT_STEP) || s.patience || s.fatal)

/-- Whether the part may write to the Almanac (R450, R481). -/
def State.almUp (s : State) : Bool := s.isSet F.THM_STAT_ALM_OK && s.get F.MGT_STAT_CROUPIER = 0

/-! ## What the part's records keep (R450, R458, R462, R477) -/

/-- Fields a power-on takes from the Almanac's build record and image flags (R29, R407, R489, R493). -/
def buildFlds : List Fld :=
  [F.MGT_SERIAL, F.MGT_SITE_PRESENT_GUEST, F.CMT_ID_MAC_BASE,
   F.MBD_REPAIR_FREE, F.ALM_STAT_ACTIVE, F.ALM_STAT_NEXT, F.ALM_STAT_A_VALID, F.ALM_STAT_B_VALID]

/-- Fields the Almanac holds over a power cycle (R458, R462, R477, R488, R492): the build record's and the part's own records. -/
def almFlds : List Fld :=
  buildFlds ++ [F.MBD_REPAIR_USED, F.FLT_BOOT_FAILS, F.FLT_BOOT_LAST_REASON, F.FLT_BOOT_BOOTS, F.ALM_CLOG_SEQ, F.ALM_CLOG_WRAPS,
    F.ALM_LIFE_PTR, F.ALM_LIFE_SEQ, F.CLK_DIE_CEIL_FIELD, F.CLK_CACHE_CEIL_FIELD]

/-- What the Almanac keeps of the part as it stands, of whose registers only `almFlds` count: change-log entries not yet written are not there. -/
def State.kept (s : State) : Kept :=
  { regs := (s.set F.ALM_CLOG_SEQ (s.get F.ALM_CLOG_SEQ - s.mgt.pend.length)).regs
    repaired := s.mems.repaired, refs := s.light.refs, losses := s.light.losses, ceilings := s.mgt.ceilings }

/-! ## The change log (R488) -/

/-- The SOURCE code of an interface. -/
def Iface.code : Iface → Nat
  | .host => 0 | .smbus => 1 | .vdm => 2 | .croupier => 3

/-- Whether a configuration-class write must be dropped: 1,024 entries are held (R450). -/
def State.logFull (s : State) : Bool := decide (1024 ≤ s.mgt.pend.length)

/-- A change-log entry made (R488). -/
def State.logChange (s : State) (src : Iface) (off : Nat) (wide took : Bool) (v : Nat) : State :=
  let seq := s.get F.ALM_CLOG_SEQ + 1
  let b := natLe 8 s.now ++ natLe 4 seq ++ natLe 4 (s.get F.TRN_NUM) ++
    natLe 4 (packBits [(0, 26, off), (26, 3, Iface.code src), (29, 1, b2n wide), (30, 1, b2n took)]) ++ natLe 8 v
  let s1 := s.set F.ALM_CLOG_SEQ seq
  let s2 := { s1 with mgt := { s1.mgt with pend := s1.mgt.pend ++ [b ++ natLe 4 (crc32c b)] } }
  if s2.almUp then s2 else s2.set F.THM_STAT_ALM_HELD s2.mgt.pend.length

/-- One entry written into the ring; the sector it enters is erased first (R488). -/
def State.logOut (s : State) (e : List Byte) : State :=
  let seq := leAt e 8 4
  let pos := (seq - 1) % 262144
  let s1 := if pos % 2048 = 0 then
      let t := s.almErase (0x0880 + pos / 2048)
      if 262144 < seq then t.set F.ALM_CLOG_WRAPS (t.get F.ALM_CLOG_WRAPS + 1) else t
    else s
  s1.almWrite (0x08800000 + pos * 32) e

/-- Every pending entry written in order where the Almanac can be written (R450, R488). -/
def State.flushLog (s : State) : State :=
  if s.almUp then
    let s1 := s.mgt.pend.foldl State.logOut s
    ({ s1 with mgt := { s1.mgt with pend := [] } }).set F.THM_STAT_ALM_HELD 0
  else s

/-! ## The guard record (R482, R483, R494) -/

/-- Whether a record keeps its layout and its maxima (R483, R494). -/
def guardShape (r : List Byte) : Bool :=
  let lim := leAt r 16 8
  leAt r 0 4 = 0x52475A48 && decide (leAt r 8 4 ≤ 1) && decide (bitsOf lim 12 11 ≤ 1600) && decide (bitsOf lim 23 12 ≤ 2400) &&
  decide (bitsOf lim 35 16 ≤ 51200) && bitsOf lim 51 13 = 0 && decide (leAt r 24 1 ≤ 110) && decide (leAt r 25 1 ≤ 115) &&
  decide (leAt r 26 1 ≤ 90) && decide (leAt r 27 1 ≤ 110) && decide (leAt r 28 1 ≤ 105) && decide (leAt r 29 1 ≤ 110) &&
  decide (leAt r 30 2 ≤ 15) && (slice r 32 32).all (fun b => b = 0) && decide (leAt r 112 1 ≤ 8) && (slice r 113 15).all (fun b => b = 0) &&
  (slice r (128 + 48 * leAt r 112 1) (384 - 48 * leAt r 112 1)).all (fun b => b = 0)

/-- Where a guard record copy stands (R490): copy A at the start of its region, copy B at its middle. -/
def guardAt (k : Nat) : Nat := 0x00100000 + k * 0x80000

/-- A copy of the guard record, and whether its check word holds (R491). -/
def State.guardCopy (s : State) (k : Nat) : List Byte := s.almBytes (guardAt k) 16756
def guardCrcOk (r : List Byte) : Bool := leAt r 16752 4 = crc32c (slice r 0 16752)

/-- The older copy, which GUARD_UPDATE writes over (R493): one whose check word fails, else the one with the lower RECORD_VERSION; of two alike the one not in
force. -/
def State.guardOlder (s : State) : Nat :=
  let a := s.guardCopy 0
  let b := s.guardCopy 1
  if !guardCrcOk a && guardCrcOk b then 0
  else if guardCrcOk a && !guardCrcOk b then 1
  else if leAt a 4 4 < leAt b 4 4 then 0
  else if leAt b 4 4 < leAt a 4 4 then 1
  else 1 - s.mgt.copy

/-- The owner's public key of a record, all 0 for none (R494). -/
def ownerKey (r : List Byte) : List Byte := slice r 64 48

/-- The result of a GUARD_UPDATE (R493, R494): 0, or what refuses the record. -/
def State.guardCheck (s : State) (r : List Byte) : Nat :=
  let id := leAt r 512 8
  let own := ownerKey s.mgt.guard
  let keys := (if own.any (fun b => b ≠ 0) then [own] else []) ++ if s.isSet F.GRD_STAT_VENDOR_LOCK then [] else [guardKey]
  if leAt r 16752 4 ≠ crc32c (slice r 0 16752) then 6
  else if !guardShape r then 1
  else if !keys.any (fun k => decide (keyId k = id)) then 4
  else if !sigOk keys (slice r 512 16240) (slice r 0 512) then 3
  else if leAt r 4 4 ≤ s.get F.GRD_VERSION_RECORD then 5
  else 0

/-- A guard record loaded into the guard registers (R482, R483). -/
def State.loadGuard (s : State) (r : List Byte) : State :=
  let lim := leAt r 16 8
  let s1 := (((s.set F.GRD_STAT_LOADED 1).set F.GRD_STAT_SIGNER (b2n (leAt r 512 8 ≠ keyId guardKey))).set F.GRD_STAT_VENDOR_LOCK
    (leAt r 8 4)).set F.GRD_STAT_NKEYS (leAt r 112 1)
  let s2 := (s1.set F.GRD_VERSION_RECORD (leAt r 4 4)).set F.GRD_FWMIN_FW_MIN (leAt r 12 4)
  let s3 := (((s2.set F.GRD_LIMITS_LASER_CAP (bitsOf lim 0 12)).set F.GRD_LIMITS_HTR_CAP (bitsOf lim 12 11)).set F.GRD_LIMITS_PWR_CEIL
    (bitsOf lim 23 12)).set F.GRD_LIMITS_EGRESS (bitsOf lim 35 16)
  let s4 := (((((s3.set F.GRD_TRIP_CMP (leAt r 24 1)).set F.GRD_TRIP_CACHE (leAt r 25 1)).set F.GRD_TRIP_SITE (leAt r 26 1)).set
    F.GRD_TRIP_MBD (leAt r 27 1)).set F.GRD_TRIP_HBM (leAt r 28 1)).set F.GRD_TRIP_EDGE (leAt r 29 1)
  let wp := leAt r 30 1
  let s5 := (((s4.set F.GRD_WP_FW_UPDATE (bitsOf wp 0 1)).set F.GRD_WP_LOG_CLEAR (bitsOf wp 1 1)).set F.GRD_WP_DUMP_CLEAR (bitsOf wp 2 1)).set
    F.GRD_WP_UNSIGNED_CHARTS (bitsOf wp 3 1)
  let s6 := (List.range 8).foldl (fun t i =>
    t.set F.GRD_KEY_ID_KEY_ID (if i < leAt r 112 1 then keyId (slice r (128 + 48 * i) 48) else 0) i) s5
  ({ s6 with mgt := { s6.mgt with guard := slice r 0 16756 }, cmt := { s6.cmt with shape := bitsOf lim 35 16 } }).set F.THM_PWR_CEIL_W (bitsOf lim 23 12)

/-! ## Records (R492, R499 to R501) -/

/-- A 64-byte record header (R499). -/
def State.recHead (s : State) (magic len : Nat) (body : List Byte) : List Byte :=
  let h := natLe 4 magic ++ natLe 2 1 ++ natLe 2 0 ++ natLe 8 s.mgt.lifeSeq ++ natLe 8 s.now ++ natLe 4 s.mgt.boots ++ natLe 4 len ++
    List.replicate 28 0
  h ++ natLe 4 (crc32c (h ++ body))

/-- A lifetime counter as the record holds it: saturating at its width, divided into seconds where it counts samples. -/
def State.lifeField (s : State) (off w per : Nat) : List Byte := natLe w (satTo (2 ^ (8 * w) - 1) (tabGet 0 s.mgt.life off / per))

/-- The body of a lifetime record (R499). Temperatures and power are sampled every 10 µs, lasers every 10 ms. -/
def State.lifeBody (s : State) : List Byte :=
  let fld (base n size : Nat) (f : Nat → List Byte) : List Byte := (List.range n).flatMap fun i => f (base + size * i)
  let low (k : Nat) : List Byte := natLe 1 k
  fld 0x40 3840 4 (fun o => s.lifeField o 4 100000) ++ fld 0x3C40 32 4 (fun o => s.lifeField o 4 100000) ++
  (List.range 8).flatMap (fun n =>
    let o := 0x3CC0 + 32 * n
    let f := s.get F.TWK_ELS_FEED n
    let fade := if f < 6 then s.get F.TWK_FEED_FADE f else 0
    let slope : Int := if f < 6 then toSigned 16 (s.get F.TWK_FEED_SLOPE f) * 360000 else 0
    s.lifeField o 4 100 ++ s.lifeField (o + 4) 4 100 ++ s.lifeField (o + 8) 2 1 ++ natLe 2 fade ++ natLe 4 (ofSigned 32 slope) ++
    natLe 8 (Config.moduleSerial n) ++ List.replicate 8 0) ++
  fld 0x3DC0 44 16 (fun o => s.lifeField o 4 1 ++ s.lifeField (o + 4) 4 1 ++ s.lifeField (o + 8) 4 1 ++ s.lifeField (o + 12) 2 1 ++
    s.lifeField (o + 14) 2 1) ++
  fld 0x4080 12 16 (fun o => s.lifeField o 4 1 ++ s.lifeField (o + 4) 4 1 ++ s.lifeField (o + 8) 4 1 ++ s.lifeField (o + 12) 2 1 ++
    List.replicate 2 0) ++
  fld 0x4140 24 8 (fun o => s.lifeField o 4 1 ++ s.lifeField (o + 4) 4 1) ++
  fld 0x4200 132 4 (fun o => s.lifeField o 4 1) ++
  fld 0x4410 32 8 (fun o => s.lifeField o 4 1 ++ s.lifeField (o + 4) 4 1) ++ fld 0x4510 4 4 (fun o => s.lifeField o 4 1) ++
  natLe 4 s.mgt.boots ++ fld 0x4524 5 4 (fun o => s.lifeField o 4 1) ++ List.replicate 72 0 ++
  (List.range 24).flatMap (fun t => low (s.get F.CLK_DIE_CEIL_FIELD t)) ++ (List.range 24).flatMap (fun t => low (s.get F.CLK_CACHE_CEIL_FIELD t)) ++
  List.replicate 16 0

/-- The body of a calibration-history record (R500). -/
def State.calBody (s : State) : List Byte :=
  (List.range 96).flatMap fun k =>
    let p := tabGet (0, 0) s.mgt.pilots k
    let resid := packBits [(0, 12, s.get F.OMU_CAL_RESID_FAST k), (12, 12, s.get F.OMU_CAL_RESID_FINE k), (24, 12, s.get F.OMU_CAL_RESID_GAIN k),
      (36, 8, s.get F.OMU_CAL_RESID_OFFSET k), (44, 8, s.get F.OMU_CAL_RESID_TEMP k), (63, 1, s.get F.OMU_CAL_RESID_VALID k)]
    natLe 5 (s.get F.OMU_CAL_COUNT_PILOTS k) ++ natLe 2 (s.get F.OMU_CAL_COUNT_FULL k) ++ [0] ++ natLe 8 resid ++ natLe 8 p.1 ++ natLe 4 p.2 ++
    List.replicate 4 0

/-- A region of records in rotation (R492): its first byte, the bytes and the number of its slots, the records' MAGIC and length. -/
structure RecKind where
  base  : Nat
  size  : Nat
  slots : Nat
  magic : Nat
  len   : Nat
  deriving DecidableEq, Repr

/-- The lifetime records, and the calibration history (R499, R500). -/
def lifeKind : RecKind := { base := 0x0A000000, size := 0x8000, slots := 2048, magic := 0x524C5A48, len := 17856 }
def calKind : RecKind := { base := 0x08000000, size := 0x1000, slots := 2048, magic := 0x48435A48, len := 3136 }

/-- The slot of a record by its SEQ: slots are taken in rotation from the first. -/
def RecKind.slot (k : RecKind) (seq : Nat) : Nat := k.base + (seq - 1) % k.slots * k.size

/-- A slot made ready: the sector it begins is erased first (R492). -/
def State.recOpen (s : State) (k : RecKind) (seq : Nat) : State :=
  if k.slot seq % 65536 = 0 then s.almErase (k.slot seq / 65536) else s

/-- A record written in its slot. -/
def State.recPut (s : State) (k : RecKind) (seq : Nat) (bytes : List Byte) : State := (s.recOpen k seq).almWrite (k.slot seq) bytes

/-- A record of a kind in a slot: its SEQ, and whether its check word holds; none where no record was begun. -/
def State.recAt (s : State) (k : RecKind) (i : Nat) : Option (Nat × Bool) :=
  let a := k.base + i * k.size
  let h := s.almBytes a 64
  if leAt h 0 4 = k.magic then some (leAt h 8 8, decide (leAt h 60 4 = crc32c (slice h 0 60 ++ s.almBytes (a + 64) (k.len - 64)))) else none

/-- The SEQs of the records of a kind that were begun, with whether the check word holds. -/
def State.recs (s : State) (k : RecKind) : List (Nat × Bool) := (List.range k.slots).filterMap (s.recAt k)

/-- The SEQ of the current record: the highest whose check word passes, 0 where none does (R491, R492). -/
def State.current (s : State) (k : RecKind) : Nat := ((s.recs k).filter fun r => r.2).foldl (fun m r => max m r.1) 0

/-- The records of a kind newer than the current one, whose check words fail (R491). -/
def State.badRecs (s : State) (k : RecKind) : Nat := ((s.recs k).filter fun r => decide (s.current k < r.1)).length

/-- The SEQ of the newest record begun, with a check word that passes or not: the next one takes the slot after it (DESIGN CHOICE, log entry 154). -/
def State.newest (s : State) (k : RecKind) : Nat := (s.recs k).foldl (fun m r => max m r.1) 0

/-- A lifetime record and a calibration-history record written in rotation (R492, R499, R500). -/
def State.saveLife (s : State) : State :=
  let seq := s.mgt.lifeSeq + 1
  let s1 := { s with mgt := { s.mgt with lifeSeq := seq, lifeAt := s.now } }
  let lb := s1.lifeBody
  let cb := s1.calBody
  let s2 := s1.recPut lifeKind seq (s1.recHead lifeKind.magic lifeKind.len lb ++ lb)
  ((s2.recPut calKind seq (s1.recHead calKind.magic calKind.len cb ++ cb)).set F.ALM_LIFE_PTR (lifeKind.slot seq)).set F.ALM_LIFE_SEQ seq

/-- The counters of a lifetime record (R499): where each run of them starts, how many, how far apart, their bytes, and how many samples make their unit. -/
def lifeRuns : List (Nat × Nat × Nat × Nat × Nat) :=
  [(0x40, 3840, 4, 4, 100000), (0x3C40, 32, 4, 4, 100000), (0x3CC0, 8, 32, 4, 100), (0x3CC4, 8, 32, 4, 100), (0x3CC8, 8, 32, 2, 1),
   (0x3DC0, 44, 16, 4, 1), (0x3DC4, 44, 16, 4, 1), (0x3DC8, 44, 16, 4, 1), (0x3DCC, 44, 16, 2, 1), (0x3DCE, 44, 16, 2, 1),
   (0x4080, 12, 16, 4, 1), (0x4084, 12, 16, 4, 1), (0x4088, 12, 16, 4, 1), (0x408C, 12, 16, 2, 1), (0x4140, 24, 8, 4, 1), (0x4144, 24, 8, 4, 1),
   (0x4200, 132, 4, 4, 1), (0x4410, 32, 8, 4, 1), (0x4414, 32, 8, 4, 1), (0x4510, 4, 4, 4, 1), (0x4524, 5, 4, 4, 1)]

/-- The counters over the part's life as the current lifetime record holds them; ALM_LIFE points at it (R492, R499, R502). -/
def State.loadLife (s : State) : State :=
  let c := s.current lifeKind
  let a := lifeKind.slot c
  let r := if c = 0 then [] else s.almBytes a lifeKind.len
  let life := lifeRuns.flatMap fun x => (List.range x.2.1).map fun i =>
    let o := x.1 + i * x.2.2.1
    (o, leAt r o x.2.2.2.1 * x.2.2.2.2)
  let t := { s with mgt := { s.mgt with lifeSeq := s.newest lifeKind, life := life.foldl (fun m (p : Nat × Nat) => tabPut 0 m p.1 p.2) [] } }
  (t.set F.ALM_LIFE_PTR (if c = 0 then 0 else a)).set F.ALM_LIFE_SEQ c

/-- OMU_CAL_COUNT as the current record of the calibration history holds it (R185, R186, R500), 0 where there is none. -/
def State.loadCal (s : State) : State :=
  let c := s.current calKind
  let r := if c = 0 then [] else s.almBytes (calKind.slot c) calKind.len
  (List.range 96).foldl (fun u k =>
    (u.set F.OMU_CAL_COUNT_PILOTS (leAt r (64 + 32 * k) 5) k).set F.OMU_CAL_COUNT_FULL (leAt r (69 + 32 * k) 2) k) s

/-- The word a register's fields hold at an offset. -/
def State.rawReg (s : State) (off : Nat) : Nat :=
  match regAt off with
  | some (r, i, j) => packBits (r.flds.map fun f => (f.lsb, f.w, s.get f i j))
  | none => 0

/-- A crash summary written into its sector of the ring of 16 (R476, R501). The die of a thermal trip and its temperature stand in bytes 36 to 39 of its header, to
which R501 gives no content (R446; DESIGN CHOICE, log entry 32). -/
def State.crashSummary (s : State) (word : Nat) (die : Option (Nat × Int)) : State :=
  let seq := s.mgt.dumpSeq + 1
  let sticky := bitMask ((List.range 248).filter fun i => s.isSet F.FLT_SRC_STICKY i)
  let last := s.evf.words.drop (s.evf.words.length - 64)
  let body := natLe 64 sticky ++ (List.range 132).flatMap (fun d => natLe 8 (s.rawReg (0x2202000 + 16 * d))) ++
    last.flatMap (natLe 8) ++ List.replicate (8 * (64 - last.length)) 0 ++
    natLe 4 (s.rawReg 0x1D00004) ++ natLe 4 (s.rawReg 0x1D10000) ++ natLe 4 (s.rawReg 0x20004) ++ natLe 4 (s.rawReg 0x2100004) ++
    natLe 8 (s.get F.TAL_NEXT_SEQ) ++
    List.replicate 2368 0
  let h := natLe 4 0x44435A48 ++ natLe 4 seq ++ natLe 8 word ++ natLe 8 s.now ++ natLe 8 (s.get F.TRN_NUM) ++ natLe 4 s.mgt.boots ++
    (match die with
     | some (k, t) => natLe 2 k ++ natLe 2 (ofSigned 16 t)
     | none => List.replicate 4 0) ++ List.replicate 20 0
  let b := slice body 0 4032
  let a := 0x09100000 + (seq - 1) % 16 * 65536
  let s1 := { s with mgt := { s.mgt with dumpSeq := seq } }
  (s1.almErase (a / 65536)).almWrite a (h ++ natLe 4 (crc32c (h ++ b)) ++ b)

end Sys2Proof.Machine
end

