-- ==== Sys2Proof/Machine/MemOps.lean ====
section
/-! DEFINITION. Memory: the DPA map (R225 to R228), bytes and poison (R229 to R233), and the tables that give ranges a meaning
(R237 to R242). -/

namespace Sys2Proof.Machine

/-- What a DPA names (R225): a stack, a cache die, the host window's range, the Comet window, or nothing. -/
inductive Region where
  | hbm (m : Nat)
  | cache (t : Nat)
  | host
  | comet
  | unmapped
  deriving DecidableEq, Repr

/-- The size of a stack's range, 72 GiB. -/
def stackSize : Nat := 0x1200000000

/-- The size of a cache die's range, 256 MiB. -/
def cacheSize : Nat := 0x10000000

/-- The address map of R225, presence and retirement aside. -/
def regionOf (a : Nat) : Region :=
  if a < 12 * stackSize then .hbm (a / stackSize)
  else if 0x100000000000 ≤ a && a < 0x100000000000 + 24 * cacheSize then .cache ((a - 0x100000000000) / cacheSize)
  else if 0x800000000000 ≤ a && a < 0xC00000000000 then .host
  else if 0xC00000000000 ≤ a && a < 0x1000000000000 then .comet
  else .unmapped

/-- What a DPA names now: the range of an absent or retired stack or tile is unmapped (R226). -/
def State.region (s : State) (a : Nat) : Region :=
  match regionOf a with
  | .hbm m => if s.present (24 + m) && !s.retired (24 + m) then .hbm m else .unmapped
  | .cache t => if s.present t && !s.retired t then .cache t else .unmapped
  | r => r

/-- Whether an offset in stack `m` lies in a reserved area (R227). -/
def reservedOff (m off : Nat) : Bool :=
  decide (0x11FC000000 ≤ off) || ((m = 0 || m = 6) && decide (0x0FDC000000 ≤ off))

/-- Whether `n` bytes from `a` lie in one region and nothing of it is unmapped. -/
def State.mapped (s : State) (a n : Nat) : Bool :=
  decide (s.region a ≠ .unmapped) && decide (s.region a = s.region (a + (n - 1)))

/-- The canonical form of memory: addresses strictly rising, no byte listed that an unlisted address reads as. -/
def Memory.wf (m : List Host.Cell) : Bool := tabWf 0 m

/-- One byte; a byte nothing has written reads 0 (R460 step 6). -/
def State.rd (s : State) (a : Nat) : Byte := tabGet 0 s.mem a

/-- One byte written. -/
def State.wr (s : State) (a : Nat) (b : Byte) : State := { s with mem := tabPut 0 s.mem a b }

/-- `n` bytes from `a`. -/
def State.rdN (s : State) (a : Nat) : Nat → List Byte
  | 0 => []
  | n + 1 => s.rd a :: s.rdN (a + 1) n

/-- Bytes written from `a` on. -/
def State.wrN (s : State) : Nat → List Byte → State
  | _, [] => s
  | a, b :: bs => (s.wr a b).wrN (a + 1) bs

/-- Whether an address lies in a reserved area whose layout the spec leaves out (R227): the MBD area, the retransmission store, the hub area. -/
def openArea (a : Nat) : Bool :=
  match regionOf a with
  | .hbm m => decide (0x11FC000000 ≤ a % stackSize) || ((m = 0 || m = 6) && decide (0x0FDC000000 ≤ a % stackSize) && decide (a % stackSize < 0x0FFC000000))
  | _ => false

/-- `n` bytes from `a` as a reader of the part's memory gets them (R227, R228; DESIGN CHOICE, log entry 157). -/
def State.readBytes (s : State) (a n : Nat) : List Byte :=
  if openArea a || openArea (a + (n - 1)) then (List.range n).map fun i => if openArea (a + i) then Config.areaByte (a + i) s.now else s.rd (a + i)
  else s.rdN a n

/-- Whether a granule carries poison (R230). -/
def State.poisoned (s : State) (g : Nat) : Bool := s.poison.contains g

/-- A granule's poison set or cleared. -/
def State.setPoison (s : State) (g : Nat) (b : Bool) : State :=
  { s with poison := if b then keyPut s.poison g else keyDrop s.poison g }

/-- The granules `n` bytes from `a` touch. -/
def granules (a n : Nat) : List Nat :=
  if n = 0 then [] else (List.range ((a + n - 1) / 64 - a / 64 + 1)).map fun i => a / 64 + i

/-- Whether any granule of the range is poisoned. -/
def State.anyPoison (s : State) (a n : Nat) : Bool := (granules a n).any s.poisoned

/-- The table whose shard holds `a` in its primary copy, with the shard's number. -/
def Table.size (t : Table) (sh : Shard) : Nat := sh.nrows * t.stride * 16

/-- The packed length of a row (R238). -/
def Table.packed (t : Table) : Nat :=
  if t.fmt = 0 then t.d * 4 else if t.fmt = 1 || t.fmt = 2 then t.d * 2
  else if t.fmt = 3 then t.d else if t.fmt = 14 then t.d + 4 else (t.d + 1) / 2 + 4

/-- The table of an id in the directory in force (R237). -/
def State.table (s : State) (id : Nat) : Option Table := s.mems.tables.find? fun t => decide (t.id = id)

/-- The tables with their shards, one pair for each shard. -/
def State.shards (s : State) : List (Table × Shard) :=
  s.mems.tables.flatMap fun t => t.shards.map fun sh => (t, sh)

/-- The shard whose primary copy holds address `a`. -/
def State.primaryAt (s : State) (a : Nat) : Option (Table × Shard) :=
  s.shards.find? fun p => decide (p.2.base ≤ a) && decide (a < p.2.base + p.1.size p.2)

/-- The shard whose mirror copy holds address `a` (R239: no mirror shows 0xFF). -/
def State.mirrorAt (s : State) (a : Nat) : Option (Table × Shard) :=
  s.shards.find? fun p => decide (p.2.mirror ≠ 0xFF) && decide (p.2.mbase ≤ a) && decide (a < p.2.mbase + p.1.size p.2)

/-- The copy of address `a` in a two-copy shard, when the other copy holds good data: MIRRORED, or a REBUILDING shard's
surviving copy seen from the copy being rebuilt (R242). -/
def State.otherCopy (s : State) (a : Nat) : Option Nat :=
  match s.primaryAt a with
  | some (_, sh) => if sh.state = 1 then some (sh.mbase + (a - sh.base)) else none
  | none => match s.mirrorAt a with
    | some (_, sh) => if sh.state = 1 || sh.state = 3 then some (sh.base + (a - sh.mbase)) else none
    | none => none

/-- The pieces of `n` bytes from `a` that lie in the primary copies of MIRRORED and REBUILDING shards: their offset, their length
and the address in the mirror copy they are forwarded to (R242). -/
def State.mirrorRuns (s : State) (a n : Nat) : List (Nat × Nat × Nat) :=
  s.shards.filterMap fun p =>
    let lo := max a p.2.base
    let hi := min (a + n) (p.2.base + p.1.size p.2)
    if lo < hi && (p.2.state = 1 || p.2.state = 3) && decide (p.2.mirror ≠ 0xFF) then
      some (lo - a, hi - lo, p.2.mbase + (lo - p.2.base))
    else none

/-- Whether `n` bytes from `a` touch the hot prefix of a table (R241, R242). -/
def State.inHotPrefix (s : State) (a n : Nat) : Bool :=
  s.shards.any fun p =>
    let hot := p.1.hotRows - p.2.firstRow
    let len := (min hot p.2.nrows) * p.1.stride * 16
    decide (p.2.firstRow < p.1.hotRows) && decide (a < p.2.base + len) && decide (p.2.base < a + n)

/-- Whether `n` bytes from `a` touch the mirror copy of a shard (R242). -/
def State.inMirror (s : State) (a n : Nat) : Bool :=
  s.shards.any fun p => decide (p.2.mirror ≠ 0xFF) && decide (a < p.2.mbase + p.1.size p.2) && decide (p.2.mbase < a + n)

/-- How many symbols of a codeword are in error (R229): one is correctable, two or three are detected; more are taken for detected too, since nothing is
returned silently wrong (R232; DEDUCED, log entry 160). -/
def symbolErrors (k : EccKind) : Nat := ((k.syms.filter fun p => decide (p.1 < 68) && decide (p.2 % 256 ≠ 0)).map fun p => p.1).eraseDups.length

/-- Whether the symbols in error are exactly those that mark poison (R230): the check bytes off by 0x0FA5_963C. -/
def marksPoison (k : EccKind) : Bool :=
  let on := (k.syms.filter fun p => decide (p.1 < 68)).map fun p => (p.1, p.2 % 256)
  decide (on.length = 4) && [(64, 0x3C), (65, 0x96), (66, 0xA5), (67, 0x0F)].all fun p => on.contains p

/-- Whether an access finds a correctable error, the mark of poison on a granule that does not carry it, or an uncorrectable granule (R229, R230): the code
cannot correct an error beside the mark. -/
def isCe (h : EccHit) : Bool := symbolErrors h.kind = 1
def State.newlyMarked (s : State) (h : EccHit) : Bool := marksPoison h.kind && !s.poisoned h.granule
def State.uncorrectable (s : State) (h : EccHit) : Bool :=
  (decide (2 ≤ symbolErrors h.kind) && !s.newlyMarked h) || (symbolErrors h.kind = 1 && s.poisoned h.granule)

/-- A granule's data as read, errors and all (R230). -/
def State.asRead (s : State) (h : EccHit) : State :=
  (h.kind.syms.filter fun p => decide (p.1 < 64)).foldl (fun t p =>
    t.wr (h.granule * 64 + p.1) (t.rd (h.granule * 64 + p.1) ^^^ BitVec.ofNat 8 p.2)) s

/-- A correctable error counted and corrected where the granule lies (R232, R233, R236: the third in one granule, or a second
granule of one row, asks for a repair). -/
def State.countCe (s : State) (g : Nat) : State :=
  match regionOf (g * 64) with
  | .hbm m =>
    let s1 := s.bump F.MBD_CE m
    let n := tabGet 0 s1.mems.ceSeen g + 1
    let row := Config.hbmRow g
    let again := decide (3 ≤ n) || s1.mems.ceSeen.any fun p =>
      decide (p.1 ≠ g) && decide (regionOf (p.1 * 64) = .hbm m) && decide (Config.hbmRow p.1 = row)
    let s2 := { s1 with mems := { s1.mems with ceSeen := tabPut 0 s1.mems.ceSeen g n } }
    if again && !s2.mems.repair.contains (m, row) then { s2 with mems := { s2.mems with repair := s2.mems.repair ++ [(m, row)] } }
    else s2
  | .cache t => s.bump F.CCH_CE t
  | _ => s

/-- An uncorrectable granule that no copy repairs (R232, R233): poisoned, counted, logged with who found it (0 Sky read,
1 Sweep, 2 engine fetch, 3 read-modify-write), the fault source raised. -/
def State.countUe (s : State) (g source : Nat) : State :=
  let s0 := s.setPoison g true
  match regionOf (g * 64) with
  | .hbm m =>
    ((((s0.bump F.MBD_UE m).set F.MBD_UE_LOG_DPA (g * 64) m).set F.MBD_UE_LOG_SOURCE source m).set F.MBD_UE_LOG_VALID 1 m).raise
      (68 + m)
  | .cache t =>
    (((s0.bump F.CCH_UE t).set F.CCH_UE_LOG_UE_DPA (g * 64) t).set F.CCH_UE_LOG_VALID 1 t).raise (44 + t)
  | _ => s0

/-- An error that a core die's own correction reports, counted (R229). -/
def State.onDie (s : State) (h : EccHit) : State :=
  match regionOf (h.granule * 64) with
  | .hbm m => if h.kind.odecc then s.bump F.MBD_ODECC m else s
  | _ => s

/-- What an access finds in a granule handled (R229, R230, R232, R233, R242): corrected; poisoned, uncounted, by the mark of poison; repaired from the other
copy, bytes and all; or stored poisoned as read. `hits` is all that the access finds: the other copy's granule, which it reads then, may fail or carry the mark
too. -/
def State.eccHit (s : State) (source : Nat) (hits : List EccHit) (h : EccHit) : State :=
  let s0 := s.onDie h
  if s0.uncorrectable h then
    match s0.otherCopy (h.granule * 64) with
    | some a =>
      let s0 := (hits.filter fun x => decide (x.granule = a / 64)).foldl State.onDie s0
      if s0.poisoned (a / 64) || hits.any (fun x => decide (x.granule = a / 64) && (s0.uncorrectable x || s0.newlyMarked x)) then (s0.asRead h).countUe h.granule source
      else match regionOf (h.granule * 64) with
        | .hbm m =>
          let s1 := if hits.any fun x => decide (x.granule = a / 64) && isCe x then s0.countCe (a / 64) else s0
          ((s1.wrN (h.granule * 64) (s1.rdN a 64)).setPoison h.granule false).bump F.MBD_MIRROR_FIX m
        | _ => s0
    | none => (s0.asRead h).countUe h.granule source
  else if isCe h then s0.countCe h.granule
  else if s0.newlyMarked h then s0.setPoison h.granule true
  else s0

/-- What a read of a range finds, each granule handled. -/
def State.eccIn (s : State) (a n source : Nat) (hits : List EccHit) : State :=
  (hits.filter fun h => (granules a n).contains h.granule).foldl (fun t h => t.eccHit source hits h) s

/-- Sweep write-backs that a foreground write overtakes are discarded and counted (R235). -/
def State.yieldSweep (s : State) (a n : Nat) : State :=
  (s.mems.sweeping.filter fun p => (granules a n).contains p.1).foldl (fun t p =>
    let t1 := { t with mems := { t.mems with sweeping := t.mems.sweeping.filter fun q => decide (q ≠ p) } }
    match regionOf (p.1 * 64) with
    | .hbm m => t1.bump F.MBD_SWEEP_YIELD m
    | _ => t1) s

/-- A partial write into a poisoned HBM granule counted (R231). -/
def State.partPoison (s : State) (g : Nat) : State :=
  match regionOf (g * 64) with
  | .hbm m => s.bump F.MBD_PARTIAL_POISON m
  | _ => s

/-- A write of bytes into HBM or a cache die (R230, R231): `pois i` says whether the i-th 64-byte piece of the data carries
poison. A whole granule written clean loses its poison; part of a poisoned granule leaves it poisoned and is counted. -/
def State.store (s : State) (a : Nat) (bs : List Byte) (pois : Nat → Bool) (hits : List EccHit) : State :=
  let n := bs.length
  let partial_ := (granules a n).filter fun g => decide (g * 64 < a) || decide (a + n < g * 64 + 64)
  let s0 := (hits.filter fun h => partial_.contains h.granule).foldl (fun t h => t.eccHit 3 hits h) s
  let s1 := (s0.wrN a bs).yieldSweep a n
  (granules a n).foldl (fun t g =>
    let bad := (List.range (ceilDiv n 64)).any fun i => pois i && decide (a + 64 * i < g * 64 + 64) && decide (g * 64 < a + min n (64 * i + 64))
    let part := partial_.contains g
    let t1 := if part && s0.poisoned g then t.partPoison g else t
    if bad then t1.setPoison g true else if part then t1 else t1.setPoison g false) s1

/-- The table directory replaced. -/
def State.setTables (s : State) (ts : List Table) : State := { s with mems := { s.mems with tables := ts } }

/-- The window table entry that serves a Comet DPA: the lowest-numbered valid one whose range holds it (R377). -/
def State.winFor (s : State) (a : Nat) : Option (Nat × Win) :=
  s.cmt.wins.find? fun p => p.2.valid && decide (p.2.base ≤ a) && decide (a < p.2.base + p.2.size)

/-- The host physical address of a DPA of the host window (R306). -/
def State.hpa (s : State) (a : Nat) : Nat := s.host.base + (a - 0x800000000000)

/-- The I/O chiplet site that serves a peer (R380): the chiplet that owns the port of the peer's ordered path. -/
def State.serving (s : State) (peer : Nat) : Option Nat :=
  (s.cmt.server.find? fun p => decide (p.1 = peer)).map fun p => p.2

end Sys2Proof.Machine
end

