-- ==== Sys2Proof/Machine/ChartOps.lean ====
section
/-! DEFINITION. What the chart in force says (R276, R285 to R288), and operand extents (R192, R199, R238). -/

namespace Sys2Proof.Machine

/-- The section of a type for a variant: its own, or the common one (R276). -/
def section_ {α : Type} (d : α) (l : List (Nat × α)) (v : Nat) : α :=
  match l.find? fun p => decide (p.1 = v) with
  | some p => p.2
  | none => match l.find? fun p => decide (p.1 = 255) with
    | some p => p.2
    | none => d

/-- The variant in force. -/
def State.variant (s : State) : Nat := s.get F.CHT_ACTIVE_VARIANT

/-- The slot that is not active (R290). While the built-in chart runs neither is: the first that is not VALID, else the one
that was loaded earlier. -/
def State.standbySlot (s : State) : Nat :=
  if !s.isSet F.CHT_ACTIVE_DEFAULT then 1 - s.get F.CHT_ACTIVE_SLOT
  else if s.get F.CHT_SLOT_STATE 0 ≠ 2 then 0
  else if s.get F.CHT_SLOT_STATE 1 ≠ 2 then 1
  else if s.get F.CHT_LOADED_TIME 0 ≤ s.get F.CHT_LOADED_TIME 1 then 0 else 1

/-- The operators in force. -/
def State.ops (s : State) : List OpDesc := section_ [] s.cht.chart.ops s.variant

/-- The schedule in force. -/
def State.sched (s : State) : List SchedEnt := section_ [] s.cht.chart.sched s.variant

/-- The partition of a deck in the chart in force (R310). -/
def State.deckPart (s : State) (d : Nat) : Option Nat :=
  (List.range 4).find? fun p => match s.cht.chart.parts[p]? with
    | some x => x.valid && bit x.decks d
    | none => false

/-- The partition that a chart gives a site (R286). -/
def Chart.partOf (c : Chart) (site : Nat) : Option Nat :=
  (List.range 4).find? fun p => match c.parts[p]? with
    | some x => x.valid && bit x.sites site
    | none => false

/-- The PART that a site reports: 0 in no partition (R286). -/
def Chart.sitePart (c : Chart) (site : Nat) : Nat := (c.partOf site).getD 0

/-- The partition that holds every tile of a mask (R286). -/
def State.tilesPart (s : State) (m : Nat) : Option Nat :=
  (List.range 4).find? fun p => match s.cht.chart.parts[p]? with
    | some x => x.valid && decide (m ≠ 0) && (bitList 24 m).all fun t => bit x.sites t
    | none => false

/-- The retired tiles and memory stacks as masks (R474). -/
def State.retTiles (s : State) : Nat := s.get F.FLT_RETIRED_TILE
def State.retMem (s : State) : Nat := s.get F.FLT_RETIRED_MEM

/-- Domains a variant retires. -/
def Variant.count (v : Variant) : Nat := popCount 24 v.retTiles + popCount 12 v.retMem

/-- The variant of a chart that covers a retired set (R288): an equal set, else the smallest superset, the lower index first. -/
def Chart.cover (c : Chart) (tiles mem : Nat) : Option Nat :=
  let vs := c.variants.zipIdx
  match vs.find? fun p => decide (p.1.retTiles = tiles) && decide (p.1.retMem = mem) with
  | some p => some p.2
  | none =>
    let sup := vs.filter fun p => decide (p.1.retTiles ||| tiles = p.1.retTiles) && decide (p.1.retMem ||| mem = p.1.retMem)
    (sup.foldl (fun (b : Option (Variant × Nat)) p => match b with
      | none => some p
      | some q => if p.1.count < q.1.count then some p else some q) none).map fun p => p.2

/-- Whether a variant of the chart in force covers the retired set. -/
def State.covered? (s : State) : Bool := (s.cht.chart.cover s.retTiles s.retMem).isSome

/-- The period, quiet window and settle time of the chart in force in ns (R261). -/
def State.periodNs (s : State) : Nat := s.get F.TRN_CFG_PERIOD_US * 1000
def State.quietNs (s : State) : Nat := s.get F.TRN_CFG_QUIET_US * 1000
def State.settleNs (s : State) : Nat := s.get F.TRN_CFG_SETTLE_US * 1000

/-- The run budget B (R263) in ns. -/
def State.budgetNs (s : State) : Nat := s.periodNs - s.quietNs - s.settleNs - 2500

/-- Bytes padded up to 16. -/
def pad16 (n : Nat) : Nat := (n + 15) / 16 * 16

/-- The packed length of a row of `cols` elements in a format (R192, R238). -/
def rowBytes (fmt cols : Nat) : Nat :=
  match fmt with
  | 0 | 7 => 4 * cols
  | 1 | 2 => 2 * cols
  | 3 | 4 | 5 | 6 => cols
  | 8 | 9 | 13 => pad16 (cols + cols / 32)
  | 10 | 11 => pad16 (cols * 3 / 4 + cols / 32)
  | 12 => pad16 (cols / 2 + cols / 32)
  | 14 => cols + 4
  | _ => (cols + 1) / 2 + 4

/-- Bytes from an operand's row 0 to the end of its row `rows - 1`. -/
def Opnd.extent (o : Opnd) (rows : Nat) : Nat :=
  if rows = 0 then 0 else (rows - 1) * o.stride * 16 + rowBytes o.fmt o.cols

/-- The lowest tile of a mask. -/
def lowTile (m : Nat) : Nat := (bitList 24 m).headD 0

/-- The last byte of the region a DPA lies in (R225), the host window as far as the size in force reaches (R306). -/
def State.regionEnd (s : State) (a : Nat) : Nat :=
  match regionOf a with
  | .hbm m => (m + 1) * stackSize - 1
  | .cache t => 0x100000000000 + (t + 1) * cacheSize - 1
  | .host => 0x800000000000 + s.host.gib * 2 ^ 30 - 1
  | _ => 0xFFFFFFFFFFFF

/-- Whether a start DPA decodes to a mapped region (R225, R226, R306, R377). -/
def State.startMapped (s : State) (a : Nat) : Bool :=
  match s.region a with
  | .unmapped => false
  | .host => decide (a ≤ s.regionEnd a)
  | .comet => (s.winFor a).isSome
  | _ => true

/-- Whether one read packet's range is refused (R52, R226, R306, R377): its site does not decode it, the host window does not reach so far, or no window
entry permits it. -/
def State.readRefused (s : State) (a n : Nat) : Bool :=
  match s.region a with
  | .unmapped => true
  | .host => decide (s.regionEnd a < a + n - 1)
  | .comet => !(s.winFor a).any fun w => w.2.read && (s.serving w.2.peer).isSome
  | _ => false

/-- Whether a byte lies in a reserved area or a retransmission store (R227, R78). -/
def noWrite (a : Nat) : Bool :=
  match regionOf a with
  | .hbm m => reservedOff m (a % stackSize)
  | .cache t => decide (0x0FC00000 ≤ (a - 0x100000000000) % cacheSize) && decide (t < 24)
  | _ => false

/-- Whether `n` bytes from `a` lie in the region of their first byte, and outside reserved areas where they are written. -/
def State.rangeOk (s : State) (a n : Nat) (write : Bool) : Bool :=
  n = 0 || (decide (a + n - 1 ≤ s.regionEnd a) && !(write && (noWrite a || noWrite (a + n - 1))) &&
    (match s.region a with
     | .comet => (s.winFor a).any fun w => decide (a + n ≤ w.2.base + w.2.size)
     | _ => true))

end Sys2Proof.Machine
end

