-- ==== Sys2Proof/Machine/Almanac.lean ====
section
/-! DEFINITION. Meanings of the Almanac's and the management controller's own commands: the end of an ALM command (R493, R494), the change log's
writes (R488), lifetime records (R499, R500), and the MCTP identity and control messages (R495 to R498). -/

namespace Sys2Proof.Machine

/-! ## The commands of R493 -/

/-- The bytes staged in ALM_STAGE. -/
def State.staged (s : State) (n : Nat) : List Byte := slice ((List.range (ceilDiv n 4)).flatMap fun i => natLe 4 (s.get F.ALM_STAGE i)) 0 n

/-- The effect of a write to ALM_CMD (R493): ignored and counted while another command runs; held outside the window. -/
def State.wAlmCmd (s : State) (v : Nat) (byCroupier : Bool) : State :=
  let c := v % 16
  if c = 0 || decide (9 < c) then s
  else if s.get F.ALM_STAT_STATE ≠ 0 then s.add F.ALM_CMDIGN 1
  else ({ s with mgt := { s.mgt with cmd := some (c, byCroupier) } }).set F.ALM_STAT_STATE (if s.isSet F.THM_STAT_ALM_OK then 1 else 2)

/-- The region of a firmware image (R490): 0 image A, 1 image B. -/
def imageBase (i : Nat) : Nat := if i = 0 then 0x01000000 else 0x04000000

/-- The inactive image. -/
def State.idle (s : State) : Nat := 1 - s.get F.ALM_STAT_ACTIVE

/-- An image marked valid or not. -/
def State.setValid (s : State) (i v : Nat) : State := if i = 0 then s.set F.ALM_STAT_A_VALID v else s.set F.ALM_STAT_B_VALID v

/-- Whether an image is valid. -/
def State.imageOk (s : State) (i : Nat) : Bool := if i = 0 then s.isSet F.ALM_STAT_A_VALID else s.isSet F.ALM_STAT_B_VALID

/-- READ (R493): bytes copied into ALM_READ. -/
def State.almRead (s : State) (a n : Nat) : State :=
  let old := (List.range (ceilDiv n 4)).flatMap fun i => natLe 4 (s.get F.ALM_READ i)
  let b := (List.range n).map (fun i => s.almShown (a + i)) ++ old.drop n
  (List.range (ceilDiv n 4)).foldl (fun t i => t.set F.ALM_READ (leAt b (4 * i) 4) i) s

/-- What a command of R493 does, and its LAST. -/
def State.almDo (s : State) (c : Nat) (byCroupier : Bool) (verdict : Nat) : State × Nat :=
  let a := s.get F.ALM_ADDR
  let n := s.get F.ALM_LEN
  match c with
  | 1 => if 4096 < n || decide (2 ^ 28 < a + n) then (s, 1) else (s.almRead a n, 0)
  | 2 =>
    let b := imageBase s.idle
    let out := decide (65536 < n) || decide (a < b) || decide (b + 0x3000000 < a + n)
    let s1 := if byCroupier && out then s.add F.GRD_STAT_BLOCKED 1 else s
    if !s.isSet F.GRD_WP_FW_UPDATE then (s1, 2)
    else if out then (s1, 1)
    else ((s.setValid s.idle 0).almWrite a (s.staged n), 0)
  | 3 =>
    let r := if verdict = 3 || verdict = 5 || verdict = 6 then verdict else 0
    (if r = 0 then s.setValid s.idle 1 else s, r)
  | 4 => if s.imageOk s.idle then (s.set F.ALM_STAT_NEXT s.idle, 0) else (s, 1)
  | 5 =>
    let r := s.staged 16756
    let v := s.guardCheck r
    if v = 0 then
      let k := s.guardOlder
      ((s.almEraseN (guardAt k) 1).almWrite (guardAt k) r, 0)
    else (s, v)
  | 6 => (s.saveLife, 0)
  | 7 => if s.isSet F.GRD_WP_LOG_CLEAR then (s.almEraseN 0x08800000 128, 0) else (s, 2)
  | 8 => if s.isSet F.GRD_WP_DUMP_CLEAR then (s.almEraseN 0x09100000 16, 0) else (s, 2)
  | _ => if s.isSet F.GRD_WP_FW_UPDATE then (s.almEraseN (imageBase s.idle) 768, 0) else (s, 2)

/-- ALM_CMD_DONE (R493, R494): the command running ends with its LAST, once the Almanac can be written; `verdict` is what VERIFY_FW finds (0, 3, 5
or 6). -/
def execAlmCmdDone (verdict : Nat) (s : State) : Res :=
  liveHub s fun s =>
    match s.mgt.cmd with
    | none => s
    | some (c, cr) =>
      if s.almUp then
        let r := s.almDo c cr verdict
        (({ r.1 with mgt := { r.1.mgt with cmd := none } }).set F.ALM_STAT_STATE 0).set F.ALM_STAT_LAST r.2
      else s.set F.ALM_STAT_STATE (if s.isSet F.THM_STAT_ALM_OK then 1 else 2)

/-- CHANGE_LOG_FLUSH (R450, R488): pending entries written in order, once the Almanac can be written. -/
def execChangeLogFlush (s : State) : Res := liveHub s State.flushLog

/-- LIFETIME_RECORD (R186, R450, R492, R499, R500): every 10 minutes; where the Almanac cannot be written it is tried again after a minute. -/
def execLifetimeRecord (s : State) : Res :=
  live s fun s =>
    let s1 := s.atLeast (s.mgt.lifeAt + 600000000000)
    if s1.almUp then s1.saveLife
    else { s1 with mgt := { s1.mgt with lifeAt := s1.now - 540000000000 } }

/-! ## MCTP (R497) -/

/-- Whether an interface carries MCTP. -/
def Iface.mctp : Iface → Bool
  | .smbus | .vdm => true
  | _ => false

/-- An identity request answered (R481, R496, R497): NOT_READY while the Croupier is down or the key is not derived, NO_IDENTITY after a
mismatch, else what `f` says. Before boot step 2 has ended the endpoint is silent (R508). -/
def State.identity (s : State) (src : Iface) (f : State → State × Nat × List Byte) : State :=
  if !Iface.mctp src || !s.barUp then s
  else if s.get F.MGT_STAT_CROUPIER ≠ 0 || decide (s.get F.MGT_IDSTATE_STATE = 0) then s.emit (.mctp src 2 [])
  else if s.get F.MGT_IDSTATE_STATE = 2 then s.emit (.mctp src 4 [])
  else let r := f s
       r.1.emit (.mctp src r.2.1 r.2.2)

/-- A chunk of a blob, or BAD_REQUEST (R497). -/
def chunkOf (b : List Byte) (off len : Nat) : Nat × List Byte :=
  if 1024 < len || decide (b.length < off + len) then (3, []) else (0, slice b off len)

/-- GET_IDENTITY (R495, R497): the identity statement and its signature, as final test stored them. -/
def execGetIdentity (src : Iface) (off len : Nat) (s : State) : Res :=
  liveHub s fun s => s.identity src fun s =>
    if 1024 < len || decide (16352 < off + len) then (s, 3, []) else (s, 0, s.almBytes (Config.identAt + off) len)

/-- The 32-bit word at a BAR0 offset, as the registers' fields hold it. -/
def State.rawWord (s : State) (off : Nat) : Nat :=
  match regAt off with
  | some _ => s.rawReg off % 2 ^ 32
  | none => match regAt (off - 4) with
    | some (r, _, _) => if r.wide then s.rawReg (off - 4) / 2 ^ 32 else 0
    | none => 0

/-- The quote's body (R498). -/
def State.quoteBody (s : State) (nonce : List Byte) : List Byte :=
  let builtin := s.isSet F.CHT_ACTIVE_DEFAULT
  natLe 4 0x31515A48 ++ natLe 4 1 ++ natLe 8 (s.get F.MGT_SERIAL) ++ slice nonce 0 32 ++ natLe 8 s.now ++ natLe 8 (s.get F.TRN_NUM) ++
  sha256 s.mgt.firmware ++ sha256 s.mgt.guard ++
  sha256 ((List.range 80).flatMap fun i => natLe 4 (s.rawWord (0x2300000 + 4 * i))) ++
  natLe 8 (if builtin then 0 else s.cht.chart.id) ++ natLe 1 (b2n s.cht.chart.signed + 2 * b2n builtin) ++ natLe 7 0 ++
  natLe 8 (if s.cht.chart.signed then s.cht.chart.keyId else 0) ++ natLe 8 (s.rawReg 0x2200010) ++ natLe 4 (s.rawReg 0x2200000) ++
  natLe 4 s.mgt.boots ++ natLe 4 (s.get F.ALM_CLOG_SEQ) ++ natLe 52 0

/-- QUOTE_START (R497, R498): a quote is assembled; BUSY while one is being signed. -/
def execQuoteStart (src : Iface) (nonce : List Byte) (s : State) : Res :=
  liveHub s fun s => s.identity src fun s =>
    if nonce.length ≠ 32 then (s, 3, [])
    else if s.mgt.quote.any fun q => q.sig.isNone then (s, 1, [])
    else ({ s with mgt := { s.mgt with quote := some { body := s.quoteBody nonce } } }, 0, [])

/-- QUOTE_SIGNED (R497, R498): the key engine has signed the quote it assembled. -/
def execQuoteSigned (sig : List Byte) (s : State) : Res :=
  liveHub s fun s =>
    match s.mgt.quote with
    | some q => if q.sig.isNone then { s with mgt := { s.mgt with quote := some { q with sig := some (slice sig 0 17088) } } } else s
    | none => s

/-- QUOTE_READ (R497): a chunk of the newest quote, NOT_READY until it is signed. -/
def execQuoteRead (src : Iface) (off len : Nat) (s : State) : Res :=
  liveHub s fun s => s.identity src fun s =>
    match s.mgt.quote.bind fun q => q.sig.map fun g => q.body ++ g with
    | none => (s, 2, [])
    | some b => let r := chunkOf b off len
                (s, r.1, r.2)

/-- The endpoint id of an interface, 0 while none is assigned. -/
def State.eid (s : State) (src : Iface) : Nat := tabGet 0 s.mgt.eids (Iface.code src)

/-- An MCTP control message answered with its completion code; the endpoint is silent until boot step 2 (R508). -/
def State.control (s : State) (src : Iface) (f : State → State × Nat × List Byte) : State :=
  if !Iface.mctp src || !s.barUp then s
  else let r := f s
       r.1.emit (.mctp src r.2.1 r.2.2)

/-- SET_ENDPOINT_ID (R497, the MCTP base specification): operations 0 and 1 assign an id; 0 and 0xFF are no ids. -/
def execSetEndpointId (src : Iface) (op eid : Nat) (s : State) : Res :=
  liveHub s fun s => s.control src fun s =>
    if 1 < op || eid = 0 || decide (255 ≤ eid) then (s, 2, [])
    else ({ s with mgt := { s.mgt with eids := tabPut 0 s.mgt.eids (Iface.code src) eid } }, 0, natLe 1 0 ++ natLe 1 eid ++ natLe 1 0)

/-- GET_ENDPOINT_ID (R497): the id, a simple endpoint's type, no medium-specific information. -/
def execGetEndpointId (src : Iface) (s : State) : Res :=
  liveHub s fun s => s.control src fun s => (s, 0, natLe 1 (s.eid src) ++ natLe 2 0)

/-- GET_MCTP_VERSION_SUPPORT (R497): the versions of the base specification, of control messages and of the part's own type. -/
def execGetMctpVersionSupport (src : Iface) (type : Nat) (s : State) : Res :=
  liveHub s fun s => s.control src fun s =>
    if type = 0xFF || type = 0 || type = 0x7E then
      let vs := Config.mctpVersion type
      (s, 0, natLe 1 vs.length ++ vs.flatMap (natBe 4))
    else (s, 0x80, [])

/-- GET_MESSAGE_TYPE_SUPPORT (R497): vendor-defined messages of the PCI kind. -/
def execGetMessageTypeSupport (src : Iface) (s : State) : Res :=
  liveHub s fun s => s.control src fun s => (s, 0, natLe 1 1 ++ natLe 1 0x7E)

end Sys2Proof.Machine
end

