-- ==== Sys2Proof/Machine/Fp.lean ====
section
/-! DEFINITION. Number formats and their arithmetic (R191, R193 to R197): values are exact dyadic numbers, rounded once where the
spec rounds. -/

namespace Sys2Proof.Machine

/-- A value of a number format: NaN, an infinity, or ±m × 2^e. -/
inductive Fv where
  | nan
  | inf (neg : Bool)
  | fin (neg : Bool) (m : Nat) (e : Int)
  deriving DecidableEq, Repr

/-- The value of a number of 0 or more. -/
def Fv.nat (n : Nat) : Fv := .fin false n 0

/-- The value of an integer. -/
def Fv.int (i : Int) : Fv := .fin (decide (i < 0)) i.natAbs 0

/-- A finite value as numerator and exponent. -/
def Fv.num : Fv → Int × Int
  | .fin s m e => (if s then -(m : Int) else m, e)
  | _ => (0, 0)

/-- Whether a value is NaN, infinite, or zero. -/
def Fv.isNan : Fv → Bool
  | .nan => true
  | _ => false
def Fv.isInf : Fv → Bool
  | .inf _ => true
  | _ => false
def Fv.isZero : Fv → Bool
  | .fin _ 0 _ => true
  | _ => false

/-- The sign of a value. -/
def Fv.neg? : Fv → Bool
  | .nan => false
  | .inf s => s
  | .fin s _ _ => s

/-- A value with its sign turned. -/
def Fv.flip : Fv → Fv
  | .nan => .nan
  | .inf s => .inf !s
  | .fin s m e => .fin (!s) m e

/-! ## Rounding -/

/-- `m × 2^e` rounded to nearest, ties to even, with at most `p` significant bits and no bit below `2^q` (R193, R194). -/
def roundMag (p : Nat) (q : Int) (m : Nat) (e : Int) : Nat × Int :=
  if m = 0 then (0, q)
  else
    let t := max (e + (m.log2 + 1 : Nat) - p) q
    if t ≤ e then (m * 2 ^ (e - t).toNat, t)
    else
      let d := (t - e).toNat
      let n := m / 2 ^ d
      let r := m % 2 ^ d
      let up := decide (2 ^ d < 2 * r) || (decide (2 * r = 2 ^ d) && n % 2 = 1)
      (n + b2n up, t)

/-- Whether `m × 2^e` exceeds `m' × 2^e'`. -/
def magLt (m' : Nat) (e' : Int) (m : Nat) (e : Int) : Bool :=
  let k := min e e'
  decide (m' * 2 ^ (e' - k).toNat < m * 2 ^ (e - k).toNat)

/-- A float format: significant bits, exponent of the lowest bit, the largest finite value, whether it has infinities. -/
structure Fmt where
  p    : Nat
  q    : Int
  mmax : Nat
  emax : Int
  infs : Bool
  deriving DecidableEq, Repr

/-- The float formats by code (R191); MX elements under their block's scale. -/
def fmtOf (c : Nat) : Fmt :=
  match c with
  | 0 => ⟨24, -149, 2 ^ 24 - 1, 104, true⟩
  | 1 => ⟨8, -133, 2 ^ 8 - 1, 120, true⟩
  | 2 => ⟨11, -24, 2 ^ 11 - 1, 5, true⟩
  | 3 | 8 => ⟨4, -9, 14, 5, false⟩
  | 4 => ⟨3, -16, 7, 13, true⟩
  | 9 => ⟨3, -16, 7, 13, false⟩
  | 10 => ⟨4, -3, 15, -1, false⟩
  | 11 => ⟨3, -4, 7, 2, false⟩
  | _ => ⟨2, -1, 3, 1, false⟩

/-- FP32's rounding of an exact value (R194): overflow gives an infinity. -/
def Fv.f32 : Fv → Fv
  | .fin s m e =>
    let f := fmtOf 0
    let r := roundMag f.p f.q m e
    if magLt f.mmax f.emax r.1 r.2 then .inf s else .fin s r.1 r.2
  | x => x

/-! ## Arithmetic -/

/-- The exact sum of two values; an exact zero of two opposite values is +0. -/
def Fv.addX : Fv → Fv → Fv
  | .nan, _ => .nan
  | _, .nan => .nan
  | .inf a, .inf b => if a = b then .inf a else .nan
  | .inf a, _ => .inf a
  | _, .inf b => .inf b
  | .fin a m e, .fin b n f =>
    let k := min e f
    let x : Int := (if a then -(m : Int) else m) * 2 ^ (e - k).toNat
    let y : Int := (if b then -(n : Int) else n) * 2 ^ (f - k).toNat
    if x + y = 0 then .fin (a && b) 0 k else .fin (decide (x + y < 0)) (x + y).natAbs k

/-- The exact product of two values. -/
def Fv.mulX : Fv → Fv → Fv
  | .nan, _ => .nan
  | _, .nan => .nan
  | .inf a, .inf b => .inf (a != b)
  | .inf a, .fin b n _ => if n = 0 then .nan else .inf (a != b)
  | .fin a m _, .inf b => if m = 0 then .nan else .inf (a != b)
  | .fin a m e, .fin b n f => .fin (a != b) (m * n) (e + f)

/-- FP32 addition, subtraction, multiplication, fused multiply-add (R194). -/
def Fv.add (x y : Fv) : Fv := (x.addX y).f32
def Fv.sub (x y : Fv) : Fv := (x.addX y.flip).f32
def Fv.mul (x y : Fv) : Fv := (x.mulX y).f32
def Fv.fma (x y z : Fv) : Fv := ((x.mulX y).addX z).f32

/-- Whether `x` lies below `y`; −0 lies below +0 (R208); NaN compares with nothing. -/
def Fv.lt (x y : Fv) : Bool :=
  match x, y with
  | .nan, _ | _, .nan => false
  | .inf a, .inf b => a && !b
  | .inf a, _ => a
  | _, .inf b => !b
  | .fin a m e, .fin b n f =>
    let k := min e f
    let u : Int := (if a then -(m : Int) else m) * 2 ^ (e - k).toNat
    let v : Int := (if b then -(n : Int) else n) * 2 ^ (f - k).toNat
    decide (u < v) || (decide (u = 0) && decide (v = 0) && a && !b)

/-- MAX and MIN (R208): NaN where either is. -/
def Fv.max2 (x y : Fv) : Fv := if x.isNan || y.isNan then .nan else if x.lt y then y else x
def Fv.min2 (x y : Fv) : Fv := if x.isNan || y.isNan then .nan else if y.lt x then y else x

/-! ## Encodings -/

/-- The value of the bits of a float format with `eb` exponent and `mb` mantissa bits. -/
def decFloat (eb mb b : Nat) (ieee : Bool) : Fv :=
  let s := bit b (eb + mb)
  let x := b / 2 ^ mb % 2 ^ eb
  let m := b % 2 ^ mb
  let bias : Int := 2 ^ (eb - 1) - 1
  if ieee && x = 2 ^ eb - 1 then (if m = 0 then .inf s else .nan)
  else if x = 0 then .fin s m (1 - bias - mb)
  else .fin s (m + 2 ^ mb) ((x : Int) - bias - mb)

/-- The value of an element's bits in a format without scale (R191): a float's value, an integer's number. -/
def decElem (fmt b : Nat) : Fv :=
  match fmt with
  | 0 => decFloat 8 23 b true
  | 1 => decFloat 8 7 b true
  | 2 => decFloat 5 10 b true
  | 3 | 8 => if b % 128 = 127 then .nan else decFloat 4 3 b false
  | 4 | 9 => decFloat 5 2 b true
  | 5 => Fv.int (if b < 128 then b else (b : Int) - 256)
  | 10 => decFloat 2 3 b false
  | 11 => decFloat 3 2 b false
  | 12 => decFloat 2 1 b false
  | 13 => match Fv.int (if b < 128 then b else (b : Int) - 256) with
    | .fin s m _ => .fin s m (-6)
    | x => x
  | _ => Fv.nat b

/-- The bits of a finite value that a float format holds exactly. -/
def encFloat (eb mb : Nat) (neg : Bool) (m : Nat) (e : Int) : Nat :=
  let bias : Int := 2 ^ (eb - 1) - 1
  let low : Int := 1 - bias - mb
  let sg := b2n neg * 2 ^ (eb + mb)
  if m = 0 then sg
  else
    let n := if low ≤ e then m * 2 ^ (e - low).toNat else m / 2 ^ (low - e).toNat
    if n < 2 ^ mb then sg + n
    else
      let k := n.log2 - mb
      sg + (k + 1) * 2 ^ mb + (n / 2 ^ k - 2 ^ mb)

/-- Exponent and mantissa bits of a float format. -/
def fmtBits (c : Nat) : Nat × Nat :=
  match c with
  | 0 => (8, 23) | 1 => (8, 7) | 2 => (5, 10) | 3 | 8 => (4, 3) | 4 | 9 => (5, 2) | 10 => (2, 3) | 11 => (3, 2) | _ => (2, 1)

/-- The canonical NaN of a float format (R193). -/
def nanBits (c : Nat) : Nat :=
  match c with
  | 0 => 0x7FC00000 | 1 => 0x7FC0 | 2 => 0x7E00 | 3 | 8 => 0x7F | 4 | 9 => 0x7E | _ => 0

/-- A converted element: its bits, and how it counts in SAT_KEPT and NAN (R193). -/
structure Conv where
  bits : Nat
  sat  : Nat := 0
  nans : Nat := 0
  deriving DecidableEq, Repr

/-- A value written in a float format (R193): rounded once; beyond the largest finite value it saturates and counts. -/
def toFloat (c : Nat) (v : Fv) : Conv :=
  let f := fmtOf c
  let (eb, mb) := fmtBits c
  let top (s : Bool) : Nat := encFloat eb mb s f.mmax f.emax
  match v with
  | .nan => { bits := nanBits c }
  | .inf s => if f.infs then { bits := b2n s * 2 ^ (eb + mb) + (2 ^ eb - 1) * 2 ^ mb } else { bits := top s, sat := 1 }
  | .fin s m e =>
    let r := roundMag f.p f.q m e
    if magLt f.mmax f.emax r.1 r.2 then { bits := top s, sat := 1 } else { bits := encFloat eb mb s r.1 r.2 }

/-- FP32 bits of a value that FP32 holds. -/
def Fv.bits32 (v : Fv) : Nat := (toFloat 0 v).bits

/-- The value rounded to an integer, ties to even. -/
def Fv.rne : Fv → Int
  | .fin s m e =>
    let n := if 0 ≤ e then m * 2 ^ e.toNat else (roundMag (m.log2 + 2) 0 m e).1
    if s then -(n : Int) else n
  | _ => 0

/-! ## Division and functions within 2 ULP -/

/-- FP32 bits moved by `d` places in the order of FP32 values, which ends at the infinities. -/
def nudge (b : Nat) (d : Int) : Nat :=
  let x : Int := if 2 ^ 31 ≤ b then -((b : Int) - 2 ^ 31) else b
  let y := max (-0x7F800000) (min 0x7F800000 (x + d))
  if y < 0 then 2 ^ 31 + y.natAbs else y.natAbs

/-- A result within 2 ULP of the correctly rounded one (R194): the distance is a free value of its operands. -/
def loose (op a b : Nat) (v : Fv) : Fv :=
  match v with
  | .fin s m e => if m = 0 then .fin s m e else decElem 0 (nudge (Fv.fin s m e).bits32 ((Config.ulp op a b % 5 : Nat) - 2))
  | x => x

/-- `a ÷ b` of two positive integers to 40 bits, with a sticky bit below. -/
def ratio (a b : Nat) : Nat × Int :=
  let k := 40 + b.log2
  let n := a * 2 ^ k
  (2 * (n / b) + b2n (decide (n % b ≠ 0)), -(k : Int) - 1)

/-- FP32 division (R194). -/
def Fv.div (x y : Fv) : Fv :=
  match x, y with
  | .nan, _ | _, .nan => .nan
  | .inf _, .inf _ => .nan
  | .inf a, .fin b _ _ => .inf (a != b)
  | .fin a _ _, .inf b => .fin (a != b) 0 0
  | .fin a m e, .fin b n f =>
    if n = 0 then (if m = 0 then .nan else .inf (a != b))
    else
      let r := ratio m n
      loose 0 x.bits32 y.bits32 (Fv.fin (a != b) r.1 (r.2 + e - f)).f32

/-- FP32 reciprocal square root (R194). -/
def Fv.rsqrt (x : Fv) : Fv :=
  match x with
  | .nan => .nan
  | .inf s => if s then .nan else .fin false 0 0
  | .fin s m e =>
    if m = 0 then .inf s else if s then .nan
    else
      let (m, e) := if e % 2 = 0 then (m, e) else (2 * m, e - 1)
      let w := Nat.sqrt (m * 2 ^ 64)
      let r := ratio 1 (2 * w + b2n (decide (w * w ≠ m * 2 ^ 64)))
      loose 1 x.bits32 0 (Fv.fin false r.1 (r.2 + 33 - e / 2)).f32

/-- An FP32 parameter read from a descriptor. -/
def fp32At (p : List Byte) (off : Nat) : Fv := decElem 0 (leAt p off 4)

end Sys2Proof.Machine
end

