-- ==== Sys2Proof/Machine/Operands.lean ====
section
/-! DEFINITION. The layouts that carry operands: the Sky header (R51). Cards, descriptors, jobs and frames stand with the
families that read them. -/

namespace Sys2Proof

open Machine

/-- Bits [239:0] of a header flit (R51). -/
def Pkt.low (p : Pkt) : Nat :=
  packBits [(0, 6, p.dest), (6, 6, p.src), (12, 2, p.cls), (14, 1, p.vc), (15, 2, p.defl), (17, 3, p.op), (20, 5, p.len),
    (25, 2, p.part), (27, 4, p.poison), (31, 1, p.rsv31), (32, 24, p.seq), (56, 8, p.gen), (64, 52, p.addr),
    (116, 12, p.rtag), (128, 52, p.aux), (180, 16, p.birth), (196, 32, p.pcrc), (228, 12, p.rsv228)]

/-- Header bytes 0 to 29 (R51, R54). -/
def Pkt.head30 (p : Pkt) : List Byte := natLe 30 p.low

/-- The HCRC the header's other bits call for (R54). -/
def Pkt.hcrcOf (p : Pkt) : Nat := crc16 p.head30

/-- The PCRC the payload calls for; 0 when LEN is 0 (R51, R54). A read request's LEN is the length to read and it carries no payload: 0. -/
def Pkt.pcrcOf (p : Pkt) : Nat := if p.len = 0 || p.op = 1 then 0 else crc32c (slice p.payload 0 (p.len * 16))

/-- The packet with both check words right. -/
def Pkt.seal (p : Pkt) : Pkt :=
  let q := { p with pcrc := p.pcrcOf }
  { q with hcrc := q.hcrcOf }

/-- The packet with its HCRC right for a changed header; the PCRC is left as it stands (R54: a relay). -/
def Pkt.rehead (p : Pkt) : Pkt := { p with hcrc := p.hcrcOf }

/-- The packet as a channel can carry it: every field cut to its place in the header, the payload to LEN × 16 bytes (R50, R51). -/
def Pkt.cut (p : Pkt) : Pkt :=
  { dest := p.dest % 64, src := p.src % 64, cls := p.cls % 4, vc := p.vc % 2, defl := p.defl % 4, op := p.op % 8
    len := p.len % 32, part := p.part % 4, poison := p.poison % 16, rsv31 := p.rsv31 % 2, seq := p.seq % 2 ^ 24
    gen := p.gen % 256, addr := p.addr % 2 ^ 52, rtag := p.rtag % 4096, aux := p.aux % 2 ^ 52, birth := p.birth % 65536
    pcrc := p.pcrc % 2 ^ 32, rsv228 := p.rsv228 % 4096, hcrc := p.hcrc % 65536
    payload := if p.op % 8 = 1 then [] else slice p.payload 0 (p.len % 32 * 16) }

/-- Data flits of a packet (R50). -/
def Pkt.flits (p : Pkt) : Nat := if p.op = 1 then 0 else ceilDiv p.len 4

/-- Wire bytes: the header flit and whole data flits (R76). -/
def Pkt.wire (p : Pkt) : Nat := 32 + 64 * p.flits

/-- The packet as it stands on a channel: the last data flit filled with zeros (R50). -/
def Pkt.whole (p : Pkt) : Pkt := { p with payload := slice p.payload 0 (64 * p.flits) }

/-- Whether the packet is sequenced: everything but an ack (R77). -/
def Pkt.sequenced (p : Pkt) : Bool := decide (p.op ≠ 4)

/-- R55 step 3: OP not reserved, LEN, DEFL and reserved bits in range, OP, CLASS and LEN in agreement, and every field that
R52 gives as 0 holding 0. A read request's LEN is the length to read; it carries no payload. -/
def Pkt.formatOk (p : Pkt) : Bool :=
  decide (p.op ≤ 4) && decide (p.len ≤ 16) && decide (p.defl ≤ 2) && p.rsv31 = 0 && p.rsv228 = 0 &&
  (match p.op with
   | 0 => (p.cls = 2 || p.cls = 3) && p.aux = 0 && p.rtag = 0
   | 1 => decide (p.cls = 2)
   | 2 => p.cls = 1 && p.aux = 0
   | 3 => (p.cls ≠ 0 || p.len = 0) && p.addr / 64 = 0 && p.aux = 0 && p.rtag = 0
   | _ => p.cls = 0 && p.len = 0 && p.addr = 0 && p.rtag = 0 && bitsOf p.aux 45 7 = 0)

/-- Whether the packet that a request asks for would pass R55 step 3. -/
def SendReq.formatOk (r : SendReq) : Bool :=
  Pkt.formatOk { dest := r.dest, src := 0, cls := r.cls, op := r.op, len := r.len, addr := r.addr, aux := r.aux, rtag := r.rtag, poison := r.poison }

end Sys2Proof
end

