-- ==== Sys2Proof/Machine/Cards.lean ====
section
/-! DEFINITION. Cards: their layout (R316 to R318), table descriptors (R237, R239), and the acceptance checks (R319 to R322,
R358 to R361). -/

namespace Sys2Proof.Machine

/-! ## Layout -/

/-- The fields of a card: byte offset, bytes, and how many low bits of them are the field's (R316, R318). -/
def cardBody (op : Nat) : List (Nat × Nat × Nat) :=
  match op with
  | 0x01 => [(16, 2, 16), (18, 2, 16), (20, 4, 32), (24, 8, 52), (32, 8, 52), (40, 8, 52)]
  | 0x02 => [(16, 2, 16), (20, 4, 32), (24, 8, 52), (32, 8, 52)]
  | 0x03 => [(16, 2, 16), (20, 4, 32), (24, 8, 52), (32, 8, 52), (40, 8, 52)]
  | 0x04 => [(16, 2, 16), (18, 2, 16), (20, 4, 32), (24, 8, 52), (32, 8, 52), (40, 8, 52), (48, 8, 52)]
  | 0x05 => [(16, 8, 52), (24, 8, 52), (32, 8, 64)]
  | 0x06 => [(16, 8, 52), (24, 8, 64), (32, 8, 64)]
  | 0x07 => [(16, 1, 7), (18, 2, 16), (24, 8, 52), (32, 8, 64), (40, 8, 52)]
  | 0x08 => [(16, 4, 32)]
  | 0x09 => [(16, 2, 16), (20, 4, 32), (24, 4, 32), (32, 8, 52), (40, 2, 16)]
  | 0x0C => [(16, 1, 1)]
  | 0x0D => [(16, 8, 52), (24, 8, 64)]
  | 0x0E => [(16, 1, 8), (17, 1, 8), (24, 8, 64)]
  | 0x0F => [(16, 8, 52), (24, 4, 32)]
  | 0x10 => [(16, 8, 52), (24, 4, 32), (28, 1, 8), (32, 8, 44), (40, 1, 6), (44, 4, 32), (48, 4, 32)]
  | 0x11 => [(16, 8, 52), (24, 8, 52), (32, 8, 64)]
  | _ => []

/-- All fields of a card; bytes 4 to 7 are one reserved field (R316). -/
def cardFields (op : Nat) : List (Nat × Nat × Nat) :=
  [(0, 1, 8), (1, 1, 2), (2, 2, 16), (4, 4, 0), (8, 8, 64)] ++ cardBody op

/-- The field a byte belongs to; an unlisted byte is a reserved field of its own. -/
def cardFieldAt (op i : Nat) : Nat × Nat × Nat :=
  ((cardFields op).find? fun f => decide (f.1 ≤ i) && decide (i < f.1 + f.2.1)).getD (i, 1, 0)

/-- The byte offset of the field that holds the first reserved bit set, if any (R319 step 2, R327). -/
def reservedFault (c : List Byte) : Option Nat :=
  let op := leAt c 0 1
  ((List.range 64).find? fun i =>
    let f := cardFieldAt op i
    decide (leAt c f.1 f.2.1 / 2 ^ f.2.2 ≠ 0)).map fun i => (cardFieldAt op i).1

/-- Common fields of a card (R316). -/
def cardOp (c : List Byte) : Nat := leAt c 0 1
def cardIrq (c : List Byte) : Bool := bit (leAt c 1 1) 0
def cardOrder (c : List Byte) : Bool := bit (leAt c 1 1) 1
def cardHand (c : List Byte) : Nat := leAt c 2 2
def cardTag (c : List Byte) : Nat := leAt c 8 8

/-- The fields a card's zero rule looks at (R318, R322): byte offset and bytes of its Z field. -/
def cardZ (op : Nat) : Option (Nat × Nat) :=
  match op with
  | 0x01 | 0x02 | 0x03 | 0x04 => some (20, 4)
  | 0x05 | 0x07 | 0x11 => some (32, 8)
  | 0x06 | 0x0D => some (24, 8)
  | 0x09 => some (24, 4)
  | 0x10 => some (28, 1)
  | _ => none

/-- The operator kind a slot card names (R319 step 2). -/
def slotKind (op : Nat) : Option Nat :=
  match op with
  | 0x02 => some 0x09 | 0x03 => some 0x0A | 0x04 => some 0x0B | _ => none

/-- The operators a card covers: ENTRY and EXIT of its pipeline (R323). -/
def pipeOf (c : List Byte) : Option (Nat × Nat) :=
  match cardOp c with
  | 0x01 => some (leAt c 16 2, leAt c 18 2)
  | 0x02 | 0x03 | 0x04 => some (leAt c 16 2, leAt c 16 2)
  | _ => none

/-! ## Table descriptors -/

/-- A shard record (R239). -/
def shardAt (b : List Byte) (off : Nat) : Shard :=
  { firstRow := leAt b off 4, nrows := leAt b (off + 4) 4, engine := leAt b (off + 8) 1 % 16, mirror := leAt b (off + 9) 1,
    state := leAt b (off + 10) 1 % 8, base := leAt b (off + 16) 8 % 2 ^ 52, mbase := leAt b (off + 24) 8 % 2 ^ 52 }

/-- NSHARD of a descriptor. -/
def descShards (b : List Byte) : Nat := leAt b 3 1 % 32

/-- A table descriptor with its shard records (R237); VERSION is the part's own. -/
def tableOf (b : List Byte) : Table :=
  { id := leAt b 0 2 % 4096, fmt := leAt b 2 1 % 64, part := leAt b 2 1 / 64, d := leAt b 4 2 % 8192, stride := leAt b 6 2,
    rows := leAt b 8 4, hotRows := leAt b 12 4, hotTiles := leAt b 16 3,
    shards := (List.range (descShards b)).map fun k => shardAt b (64 + 32 * k) }

/-- A descriptor's reserved fields are 0 and its codes and CRC are right (R237, R239). -/
def descFieldsOk (b : List Byte) : Bool :=
  let n := descShards b
  leAt b 0 2 / 4096 = 0 && leAt b 3 1 / 32 = 0 && leAt b 4 2 / 8192 = 0 && leAt b 19 1 = 0 && leAt b 24 36 = 0 &&
  decide (1 ≤ n) && decide (n ≤ 16) &&
  [0, 1, 2, 3, 14, 15].contains (leAt b 2 1 % 64) && decide (4 ≤ leAt b 4 2 % 8192) && decide (leAt b 4 2 % 8192 ≤ 4096) &&
  decide (1 ≤ leAt b 8 4) &&
  decide (rowBytes (leAt b 2 1 % 64) (leAt b 4 2 % 8192) ≤ leAt b 6 2 * 16) &&
  ((List.range n).all fun k =>
    let o := 64 + 32 * k
    decide (leAt b (o + 8) 1 < 12) && leAt b (o + 10) 1 / 8 = 0 && decide (leAt b (o + 10) 1 % 8 ≤ 4) && leAt b (o + 11) 5 = 0 &&
    leAt b (o + 16) 8 / 2 ^ 52 = 0 && leAt b (o + 24) 8 / 2 ^ 52 = 0 &&
    (decide (leAt b (o + 9) 1 < 12) || leAt b (o + 9) 1 = 0xFF)) &&
  leAt b 60 4 = crc32c (slice b 0 60 ++ slice b 64 (32 * n))

/-- The copies of a shard as (stack, first address); a spill shard has none in HBM. -/
def Shard.copies (sh : Shard) : List (Nat × Nat) :=
  if sh.state = 4 then [] else
    (sh.engine, sh.base) :: (if sh.mirror = 0xFF then [] else [(sh.mirror, sh.mbase)])

/-- Whether a copy lies within one stack's range outside its reserved areas (R239). -/
def copyOk (m a n : Nat) : Bool :=
  decide (m < 12) && decide (m * stackSize ≤ a) && decide (a + n ≤ (m + 1) * stackSize) && a % 16 = 0 &&
  !reservedOff m (a % stackSize) && !reservedOff m ((a + n - 1) % stackSize)

/-- The rules of R239 and R243 for one table, overlap with other tables aside. -/
def Table.shapeOk (t : Table) (present : Nat → Bool) (stackPart : Nat → Option Nat) : Bool :=
  ((List.range t.shards.length).all fun k => match t.shards[k]? with
    | none => false
    | some sh =>
      let next := match t.shards[k + 1]? with
        | some x => x.firstRow
        | none => t.rows
      decide (sh.firstRow + sh.nrows = next) && decide (1 ≤ sh.nrows) && (k ≠ 0 || sh.firstRow = 0) &&
      (if sh.state = 4 then
        decide (0x800000000000 ≤ sh.base) && decide (sh.base + t.size sh ≤ 0xC00000000000) && sh.mirror = 0xFF &&
        sh.mbase = 0 && present sh.engine && stackPart sh.engine = some t.part
       else
        copyOk sh.engine sh.base (t.size sh) && present sh.engine && stackPart sh.engine = some t.part &&
        (if sh.mirror = 0xFF then (sh.state = 0 || sh.state = 2) && sh.mbase = 0
         else decide (sh.mirror ≠ sh.engine) && copyOk sh.mirror sh.mbase (t.size sh) && stackPart sh.mirror = some t.part &&
           present sh.mirror && (sh.state = 1 || sh.state = 2 || sh.state = 3))))

/-- All copies of a table as (first address, bytes). -/
def Table.ranges (t : Table) : List (Nat × Nat) :=
  t.shards.flatMap fun sh => sh.copies.map fun c => (c.2, t.size sh)

/-- Whether two ranges share a byte. -/
def clash (a b : Nat × Nat) : Bool := decide (a.1 < b.1 + b.2) && decide (b.1 < a.1 + a.2)

/-- Whether two tables' copies overlap (R239). -/
def Table.clashes (t u : Table) : Bool := t.ranges.any fun a => u.ranges.any fun b => clash a b

/-- Whether a table's own copies keep clear of each other. -/
def Table.selfClear (t : Table) : Bool :=
  (List.range t.ranges.length).all fun i => (List.range i).all fun j => match t.ranges[i]?, t.ranges[j]? with
    | some a, some b => !clash a b
    | _, _ => true

/-- The atomic logs of a CONSTELLATION section as (first address, bytes): 16 KiB of headers and a ring for each source slot (R393). -/
def Constell.logRanges (c : Constell) : List (Nat × Nat) :=
  (c.logs.zipIdx.filter fun p => p.1 ≠ 0).map fun p => (p.2 * stackSize + p.1 * 65536, 16384 + c.sources * 65536)

/-- The atomic logs of the chart in force (R393). -/
def State.logAreas (s : State) : List (Nat × Nat) :=
  match s.cht.chart.constell with
  | some c => c.logRanges
  | none => []

/-- The rules of R239 for a new descriptor against the directory in force: the table it redefines does not count. A log counts as a table copy (R393). -/
def State.tableOk (s : State) (t : Table) : Bool :=
  t.shapeOk (fun m => s.present (24 + m) && !s.retired (24 + m)) (fun m => s.cht.chart.partOf (24 + m)) && t.selfClear &&
  (s.mems.tables.all fun u => u.id = t.id || !t.clashes u) && t.ranges.all fun r => !s.logAreas.any (clash r)

/-! ## Hands at acceptance -/

/-- A hand slot that holds a hand of this id in flight (R358). -/
def State.handOf (s : State) (id : Nat) : Option (Nat × Hand) :=
  s.hands.slots.find? fun p => decide (p.2.id = id) && decide (id ≠ 0) && (p.2.state = 1 || p.2.state = 2)

/-- Hands in flight (R358): those of the slots, and in its own transit each TABLE_DEFINE without a hand (R361). -/
def State.inFlight (s : State) : Nat :=
  (s.hands.slots.filter fun p => p.2.state = 1 || p.2.state = 2).length +
  (s.tally.entries.filter fun p => p.2.state = 2 && decide (p.2.opcode = 0x0F) && decide (p.2.hand = 0)).length

/-- The cards of an opcode that name a hand, accepted and not run yet. -/
def State.handCards (s : State) (id op : Nat) : List Entry :=
  (s.tally.entries.filter fun p => (p.2.state = 1 || p.2.state = 2) && !p.2.finished && decide (p.2.opcode = op) && decide (p.2.hand = id)).map fun p => p.2

/-- Free hand slots (R359). -/
def State.freeSlots (s : State) : List Nat := (List.range 32).filter fun h => !s.hands.slots.any fun p => decide (p.1 = h)

/-- Shadow in MiB that the hands in their slots reserve (R359). -/
def State.shadowTaken (s : State) : Nat := s.hands.slots.foldl (fun n p => n + p.2.reserved) 0

/-- Whether the installed pools hold what the hands reserve and `mib` more (R359); at deal the card's own hand is among them (R321). -/
def State.shadowFits (s : State) (mib : Nat) (atDeal : Bool) : Bool :=
  decide (s.shadowTaken + (if atDeal then 0 else mib) ≤ s.hands.pools.foldl (fun n p => n + p.2.2 * 1024) 0)

/-- Shadow bytes a hand's staged rows use on one stack. -/
def Hand.usedOn (h : Hand) (stride : Nat → Nat) (m : Nat) : Nat :=
  (h.rows.filter fun r => r.held.contains m).foldl (fun n r => n + stride r.table) 0

/-- Bytes a row of a table takes in shadow. -/
def Hand.stride (h : Hand) (id : Nat) : Nat :=
  match h.shapes.find? fun t => decide (t.id = id) with
  | some t => t.stride * 16
  | none => 0

/-- Shadow bytes a hand uses in all. -/
def Hand.used (h : Hand) : Nat := h.rows.foldl (fun n r => n + r.held.length * h.stride r.table) 0

/-- Rows that MBD `m` redirects now (R360, R372). -/
def State.redirected (s : State) (m : Nat) : Nat :=
  s.hands.slots.foldl (fun n p => n + (p.2.rows.filter fun r => r.held.contains m).length) 0

/-- Shadow bytes in use on stack `m`. -/
def State.shadowUsed (s : State) (m : Nat) : Nat :=
  s.hands.slots.foldl (fun n p => n + p.2.usedOn p.2.stride m) 0

/-- The stacks that hold the copies of a row. -/
def Table.stacksOf (t : Table) (row : Nat) : List Nat :=
  match t.shards.find? fun sh => decide (sh.firstRow ≤ row) && decide (row < sh.firstRow + sh.nrows) with
  | some sh => sh.copies.map fun c => c.1
  | none => []

/-- Rows of a run that fall on stack `m`. -/
def Table.rowsOn (t : Table) (first n m : Nat) : Nat :=
  t.shards.foldl (fun k sh =>
    if (sh.copies.any fun c => decide (c.1 = m)) then
      k + (min (first + n) (sh.firstRow + sh.nrows) - max first sh.firstRow)
    else k) 0

/-- A run of rows of a table: its id, the first row, the row after the last. -/
abbrev RowRun := Nat × Nat × Nat

/-- What of a run of rows another one leaves. -/
def RowRun.minus (a b : RowRun) : List RowRun :=
  if a.1 ≠ b.1 then [a]
  else [(a.1, a.2.1, min a.2.2 b.2.1), (a.1, max a.2.1 b.2.2, a.2.2)].filter fun r => decide (r.2.1 < r.2.2)

/-- What of a list of runs the runs of another leave, each row once. -/
def freshRows (had new : List RowRun) : List RowRun :=
  new.foldl (fun acc x => acc ++ (had ++ acc).foldl (fun l y => l.flatMap fun z => z.minus y) [x]) []

/-- The rows that HAND_WRITE cards of a hand will stage: accepted, not DONE, and not staged yet. -/
def State.owedRows (s : State) (hand : Nat) : List RowRun :=
  (s.tally.entries.filter fun p => (p.2.state = 1 || p.2.state = 2) && decide (p.2.opcode = 9) && !p.2.finished && decide (p.2.hand = hand)).map fun p =>
    let c := p.2.card
    (leAt c 16 2, leAt c 20 4, leAt c 20 4 + leAt c 24 4)

/-- The rows that a hand does not hold yet and will: those its cards owe, and a new card's. A row staged again replaces the first (R360), so it counts
once. -/
def State.rowsDue (s : State) (hd : Hand) (more : List RowRun) : List RowRun :=
  freshRows (hd.rows.map fun r => (r.table, r.row, r.row + 1)) (s.owedRows hd.id ++ more)

/-- The rows of runs, and the shadow bytes they take, on stack `m`. -/
def State.rowsTake (s : State) (rs : List RowRun) (m : Nat) : Nat × Nat :=
  rs.foldl (fun acc r => match s.table r.1 with
    | some t =>
      let k := t.rowsOn r.2.1 (r.2.2 - r.2.1) m
      (acc.1 + k, acc.2 + k * t.stride * 16)
    | none => acc) (0, 0)

/-- The limits of R360: the hand's reservation, the pool of each stack, and the redirect limit of each MBD. -/
def State.stageFits (s : State) (hd : Hand) (t : Table) (first n : Nat) : Bool :=
  let ms := List.range 12
  let mine := s.rowsDue hd [(t.id, first, first + n)]
  let others := (s.hands.slots.filter fun p => decide (p.2.id ≠ hd.id)).flatMap fun p => s.rowsDue p.2 []
  let total := ms.foldl (fun k m => k + (s.rowsTake mine m).2) hd.used
  decide (total ≤ hd.reserved * 2 ^ 20) && ms.all fun m =>
    let due := s.rowsTake (mine ++ others) m
    let pool := match s.hands.pools.find? fun p => decide (p.1 = m) with
      | some p => p.2.2 * 2 ^ 30
      | none => 0
    t.rowsOn first n m = 0 || (decide (s.shadowUsed m + due.2 ≤ pool) && decide (s.redirected m + due.1 ≤ 1048576))

/-! ## The checks -/

/-- Bytes a telemetry capture takes (R328): the windows of each site in SITES that has a block of BLOCKS. -/
def telWindow (b : Nat) : Nat :=
  match b with
  | 0 => 22528 | 1 => 1280 | 2 => 8192 | 3 => 768 | 4 => 64 | _ => 208

/-- Whether a site has a block (R328). -/
def telHas (site b : Nat) : Bool :=
  if b < 3 then true else if b < 5 then decide (site < 24) else decide (24 ≤ site) && decide (site < 36)

/-- The (site, block) pairs of a capture in order. -/
def telBlocks (sites blocks : Nat) : List (Nat × Nat) :=
  (bitList 44 sites).flatMap fun k => ((bitList 6 blocks).filter (telHas k)).map fun b => (k, b)

/-- The bytes of one capture record. -/
def telSize (sites blocks : Nat) : Nat := (telBlocks sites blocks).foldl (fun n p => n + 16 + telWindow p.2) 64

/-- A rejection or run status with its DETAIL. -/
def stat (status detail : Nat) : Option Result := some { status := status, detail := detail }

/-- Step 2 of R319 beyond reserved bits: enumerated fields and operator indices. -/
def State.formatFault (s : State) (c : List Byte) : Option Nat :=
  let n := s.ops.length
  match cardOp c with
  | 0x01 => if n ≤ leAt c 16 2 then some 16 else if n ≤ leAt c 18 2 || decide (leAt c 18 2 < leAt c 16 2) then some 18 else none
  | 0x02 | 0x03 | 0x04 =>
    match s.ops[leAt c 16 2]? with
    | some o => if some o.opcode = slotKind (cardOp c) then none else some 16
    | none => some 16
  | 0x07 => if leAt c 16 1 / 16 % 4 = 3 then some 16 else none
  | 0x0E => if 1 < leAt c 16 1 then some 16 else if 15 < leAt c 17 1 && leAt c 17 1 ≠ 0xFF then some 17 else none
  | _ => none

/-- The operators a card names. -/
def State.namedOps (s : State) (c : List Byte) : List OpDesc :=
  match pipeOf c with
  | some (a, b) => (s.ops.drop a).take (b + 1 - a)
  | none => []

/-- The tables a card names: through its GATHER operators, or as HAND_WRITE's. -/
def State.namedTables (s : State) (c : List Byte) : List Nat :=
  if cardOp c = 9 then [leAt c 16 2]
  else ((s.namedOps c).filter fun o => decide (o.opcode = 9)).map fun o => leAt o.param 0 2

/-- Step 5 of R319 (R358 to R361): DETAIL of a HAND_STATE rejection; what the hand's accepted cards will write or redefine counts with what it holds. At deal
(R321) the card's own hand is still in flight. -/
def State.handFault (s : State) (c : List Byte) (part : Nat) (t : Option Table) (atDeal : Bool) : Option Nat :=
  let id := cardHand c
  let op := cardOp c
  let live := match s.handOf id with
    | some h => decide (h.2.part = part) && (h.2.state = 1 || atDeal)
    | none => false
  if op = 8 then
    if atDeal then (if live then none else some 1)
    else if id = 0 || (s.handOf id).isSome then some 1
    else if 16 ≤ s.inFlight then some 2 else if s.freeSlots.isEmpty then some 3 else none
  else if op = 9 || op = 10 || op = 11 then
    if !live then some 1
    else if op = 9 && (match s.handOf id with
      | some h => (h.2.defs.any fun d => decide (d.id = leAt c 16 2)) ||
        (!atDeal && (s.handCards id 15).any fun e => decide ((tableOf e.desc).id = leAt c 16 2))
      | none => false) then some 1 else none
  else if op = 15 && id ≠ 0 then
    if !live then some 1
    else match s.handOf id, t with
      | some h, some t => if h.2.rows.any (fun r => decide (r.table = t.id)) || h.2.shapes.any (fun d => decide (d.id = t.id)) ||
          (!atDeal && (s.handCards id 9).any fun e => decide (leAt e.card 16 2 = t.id)) then some 1 else none
      | _, _ => none
  else none

/-- The start DPAs of a card (R319 step 7): byte offset, address, whether it is written, whether 0 keeps the chart's, its
alignment. -/
def cardStarts (c : List Byte) : List (Nat × Nat × Bool × Bool × Nat) :=
  let a (o : Nat) := leAt c o 8
  match cardOp c with
  | 0x01 => [(24, a 24, false, true, 16), (32, a 32, false, true, 16), (40, a 40, true, true, 16)]
  | 0x02 => [(24, a 24, false, true, 16), (32, a 32, true, true, 16)]
  | 0x03 => [(24, a 24, false, true, 16), (32, a 32, false, true, 16), (40, a 40, true, true, 16)]
  | 0x04 => [(24, a 24, false, true, 16), (32, a 32, false, true, 16), (40, a 40, true, true, 16), (48, a 48, true, true, 16)]
  | 0x05 | 0x11 => [(16, a 16, false, false, 1), (24, a 24, true, false, 1)]
  | 0x06 => [(16, a 16, true, false, 1)]
  | 0x07 => [(24, a 24, false, false, 1), (40, a 40, true, true, 32)]
  | 0x09 => [(32, a 32, false, false, 1)]
  | 0x0D | 0x0F => [(16, a 16, false, false, 1)]
  | 0x10 => [(16, a 16, true, false, 64)]
  | _ => []

/-- Step 7 of R319: the offset of the first start DPA at fault. -/
def State.addressFault (s : State) (c : List Byte) : Option Nat :=
  let op := cardOp c
  let bulk := op = 0x11
  let isComet (a : Nat) : Bool := decide (regionOf a = .comet)
  match (cardStarts c).find? fun x =>
    let (_, a, w, opt, al) := x
    !(opt && a = 0) &&
    !(s.startMapped a && a % al = 0 && !(w && noWrite a) &&
      (match regionOf a with
       | .comet => !(op = 5 || op = 6 || op = 7 || op = 0x0D)
       | .host => !(op = 7 && bit (leAt c 16 1) 0)
       | .hbm m => !(op = 0x0D && reservedOff m (a % stackSize))
       | _ => true)) with
  | some x => some x.1
  | none => if bulk && isComet (leAt c 16 8) = isComet (leAt c 24 8) then some 24 else none

/-- A check scan's region rule as a length check (R254): the end lies in the region that holds START, stacks and tiles crossed. -/
def State.scanFits (s : State) (a n : Nat) : Bool :=
  match regionOf a with
  | .hbm _ => decide (a + n ≤ 12 * stackSize)
  | .cache _ => decide (a + n ≤ 0x100000000000 + 24 * cacheSize)
  | .host => decide (a + n ≤ 0x800000000000 + s.host.gib * 2 ^ 30)
  | _ => false

/-- Step 8 of R319: scalar rules first in field order, then ranges. A chart's source in HBM keeps clear of the reserved areas (R291). -/
def State.lengthFault (s : State) (c : List Byte) (desc : List Byte) (atDeal : Bool) : Option Nat :=
  let u (o n : Nat) := leAt c o n
  let o := (s.ops[u 16 2]?).getD {}
  let x := (s.ops[u 18 2]?).getD {}
  let op := cardOp c
  let tab := s.table (u 16 2)
  let hand := s.handOf (cardHand c)
  let scalars : List (Nat × Bool) :=
    match op with
    | 0x01 => [(20, decide (u 20 4 ≤ o.in0.rows) && decide (u 20 4 ≤ x.out.rows))]
    | 0x02 => [(20, decide (u 20 4 ≤ o.in0.cols))]
    | 0x03 => [(20, decide (u 20 4 ≤ o.in0.rows))]
    | 0x04 => [(18, decide (u 18 2 ≤ leAt o.param 0 2)), (20, decide (u 20 4 ≤ o.in0.rows))]
    | 0x05 => [(32, decide (u 32 8 < 2 ^ 48))]
    | 0x06 => [(24, decide (u 24 8 < 2 ^ 48))]
    | 0x07 => [(32, decide (u 32 8 < 2 ^ 48) && s.scanFits (u 24 8) (u 32 8))]
    | 0x08 => [(16, decide (u 16 4 ≤ 4096) && s.shadowFits (u 16 4) atDeal)]
    | 0x09 => match tab, hand with
      | some t, some h => [(24, decide (u 20 4 + u 24 4 ≤ t.rows) && s.stageFits h.2 t (u 20 4) (u 24 4))]
      | _, _ => []
    | 0x0D => [(24, decide (64 ≤ u 24 8) && decide (u 24 8 ≤ 0x100000000))]
    | 0x0F => [(24, u 24 4 = 64 + 32 * descShards desc)]
    | 0x10 => [(24, decide (u 28 1 * telSize (u 32 8) (u 40 1) ≤ u 24 4)), (28, decide (u 28 1 ≤ 16)),
        (44, decide (u 44 4 + (u 28 1 - 1) * u 48 4 ≤ s.budgetNs)), (48, decide (u 28 1 ≤ 1) || decide (1000 ≤ u 48 4))]
    | 0x11 => [(32, decide (u 32 8 < 2 ^ 40))]
    | _ => []
  let ranges : List (Nat × Nat × Nat × Bool × Bool) :=
    match op with
    | 0x01 => [(24, u 24 8, o.in0.extent (u 20 4), false, true), (32, u 32 8, o.in1.extent (min (u 20 4) o.in1.rows), false, true),
        (40, u 40 8, x.out.extent (u 20 4), true, true)]
    | 0x02 => [(24, u 24 8, 4 * u 20 4, false, true), (32, u 32 8, o.out.extent o.out.rows, true, true)]
    | 0x03 => [(24, u 24 8, o.in0.extent (u 20 4), false, true), (32, u 32 8, o.in1.extent (leAt o.param 0 4 * u 20 4), false, true),
        (40, u 40 8, rowBytes o.out.fmt (leAt o.param 0 4 * u 20 4), true, true)]
    | 0x04 =>
      let k := if u 18 2 = 0 then leAt o.param 0 2 else u 18 2
      [(24, u 24 8, o.in0.extent (u 20 4), false, true), (32, u 32 8, o.in1.extent (u 20 4), false, true),
        (40, u 40 8, (u 20 4 - 1) * o.out.stride * 16 + rowBytes o.in0.fmt k, true, true), (48, u 48 8, 4 * u 20 4 * k, true, true)]
    | 0x05 => [(16, u 16 8, u 32 8, false, false), (24, u 24 8, u 32 8, true, false)]
    | 0x06 => [(16, u 16 8, u 24 8, true, false)]
    | 0x07 => [(40, u 40 8, 32, true, true)]
    | 0x09 =>
      let st := if u 40 2 = 0 then ((tab.map fun t => t.stride).getD 0) else u 40 2
      let len := (tab.map fun t => rowBytes t.fmt t.d).getD 0
      [(32, u 32 8, (u 24 4 - 1) * st * 16 + len, false, false)]
    | 0x0D => [(16, u 16 8, u 24 8, decide (u 16 8 < 0x100000000000), false)]
    | 0x0F => [(16, u 16 8, u 24 4, false, false)]
    | 0x10 => [(16, u 16 8, u 24 4, true, false)]
    | 0x11 => [(16, u 16 8, u 32 8, false, false), (24, u 24 8, u 32 8, true, false)]
    | _ => []
  match scalars.find? fun p => !p.2 with
  | some p => some p.1
  | none => (ranges.find? fun r => !(r.2.2.2.2 && r.2.1 = 0) && !s.rangeOk r.2.1 r.2.2.1 r.2.2.2.1).map fun r => r.1

/-- Whether a HAND_WRITE names a row of a spill shard (R243). -/
def Table.spills (t : Table) (first n : Nat) : Bool :=
  t.shards.any fun sh => sh.state = 4 && decide (sh.firstRow < first + n) && decide (first < sh.firstRow + sh.nrows)

/-- RESULT of a card under the zero rule (R322): a CHECK card's is the value of the empty message. -/
def zeroResult (c : List Byte) : Nat :=
  if cardOp c = 7 then leAt (checkValue (leAt c 16 1 / 16 % 4) []) 0 8 else 0

/-- The checks of R319 in order for a card of deck `d`: none where it is accepted, else the completion's status and its
fields. `desc` is the descriptor TABLE_DEFINE names. At deal (R321) steps 2 to 5 and 7 to 9 are made again. -/
def State.checkCard (s : State) (d : Nat) (c desc : List Byte) (atDeal : Bool) : Option Result :=
  let op := cardOp c
  let t := if op = 0x0F then some (tableOf desc) else none
  if !atDeal && decide (0x11 < op) then stat 0x41 0
  else match reservedFault c, s.formatFault c with
    | some o, _ => stat 0x42 o
    | none, some o => stat 0x42 o
    | none, none =>
      match s.deckPart d with
      | none => stat 0x45 0
      | some part =>
        if (s.namedOps c).any (fun o => decide (s.tilesPart o.tiles ≠ some part)) ||
            (s.namedTables c).any (fun i => (s.table i).any fun t => decide (t.part ≠ part)) ||
            t.any (fun t => decide (t.part ≠ part)) then stat 0x45 0
        else match (s.namedTables c).find? fun i => (s.table i).isNone with
        | some i => some { status := 0x46, count := i }
        | none =>
          if op = 9 && (s.table (leAt c 16 2)).any (fun t => t.spills (leAt c 20 4) (leAt c 24 4)) then
            some { status := 0x46, count := leAt c 16 2 }
          else if t.any (fun t => !(descFieldsOk desc && s.tableOk t)) then some { status := 0x46, count := leAt desc 0 2 % 4096 }
          else match s.handFault c part t atDeal with
          | some x => stat 0x47 x
          | none =>
            if !atDeal && (cardZ op).any (fun z => leAt c z.1 z.2 = 0) then some { status := 0, result := zeroResult c }
            else match s.addressFault c with
            | some o => stat 0x43 o
            | none => match s.lengthFault c desc atDeal with
              | some o => stat 0x40 o
              | none =>
                if op = 5 && clash (leAt c 16 8, leAt c 32 8) (leAt c 24 8, leAt c 32 8) then stat 0x44 0 else none

/-- Whether a verdict is a rejection and not the zero rule. -/
def Result.rejects (r : Result) : Bool := decide (0x40 ≤ r.status)

/-! ## Completions, entries, mirror records -/

/-- The 32 bytes of a completion (R326). -/
def completionBytes (seq slot deck replays tag : Nat) (journalled phase : Bool) (r : Result) : List Byte :=
  natLe 6 seq ++ natLe 2 slot ++ natLe 1 r.status ++ natLe 1 (deck % 64 + 64 * b2n journalled + 128 * b2n phase) ++
  natLe 1 (replays % 16) ++ natLe 1 r.detail ++ natLe 4 r.count ++ natLe 8 tag ++ natLe 8 r.result

/-- Bytes 0 to 27 of a Tally entry (R345). -/
def Entry.head28 (e : Entry) (seq : Nat) (st : Nat) : List Byte :=
  natLe 6 seq ++ natLe 1 (e.deck % 64 + 64 * (e.part % 4)) ++ natLe 1 (st % 4 + 4 * b2n e.commit + 16 * (e.replays % 16)) ++
  natLe 2 e.slot ++ natLe 2 e.hand ++ natLe 1 e.opcode ++ natLe 3 0 ++ natLe 8 e.transit ++ natLe 4 0

/-- The completion image of an entry (R348): zero until DONE. -/
def Entry.image (e : Entry) (seq : Nat) : List Byte :=
  if e.state = 3 then completionBytes seq e.slot e.deck e.replays (cardTag e.card) true false e.fin else List.replicate 32 0

/-- The 32 bytes of a Tally entry in a state (R345): its CRC covers the entry and the rest of the mirror record. -/
def Entry.bytes (e : Entry) (seq : Nat) (st : Nat) : List Byte :=
  let h := e.head28 seq st
  h ++ natLe 4 (crc32c (h ++ e.image seq ++ slice e.card 0 64))

/-- Line 0 of a mirror record (R345, R348); a dealt card shows ACCEPTED, with the transit of its acceptance. -/
def Entry.line0 (e : Entry) (seq : Nat) : List Byte :=
  (if e.state = 2 then { e with transit := e.accT } else e).bytes seq (if e.state = 2 then 1 else e.state) ++ e.image seq

/-- Line 1 of a mirror record. -/
def Entry.line1 (e : Entry) : List Byte := slice e.card 0 64

end Sys2Proof.Machine
end

