-- ==== Sys2Proof/Machine/SkyOps.lean ====
section
/-! DEFINITION. The stations' shared operations: numbering and queueing (R77, R78), arbitration and relays (R57 to R66), acks
(R53, R83, R85), fences (R94 to R96), barriers (R70, R71), restarts (R89). -/

namespace Sys2Proof.Machine

/-! ## Queues -/

/-- The six queues of a station as SKY_QDEPTH numbers them: injection queues 0 to 3, relay buffers 4 and 5. -/
def Station.queue (x : Station) : Nat → List Queued
  | 0 => x.q0 | 1 => x.q1 | 2 => x.q2 | 3 => x.q3 | 4 => x.r0 | _ => x.r1

/-- One queue replaced. -/
def Station.setQueue (x : Station) (k : Nat) (l : List Queued) : Station :=
  match k with
  | 0 => { x with q0 := l } | 1 => { x with q1 := l } | 2 => { x with q2 := l } | 3 => { x with q3 := l }
  | 4 => { x with r0 := l } | _ => { x with r1 := l }

/-- Whether every queue and relay buffer of the station is empty (R72). -/
def Station.empty (x : Station) : Bool := (List.range 6).all fun k => (x.queue k).isEmpty

/-- The queue a (queue, class) pair of a head names: 0 is the class's injection queue, 1 and 2 the relay buffers of VC0, VC1. -/
def queueNo (q cls : Nat) : Nat := if q = 0 then cls else if q = 1 then 4 else 5

/-- `a` ranks ahead of `b` within a class: the older BIRTH, equal ones by the lower SRC (R66). -/
def older (a b : Pkt) : Bool :=
  let d := subMod 16 b.birth a.birth
  if d = 0 then decide (a.src ≤ b.src) else decide (1 ≤ d) && decide (d ≤ 32767)

/-- The place in a queue of the head of a class: of the packets of the class that no full store holds back, the one that ranks ahead of
the others (R57, R59, R64, R66, R78). Of two whose BIRTH values lie exactly 32,768 apart neither is the older by R66: the one that came first stays
the head (DESIGN CHOICE, log entry 171). -/
def headAt (cls : Nat) (l : List Queued) : Option Nat :=
  (l.zipIdx.foldl (fun best (x : Queued × Nat) =>
    if x.1.pkt.cls ≠ cls || x.1.hold then best
    else match best with
      | none => some x
      | some b => if older b.1.pkt x.1.pkt then best else some x) none).map fun x => x.2

/-- The head packet of a class in a queue (R59, R64, R66). -/
def Station.headOf (x : Station) (q cls : Nat) : Option Queued :=
  let l := x.queue (queueNo q cls)
  (headAt cls l).bind fun i => l[i]?

/-- The head of a class in a list changed by `f`. -/
def mapHead (cls : Nat) (f : Queued → Queued) (l : List Queued) : List Queued :=
  match headAt cls l with
  | some i => modAt l i f
  | none => l

/-- The head of a class taken out of a list. -/
def dropHead (cls : Nat) (l : List Queued) : List Queued :=
  match headAt cls l with
  | some i => l.eraseIdx i
  | none => l

/-- The head of (queue, class) changed. -/
def State.mapHead (s : State) (site q cls : Nat) (f : Queued → Queued) : State :=
  let x := s.stn site
  s.setStn site (x.setQueue (queueNo q cls) (Machine.mapHead cls f (x.queue (queueNo q cls))))

/-- A queue's depth entered in its watermark (R76). -/
def State.markDepth (s : State) (site k : Nat) : State := s.mark F.SKY_QDEPTH_MAX ((s.stn site).queue k).length site (min k 5)

/-- The head of (queue, class) taken out; the depth it leaves may be the highest since a clear (R76). -/
def State.dropHead (s : State) (site q cls : Nat) : State :=
  let x := s.stn site
  (s.markDepth site (queueNo q cls)).setStn site (x.setQueue (queueNo q cls) (Machine.dropHead cls (x.queue (queueNo q cls))))

/-- The cycles, 1 ns each, for which a class of a station has had a waiting head that SKY_STALL does not count yet (R76). -/
def State.stallDue (s : State) (site cls : Nat) : Nat :=
  match tabGet 0 (s.stn site).stall cls with
  | 0 => 0
  | t + 1 => s.now - t

/-- SKY_STALL brought up to the present (R76): a cycle counts once for a class, however many heads of it wait. -/
def State.stallCount (s : State) (site : Nat) : State :=
  [0, 1, 2, 3].foldl (fun t c =>
    if t.stallDue site c = 0 then t
    else
      let x := t.stn site
      (t.add F.SKY_STALL_CYCLES (t.stallDue site c) site c).setStn site { x with stall := tabPut 0 x.stall c (t.now + 1) }) s

/-- SKY_STALL brought up to the present, and from now on counting for the classes that have a head. -/
def State.stallMark (s : State) (site : Nat) : State :=
  let s1 := s.stallCount site
  let x := s1.stn site
  let waits (c : Nat) : Bool := [0, 1, 2].any fun q => (x.headOf q c).isSome
  s1.setStn site { x with stall := [0, 1, 2, 3].foldl (fun l c => tabPut 0 l c (if waits c then s1.now + 1 else 0)) x.stall }

/-- Every head marked with the time it became one (R59, R61), and its class as waiting (R76). -/
def State.markHeads (s : State) (site : Nat) : State :=
  let f (t : State) (qc : Nat × Nat) : State :=
    match (t.stn site).headOf qc.1 qc.2 with
    | some e => if e.head = none then t.mapHead site qc.1 qc.2 (fun e => { e with head := some t.now }) else t
    | none => t
  (([0, 1, 2].flatMap fun q => [0, 1, 2, 3].map fun c => (q, c)).foldl f s).stallMark site

/-- A packet put at the end of a queue, its depth's watermark moved (R76); `hold`: its station's full store holds it back (R78). -/
def State.enqueue (s : State) (site k : Nat) (p : Pkt) (hold : Bool := false) : State :=
  let x := s.stn site
  (s.setStn site (x.setQueue k (x.queue k ++ [{ pkt := p, since := s.now, hold := hold }]))).markDepth site k

/-! ## Channels, arbitration, relays -/

/-- Channels of the map with their numbers. -/
def State.chanList (s : State) : List (Nat × Chan) := s.sky.chans.zipIdx.map fun p => (p.2, p.1)

/-- The writer channels of a site, in map order: entry `i` is SKY_TXMAP[i] (R76). -/
def State.txChans (s : State) (site : Nat) : List (Nat × Chan) :=
  s.chanList.filter fun p => decide (p.2.writer = site)

/-- The reader channels of a site, in map order: entry `i` is SKY_RXMAP[i]. -/
def State.rxChans (s : State) (site : Nat) : List (Nat × Chan) :=
  s.chanList.filter fun p => decide (p.2.reader = site)

/-- One channel of the map changed. -/
def State.mapChan (s : State) (n : Nat) (f : Chan → Chan) : State :=
  { s with sky := { s.sky with chans := modAt s.sky.chans n f } }

/-- Whether the pair has an active direct channel (R63, R126). -/
def State.hasDirect (s : State) (a b : Nat) : Bool :=
  s.sky.chans.any fun c => decide (c.writer = a) && decide (c.reader = b) && decide (c.state = 1) && !s.light.stopped.contains c.orbit

/-- Whether an orbit's channels carry packets: it is not paused for a swap (R131, R133). -/
def State.orbitOn (s : State) (o : Nat) : Bool := !s.light.stopped.contains o

/-- The free active channels from `a` to `b` by their place in SKY_TXMAP. -/
def State.freeTo (s : State) (a b : Nat) : List (Nat × Nat) :=
  ((s.txChans a).zipIdx.filter fun p =>
    decide (p.1.2.reader = b) && decide (p.1.2.state = 1) && !p.1.2.busy && s.orbitOn p.1.2.orbit).map
    fun p => (p.2, p.1.1)

/-- The channel a station uses to a site: the first free one in round-robin order (R49), as its TXMAP place and its number. -/
def State.pickTo (s : State) (a b : Nat) : Option (Nat × Nat) :=
  let last := tabGet 0 (s.stn a).robin b
  let fr := s.freeTo a b
  match fr.find? fun p => decide (last ≤ p.1) with
  | some p => some p
  | none => fr.head?

/-- The direct channel that a packet moved within one command takes: the one a station would use now, else one that is busy until the packet's turn. -/
def State.rideOn (s : State) (a b : Nat) : Option (Nat × Nat) :=
  (s.pickTo a b).or (((s.txChans a).zipIdx.find? fun p => decide (p.1.2.reader = b) && decide (p.1.2.state = 1) && s.orbitOn p.1.2.orbit).map fun p =>
    (p.2, p.1.1))

/-- A packet of up to 256 bytes that an engine moves from `a` to `b` within one command (R56, R76): the counters of both stations and of the channel between
them count it; one refused on arrival counts as that, and at its source (R87). Its numbering and its ack are not shown (log entry 95). -/
def State.rides (s : State) (a b op n : Nat) (why : Option Fld := none) : State :=
  if a = b || decide (44 ≤ a) || decide (44 ≤ b) then s
  else
    let w := ({ op := op, len := ceilDiv n 16 } : Pkt).wire
    let s1 := (s.bump F.SKY_INJ_PKT a).bump F.SKY_INJ_BYTE a 0 w
    let s2 := match s1.rideOn a b with
      | some ch =>
        let t := if ch.1 < 384 then (s1.bump F.SKY_TXCNT_PKT a ch.1).bump F.SKY_TXCNT_BYTE a ch.1 w else s1
        let r := (t.rxChans b).findIdx fun (c : Nat × Chan) => decide (c.1 = ch.2)
        if r < 384 then (t.bump F.SKY_RXCNT_PKT b r).bump F.SKY_RXCNT_BYTE b r w else t
      | none => s1
    match why with
    | none => (s2.bump F.SKY_EJ_PKT b).bump F.SKY_EJ_BYTE b 0 w
    | some f => (s2.bump f b).bump F.SKY_REFUSED a

/-- A packet starts on a channel (R49, R57): VC set when the path crosses the Meridian (R65), HCRC made right, the channel
busy, counters moved; SKY_TXCNT has 384 entries (R76). It goes out in whole flits (R50). -/
def State.transmit (s : State) (site : Nat) (ch : Nat × Nat) (relayed : Bool) (p : Pkt) : State :=
  match s.sky.chans[ch.2]? with
  | none => s
  | some c =>
    let p1 := (if crossesMeridian site c.reader then { p with vc := 1 } else p).rehead
    let s1 := s.mapChan ch.2 fun c => { c with busy := true }
    let x := s1.stn site
    let s2 := s1.setStn site { x with robin := tabPut 0 x.robin c.reader (ch.1 + 1) }
    let s3 := if ch.1 < 384 then (s2.bump F.SKY_TXCNT_PKT site ch.1).bump F.SKY_TXCNT_BYTE site ch.1 p1.wire else s2
    let s4 := if relayed then (s3.bump F.SKY_ROUT_PKT site).bump F.SKY_ROUT_BYTE site 0 p1.wire else s3
    let s5 := if p1.src = site && p1.sequenced then
        let sp := s4.space site p1.dest
        s4.setSpace site p1.dest { sp with store := sp.store.map fun e =>
          if e.pkt.seq = p1.seq then { e with sends := e.sends + 1, sentAt := s4.now } else e }
      else s4
    s5.emit (.sent site ch.1 p1.whole)

/-- The oldest of the heads of a class that a free active direct channel can take, with the channel. -/
def State.bestHead (s : State) (site cls : Nat) : Option (Nat × Queued × Nat × Nat) :=
  [0, 1, 2].foldl (fun best q =>
    match (s.stn site).headOf q cls with
    | none => best
    | some e => match s.pickTo site e.pkt.dest with
      | none => best
      | some ch => match best with
        | none => some (q, e, ch)
        | some b => if older b.2.1.pkt e.pkt then best else some (q, e, ch)) none

/-- Whether a station serialises packets: it is in service, draining or locking (R99, R525). -/
def State.sends (s : State) (site : Nat) : Bool :=
  let st := s.get F.SKY_STN_STATUS_STATE site
  st = 1 || st = 2 || st = 3

/-- The accepting flag published for a VC (R64). -/
def Station.pub (x : Station) (vc : Nat) : Bool := if vc = 0 then x.pub0 else x.pub1

/-- Slots free in the relay buffer of a VC (R64: 32 packets each). -/
def Station.relayFree (x : Station) (vc : Nat) : Nat := 32 - (x.queue (4 + vc)).length

/-- The accepting flags as the buffers' fill makes them: cleared at 8 or fewer free, set at 12 or more (R64). -/
def State.flags (s : State) (site : Nat) : State :=
  let x := s.stn site
  let f (vc : Nat) (cur : Bool) : Bool :=
    if x.relayFree vc ≤ 8 then false else if 12 ≤ x.relayFree vc then true else cur
  s.setStn site { x with acc0 := f 0 x.acc0, acc1 := f 1 x.acc1 }

/-- One packet started, classes in strict priority (R57); none when nothing can start. -/
def State.pump1 (s : State) (site : Nat) : Option State :=
  if !s.sends site then none
  else
    ([0, 1, 2, 3].findSome? fun c => (s.bestHead site c).map fun b => (c, b)).map fun cb =>
      let (c, q, e, ch) := cb
      ((((s.stallCount site).dropHead site q c).transmit site ch (decide (q ≠ 0)) e.pkt).flags site).markHeads site

/-- Packets started while any can start, at most `fuel` of them. -/
def State.pumpN (s : State) (site : Nat) : Nat → State
  | 0 => s
  | n + 1 => match s.pump1 site with
    | some t => t.pumpN site n
    | none => s

/-- Every packet that can start now started (R49, R57). -/
def State.pump (s : State) (site : Nat) : State :=
  (s.markHeads site).pumpN site ((List.range 6).foldl (fun n k => n + ((s.stn site).queue k).length) 1)

/-- The relay a packet is deflected to (R62): a tile or memory site strictly between here and DEST, reached by a free active
channel, accepting on the outgoing VC; the one nearest to DEST. -/
def State.relayFor (s : State) (site : Nat) (p : Pkt) : Option (Nat × Nat × Nat) :=
  let ok := (List.range 36).filterMap fun r =>
    let vc := if crossesMeridian site r then 1 else p.vc
    if decide (0 < downstream site r) && decide (downstream site r < downstream site p.dest) && (s.stn r).pub vc then
      (s.pickTo site r).map fun ch => (r, ch)
    else none
  ok.foldl (fun best c => match best with
    | none => some c
    | some b => if downstream c.1 p.dest < downstream b.1 p.dest then some c else best) none

/-- The head of (queue, class) deflected where a relay qualifies, else searching (R61 to R63, R126): DEFL rises below 2, and a
packet at 2 moves only where its pair has no active direct channel. -/
def State.deflect (s : State) (site q cls : Nat) : State :=
  match (s.stn site).headOf q cls with
  | none => s
  | some e =>
    let direct := s.hasDirect site e.pkt.dest
    if e.pkt.defl = 2 && direct then s
    else match s.relayFor site e.pkt with
      | none => s.mapHead site q cls fun e => { e with search := true }
      | some (_, ch) =>
        let s1 := if e.pkt.defl = 0 then s.bump F.SKY_DEFL1 site else if e.pkt.defl = 1 then s.bump F.SKY_DEFL2 site else s
        let p := if e.pkt.defl < 2 then { e.pkt with defl := e.pkt.defl + 1 } else e.pkt
        (((((s1.stallCount site).dropHead site q cls).transmit site ch (decide (q ≠ 0)) p).flags site).markHeads site).pump site

/-! ## Sending -/

/-- BIRTH: time base bits [17:2] (R51). -/
def State.birth (s : State) : Nat := s.now / 4 % 65536

/-- The partition of a site in the chart in force, 0 for none (R51). -/
def State.part (s : State) (site : Nat) : Nat := s.get F.SKY_STN_STATUS_PART site

/-- The PART a packet carries (R51, R524): the source's; of a hub's packets a response has its request's, one for a card that of the card's deck at
acceptance, any other its destination's. -/
def State.partFor (s : State) (site : Nat) (r : SendReq) : Nat :=
  if site < 42 then s.part site else match r.part, r.work with
    | some p, _ => p
    | none, some q => (tabGet ({} : Entry) s.tally.entries q).part
    | none, none => s.part r.dest

/-- Whether `n` bytes from an address are aligned and lie within one 4 KiB page (R55 step 8). -/
def pageOk (a n : Nat) : Bool := decide (a % 16 = 0) && decide (a / 4096 = (a + (n - 1)) / 4096)

/-- Whether a DPA is one the site decodes for writes and read requests (R52). -/
def State.decodes (s : State) (site a n : Nat) : Bool :=
  pageOk a n &&
  (match s.region a with
   | .hbm m => decide (site = 24 + m)
   | .cache t => decide (site = t)
   | .host => site = 42 && decide (a + n ≤ 0x800000000000 + s.host.gib * 2 ^ 30)
   | .comet => (s.winFor a).any fun w => decide (s.serving w.2.peer = some site)
   | .unmapped => false)

/-- The refusal a station gives a request before sending it (R52, R55: no station emits a packet that would fail steps 2, 3, 7 or 8 or crosses a
4 KiB boundary). A request of no format of R52 gets reason 1, and so does a read whose response could not be sent to its return DPA
(DESIGN CHOICE, log entry 138). -/
def State.sendCheck (s : State) (site : Nat) (r : SendReq) : Option Nat :=
  let n := r.len * 16
  let asks := r.op = 0 || r.op = 1
  if 44 ≤ r.dest || r.dest = site || !r.formatOk then some 1
  else if r.dest < 42 && site < 42 && s.part site ≠ s.part r.dest then some 2
  else if asks && siteKind r.dest ≠ .guest && !s.decodes r.dest r.addr n then some 1
  else if r.op ≤ 2 && !pageOk r.addr n || r.op = 1 && !pageOk r.aux n then some 1
  else if asks && s.region r.addr = .comet && !(s.winFor r.addr).any (fun w => if r.op = 0 then w.2.write else w.2.read) then some 1
  else none

/-- How many packets a site holds unreleased, over all its spaces (R78). -/
def State.storeTotal (s : State) (site : Nat) : Nat :=
  (s.sky.spaces.filter fun p => decide (p.1 / 64 = site)).foldl (fun n p => n + p.2.store.length) 0

/-- Whether a station takes packets from its die (R99, R525). -/
def State.takes (s : State) (site : Nat) : Bool :=
  let st := s.get F.SKY_STN_STATUS_STATE site
  st = 1 || st = 2

/-- Whether a pending fence keeps its agent from issuing to `dest` (R94). -/
def Fence.blocks (f : Fence) (a : Agent) (dest : Nat) : Bool :=
  decide (f.agent = a) && !f.implicit && (match f.scope with
    | .all => true
    | .one d => decide (d = dest))

/-- Whether the next packet of a request can be numbered now (R89, R94, R99). -/
def State.canNumber (s : State) (site : Nat) (r : SendReq) : Bool :=
  let x := s.stn site
  s.takes site && !(s.space site r.dest).txClosed && !(x.fences ++ x.fwait).any (fun f => f.blocks r.agent r.dest)

/-- Whether a site's retransmission store takes one more packet of the space to `dest` (R78). -/
def State.hasRoom (s : State) (site dest : Nat) : Bool :=
  decide ((s.space site dest).store.length < storeLimit site) && decide (s.storeTotal site < storeLimit site)

/-- The reset domain of the agent that issues a request (R467, R468), by its FLT_DOM index: the Croupier's, the die's, the hub's front
end; a guest's own logic has none of the part's (the device stands for it). -/
def agentDom (site : Nat) (a : Agent) : Nat :=
  if a = .croupier then 130 else match dieDom site with
    | some d => d
    | none => if 42 ≤ site then 86 + site else 131

/-- The packets that a site has numbered to another and that their reader has not committed, in order (R77, R82); those of a space given up are gone. -/
def State.uncommitted (s : State) (site dest : Nat) : List TxEnt :=
  let sp := s.space site dest
  (sp.store ++ sp.waits).filter fun e => !e.gaveUp && aheadMod 24 e.pkt.seq sp.rxCum

/-- A request numbered and queued, and stored where the store has room for it (R77, R78). A read request whose RTAG is still outstanding takes that
RTAG's place (DESIGN CHOICE, log entry 139). -/
def State.number (s : State) (site : Nat) (r : SendReq) : State :=
  let sp := s.space site r.dest
  let p : Pkt := Pkt.seal
    { dest := r.dest, src := site, cls := r.cls, op := r.op, len := r.len, part := s.partFor site r, poison := r.poison,
      seq := sp.txNext, gen := s.get F.SKY_STN_STATUS_GEN site, addr := r.addr, rtag := r.rtag, aux := r.aux,
      birth := s.birth, payload := if r.op = 1 then [] else slice r.payload 0 (r.len * 16) }
  let e : TxEnt := { pkt := p, req := r, win := if r.op ≤ 1 && s.region r.addr = .comet then s.winFor r.addr else none }
  let full := !s.hasRoom site r.dest || !sp.waits.isEmpty
  let sp1 := if full then { sp with waits := sp.waits ++ [e] } else { sp with store := sp.store ++ [e] }
  let s1 := s.setSpace site r.dest { sp1 with txNext := (sp.txNext + 1) % 2 ^ 24 }
  let x := s1.stn site
  let dom := agentDom site r.agent
  let s2 := if r.op = 1 then s1.setStn site { x with
      rtags := (x.rtags.filter fun t => decide (t.rtag ≠ r.rtag)) ++
        [{ rtag := r.rtag, dest := r.dest, ret := r.aux, len := r.len, dom := dom, dieGen := s.get F.FLT_DOM0_GEN dom, work := r.work }] }
    else s1
  let s3 := (s2.bump F.SKY_INJ_PKT site).bump F.SKY_INJ_BYTE site 0 p.wire
  s3.enqueue site r.cls p full

/-- A request admitted: numbered, or held by its die in order behind those of its agent that its station cannot number yet (R77, R94, R99). -/
def State.takeIn (s : State) (site : Nat) (r : SendReq) : State :=
  let x := s.stn site
  if s.canNumber site r && !x.backlog.any (fun b => decide (b.dest = r.dest) && decide (b.agent = r.agent)) then s.number site r
  else s.setStn site { x with backlog := x.backlog ++ [r] }

/-- The first packet that a full store held back and that the store now has room for, with its queue (R78). -/
def State.nextHeld (s : State) (site : Nat) : Option (Nat × Pkt) :=
  [0, 1, 2, 3].findSome? fun k => (((s.stn site).queue k).find? fun e =>
    e.hold && ((s.space site e.pkt.dest).waits.head?.any fun w => decide (w.pkt.seq = e.pkt.seq)) && s.hasRoom site e.pkt.dest).map fun e => (k, e.pkt)

/-- Packets held back put into the store while it has room, at most `fuel` of them (R78). -/
def State.unhold (s : State) (site : Nat) : Nat → State
  | 0 => s
  | fuel + 1 => match s.nextHeld site with
    | none => s
    | some (k, p) =>
      let sp := s.space site p.dest
      let s1 := s.setSpace site p.dest { sp with store := sp.store ++ sp.waits.take 1, waits := sp.waits.drop 1 }
      let x := s1.stn site
      let free (e : Queued) : Queued := if e.hold && decide (e.pkt.dest = p.dest) && decide (e.pkt.seq = p.seq) then { e with hold := false } else e
      (s1.setStn site (x.setQueue k ((x.queue k).map free))).unhold site fuel

/-- What the station holds back for want of room offered again (R78). -/
def State.letIn (s : State) (site : Nat) : State :=
  s.unhold site ([0, 1, 2, 3].foldl (fun n k => n + (((s.stn site).queue k).filter fun e => e.hold).length) 0)

/-- What the station and its die hold back offered again, in order (R78, R99). -/
def State.readmit (s : State) (site : Nat) : State :=
  let s1 := s.letIn site
  let l := (s1.stn site).backlog
  l.foldl (fun t r => t.takeIn site r) (s1.setStn site { s1.stn site with backlog := [] })

/-- How many packets a station's reorder store holds (R81, R102 HELD_NOW). -/
def State.heldNow (s : State) (site : Nat) : Nat :=
  (s.sky.spaces.filter fun p => decide (p.1 % 64 = site)).foldl (fun n p => n + p.2.held.length) 0

/-! ## Acks -/

/-- The cumulative SEQ an ack reports: everything committed, and forwarded where a mirror copy is kept (R53, R242). -/
def Space.ackCum (x : Space) : Nat :=
  x.fwdHold.foldl (fun c q => if aheadMod 24 q c then c else subMod 24 q 1) x.rxCum

/-- The selective bits of an ack (R53). -/
def Space.selBits (x : Space) (cum : Nat) : Nat :=
  bitMask ((List.range 16).filter fun i =>
    let q := (cum + 1 + i) % 2 ^ 24
    x.held.any fun p => decide (p.seq = q))

/-- An ack of the space from `src` sent by its reader `site` (R53, R83). -/
def State.sendAck (s : State) (site src : Nat) : State :=
  let sp := s.space src site
  let cum := sp.ackCum
  let rej := match sp.reject with
    | some (q, why) => packBits [(16, 1, 1), (17, 24, q), (41, 4, why)]
    | none => 0
  let p : Pkt := Pkt.seal
    { dest := src, src := site, cls := 0, op := 4, part := if site < 42 then s.part site else s.part src, seq := cum,
      gen := s.get F.SKY_STN_STATUS_GEN site, aux := sp.selBits cum + rej, birth := s.birth }
  let s1 := s.setSpace src site { sp with unacked := 0, oldest := none, reject := none }
  ((s1.bump F.SKY_ACK_TX site).enqueue site 0 p).pump site

/-- Every fence of a station changed. -/
def State.mapFences (s : State) (site : Nat) (g : Fence → Fence) : State :=
  let x := s.stn site
  s.setStn site { x with fences := x.fences.map g, fwait := x.fwait.map g }

/-- A packet to `dest` released: no fence waits for it any more (R85, R95). -/
def State.endFences (s : State) (site dest seq : Nat) : State :=
  s.mapFences site fun c => { c with covers := c.covers.filter fun q => decide (q ≠ (dest, seq)) }

/-- A refusal recorded against every fence whose scope holds the packet (R87, R95). -/
def State.refuseFences (s : State) (site dest seq why : Nat) : State :=
  s.mapFences site fun c => if c.holds.contains (dest, seq) then { c with refused := c.refused.or (some why) } else c

/-- A packet to `dest` aborted by a restart (R95): by one of a pair, UNREACHABLE, else ABORTED. The fences that waited on it complete only when
its space has reopened, where that is to come (R89 step 5). -/
def State.cutFences (s : State) (site dest seq : Nat) (unreach wait : Bool) : State :=
  s.mapFences site fun c =>
    if c.covers.contains (dest, seq) then
      let c := { c with covers := c.covers.filter (fun q => decide (q ≠ (dest, seq))), cut := if wait then keyPut c.cut dest else c.cut }
      if unreach then { c with unreach := true } else { c with aborted := true }
    else c

/-- A read tag freed, and with it what fences wait on it (R95). -/
def State.endRead (s : State) (site rtag : Nat) : State :=
  let x := s.stn site
  (s.setStn site { x with rtags := x.rtags.filter fun t => decide (t.rtag ≠ rtag) }).mapFences site fun c =>
    { c with reads := c.reads.filter fun q => decide (q ≠ rtag) }

/-- A write of the host over CXL.mem that completes on the link later (R303), counted once for itself. -/
def State.hostOwes (s : State) (id addr : Nat) : State :=
  { s with host := { s.host with writes := (s.host.writes.filter fun w => decide (w.1 ≠ id)) ++ [(id, addr, 1)], next := id + 1 } }

/-- One more forward that a host's write waits for (R303). -/
def State.hostHold (s : State) (id : Nat) : State :=
  { s with host := { s.host with writes := s.host.writes.map fun w => if w.1 = id then (w.1, w.2.1, w.2.2 + 1) else w } }

/-- One forward fewer; the last lets the write complete on the link (R303). -/
def State.hostFree (s : State) (id : Nat) : State :=
  match s.host.writes.find? fun w => decide (w.1 = id) with
  | none => s
  | some w =>
    if 1 < w.2.2 then { s with host := { s.host with writes := s.host.writes.map fun x => if x.1 = id then (x.1, x.2.1, x.2.2 - 1) else x } }
    else ({ s with host := { s.host with writes := s.host.writes.filter fun x => decide (x.1 ≠ id) } }).emit (.cxlDone w.2.1)

/-- The ack of a write forwarded to a mirror copy lets the original's ack go (R242), or the host's write complete (R303). -/
def State.forwardDone (s : State) (site : Nat) (req : SendReq) : State :=
  match req.fwd with
  | none => s
  | some (src, seq) =>
    if src = 64 then s.hostFree seq
    else if 64 ≤ src then s
    else
      let sp := s.space src site
      let left := sp.fwdHold.erase seq
      let s1 := s.setSpace src site { sp with fwdHold := left }
      if sp.fwdHold.contains seq && !left.contains seq then s1.sendAck site src else s1

/-- The shard whose mirror copy a forwarded write went to becomes DEGRADED (R242, "Lost mirror"). -/
def State.degradeAt (s : State) (a : Nat) : State :=
  s.setTables (s.mems.tables.map fun t =>
    { t with shards := t.shards.map fun sh =>
        if sh.mirror ≠ 0xFF && decide (sh.mbase ≤ a) && decide (a < sh.mbase + t.size sh) && (sh.state = 1 || sh.state = 3)
        then { sh with state := 2, lost := 2 } else sh })

/-- A forward to a mirror copy that does not commit there (R242): the shard is DEGRADED, and the original write's ack may go. Another packet has no
such effect. -/
def State.forwardLost (s : State) (site : Nat) (e : TxEnt) : State :=
  if e.req.fwd = none then s else (s.degradeAt e.pkt.addr).forwardDone site e.req

/-- One packet of a site's store released by a cumulative ack (R85). -/
def State.release (s : State) (site : Nat) (e : TxEnt) : State :=
  (s.endFences site e.pkt.dest e.pkt.seq).forwardDone site e.req

end Sys2Proof.Machine
end

