-- ==== Sys2Proof/Machine/TallyOps.lean ====
section
/-! DEFINITION. The Tally's shared operations: entries and decks (R310, R345 to R347), the statuses a card meets (R327), and the
return of a cut-off card to ACCEPTED with its mirror line (R347, R348, R469). -/

namespace Sys2Proof.Machine

/-- The entry of a sequence; one whose `state` is 0 where none is held. -/
def State.ent (s : State) (seq : Nat) : Entry := tabGet {} s.tally.entries seq

/-- The entry of a sequence replaced. -/
def State.setEnt (s : State) (seq : Nat) (e : Entry) : State :=
  { s with tally := { s.tally with entries := tabPut {} s.tally.entries seq e } }

/-- The entry of a sequence changed. -/
def State.mapEnt (s : State) (seq : Nat) (f : Entry → Entry) : State := s.setEnt seq (f (s.ent seq))

/-- The deck `d` beside its registers. -/
def State.deck (s : State) (d : Nat) : Deck := tabGet {} s.tally.decks d

/-- The deck `d` replaced. -/
def State.setDeck (s : State) (d : Nat) (x : Deck) : State :=
  { s with tally := { s.tally with decks := tabPut {} s.tally.decks d x } }

/-- The sequences of the entries in a state, rising. -/
def State.entsIn (s : State) (st : Nat) : List Nat :=
  (s.tally.entries.filter fun p => decide (p.2.state = st)).map fun p => p.1

/-- The site that serves a DPA (R225, R380). -/
def State.siteOf (s : State) (a : Nat) : Option Nat :=
  match s.region a with
  | .hbm m => some (24 + m)
  | .cache t => some t
  | .host => some 42
  | .comet => (s.winFor a).bind fun w => s.serving w.2.peer
  | .unmapped => none

/-- Whether the die that serves a DPA is in reset or fenced off: its station refuses what is addressed to it with reason 3 (R90). -/
def State.dieDownAt (s : State) (a : Nat) : Bool := (s.siteOf a).any fun k => decide (k < 42) && s.isSet F.SKY_DLV_DIE_DIE_DOWN k

/-- Whether a DPA lies in the Comet window at a peer that is lost (R391). -/
def State.peerGone (s : State) (a : Nat) : Bool :=
  decide (s.region a = .comet) && (s.winFor a).any fun w => (tabGet {} s.cmt.sess w.2.peer).lost

/-- Whether a DPA lies at a site of another partition than a card's: the site refuses the card's packets with reason 2 (R55 step 7, R524). -/
def State.foreign (s : State) (seq a : Nat) : Bool := (s.siteOf a).any fun k => decide (k < 42) && decide (s.part k ≠ (s.ent seq).part)

/-- The rank of a run status, the first in R327's order lowest. -/
def statusRank (st : Nat) : Nat :=
  match st with
  | 0x07 => 0 | 0x08 => 1 | 0x03 => 2 | 0x06 => 3 | 0x05 => 4 | 0x04 => 5 | 0x02 => 6 | 0x01 => 7 | 0x00 => 9 | _ => 8

/-- The run status a card completes with when several apply: the first in R327's order. -/
def worstResult (rs : List Result) : Result :=
  rs.foldl (fun b r => if statusRank r.status < statusRank b.status then r else b) {}

/-- A status met by a dealt card's run (R327): counts of one status add up. -/
def State.meets (s : State) (seq : Nat) (r : Result) : State :=
  if (s.ent seq).state = 2 then
    s.mapEnt seq fun e =>
      match e.runs.find? fun x => decide (x.status = r.status) with
      | some _ =>
        let rs := e.runs.map fun x => if x.status = r.status then Result.mk x.status x.detail (x.count + r.count) x.result else x
        { e with runs := rs }
      | none => { e with runs := e.runs ++ [r] }
  else s

/-- A dealt card's run has ended (its work is committed). -/
def State.finish (s : State) (seq : Nat) : State :=
  if (s.ent seq).state = 2 then s.mapEnt seq fun e => { e with finished := true } else s

/-- The CXL link is up (R307). -/
def State.linkUp (s : State) : Bool := s.isSet F.DLR_STAT_LINK_UP

/-- A line of a mirror record written (R348). -/
def State.mirrorLine (s : State) (seq line : Nat) (b : List Byte) : State :=
  s.emit (.mirror seq line (s.get F.TAL_MIRROR_BASE * 2 ^ 23 + 128 * (seq % 65536) + 64 * line) b)

/-- The line 0 of a replayed card's mirror record rewritten, as soon as the link is up (R348, R349). -/
def State.mirrorReplay (s : State) (seq : Nat) : State :=
  let s1 := s.mapEnt seq fun e => { e with again := true }
  if s1.linkUp then s1.mirrorLine seq 0 ((s1.ent seq).line0 seq) else s1

/-- An entry as a replay returns it to ACCEPTED: REPLAYS raised, the transit that of its acceptance (R345, R347). -/
def Entry.replayed (e : Entry) : Entry :=
  { e with
    state := 1, replays := satTo 15 (e.replays + 1), transit := e.accT, pipe := none, started := false
    finished := false, runs := [], counts := {}, value := 0 }

/-- Whether a card has been convicted of a hang: it is never replayed (R473). -/
def Entry.guilty (e : Entry) : Bool := e.finished && e.runs.any fun r => decide (r.status = 7)

/-- A dealt card whose work is cut off returns to ACCEPTED with REPLAYS raised, unless it has been convicted of a hang (R473); its operators end without running on
(R347, R469). -/
def State.cutCard (s : State) (seq : Nat) : State :=
  if (s.ent seq).state = 2 then
    let s1 := if (s.ent seq).guilty then s else ((s.mapEnt seq Entry.replayed).add F.TAL_REPLAYS 1).mirrorReplay seq
    let mine := s1.cmp.runs.filter fun r => decide (r.seq = some seq)
    let s2 := { s1 with cmp := { s1.cmp with runs := s1.cmp.runs.filter fun r => decide (r.seq ≠ some seq) } }
    mine.foldl (fun (t : State) r => { t with trn := { t.trn with ended := keyPut t.trn.ended r.idx, ends := tabPut 0 t.trn.ends r.tile t.now } }) s2
  else s

/-- The end of a packet told to its agent, and charged to the card it carried work of (R86, R87, R89, R327, R469): a refusal
and a lost space are statuses of the card's run, an abort cuts it off. -/
def State.report (s : State) (site : Nat) (a : Agent) (work : Option Nat) (e : PktEnd) : State :=
  let s1 := s.emit (.report site a work e)
  match work with
  | none => s1
  | some seq => match e with
    | .refused r => s1.meets seq { status := 4, detail := r, count := 1 }
    | .unreachable => s1.meets seq { status := 5, detail := 1 }
    | .aborted => s1.cutCard seq

/-- A request of an agent: refused at its own station, or admitted and sent as soon as a channel is free (R55, R77). -/
def State.send (s : State) (site : Nat) (r : SendReq) : State :=
  match s.sendCheck site r with
  | some reason => s.report site r.agent r.work (.refused reason)
  | none => (s.takeIn site r).pump site

/-- A packet of a site that may still be refused: in its store, or released by an ack that overtook the reject ack (R87, R92). -/
def Space.rejectable (x : Space) (seq : Nat) : Option TxEnt :=
  (x.store.find? fun e => decide (e.pkt.seq = seq)).or (x.past.find? fun e => decide (e.pkt.seq = seq))

/-- A refusal that an ack reports (R87): counted, told to the agent, recorded against the fences whose scope holds the packet. A forward that the mirror's
station refuses leaves the shard DEGRADED (R242, log entry 75). -/
def State.refused (s : State) (site : Nat) (e : TxEnt) (why : Nat) : State :=
  let s1 := (s.bump F.SKY_REFUSED site).report site e.req.agent e.req.work (.refused why)
  let s2 := (s1.refuseFences site e.pkt.dest e.pkt.seq why).forwardLost site e
  if e.pkt.op = 1 then s2.endRead site e.pkt.rtag else s2

/-- What is remembered of a released packet: not its data. -/
def TxEnt.spent (e : TxEnt) : TxEnt := { e with pkt := { e.pkt with payload := [] }, req := { e.req with payload := [] } }

/-- An ack that has passed its checks acted on at its source (R53, R85, R87): released packets leave the store, selective bits
stop retransmission, a refusal takes effect. The last 8,192 released packets are remembered for reject acks that come late. -/
def State.takeAck (s : State) (site : Nat) (p : Pkt) : State :=
  let sp := s.space site p.src
  let rejected := bit p.aux 16
  let rseq := bitsOf p.aux 17 24
  let gone (e : TxEnt) : Bool := !aheadMod 24 e.pkt.seq p.seq || (rejected && decide (e.pkt.seq = rseq))
  let sel (e : TxEnt) : Bool :=
    let d := subMod 24 e.pkt.seq p.seq
    decide (1 ≤ d) && decide (d ≤ 16) && bit p.aux (d - 1)
  let s0 := match rejected, sp.rejectable rseq with
    | true, some e => s.refused site e (bitsOf p.aux 41 4)
    | _, _ => s
  let out := sp.store.filter gone
  let keep := (sp.store.filter fun e => !gone e).map fun e => if sel e then { e with sel := true } else e
  let cum := if aheadMod 24 p.seq sp.txCum then p.seq else sp.txCum
  let past := sp.past ++ out.map TxEnt.spent
  let s1 := s0.setSpace site p.src { s0.space site p.src with store := keep, txCum := cum, past := past.drop (past.length - 8192) }
  let s2 := out.foldl (fun t e => t.release site e) s1
  (s2.readmit site).pump site

/-- A packet of a site given up or aborted, told to its agent (R86, R89). Work that the host window waits on while the link is down ends with
detail 2 (R307). -/
def State.abandon (s : State) (site : Nat) (e : TxEnt) (unreach : Bool) : State :=
  let hostGone := unreach && decide (e.pkt.op ≤ 1) && decide (regionOf e.pkt.addr = .host) && !s.isSet F.DLR_STAT_LINK_UP
  match hostGone, e.req.work with
  | true, some q => (s.emit (.report site e.req.agent e.req.work .unreachable)).meets q { status := 5, detail := 2 }
  | _, _ => s.report site e.req.agent e.req.work (if unreach then .unreachable else .aborted)

end Sys2Proof.Machine
end

