-- ==== Sys2Proof/Machine/DealOps.lean ====
section
/-! DEFINITION. The Dealer's shared operations: decks and their errors (R310 to R315), posting and interrupts (R330, R331),
acceptance and the mirror (R342 to R349), hands at acceptance (R358, R359). -/

namespace Sys2Proof.Machine

/-- An event record of a type whose SITE the spec does not name: a free value there (R332). -/
def State.recordAny (s : State) (type content : Nat) : State :=
  let (k, s1) := s.draw 6
  s1.record type k content

/-! ## Decks -/

/-- A deck's state (R310): 0 DISABLED, 1 ACTIVE, 2 DRAINING, 3 ERROR. -/
def State.deckState (s : State) (d : Nat) : Nat := s.get F.DLR_DECK_STAT_STATE d

/-- Slots of a deck and of its completion ring (R310). -/
def State.sqSize (s : State) (d : Nat) : Nat := 2 ^ s.get F.DLR_DECK_CFG_SQ_LOG2 d
def State.cqSize (s : State) (d : Nat) : Nat := 2 ^ s.get F.DLR_DECK_CFG_CQ_LOG2 d

/-- A deck in ERROR with a code, and its DECK record (R310, R332). -/
def State.deckError (s : State) (d err : Nat) : State :=
  ((s.set F.DLR_DECK_STAT_STATE 3 d).set F.DLR_DECK_STAT_ERR err d).recordAny 2 (packBits [(0, 6, d), (6, 3, err)])

/-- Whether intake from a deck waits for completion credit (R315). -/
def State.cqHeld (s : State) (d : Nat) : Bool := decide (s.cqSize d ≤ s.get F.DLR_DECK_OUT_OUTSTANDING d)

/-- A draining deck whose last completion has been consumed becomes DISABLED (R311). -/
def State.drained (s : State) (d : Nat) : State :=
  if s.deckState d = 2 && decide (s.get F.DLR_DECK_OUT_OUTSTANDING d = 0) then s.set F.DLR_DECK_STAT_STATE 0 d else s

/-- The sequences of a deck's entries that are not acknowledged, or not visible, by `p`. -/
def State.oldest (s : State) (d : Nat) (p : Entry → Bool) : Option Entry :=
  (s.tally.entries.find? fun x => decide (x.2.deck = d) && decide (x.2.state ≠ 0) && !x.2.freed && p x.2).map fun x => x.2

/-- SQ_HEAD: the slot of the oldest card not yet accepted, else the next to fetch (R314). -/
def State.sqHead (s : State) (d : Nat) : Nat :=
  match s.oldest d fun e => !e.acked with
  | some e => e.slot
  | none => (s.deck d).fetch

/-- The SQ_HEAD register moved. -/
def State.moveHead (s : State) (d : Nat) : State := s.set F.DLR_DECK_STAT_SQ_HEAD (s.sqHead d) d

/-- The head record of a deck written (R314, R342 step 5): cards whose mirror record is not visible are not reported. -/
def State.writeHead (s : State) (d : Nat) : State :=
  let h := match s.oldest d fun e => !e.visible with
    | some e => e.slot
    | none => (s.deck d).fetch
  if s.linkUp then s.emit (.head d (s.get F.DLR_DECK_HRBASE d * 64) (natLe 2 h ++ natLe 6 0 ++ natLe 6 (s.deck d).accSeq ++ natLe 2 0)) else s

/-! ## Completions -/

/-- A deck's interrupt (R331): its vector goes out, or is pending while it is masked. -/
def State.deckIrq (s : State) (d : Nat) : State :=
  let x := { s.deck d with unsig := 0, unsigAt := none }
  if s.get F.MSIX_MASK d = 1 then s.setDeck d { x with pend := true } else (s.setDeck d x).emit (.msix d)

/-- A vector no longer masked goes out where it was pending (R331). -/
def State.unmasked (s : State) (v : Nat) : State :=
  if s.get F.MSIX_MASK v = 1 then s
  else if v = 64 then (if s.evf.pend then ({ s with evf := { s.evf with pend := false } }).emit (.msix 64) else s)
  else if (s.deck v).pend then (s.setDeck v { s.deck v with pend := false }).emit (.msix v) else s

/-- The pending bits (R302). -/
def State.vectorsPending (s : State) : Nat := bitMask ((List.range 64).filter fun d => (s.deck d).pend) + 2 ^ 64 * b2n s.evf.pend

/-- One more completion posted on a deck, for moderation (R331). -/
def State.signal (s : State) (d : Nat) (irq : Bool) : State :=
  let x := s.deck d
  let n := x.unsig + 1
  if irq || decide (max 1 (s.get F.DLR_DECK_CFG_IRQ_COUNT d) ≤ n) then s.deckIrq d
  else s.setDeck d { x with unsig := n, unsigAt := x.unsigAt.or (some s.now) }

/-- A completion put in the next free slot of a deck's ring (R326, R330): CQ_TAIL moves, PHASE inverts on a wrap. -/
def State.post (s : State) (d seq slot replays tag : Nat) (journalled irq : Bool) (r : Result) : State :=
  let t := s.get F.DLR_DECK_CQ_CQ_TAIL d
  let ph := s.isSet F.DLR_DECK_CQ_PHASE d
  let s1 := s.emit (.completion d t (s.get F.DLR_DECK_CQBASE d * 4096 + 32 * t) (completionBytes seq slot d replays tag journalled ph r))
  let s2 := s1.setDeck d { s1.deck d with posted := (s1.deck d).posted ++ [(t, seq)] }
  let s3 := if t + 1 = s.cqSize d then (s2.set F.DLR_DECK_CQ_CQ_TAIL 0 d).set F.DLR_DECK_CQ_PHASE (b2n !ph) d
    else s2.set F.DLR_DECK_CQ_CQ_TAIL (t + 1) d
  s3.signal d irq

/-- A rejection or zero-rule completion, posted at once and not journalled (R320, R322). -/
def State.postNow (s : State) (d slot : Nat) (c : List Byte) (r : Result) : State :=
  let s1 := s.post d 0 slot 0 (cardTag c) false (cardIrq c) r
  if r.rejects then (s1.add F.DLR_REJECTED 1).add F.DLR_DECK_REJ 1 d else s1

/-- Whether the front end in the Dealer role runs (R467). -/
def State.dealerUp (s : State) : Bool := s.get F.FLT_DOM0_STATE (128 + s.get F.TAL_STAT_DEALER_HUB) = 0

/-- Whether the Tally waits for its rebuilding after a device reset (R368): until then no sequence is given out and no completion posted. -/
def State.unrecovered (s : State) : Bool := s.get F.TAL_STAT_RECOVERY = 1 || s.get F.TAL_STAT_RECOVERY = 2

/-- Whether a Dealer is at work: its front end runs, and no takeover is under way (R354). -/
def State.dealing (s : State) : Bool := s.dealerUp && s.tally.takeover = none

/-- Whether a deck's completions can be posted now (R307, R311, R349, R354, R368). -/
def State.canPost (s : State) (d : Nat) : Bool :=
  s.linkUp && s.dealing && !s.unrecovered && !s.isSet F.TAL_STAT_MIRROR_ERR && decide (s.deckState d ≠ 0) &&
  !(s.deckState d = 3 && decide (s.get F.DLR_DECK_STAT_ERR d = 4))

/-- The next completion a deck may post: its lowest sequence not posted, when that card is DONE and its DONE record is
visible (R330, R349). -/
def State.nextPost (s : State) (d : Nat) : Option Nat :=
  match s.tally.entries.find? fun x => decide (x.2.deck = d) && decide (x.2.state ≠ 0) && x.2.acked && !x.2.posted with
  | some x => if x.2.state = 3 && x.2.doneVis then some x.1 else none
  | none => none

/-- A deck's completions posted while the next one can be, at most `fuel`. -/
def State.postDeck (s : State) (d : Nat) : Nat → State
  | 0 => s
  | n + 1 =>
    if s.canPost d then match s.nextPost d with
      | some q =>
        let e := s.ent q
        let s1 := s.post d q e.slot e.replays (cardTag e.card) true (cardIrq e.card) e.fin
        (s1.setEnt q { e with posted := true }).postDeck d n
      | none => s
    else s

/-- Every deck's completions that can be posted (R351 step 3). -/
def State.postAll (s : State) : State :=
  (List.range 64).foldl (fun t d => t.postDeck d (t.tally.entries.length + 1)) s

/-! ## Acceptance -/

/-- Whether the Dealer takes cards at all (R307, R344, R349, R353 to R355, R368, R369, R465). -/
def State.intakeOn (s : State) : Bool :=
  s.inService && decide (s.get F.FLT_STAT_STATE ≤ 1) && !s.boot.folded && s.linkUp && !s.isSet F.TAL_CTRL_HOLD && !s.isSet F.TAL_STAT_MIRROR_ERR &&
  !s.tally.resync && s.dealing && !s.unrecovered && !s.boot.halt && (s.isSet F.TAL_STAT_STANDBY_OK || s.tally.noDummy)

/-- Whether the entry the next sequence takes is free (R346). -/
def State.indexFree (s : State) : Bool :=
  let q := s.get F.TAL_NEXT_SEQ
  decide (q < 65536) || decide ((s.ent (q - 65536)).state = 0) || (s.ent (q - 65536)).freed

/-- A hand slot replaced. -/
def State.setHand (s : State) (h : Nat) (x : Hand) : State :=
  { s with hands := { s.hands with slots := tabPut {} s.hands.slots h x } }

/-- The standby's image replaced. -/
def State.setImage (s : State) (x : Image) : State := { s with tally := { s.tally with image := x } }

/-- What the acceptance of a hand card does to its hand (R358, R359). -/
def State.acceptHand (s : State) (seq : Nat) (c : List Byte) (part : Nat) : State :=
  let id := cardHand c
  match cardOp c with
  | 0x08 => match s.handOf id, s.freeSlots with
    | none, h :: _ => s.setHand h { id := id, state := 1, part := part, reserved := leAt c 16 4, begun := seq }
    | _, _ => s
  | 0x0A | 0x0B => match s.handOf id with
    | some (h, hd) => s.setHand h { hd with state := 2 }
    | none => s
  | _ => s

/-- A card's acceptance (R342 step 3 and 4): counted, SQ_HEAD moved, its mirror record written. -/
def State.accept (s : State) (seq : Nat) : State :=
  let e := s.ent seq
  let s1 := s.setEnt seq { e with acked := true, held := false, transit := s.get F.TRN_NUM, accT := s.get F.TRN_NUM }
  let e1 := s1.ent seq
  let im := s1.tally.image
  let s2 := s1.setImage { im with entries := tabPut {} im.entries seq e1 }
  let s3 := (((s2.add F.DLR_ACCEPTED 1).add F.DLR_DECK_ACC 1 e.deck)).moveHead e.deck
  if s3.linkUp then (s3.mirrorLine seq 1 e1.line1).mirrorLine seq 0 (e1.line0 seq) else s3

/-- The Dummy's acknowledgement of an entry taken (R342 step 3): the card is accepted, once no mirror write fails (R349). -/
def State.acknowledge (s : State) (seq : Nat) : State :=
  if s.isSet F.TAL_STAT_MIRROR_ERR then s.mapEnt seq fun e => { e with held := true } else s.accept seq

/-- The Dealer left without a standby (R355, R461): it accepts cards on its own entry alone. -/
def State.loseDummy (s : State) : State :=
  let s1 := s.set F.TAL_STAT_STANDBY_OK 0
  let s2 := { s1 with tally := { s1.tally with noDummy := true, resync := false, copyWait := false } }
  ((s2.tally.entries.filter fun p => p.2.state = 1 && !p.2.acked).map fun p => p.1).foldl State.acknowledge (s2.raise 228)

/-- A mirror record written again: at acceptance both its lines, else line 0 alone (R348, R349). -/
def State.mirrorRetry (s : State) (seq : Nat) (done : Bool) : State :=
  let e := s.ent seq
  if !done && !e.visible then (s.mirrorLine seq 1 e.line1).mirrorLine seq 0 (e.line0 seq) else s.mirrorLine seq 0 (e.line0 seq)

/-- A card that has passed every check takes the next Tally sequence and goes to the Dummy (R342 steps 1 and 2). -/
def State.journal (s : State) (d slot part : Nat) (c desc : List Byte) : State :=
  let q := s.get F.TAL_NEXT_SEQ
  let e : Entry := {
    deck := d, part := part, state := 1, slot := slot, hand := cardHand c
    opcode := cardOp c, transit := s.get F.TRN_NUM, card := c, desc := desc, chart := s.cht.epoch }
  let s1 := ((s.setEnt (q - 65536) (if 65536 ≤ q then {} else s.ent (q - 65536))).setEnt q e).set F.TAL_NEXT_SEQ (q + 1)
  let s2 := s1.acceptHand q c part
  if s.tally.noDummy then s2.accept q else s2.emit (.toDummy q)

/-- The bytes of the descriptor a TABLE_DEFINE names (R237): memory's, or what the host's memory returned. -/
def State.descBytes (s : State) (c host : List Byte) : List Byte :=
  if cardOp c ≠ 0x0F then []
  else match s.region (leAt c 16 8) with
    | .hbm _ | .cache _ => s.rdN (leAt c 16 8) 576
    | _ => slice host 0 576

/-- One fetched card checked, and accepted, rejected or completed (R319 to R322); the fetch position moves past it. While the entry of the next sequence is
not free, intake is held and FULL reads 1 (R346). -/
def State.takeCard (s : State) (d : Nat) (card host : List Byte) : State :=
  let c := slice card 0 64
  let slot := (s.deck d).fetch
  let desc := s.descBytes c host
  if !s.indexFree then s.set F.TAL_STAT_FULL 1
  else
    let v := s.checkCard d c desc false
    let s0 := s.setDeck d { s.deck d with fetch := (slot + 1) % s.sqSize d }
    let s1 := s0.set F.DLR_DECK_OUT_OUTSTANDING (s.get F.DLR_DECK_OUT_OUTSTANDING d + 1) d
    match v with
    | none => (s1.journal d slot ((s.deckPart d).getD 0) c desc).moveHead d
    | some r => ((s1.postNow d slot c r).moveHead d).writeHead d

/-- Cards of a deck between SQ_HEAD and SQ_TAIL that wait to be fetched (R313). -/
def State.waiting (s : State) (d : Nat) : Nat :=
  if s.deckState d = 1 then ((s.deck d).sqTail + s.sqSize d - (s.deck d).fetch) % s.sqSize d else 0

/-- Whether the Dealer can fetch from a deck (R313, R315). -/
def State.fetchable (s : State) (d : Nat) : Bool := decide (0 < s.waiting d) && !s.cqHeld d

/-- Cards a turn takes from a deck (R310, R313). -/
def State.turnSize (s : State) (d : Nat) : Nat := 2 * max 1 (s.get F.DLR_DECK_CFG_WEIGHT d)

/-- The deck the weighted round robin serves next, and what is left of its turn (R313). -/
def State.nextDeck (s : State) : Option (Nat × Nat) :=
  let t := s.tally.turn
  if 0 < s.tally.left && s.fetchable t then some (t, s.tally.left)
  else ((List.range 64).map fun i => (t + 1 + i) % 64).findSome? fun d =>
    if s.fetchable d then some (d, s.turnSize d) else none

/-! ## Charges of a card -/

/-- A card's result value. -/
def State.setValue (s : State) (seq v : Nat) : State := s.mapEnt seq fun e => { e with value := v }

/-- A dealt card's run, started by its command once. -/
def State.startRun (s : State) (seq op : Nat) (f : Entry → State → State) : State :=
  let e := s.ent seq
  if e.state = 2 && e.opcode = op && !e.started && !e.finished then f e (s.mapEnt seq fun e => { e with started := true }) else s

/-- The 64-bit words of a list of bytes. -/
def wordsOf (n : Nat) (b : List Byte) : List Nat := (List.range n).map fun i => leAt b (8 * i) 8

/-- TAL_HEAD_SEQ: the oldest sequence whose entry is not free (R371); with none its reset value 0 before the first sequence is taken, and the next
sequence after that (DESIGN CHOICE, log entry 199). -/
def State.headSeq (s : State) : Nat :=
  match s.tally.entries.find? fun x => decide (x.2.state ≠ 0) && !x.2.freed with
  | some x => x.1
  | none => if s.get F.TAL_NEXT_SEQ = 1 then 0 else s.get F.TAL_NEXT_SEQ

end Sys2Proof.Machine
end

