-- ==== Sys2Proof/Machine/Events.lean ====
section
/-! DEFINITION. The event FIFO's reads and flushes (R333 to R336). -/

namespace Sys2Proof.Machine

/-- The FIFO's words replaced. -/
def State.setWords (s : State) (ws : List Nat) : State := { s with evf := { s.evf with words := ws } }

/-- Whether a word opens a record. -/
def firstWord (w : Nat) : Bool := bit w 63

/-- The FIFO emptied: its records counted, a pending flush ended (R336). -/
def State.emptyEvf (s : State) : State :=
  let n := (s.evf.words.filter firstWord).length
  ((((s.setWords []).add F.EVF_FLUSHED n).set F.EVF_CTRL_FLUSH 0).set F.EVF_STAT_FLUSHING 0)

/-- One OVERFLOW record once room for it has returned (R333). -/
def State.overflow (s : State) : State :=
  if 0 < s.evf.lost && decide (s.evf.words.length + 2 ≤ 4096) then
    let n := s.evf.lost
    ({ s with evf := { s.evf with lost := 0 } }).recordAny 7 (satTo 0xFFFFFFFF n)
  else s

/-- A flush requested (R336). -/
def State.flushEvf (s : State) : State :=
  if s.isSet F.EVF_STAT_FLUSHING then s
  else match s.evf.words with
    | [] => s.emptyEvf.overflow
    | w :: _ => if firstWord w then s.emptyEvf.overflow else (s.set F.EVF_CTRL_FLUSH 1).set F.EVF_STAT_FLUSHING 1

/-- The bits of a word that can read other than stored: POISON is not stored (R334). -/
def evfFlips (flip : Nat) : Nat := flip &&& 0xBFFFFFFFFFFFFFFF

/-- Whether the parity of a byte fails (R334): of its bits and its parity bit, which bit 64 + `i` of the flips stands for, an odd number reads other than
stored. -/
def evfFails (flip : Nat) : Bool :=
  (List.range 8).any fun i => (popCount 8 (bitsOf (evfFlips flip) (8 * i) 8) + b2n (bit flip (64 + i))) % 2 = 1

/-- A read of EVF_DATA (R334, R335): a word popped as it reads, with POISON where its parity fails; the last word again on an empty FIFO. -/
def State.popEvf (s : State) (flip : Nat) : Nat × State :=
  match s.evf.words with
  | [] => (s.evf.last, s.set F.EVF_STAT_UNDERRUN 1)
  | w :: ws =>
    let x := w ^^^ evfFlips flip
    let v := if evfFails flip then x ||| 2 ^ 62 else x
    let s1 := if evfFails flip then s.add F.EVF_STAT_PARITY 1 else s
    let s2 := ({ s1 with evf := { s1.evf with last := v } }).setWords ws
    let s3 := if s2.isSet F.EVF_STAT_FLUSHING && (match ws with
      | [] => true
      | x :: _ => firstWord x) then s2.emptyEvf else s2
    (v, s3.overflow)

end Sys2Proof.Machine
end

