-- ==== Sys2Proof/Machine/Dealer.lean ====
section
/-! DEFINITION. Meanings of the Dealer's commands: doorbells, fetching and acceptance, the mirror, interrupts (chapters "Host
interface, decks and cards" and "The Tally, hands and the no-loss guarantee"). -/

namespace Sys2Proof.Machine

/-! ## Doorbells -/

/-- SQ_TAIL (R312): the slot after the last card written. -/
def execSqTail (d v : Nat) (s : State) : Res :=
  live s fun s =>
    if 64 ≤ d then s
    else if s.deckState d ≠ 1 then s.add F.DLR_DECK_IGN 1 d
    else if s.sqSize d ≤ v % 65536 then s.deckError d 2
    else s.setDeck d { s.deck d with sqTail := v % 65536 }

/-- Completions of a deck consumed: their entries become free (R346), OUTSTANDING falls (R315). -/
def State.consume (s : State) (d n : Nat) : State :=
  let x := s.deck d
  let gone := (x.posted.take n).map fun p => p.2
  let s1 := s.setDeck d { x with posted := x.posted.drop n }
  let s2 := gone.foldl (fun t q => if q = 0 then t else t.mapEnt q fun e => { e with freed := true }) s1
  let s3 := s2.set F.DLR_DECK_OUT_OUTSTANDING (s2.get F.DLR_DECK_OUT_OUTSTANDING d - n) d
  (if s3.indexFree then s3.set F.TAL_STAT_FULL 0 else s3).drained d

/-- CQ_HEAD (R312): the slot after the last completion consumed. A deck that drains takes it too, since OUTSTANDING, which must reach 0 there, falls by it
alone (R311, R315; log entry 89). The ring's slot `v` on a full ring consumes every entry. -/
def execCqHead (d v : Nat) (s : State) : Res :=
  live s fun s =>
    if 64 ≤ d then s
    else if s.deckState d ≠ 1 && s.deckState d ≠ 2 then s.add F.DLR_DECK_IGN 1 d
    else
      let x := s.deck d
      let v := v % 65536
      let n0 := (v + s.cqSize d - x.cqHead) % s.cqSize d
      let n := if n0 = 0 && x.posted.length = s.cqSize d then s.cqSize d else n0
      if decide (s.cqSize d ≤ v) || decide (x.posted.length < n) then s.deckError d 5
      else (s.setDeck d { x with cqHead := v }).consume d n

/-! ## Fetching -/

/-- Cards taken one after another while the deck and the Tally have room; how many were taken. -/
def State.takeCards (s : State) (d : Nat) : List (List Byte × List Byte) → Nat → Nat × State
  | [], k => (k, s)
  | c :: cs, k =>
    if s.fetchable d then
      let t := s.takeCard d c.1 c.2
      if t.deck d = s.deck d then (k, t) else t.takeCards d cs (k + 1)
    else (k, s)

/-- A host write of a deck fails on the link (R310): the deck goes to ERROR with ERR 4, where it has a completion or a head record to write. -/
def State.writeLost (s : State) (d : Nat) : State :=
  if decide (d < 64) && (s.deckState d = 1 || s.deckState d = 2) && decide (s.get F.DLR_DECK_OUT_OUTSTANDING d ≠ 0) then s.deckError d 4 else s

/-- CARD_FETCH (R310, R313, R319): one read of up to 16 cards of the deck whose turn it is; each is checked. A failed read puts the deck in ERROR with
ERR 3. A failed write of a completion or of a head record, one that the fetch led to or one posted before it, puts it there with ERR 4, with or
without a fetch (log entry 194). -/
def execCardFetch (d : Nat) (cards : List (List Byte × List Byte)) (end_ : FetchEnd) (s : State) : Res :=
  live s fun s =>
    let wrote (t : State) : State := if end_ = .writeFailed then t.writeLost d else t
    if !s.intakeOn then wrote s
    else match s.nextDeck with
      | none => wrote s
      | some (d', k) =>
        if d' ≠ d then wrote s
        else
          let l := cards.take (min 16 k)
          let ask := Out.cards d (s.get F.DLR_DECK_SQBASE d * 4096 + 64 * (s.deck d).fetch) (64 * max 1 l.length)
          if end_ = .readFailed then (s.emit ask).deckError d 3
          else
            let r := s.takeCards d l 0
            wrote { r.2 with tally := { r.2.tally with turn := d, left := k - r.1 }, out := ask :: r.2.out }

/-! ## Acceptance and the mirror -/

/-- Whether the standby acknowledges entries (R342, R344, R354): it is synchronised, and no takeover is under way. -/
def State.standbyHeard (s : State) : Bool := s.isSet F.TAL_STAT_STANDBY_OK && !s.tally.resync && s.dealing

/-- DUMMY_ACK (R342 step 3, R344): the Dummy has stored the entry; the card is accepted. -/
def execDummyAck (seq : Nat) (s : State) : Res :=
  live s fun s => if (s.ent seq).state = 1 && !(s.ent seq).acked && s.standbyHeard then s.acknowledge seq else s

/-- DUMMY_ACK_TIMEOUT (R344): 2 µs without an acknowledgement; sent again up to three times, after which the Dummy role is
lost, and with it the copy it owes. -/
def execDummyAckTimeout (seq : Nat) (s : State) : Res :=
  live s fun s =>
    let e := s.ent seq
    if e.state = 1 && !e.acked && !e.held && s.standbyHeard then
      let s1 := s.atLeast (s.now + 2000)
      if e.tries < 3 then (s1.setEnt seq { e with tries := e.tries + 1 }).emit (.toDummy seq)
      else ({ s1 with tally := { s1.tally with copyWait := false } }).set F.TAL_STAT_STANDBY_OK 0
    else s

/-- A mirror write failed on the link (R349): MIRROR_ERR, the Tally fault source, and the write sent again. -/
def State.mirrorFails (s : State) (seq : Nat) (done : Bool) : State :=
  let s1 := { s with tally := { s.tally with failed := s.tally.failed.filter (fun x => decide (x ≠ (seq, done))) ++ [(seq, done)] } }
  (if s1.isSet F.TAL_STAT_MIRROR_ERR then s1 else (s1.set F.TAL_STAT_MIRROR_ERR 1).raise 228).mirrorRetry seq done

/-- A mirror write succeeded (R349): once none that failed is left, MIRROR_ERR clears and what it held goes on: the cards the Dummy has acknowledged are
accepted, and a settle's completions are posted. -/
def State.mirrorHeals (s : State) (seq : Nat) (done : Bool) : State :=
  let s1 := { s with tally := { s.tally with failed := s.tally.failed.filter fun x => decide (x ≠ (seq, done)) } }
  if !s1.isSet F.TAL_STAT_MIRROR_ERR || !s1.tally.failed.isEmpty then s1
  else
    let s2 := s1.set F.TAL_STAT_MIRROR_ERR 0
    let s3 := ((s2.tally.entries.filter fun p => p.2.state = 1 && !p.2.acked && p.2.held).map fun p => p.1).foldl State.accept s2
    if s3.get F.TRN_STAT_PHASE = 3 then s3.postAll else s3

/-- A mirror record that has become visible (R342 step 5, R348, R349): the card may be dealt and is reported, or its completion may be posted. -/
def State.mirrorSeen (s : State) (seq : Nat) (done : Bool) : State :=
  let e := s.ent seq
  if done then
    if e.state = 3 then
      let s1 := s.setEnt seq { e with doneVis := true, again := false }
      if s1.get F.TRN_STAT_PHASE = 3 then s1.postDeck e.deck (s1.tally.entries.length + 1) else s1
    else s
  else if e.acked && !e.visible then
    let s1 := s.setEnt seq { e with visible := true, again := false }
    (s1.setDeck e.deck { s1.deck e.deck with accSeq := max (s1.deck e.deck).accSeq seq }).writeHead e.deck
  else s.setEnt seq { e with again := false }

/-- MIRROR_WRITE_DONE (R342 step 5, R349): a mirror write has become visible, or has failed on the link. `done` says it is the
record written at DONE. -/
def execMirrorWriteDone (seq : Nat) (done ok : Bool) (s : State) : Res :=
  live s fun s =>
    if (s.ent seq).state = 0 || !s.linkUp then s
    else if ok then (s.mirrorHeals seq done).mirrorSeen seq done
    else s.mirrorFails seq done

/-- IRQ_TIMER_EXPIRY (R331): IRQ_TIME_US since the first completion not signalled. -/
def execIrqTimerExpiry (d : Nat) (s : State) : Res :=
  live s fun s =>
    let us := s.get F.DLR_DECK_CFG_IRQ_TIME_US d
    match (s.deck d).unsigAt with
    | some t => if us = 0 || decide (64 ≤ d) then s else (s.atLeast (t + us * 1000)).deckIrq d
    | none => s

end Sys2Proof.Machine
end

