-- ==== Sys2Proof/Machine/Deal.lean ====
section
/-! DEFINITION. Dealing (R261, R321 to R325, R340, R473, R478): which cards a transit's deal phase takes. -/

namespace Sys2Proof.Machine

/-! ## Slots -/

/-- Pipeline slots a transit has: the schedule's entries of ENTRY on the lowest-numbered tile of its TILES (R323). -/
def State.slots (s : State) (entry : Nat) : Nat :=
  match s.ops[entry]? with
  | none => 0
  | some o => (s.sched.filter fun e => decide (e.op = entry) && decide (e.tile = lowTile o.tiles)).length

/-- Whether two pipelines share an operator. -/
def pipesMeet (a b : Nat × Nat) : Bool := decide (a.1 ≤ b.2) && decide (b.1 ≤ a.2)

/-- The dealt slot cards of the transit: sequence, pipeline, slot. -/
def State.dealtSlots (s : State) : List (Nat × (Nat × Nat) × Nat) :=
  s.tally.entries.filterMap fun x => match x.2.pipe, pipeOf x.2.card with
    | some j, some p => if x.2.state = 2 then some (x.1, p, j) else none
    | _, _ => none

/-- The lowest free slot of a pipeline (R323: one card runs in a slot, and its overrides meet no other card's data). -/
def State.freeSlot (s : State) (p : Nat × Nat) : Option Nat :=
  (List.range (s.slots p.1)).find? fun j => !s.dealtSlots.any fun d => decide (d.2.2 = j) && pipesMeet d.2.1 p

/-- The tiles a slot card runs on, as a mask. -/
def State.cardTiles (s : State) (c : List Byte) : Nat := (s.namedOps c).foldl (fun m o => m ||| o.tiles) 0

/-! ## Eligibility -/

/-- Whether every accepted card that `p` picks, other than those at or after `seq`, is DONE. -/
def State.allDone (s : State) (seq : Nat) (p : Entry → Bool) : Bool :=
  s.tally.entries.all fun x => decide (seq ≤ x.1) || !p x.2 || x.2.state = 3 || x.2.state = 0

/-- Whether a table has a shard whose every copy lies on a retired stack (R340). -/
def State.lost (s : State) (t : Table) : Bool :=
  t.shards.any fun sh => decide (sh.state ≠ 4) && sh.copies.all fun c => s.retired (24 + c.1)

/-- The tables a slot card reads through GATHER that wait for a lost shard. -/
def State.lostTables (s : State) (c : List Byte) : List Table :=
  if cardOp c = 9 then [] else (s.namedTables c).filterMap fun i => (s.table i).filter s.lost

/-- The DPAs that a card and its operators name (R319 step 7). -/
def State.cardDpas (s : State) (c : List Byte) : List Nat :=
  (cardStarts c).map (fun x => x.2.1) ++ (s.namedOps c).flatMap fun o => [o.out, o.in0, o.in1, o.in2, o.in3].map fun x => x.dpa

/-- The first retired I/O chiplet that a card needs (R327): all paths to a peer of its Comet ranges lead over ports of retired chiplets (log entry 195). -/
def State.lostChiplet (s : State) (c : List Byte) : Option Nat :=
  (s.cardDpas c).findSome? fun a => if regionOf a ≠ .comet then none else
    (s.winFor a).bind fun w => ((s.cht.chart.constell.getD {}).peers.find? fun p => decide (p.part = w.2.peer)).bind fun p =>
      if p.paths.all fun x => s.retired (36 + x.1 / 8) then p.paths.head?.map fun x => x.1 / 8 else none

/-- The first retired domain a card needs that no variant covers (R288, R327): its kind and index. No variant covers an I/O chiplet (R287). -/
def State.needsRetired (s : State) (c : List Byte) : Option Result :=
  if s.covered? then (s.lostChiplet c).map fun k => { status := 8, detail := 3, count := k }
  else match (bitList 24 (s.cardTiles c)).find? fun t => s.retired t with
    | some t => some { status := 8, detail := 1, count := t }
    | none => match s.lostTables c with
      | t :: _ => match (t.shards.flatMap fun sh => sh.copies.map fun x => x.1).find? fun m => s.retired (24 + m) with
        | some m => some { status := 8, detail := 2, count := m }
        | none => none
      | [] => (s.lostChiplet c).map fun k => { status := 8, detail := 3, count := k }

/-- The input ranges whose loss R478 checks. -/
def State.inputs (s : State) (c : List Byte) : List Nat :=
  let o := ((pipeOf c).bind fun p => s.ops[p.1]?).getD {}
  let pick (off chart : Nat) : Nat := if leAt c off 8 = 0 then chart else leAt c off 8
  match cardOp c with
  | 0x01 | 0x03 | 0x04 => [pick 24 o.in0.dpa, pick 32 o.in1.dpa]
  | 0x02 => [pick 24 o.in0.dpa, o.in1.dpa]
  | 0x05 | 0x11 => [leAt c 16 8]
  | 0x07 => [leAt c 24 8]
  | _ => []

/-- Whether an address lies in a cache die. -/
def inCache (a : Nat) : Bool :=
  match regionOf a with
  | .cache _ => true
  | _ => false

/-- Whether the scope of a FENCE card holds an entry (R318, R325). -/
def inFence (f e : Entry) : Bool :=
  if leAt f.card 16 1 % 2 = 0 then decide (e.deck = f.deck) else decide (e.part = f.part)

/-- Movers in use: cards dealt that move data through hub W (R325). -/
def State.moving (s : State) : Nat :=
  (s.tally.entries.filter fun x => x.2.state = 2 && !x.2.finished && [5, 6, 9, 0x0D].contains x.2.opcode).length

/-- The context of a CHECK card (R318): hub and context. -/
def checkCtx (c : List Byte) : Nat × Nat := (leAt c 16 1 % 2, leAt c 16 1 / 2 % 8)

/-- Whether the slots of a card are kept for a hunt (R473): on a hunted tile only the first suspect runs, and alone. -/
def State.huntHolds (s : State) (seq : Nat) (e : Entry) : Bool :=
  (bitList 24 (s.get F.FLT_HANG_HUNT)).any fun t =>
    bit (s.cardTiles e.card) t &&
    (!(s.tally.entries.find? (fun x => x.2.suspect && decide (x.2.state ≠ 3) && bit (s.cardTiles x.2.card) t)).any (fun x => decide (x.1 = seq)) ||
     decide (s.get F.FLT_DOM0_STATE t ≠ 0) ||
     s.tally.entries.any fun x => x.2.state = 2 && x.2.pipe.isSome && bit (s.cardTiles x.2.card) t)

/-- Whether an ACCEPTED card may be dealt now, slots aside (R316, R325, R342, R362, R365). A TABLE_DEFINE without a hand is a hand in flight in its transit:
it waits while 16 are (R358, R361; DESIGN CHOICE, log entry 197). -/
def State.eligible (s : State) (seq : Nat) (e : Entry) : Bool :=
  e.state = 1 && e.acked && e.visible && !e.finished && decide (s.deckState e.deck ≠ 0) &&
  (!cardOrder e.card || s.allDone seq fun x => decide (x.deck = e.deck)) &&
  s.allDone seq (fun x => x.opcode = 0x0C && decide (x.deck = e.deck)) &&
  (match e.opcode with
   | 0x0C => s.allDone seq (inFence e)
   | 0x0A | 0x0B => s.allDone seq fun x => decide (x.hand = e.hand)
   | 0x05 | 0x06 | 0x09 => decide (s.moving < 16)
   | 0x07 =>
     let (h, k) := checkCtx e.card
     decide (s.get F.CHK_STATUS_STATE h k ≠ 1) &&
     !s.tally.entries.any fun x => x.2.state = 2 && x.2.opcode = 7 && !x.2.finished && checkCtx x.2.card = (h, k)
   | 0x0D => decide (s.moving < 16) && s.cht.load = none && (match s.cht.sw with
     | some w => decide (w.slot ≠ s.standbySlot)
     | none => true)
   | 0x0F => decide (e.hand ≠ 0) || decide (s.inFlight < 16)
   | 0x0E => s.cht.sw = none && !s.tally.entries.any fun x => x.2.state = 2 && x.2.opcode = 0x0E && !x.2.finished
   | _ => true)

/-- A card that completes in the next settle without running (R321, R288, R478). -/
def State.endUnrun (s : State) (seq : Nat) (r : Result) : State :=
  s.mapEnt seq fun e => { e with finished := true, runs := [r] }

/-- One card offered to the transit, in Tally order. -/
def State.dealOne (s : State) (seq : Nat) : State :=
  let e := s.ent seq
  if !s.eligible seq e then s
  else match (if e.chart = s.cht.epoch then none else s.checkCard e.deck e.card e.desc true), s.needsRetired e.card with
    | some r, _ => s.endUnrun seq r
    | none, some r => s.endUnrun seq r
    | none, none =>
      if e.warm && (s.inputs e.card).any inCache then s.endUnrun seq { status := 6, detail := 5 }
      else if !(s.lostTables e.card).isEmpty then s.set F.TAL_STAT_WAIT_TABLE 1
      else match pipeOf e.card with
        | some p =>
          if s.huntHolds seq e then s
          else match s.freeSlot p with
            | some j => s.setEnt seq { e with state := 2, transit := s.get F.TRN_NUM, pipe := some j }
            | none => s
        | none => s.setEnt seq { e with state := 2, transit := s.get F.TRN_NUM }

/-- Whether the Dealer deals in this transit (R272, R295, R353, R354, R459, R465). -/
def State.dealOn (s : State) : Bool :=
  s.inService && decide (s.get F.FLT_STAT_STATE ≤ 1) && !s.boot.folded && !s.boot.halt && !s.isSet F.TRN_STAT_STAGING &&
  decide (s.get F.TRN_STAT_SYNC ≠ 4) && !s.tally.copyWait && s.dealing && !s.unrecovered

/-- DEAL_PHASE (R261, R353): 0.5 µs after the tick, and once the copy is acknowledged, eligible cards in Tally order take the transit's slots and starts;
WAIT_TABLE says what a phase that deals found (R340). -/
def execDealPhase (s : State) : Res :=
  live s fun s =>
    if s.boot.halt || s.get F.TRN_STAT_PHASE ≠ 0 || s.tally.copyWait then s
    else
      let s1 := (s.atLeast (s.trn.tick + 500)).set F.TRN_STAT_PHASE 1
      if s1.dealOn then (s1.entsIn 1).foldl State.dealOne (s1.set F.TAL_STAT_WAIT_TABLE 0) else s1

end Sys2Proof.Machine
end

