-- ==== Sys2Proof/Machine/HandOps.lean ====
section
/-! DEFINITION. The shared operations of movers (R306, R307, R325) and of hands (R360 to R367). -/

namespace Sys2Proof.Machine

/-! ## Moving bytes -/

/-- What a copy engine of the part reads: memory's bytes with their poison, or what the host's memory returned. `none`: the
range is not mapped. -/
structure Piece where
  bytes : List Byte
  bad   : Nat → Bool

/-- Bytes of a write cut at 256-byte boundaries of the address (R50: a packet carries up to 256 bytes): offset and length. -/
def chunks (a n : Nat) : List (Nat × Nat) :=
  if n = 0 then [] else
    (List.range ((a + n - 1) / 256 - a / 256 + 1)).map fun k =>
      let lo := max a ((a / 256 + k) * 256)
      let hi := min (a + n) ((a / 256 + k) * 256 + 256)
      (lo - a, hi - lo)

/-- The packets of a range whose read is refused (R52, R90). -/
def State.refusedReads (s : State) (a n : Nat) : List (Nat × Nat) :=
  match s.region a with
  | .hbm _ | .cache _ => if s.dieDownAt a then chunks a n else []
  | _ => (chunks a n).filter fun c => s.readRefused (a + c.1) c.2

/-- Whether no packet of a range's read is refused. -/
def State.rangeReadable (s : State) (a n : Nat) : Bool := (s.refusedReads a n).isEmpty

/-- A range of memory read by an engine of the part (R225, R230); data of the host window is the host's. -/
def State.fetchRange (s : State) (a n : Nat) (host : List Byte) (hostBad : Bool) : Option Piece :=
  match s.region a with
  | .hbm _ | .cache _ => if s.mapped a n && !s.dieDownAt a then some ⟨s.readBytes a n, fun i => s.poisoned ((a + i) / 64)⟩ else none
  | .host | .comet => if s.rangeReadable a n && !s.peerGone a then some ⟨slice host 0 n, fun _ => hostBad⟩ else none
  | .unmapped => none

/-- One write into HBM or a cache die as its MBD or die commits it (R231, R242): the mirror copy follows a mirrored primary. -/
def State.commitWrite (s : State) (a : Nat) (bs : List Byte) (bad : Nat → Bool) : State :=
  let pois (f : Nat → Bool) (i : Nat) : Bool := (List.range 64).any fun k => f (64 * i + k)
  let s1 := s.store a bs (pois bad) []
  (s1.mirrorRuns a bs.length).foldl (fun t r =>
    t.store r.2.2 (slice bs r.1 r.2.1) (pois fun k => bad (r.1 + k)) []) s1

/-- Whether a Sky write to a range is refused at its reader (R242) or by its source's station (R226). -/
def State.writeRefused (s : State) (a n : Nat) : Bool :=
  !s.mapped a n || s.inMirror a n || s.inHotPrefix a n

/-- Whether a write packet of an engine is refused (R87): by a die that is down (R90), or by its address. -/
def State.moveRefused (s : State) (a n : Nat) : Bool := s.dieDownAt a || s.writeRefused a n

/-- A write packet that an engine at a site brings to its reader (R52, R242): it rides there, is committed, and goes on to the mirror copy. -/
def State.skyWrite (s : State) (site a : Nat) (bs : List Byte) (bad : Nat → Bool) : State :=
  let d := (s.siteOf a).getD 63
  let s1 := (s.rides site d 0 bs.length).commitWrite a bs bad
  (s1.mirrorRuns a bs.length).foldl (fun t r => t.rides d ((t.siteOf r.2.2).getD 63) 0 r.2.1) s1

/-- A write packet of an engine refused by its reader: its station moves the counter of the reason; one that no site serves does not leave (R226). -/
def State.skyTurned (s : State) (site a n : Nat) (f : Fld) : State :=
  match s.siteOf a with
  | some d => s.rides site d 0 n (some f)
  | none => s

/-- A read of an engine that ends at its first refused packet: its reader moves the counter of the reason, its source REFUSED (R87, R90); one that no site
serves does not leave (R226). -/
def State.readTurned (s : State) (site a n : Nat) : State :=
  match (s.refusedReads a n).head? with
  | none => s
  | some c => match s.siteOf (a + c.1) with
    | some d => s.rides site d 1 c.2 (some (if s.dieDownAt a then F.SKY_DIE_DOWN_REJ else F.SKY_DECODE_REJ))
    | none => s

/-- The packets that bring a range of the part's memory to an engine (R52): read requests, and their responses; of a card's range in another partition
the requests are refused (R524), and so are those to a die that is down (R90). -/
def State.skyRead (s : State) (site seq a n : Nat) : State :=
  match s.region a with
  | .hbm _ | .cache _ =>
    if s.foreign seq a then (chunks a n).foldl (fun t c => match t.siteOf (a + c.1) with
      | some d => t.rides site d 1 c.2 (some F.SKY_PART)
      | none => t) s
    else if !s.mapped a n then s
    else if s.dieDownAt a then (chunks a n).foldl (fun t c => match t.siteOf (a + c.1) with
      | some d => t.rides site d 1 c.2 (some F.SKY_DIE_DOWN_REJ)
      | none => t) s
    else (chunks a n).foldl (fun t c => match t.siteOf (a + c.1) with
      | some d => (t.rides site d 1 c.2).rides d site 2 c.2
      | none => t) s
  | _ => s

/-- One write packet of an engine: what becomes of it, the bytes written and the reason of its refusal (R87, R90, R242). -/
def State.moveChunk (s : State) (site a : Nat) (p : Piece) (c : Nat × Nat) : State × Nat × List Nat :=
  if s.dieDownAt (a + c.1) then (s.skyTurned site (a + c.1) c.2 F.SKY_DIE_DOWN_REJ, 0, [3])
  else if s.writeRefused (a + c.1) c.2 then (s.skyTurned site (a + c.1) c.2 F.SKY_DECODE_REJ, 0, [1])
  else (s.skyWrite site (a + c.1) (slice p.bytes c.1 c.2) fun i => p.bad (c.1 + i), c.2, [])

/-- One write packet of an engine to the host window: handed to the link, or refused beyond the window's size in force (R306). -/
def State.hostChunk (s : State) (site a : Nat) (p : Piece) (c : Nat × Nat) : State × Nat × List Nat :=
  if s.readRefused (a + c.1) c.2 then (s.skyTurned site (a + c.1) c.2 F.SKY_DECODE_REJ, 0, [1])
  else ((s.rides site 42 0 c.2).emit (.hostWrite (s.hpa (a + c.1)) (slice p.bytes c.1 c.2) ((List.range c.2).any fun i => p.bad (c.1 + i))), c.2, [])

/-- Bytes written by an engine at a site, 256 at a time; how many bytes were written and the reasons of the packets refused (R87, R90, R242, R306). -/
def State.moveOut (s : State) (a : Nat) (p : Piece) (n : Nat) (site : Nat := 42) : State × Nat × List Nat :=
  let one (t : State) (c : Nat × Nat) : State × Nat × List Nat := if regionOf a = .host then t.hostChunk site a p c else t.moveChunk site a p c
  if regionOf a = .host && !s.linkUp then (s, 0, [])
  else (chunks a n).foldl (fun (acc : State × Nat × List Nat) c =>
      let r := one acc.1 c
      (r.1, acc.2.1 + r.2.1, acc.2.2 ++ r.2.2)) (s, 0, [])

/-- A range read for a card (R524). -/
def State.cardFetch (s : State) (seq a n : Nat) (host : List Byte) (hostBad : Bool) : Option Piece :=
  if s.foreign seq a then none else s.fetchRange a n host hostBad

/-- A card's packets refused for a reason, charged to it (R87, R327). -/
def State.meetsRefused (s : State) (seq why : Nat) (l : List Nat) : State :=
  let n := (l.filter fun r => decide (r = why)).length
  if n = 0 then s else s.meets seq { status := 4, detail := why, count := n }

/-- Bytes written for a card; how many were written. Its refused packets are charged to it: by their site's partition (R524), by their address
(R87, R242, R306), or by a die that is down (R90). -/
def State.cardOut (s : State) (seq a : Nat) (p : Piece) (n : Nat) (site : Nat := 42) : State × Nat :=
  let cs := chunks a n
  let out := cs.filter fun c => s.foreign seq (a + c.1)
  let r := if out.isEmpty then s.moveOut a p n site
    else (cs.filter fun c => !s.foreign seq (a + c.1)).foldl (fun (acc : State × Nat × List Nat) c =>
      let r := acc.1.moveOut (a + c.1) ⟨slice p.bytes c.1 c.2, fun i => p.bad (c.1 + i)⟩ c.2 site
      (r.1, acc.2.1 + r.2.1, acc.2.2 ++ r.2.2)) (out.foldl (fun t c => t.skyTurned site (a + c.1) c.2 F.SKY_PART) s, 0, [])
  ((r.1.meetsRefused seq 2 (out.map fun _ => 2)).meetsRefused seq 1 r.2.2 |>.meetsRefused seq 3 r.2.2, r.2.1)

/-- Whether an address lies in the host window's range while the link is down (R307). -/
def State.hostGone (s : State) (a : Nat) : Bool := decide (regionOf a = .host) && !s.linkUp

/-! ## Hands -/

/-- The bytes of a row in a mover's data, at the source stride. -/
def rowPiece (p : Piece) (off n : Nat) : List Byte × Bool :=
  (slice p.bytes off n, (List.range n).any fun i => p.bad (off + i))

/-- Whether two staged rows are the same row of a table. -/
def StagedRow.same (a b : StagedRow) : Bool := decide (a.table = b.table) && decide (a.row = b.row)

/-- Rows staged in a hand (R360): a row staged by an earlier HAND_WRITE, in Tally order, is replaced, one of a later HAND_WRITE stays. -/
def Hand.stage (h : Hand) (t : Table) (all : List StagedRow) : Hand :=
  let rows := all.filter fun r => !h.rows.any fun x => x.same r && decide (r.seq < x.seq)
  let old := h.rows.filter fun r => !rows.any r.same
  let shapes := if h.shapes.any fun x => decide (x.id = t.id) then h.shapes else h.shapes ++ [t]
  { h with rows := old ++ rows, shapes := shapes }

/-- A hand discarded or aborted: its slot is free (R359, R362, R365). -/
def State.dropHand (s : State) (h : Nat) : State := s.setHand h {}

/-- Whether an id of the directory in force belongs to another partition. -/
def State.moved (s : State) (part id : Nat) : Bool := (s.table id).any fun u => decide (u.part ≠ part)

/-- The first conflict of R362, as DETAIL and the table's id. -/
def State.conflict (s : State) (h : Hand) : Option (Nat × Nat) :=
  let changed (t : Table) : Bool := match s.table t.id with
    | none => true
    | some u => decide (u.fmt ≠ t.fmt) || decide (u.d ≠ t.d) || decide (u.stride ≠ t.stride) || decide (u.rows ≠ t.rows)
  let unserved (r : StagedRow) : Bool := match s.table r.table with
    | none => true
    | some u => !((u.stacksOf r.row).filter fun m => !s.retired (24 + m)).any fun m => r.held.contains m
  match h.shapes.find? changed with
  | some t => some (1, t.id)
  | none => match h.rows.find? unserved with
    | some r => some (2, r.table)
    | none =>
      match (h.shapes.find? fun t => s.moved h.part t.id).or (h.defs.find? fun t => decide (t.part ≠ h.part) || s.moved h.part t.id) with
      | some t => some (3, t.id)
      | none => match h.defs.find? fun t => !s.tableOk t with
        | some t => some (4, t.id)
        | none => none

/-- The cache layout of a tile (R221, R280). -/
def State.layoutOf (s : State) (t : Nat) : Layout :=
  ((section_ [] s.cht.chart.layouts s.variant)[t]?).getD {}

/-- Bytes of a table's hot prefix, at the table's STRIDE (R241). -/
def Table.hotBytes (t : Table) : Nat := min t.hotRows t.rows * t.stride * 16

/-- Where a tile's row cache keeps a table's hot prefix, where the cache has room for it (R221, R241): the tables that name the tile one behind the other
by id (DESIGN CHOICE, log entry 101). -/
def State.hotAt (s : State) (t : Nat) (tb : Table) : Option Nat :=
  let l := s.layoutOf t
  let off := (s.mems.tables.filter fun u => decide (u.id < tb.id) && bit u.hotTiles t).foldl (fun n u => n + u.hotBytes) 0
  if off + tb.hotBytes ≤ l.rowMib * 1048576 then some (0x100000000000 + t * cacheSize + l.rowBase + off) else none

/-- The READY flags that `p` keeps, a flag being `tile * 4096 + table` (R241). -/
def State.keepReady (s : State) (p : Nat → Bool) : State :=
  { s with mems := { s.mems with ready := s.mems.ready.filter p } }

/-- READY flags that clear when a hand commits: of every tile in HOT_TILES for every table the hand wrote (R363). -/
def State.clearReady (s : State) (h : Hand) : State :=
  s.keepReady fun k => !h.shapes.any fun t => decide (k % 4096 = t.id) && (match s.table t.id with
    | some u => bit u.hotTiles (k / 4096)
    | none => true)

/-- A solo descriptor taken out. -/
def State.dropSolo (s : State) (q : Nat) : State :=
  { s with hands := { s.hands with solo := s.hands.solo.filter fun p => decide (p.1 ≠ q) } }

/-- A flip added for the next tick. -/
def State.addFlip (s : State) (f : Nat) : State := { s with hands := { s.hands with flips := s.hands.flips ++ [f] } }

/-- The hand in slot `h` committed by the card `seq` (R362, R363): its flip falls at the next tick. -/
def State.commitHand (s : State) (seq h : Nat) (hd : Hand) : State :=
  ((s.setHand h { hd with state := 3, commitT := s.get F.TRN_NUM + 1, ended := seq }).clearReady hd).addFlip h

/-- A descriptor staged by the TABLE_DEFINE `seq` (R361): in its hand, or in a hand of its own. -/
def State.stageDef (s : State) (seq hand : Nat) (d : Table) : State :=
  if hand = 0 then { s with hands := { s.hands with solo := s.hands.solo ++ [(seq, d)] } }
  else match s.handOf hand with
    | some (h, hd) => s.setHand h { hd with defs := (hd.defs.filter fun u => decide (u.id ≠ d.id)) ++ [d] }
    | none => s

/-- A commit decided for the hand in slot `h` (R362): committed with its flip at the next tick, or discarded. -/
def State.decideCommit (s : State) (seq : Nat) (h : Nat) (hd : Hand) : State :=
  match s.conflict hd with
  | some (d, t) => (s.dropHand h).mapEnt seq fun e => { e with runs := [{ status := 0x0B, detail := d, count := t }], value := 0 }
  | none => (s.commitHand seq h hd).mapEnt seq fun e => { e with commit := true, value := s.get F.TRN_NUM + 1 }

/-- Flips of this settle that give a table a new version. -/
def State.flipsOf (s : State) (id : Nat) : Nat :=
  (s.hands.flips.filter fun f =>
    if 32 ≤ f then s.hands.solo.any fun x => decide (x.1 + 32 = f) && decide (x.2.id = id)
    else let h := tabGet ({} : Hand) s.hands.slots f
      (h.shapes ++ h.defs).any fun t => decide (t.id = id)).length

/-- The VERSION a table has once the flips decided so far and one more are made (R237, R367): 1 for an id new to the directory. -/
def State.nextVersion (s : State) (id : Nat) : Nat :=
  (match s.table id with
    | some t => t.version
    | none => 0) + s.flipsOf id + 1

/-- The conflict of a TABLE_DEFINE without a hand (R361, R362). -/
def State.soloConflict (s : State) (part : Nat) (t : Table) : Option Nat :=
  if t.part ≠ part || s.moved part t.id then some 3 else if s.tableOk t then none else some 4

/-- The hand changes a settle decides (R351 step 1), in Tally order. -/
def State.decideHands (s : State) : State :=
  (s.entsIn 2).foldl (fun t q =>
    let e := t.ent q
    if !e.finished then t
    else match e.opcode with
      | 0x0A => match t.handOf e.hand with
        | some (h, hd) => t.decideCommit q h hd
        | none => t
      | 0x0B => match t.handOf e.hand with
        | some (h, _) => t.dropHand h
        | none => t
      | 0x0F => match t.hands.solo.find? fun p => decide (p.1 = q) with
        | some (_, d) =>
          match t.soloConflict e.part d with
          | some c =>
            (t.dropSolo q).mapEnt q fun e => { e with runs := [{ status := 0x0B, detail := c, count := d.id }], value := 0 }
          | none => (t.setValue q (t.nextVersion d.id)).addFlip (32 + q)
        | none => t
      | _ => t) s

/-- A descriptor put into a directory (R237): VERSION 1 for a new id, else one more than the version in force. -/
def putTable (ts : List Table) (t : Table) : List Table :=
  let v := match ts.find? fun u => decide (u.id = t.id) with
    | some u => u.version + 1
    | none => 1
  let rest := ts.filter fun u => decide (u.id ≠ t.id)
  (rest.filter fun u => decide (u.id < t.id)) ++ [{ t with version := v }] ++ rest.filter fun u => decide (t.id < u.id)

/-- VERSION raised for a table a hand wrote. -/
def bumpTable (ts : List Table) (id : Nat) : List Table :=
  ts.map fun u => if u.id = id then { u with version := u.version + 1 } else u

/-- READY flags of a table dropped: its row caches are filled again (R241). -/
def State.unready (s : State) (id : Nat) : State := s.keepReady fun k => decide (k % 4096 ≠ id)

/-- READY flags dropped of the hot prefixes that no longer stand where they stood in `was`: they are copied again (R241). -/
def State.keepPlaces (s was : State) : State :=
  let place (t : State) (k : Nat) : Option Nat := (t.table (k % 4096)).bind fun u => t.hotAt (k / 4096) u
  s.keepReady fun k => place s k = place was k

/-- A descriptor in force from this tick, remembered as defined by a TABLE_DEFINE (R237, R297). -/
def State.define (s : State) (t : Table) : State :=
  let s1 := ((s.setTables (putTable s.mems.tables t)).unready t.id).keepPlaces s
  { s1 with cht := { s1.cht with defined := keyPut s1.cht.defined t.id } }

/-- One flip at its tick (R362 to R364): versions, descriptors, redirections; a later hand's row replaces an earlier one's, and a hand left without rows
is free (R372). -/
def State.flip (s : State) (f : Nat) : State :=
  if 32 ≤ f then
    match s.hands.solo.find? fun p => decide (p.1 + 32 = f) with
    | some (q, d) => (s.dropSolo q).define d
    | none => s
  else
    let hd := tabGet {} s.hands.slots f
    let was := (hd.shapes ++ hd.defs).filterMap fun t => s.table t.id
    let s1 := s.setTables (hd.shapes.foldl (fun ts t => bumpTable ts t.id) s.mems.tables)
    let s2 := hd.defs.foldl State.define s1
    let newer (r : StagedRow) : Bool := hd.rows.any fun x => decide (x.table = r.table) && decide (x.row = r.row)
    let due := s.hands.flips.dropWhile fun x => decide (x ≠ f)
    let older := s2.hands.slots.filterMap fun p =>
      if p.1 = f || p.2.state ≠ 3 || due.contains p.1 then some p
      else
        let rows := p.2.rows.filter fun r => !newer r
        if rows.isEmpty then none else some (p.1, { p.2 with rows := rows })
    let s3 := { s2 with hands := { s2.hands with slots := older } }
    s3.setHand f (if hd.rows.isEmpty then {} else { hd with was := was })

/-- A flip taken back whose commit record is not in the mirror (R366): the written tables' versions, and the descriptors it replaced. -/
def State.undoFlip (s : State) (hd : Hand) : State :=
  let old (id : Nat) : Option Table := hd.was.find? fun u => decide (u.id = id)
  s.setTables (s.mems.tables.filterMap fun u =>
    if hd.defs.any fun d => decide (d.id = u.id) then old u.id
    else if hd.shapes.any fun d => decide (d.id = u.id) then some { u with version := u.version - 1 } else some u)

/-- Shards whose primary copy is lost and whose mirror lives: the mirror is the new primary (R242, "Lost primary"). -/
def State.swapPrimaries (s : State) : State :=
  let f (sh : Shard) : Shard :=
    if sh.state = 2 && sh.lost = 1 && decide (sh.mirror ≠ 0xFF) && !s.retired (24 + sh.mirror) then
      { sh with engine := sh.mirror, base := sh.mbase, mirror := sh.engine, mbase := sh.base, lost := 2 }
    else sh
  s.setTables (s.mems.tables.map fun t => { t with shards := t.shards.map f })

/-- Every flip decided in the last settle (R262). -/
def State.flipAll (s : State) : State :=
  let s1 := s.hands.flips.foldl State.flip s
  { s1 with hands := { s1.hands with flips := [] } }

/-- The committed redirection of a row, if a hand still holds one (R363). -/
def State.redirect (s : State) (table row : Nat) : Option StagedRow :=
  s.hands.slots.findSome? fun p =>
    if p.2.state = 3 && decide (p.2.commitT ≤ s.get F.TRN_NUM) then p.2.rows.find? fun r => decide (r.table = table) && decide (r.row = row)
    else none

/-- The address of a row in each of its copies (R238, R239). -/
def Table.rowAddrs (t : Table) (row : Nat) : List Nat :=
  match t.shards.find? fun sh => decide (sh.firstRow ≤ row) && decide (row < sh.firstRow + sh.nrows) with
  | some sh => sh.copies.map fun c => c.2 + (row - sh.firstRow) * t.stride * 16
  | none => []

/-- Bytes of write-back left in a hand (R364, R372). -/
def Hand.left (h : Hand) : Nat := if h.state = 3 then h.rows.foldl (fun n r => n + r.data.length * r.held.length) 0 else 0

/-- A staged row written back into its table's copies on stack `m` (R364); a Sweep write-back under way yields (R235). -/
def State.backRow (m : Nat) (s : State) (r : StagedRow) : State :=
  match s.table r.table with
  | some u => (u.rowAddrs r.row).foldl (fun t a => if a / stackSize = m then t.store a r.data (fun _ => r.poison) [] else t) s
  | none => s

/-- The first `n` rows of a list that stack `m` holds, and what is left of the list once `m` has written them back: a row that no stack holds any more is
gone. -/
def backRows (m : Nat) : Nat → List StagedRow → List StagedRow × List StagedRow
  | 0, rs => ([], rs)
  | _ + 1, [] => ([], [])
  | n + 1, r :: rs =>
    if r.held.contains m then
      let x := backRows m n rs
      let rest := r.held.filter fun k => decide (k ≠ m)
      (r :: x.1, if rest.isEmpty then x.2 else { r with held := rest } :: x.2)
    else
      let x := backRows m (n + 1) rs
      (x.1, r :: x.2)

/-- The MBD of stack `m` writes back the first `n` rows it holds of the hand in slot `h` (R364): their redirections end, and the hand is free when no row
is left. -/
def State.backOn (s : State) (h m n : Nat) : State :=
  let hd := tabGet {} s.hands.slots h
  let x := backRows m n hd.rows
  (x.1.foldl (State.backRow m) s).setHand h (if x.2.isEmpty then {} else { hd with rows := x.2 })

/-- Rows whose staged copies on retired stacks are lost: the copies on the others serve (R366). -/
def State.liveRows (s : State) (rows : List StagedRow) : List StagedRow :=
  rows.filterMap fun r =>
    let held := r.held.filter fun m => !s.retired (24 + m)
    if held.isEmpty then none else some { r with held := held }

/-- Whether the hand in slot `h` is writing back: its flip has been made (R364). -/
def State.writingBack (s : State) (h : Nat) : Bool :=
  let hd := tabGet ({} : Hand) s.hands.slots h
  hd.state = 3 && decide (hd.commitT ≤ s.get F.TRN_NUM)

/-- How many of the rows that stack `m` holds fit into `bytes` of write-back. -/
def backFit (m : Nat) : List StagedRow → Nat → Nat
  | [], _ => 0
  | r :: rs, bytes =>
    if !r.held.contains m then backFit m rs bytes
    else if r.data.length ≤ bytes then backFit m rs (bytes - r.data.length) + 1 else 0

/-- The write-back of a transit (R364): each stack has written back a number of rows of each hand that the spec leaves free, at 100 GB/s at most (log
entry 196). -/
def State.backSome (s : State) : State :=
  (s.hands.slots.map fun p => p.1).foldl (fun t h =>
    if !t.writingBack h then t
    else (List.range 12).foldl (fun u m =>
      let rows := (tabGet ({} : Hand) u.hands.slots h).rows
      if u.retired (24 + m) || !rows.any fun r => r.held.contains m then u
      else
        let k := u.draw 20
        k.2.backOn h m (k.1 % (backFit m rows (100 * u.periodNs) + 1))) t) s

end Sys2Proof.Machine
end

