-- ==== Sys2Proof/Machine/Runs.lean ====
section
/-! DEFINITION. Meanings of the dealt cards' commands: the start of each card's run (R317, R324, R325, R359 to R365), and the
mover's end (R325). A card's command acts on a card that has been dealt; its completion follows in a settle phase. -/

namespace Sys2Proof.Machine

/-- NOP (R325): nothing to do; DONE at its transit's settle. -/
def execNop (seq : Nat) (s : State) : Res :=
  live s fun s => s.startRun seq 0x00 fun _ t => t.finish seq

/-- INFER (R324): its slot runs with the card's addresses and row count. -/
def execInfer (seq : Nat) (s : State) : Res :=
  live s fun s => s.startRun seq 0x01 fun _ t => t

/-- GATHER (R246, R324): its operator slot runs with the card's bag list and output. -/
def execGather (seq : Nat) (s : State) : Res :=
  live s fun s => s.startRun seq 0x02 fun _ t => t

/-- SCORE (R213, R324): its operator slot runs with the card's queries, candidates and output. -/
def execScore (seq : Nat) (s : State) : Res :=
  live s fun s => s.startRun seq 0x03 fun _ t => t

/-- TOPK (R218, R324): its operator slot runs with the card's scores, indices, K and outputs. -/
def execTopk (seq : Nat) (s : State) : Res :=
  live s fun s => s.startRun seq 0x04 fun _ t => t

/-- A read of host memory sent out for a mover (R306). -/
def State.askHost (s : State) (a n : Nat) : State :=
  if regionOf a = .host && s.linkUp then s.emit (.hostRead (s.hpa a) n) else s

/-- COPY (R325): hub W's mover begins it. -/
def execCopy (seq : Nat) (s : State) : Res :=
  live s fun s => s.startRun seq 0x05 fun e t =>
    t.askHost (leAt e.card 16 8) (leAt e.card 32 8)

/-- FILL (R318, R325): hub W's mover begins it. -/
def execFill (seq : Nat) (s : State) : Res :=
  live s fun s => s.startRun seq 0x06 fun _ t => t

/-- HAND_BEGIN (R359, R367): its reservation was made at acceptance. -/
def execHandBegin (seq : Nat) (s : State) : Res :=
  live s fun s => s.startRun seq 0x08 fun e t => (t.setValue seq (leAt e.card 16 4)).finish seq

/-- Bytes a HAND_WRITE's source spans (R318, R360). -/
def moveLen (c : List Byte) (t : Table) : Nat :=
  (leAt c 24 4 - 1) * (16 * (if leAt c 40 2 = 0 then t.stride else leAt c 40 2)) + t.packed

/-- HAND_WRITE (R360): hub W's mover begins to stage the rows. -/
def execHandWrite (seq : Nat) (s : State) : Res :=
  live s fun s => s.startRun seq 0x09 fun e t =>
    match t.table (leAt e.card 16 2) with
    | some u => t.askHost (leAt e.card 32 8) (moveLen e.card u)
    | none => t

/-- HAND_COMMIT (R362): decided in step 1 of the settle of its transit. -/
def execHandCommit (seq : Nat) (s : State) : Res :=
  live s fun s => s.startRun seq 0x0A fun _ t => t.finish seq

/-- HAND_ABORT (R365): the hand is freed in the settle that makes the card DONE. -/
def execHandAbort (seq : Nat) (s : State) : Res :=
  live s fun s => s.startRun seq 0x0B fun _ t => t.finish seq

/-- FENCE (R325): every card of its scope is DONE when it is dealt. -/
def execFence (seq : Nat) (s : State) : Res :=
  live s fun s => s.startRun seq 0x0C fun _ t => t.finish seq

/-- TABLE_DEFINE (R361, R367): its descriptor staged in its hand, or in a hand of its own, whose RESULT the settle decides with it. -/
def execTableDefine (seq : Nat) (s : State) : Res :=
  live s fun s => s.startRun seq 0x0F fun e t =>
    let d := tableOf e.desc
    ((t.setValue seq (t.nextVersion d.id)).finish seq).stageDef seq e.hand d

/-- TELEMETRY_SNAPSHOT (R325, R328): its captures follow. -/
def execTelemetrySnapshot (seq : Nat) (s : State) : Res :=
  live s fun s => s.startRun seq 0x10 fun _ t => t.setValue seq 0

/-! ## The mover's end -/

/-- A write by the mover ended: bytes written, packets refused or unreachable (R307, R327, R329). -/
def State.moverWrote (s : State) (seq dst n : Nat) (p : Piece) : State :=
  if s.hostGone dst then ((s.meets seq { status := 5, detail := 2 }).setValue seq 0).finish seq
  else
    let r := s.cardOut seq dst p n
    (r.1.setValue seq r.2).finish seq

/-- A source the mover could not read (R90, R226, R307, R391, R524). -/
def State.moverLost (s : State) (seq src n : Nat) : State :=
  let s1 := if s.hostGone src then s.meets seq { status := 5, detail := 2 }
    else if s.peerGone src && !s.foreign seq src then s.meets seq { status := 5, detail := 3 }
    else s.meets seq { status := 4, detail := if s.foreign seq src then 2 else if s.dieDownAt src then 3 else 1, count := (chunks src n).length }
  (s1.setValue seq 0).finish seq

/-- The rows a HAND_WRITE stages (R360): each with the stacks that hold its shard's copies. -/
def stagedRows (t : Table) (first n stride : Nat) (p : Piece) (seq : Nat := 0) : List StagedRow :=
  (List.range n).map fun i =>
    let d := rowPiece p (i * stride) t.packed
    { table := t.id, row := first + i, data := d.1, poison := d.2, held := t.stacksOf (first + i), seq := seq }

/-- The packets that bring staged rows to the stacks that hold their copies (R360). -/
def State.rowsRide (s : State) (l : List StagedRow) : State :=
  l.foldl (fun t r => r.held.foldl (fun u k => u.rides 42 (24 + k) 0 r.data.length) t) s

/-- Whether packets that hub W has numbered earlier stand uncommitted at the site of a range (R77, R91). -/
def State.behindOwn (s : State) (a : Nat) : Bool := (s.siteOf a).any fun d => !(s.uncommitted 42 d).isEmpty

/-- Whether a mover's last packet cannot be committed yet, since hub W's earlier packets to the sites it reads and writes are not (R91). -/
def State.moverBehind (s : State) (e : Entry) : Bool :=
  match e.opcode with
  | 0x05 => s.behindOwn (leAt e.card 16 8) || s.behindOwn (leAt e.card 24 8)
  | 0x06 => s.behindOwn (leAt e.card 16 8)
  | 0x09 => s.behindOwn (leAt e.card 32 8)
  | _ => false

/-- MOVER_DONE (R325): the last byte of a COPY, a FILL or a HAND_WRITE is committed, behind hub W's earlier packets (R91; log entry 95). `host` is what host or remote memory
returned for the source, `bad` its poison, `ecc` the errors found in the part's own memory. -/
def execMoverDone (seq : Nat) (host : List Byte) (bad : Bool) (ecc : List EccHit) (s : State) : Res :=
  live s fun s =>
    let e := s.ent seq
    let c := e.card
    if !(e.state = 2 && e.started && !e.finished) || s.moverBehind e then s
    else match e.opcode with
      | 0x05 =>
        let (src, dst, n) := (leAt c 16 8, leAt c 24 8, leAt c 32 8)
        let s1 := (s.eccIn src n 0 ecc).skyRead 42 seq src n
        match (if s1.hostGone src then none else s1.cardFetch seq src n host bad) with
        | some p => s1.moverWrote seq dst n p
        | none => s1.moverLost seq src n
      | 0x06 =>
        let (dst, n) := (leAt c 16 8, leAt c 24 8)
        s.moverWrote seq dst n ⟨(List.range n).map fun i => (slice c (32 + (dst + i) % 8) 1).headD 0, fun _ => false⟩
      | 0x09 =>
        match s.table (leAt c 16 2), s.handOf e.hand with
        | some t, some (h, hd) =>
          let (first, n, src) := (leAt c 20 4, leAt c 24 4, leAt c 32 8)
          let st := 16 * (if leAt c 40 2 = 0 then t.stride else leAt c 40 2)
          let len := moveLen c t
          let s1 := (s.eccIn src len 0 ecc).skyRead 42 seq src len
          (match (if s1.hostGone src then none else s1.cardFetch seq src len host bad) with
           | some p => (((s1.rowsRide (stagedRows t first n st p seq)).setHand h (hd.stage t (stagedRows t first n st p seq))).setValue seq n).finish seq
           | none => s1.moverLost seq src len)
        | _, _ => (s.meets seq { status := 6, detail := 2 }).finish seq
      | _ => s

/-- WRITE_BACK_DONE (R364, R372): an MBD has written back all the rows it holds of the hand in slot `h`, the MBDs in the order of their stacks (log entry
196); after the last the hand's shadow and its slot are free. -/
def execWriteBackDone (h : Nat) (s : State) : Res :=
  live s fun s =>
    if !s.writingBack h then s
    else
      let hd := tabGet {} s.hands.slots h
      let rows := s.liveRows hd.rows
      let s1 := s.setHand h { hd with rows := rows }
      match (List.range 12).find? fun m => rows.any fun r => r.held.contains m with
      | some m => s1.backOn h m rows.length
      | none => s.dropHand h

end Sys2Proof.Machine
end

