-- ==== Sys2Proof/Machine/CometOps.lean ====
section
/-! DEFINITION. Comet's shared operations: frames (R381 to R384), ports (R383), sessions, numbering, acknowledgement and paths (R385 to
R387), and the end of what a peer is asked (R389 to R391). -/

namespace Sys2Proof

open Machine

/-- The 32 header bytes (R382). -/
def Frame.head (f : Frame) : List Byte :=
  natLe 32 (packBits [(0, 4, f.ver), (4, 4, f.kind), (8, 4, f.op), (12, 4, f.space), (16, 12, f.srcPart), (32, 12, f.dstPart),
    (48, 13, f.len), (64, 32, f.seq), (96, 32, f.ack), (128, 52, f.addr), (192, 16, f.rtag), (208, 2, f.aop),
    (210, 3, f.atype), (216, 1, b2n f.ackOk), (217, 1, b2n f.gateway), (218, 1, b2n f.poison), (224, 16, f.epoch),
    (240, 16, f.aux)])

/-- The payload bytes a frame carries. The LEN of a READ is the length asked for, and a READ carries none (R389). -/
def Frame.body (f : Frame) : List Byte := if f.kind = 0 && (f.op = 1 || f.op = 6) then [] else slice f.payload 0 f.len

/-- The PCRC the header and the payload call for (R381). -/
def Frame.pcrcOf (f : Frame) : Nat := crc32c (f.head ++ f.body)

/-- Frame bytes from the destination address to the FCS, padded up to the Ethernet minimum (R381). -/
def Frame.wire (f : Frame) : Nat := max 60 (14 + (if f.tagged then 4 else 0) + 32 + f.body.length + 4) + 4

/-- The transmit class (R383): 0 Trump, 1 Response, 2 Ordered, 3 Bulk. -/
def Frame.cls (f : Frame) : Nat :=
  if f.kind ≠ 0 then 0
  else match f.op with
    | 0 | 1 | 3 => 2
    | 5 | 6 => 3
    | 2 => if f.space = 0 then 1 else 3
    | _ => 1

/-- The PCP of a class (R383). -/
def framePcp (c : Nat) : Nat := if c = 0 then 7 else if c = 1 then 6 else if c = 2 then 5 else 1

/-- Whether no reserved bit or code stands in the header (R382, R384). -/
def Frame.codesOk (f : Frame) : Bool :=
  decide (f.rsv = 0) && decide (f.kind ≤ 4) && decide (f.op ≤ 7) && (f.kind = 0 || f.op = 0) && decide (f.space ≤ 8) &&
  decide (f.len ≤ 4096) && decide (f.atype ≤ 4)

/-- Whether a TIMING frame carries its sender's departure time (R402): an answer, whose TIME and TRANSIT are 0, carries an arrival time. -/
def Frame.departs (f : Frame) : Bool := decide (f.kind = 3) && !(leAt f.payload 0 8 = 0 && leAt f.payload 8 8 = 0)

/-- A frame as it leaves: T1 or T3 of a TIMING frame is the time base at its departure (R402). -/
def Frame.leaving (f : Frame) (t : Nat) : Frame :=
  if f.departs then
    let g := { f with payload := slice f.payload 0 17 ++ natLe 8 t ++ slice f.payload 25 7 }
    { g with pcrc := g.pcrcOf }
  else f

end Sys2Proof

namespace Sys2Proof.Machine

/-! ## The constellation in force -/

/-- The CONSTELLATION section in force; an empty one where the chart has none. -/
def State.con (s : State) : Constell := s.cht.chart.constell.getD {}

/-- The peer of a PART_ID. -/
def State.peerDef (s : State) (peer : Nat) : Option PeerDef := s.con.peers.find? fun p => decide (p.part = peer)

/-- The session with a peer. -/
def State.sess (s : State) (peer : Nat) : Sess := tabGet {} s.cmt.sess peer

/-- The session with a peer replaced. -/
def State.setSess (s : State) (peer : Nat) (x : Sess) : State := { s with cmt := { s.cmt with sess := tabPut {} s.cmt.sess peer x } }

/-- A port beside its registers. -/
def State.port (s : State) (p : Nat) : CPort := tabGet {} s.cmt.ports p

/-- A port replaced. -/
def State.setPort (s : State) (p : Nat) (x : CPort) : State := { s with cmt := { s.cmt with ports := tabPut {} s.cmt.ports p x } }

/-- Whether a port's link is up: UP or DEGRADED (R399, R407). -/
def State.portUp (s : State) (p : Nat) : Bool := s.get F.CMT_PORT_STATE p = 2 || s.get F.CMT_PORT_STATE p = 3

/-- The paths of a peer (R386, R401). -/
def State.paths (s : State) (peer : Nat) : List (Nat × Nat) := ((s.peerDef peer).map fun p => p.paths).getD []

/-- The local and the remote port of a path. -/
def State.pathAt (s : State) (peer i : Nat) : Nat × Nat := (s.paths peer).getD i (0, 0)

/-- Whether path `i` of a peer is UP: its port is, and it has not failed since (R386). -/
def State.pathUp (s : State) (peer i : Nat) : Bool :=
  decide (i < (s.paths peer).length) && s.portUp (s.pathAt peer i).1 && !(s.sess peer).failed.contains i

/-- The paths of a peer that are UP. -/
def State.upPaths (s : State) (peer : Nat) : List Nat := (List.range (s.paths peer).length).filter (s.pathUp peer)

/-! ## Ports -/

/-- A frame put behind the others of its class. -/
def CPort.put (x : CPort) (f : Frame) : CPort :=
  match f.cls with
  | 0 => { x with q0 := x.q0 ++ [f] }
  | 1 => { x with q1 := x.q1 ++ [f] }
  | 2 => { x with q2 := x.q2 ++ [f] }
  | _ => { x with q3 := x.q3 ++ [f] }

/-- The next frame in strict class priority (R383), and the queues without it. -/
def CPort.next (x : CPort) : Option (Frame × CPort) :=
  match x.q0, x.q1, x.q2, x.q3 with
  | f :: r, _, _, _ => some (f, { x with q0 := r })
  | [], f :: r, _, _ => some (f, { x with q1 := r })
  | [], [], f :: r, _ => some (f, { x with q2 := r })
  | [], [], [], f :: r => some (f, { x with q3 := r })
  | [], [], [], [] => none

/-- The last sending of a numbered frame noted (R385). -/
def Sess.sentNow (x : Sess) (f : Frame) (t : Nat) : Sess :=
  { x with tx := x.tx.map fun e => if e.f.space = f.space && decide (e.f.seq = f.seq) then { e with sentAt := t } else e }

/-- The egress ceiling taken at a quiet window (R483). -/
def State.applyEgress (s : State) : State := { s with cmt := { s.cmt with shape := s.get F.GRD_LIMITS_EGRESS } }

/-- What the egress ceiling leaves to a port, in Gbit/s (R483): its part of the lanes of all UP ports. How long its frames but Trump frames wait for it is timing
(log entry 213). -/
def State.egressShare (s : State) (p : Nat) : Nat :=
  let lanes := ((List.range 32).filter s.portUp).map fun q => s.get F.CMT_PORT_LANES q
  s.cmt.shape * s.get F.CMT_PORT_LANES p / lanes.sum

/-- The port starts its next frame when none is on the wire (R383). T3 of an exchange is the departure of its frame (R402). -/
def State.portPump (s : State) (p : Nat) : State :=
  let x := s.port p
  if x.cur.isSome || !s.portUp p then s
  else match x.next with
    | none => s
    | some (f, y) =>
      let g := f.leaving s.now
      let s0 := { s with cmt := { s.cmt with egress := s.cmt.egress + g.wire } }
      let s1 := (s0.setPort p { y with cur := some g }).add F.CMT_PORT_TX_BYTES g.wire p
      let s2 := if f.kind = 0 || f.kind = 4 then s1.setSess f.dstPart ((s1.sess f.dstPart).sentNow f s1.now) else s1
      let s3 := if f.departs && s2.cmt.asked = some (leAt f.payload 17 8) then { s2 with cmt := { s2.cmt with asked := some s2.now } } else s2
      s3.emit (.frame p g)

/-- The cumulative point of a space of a peer, which reverse frames acknowledge (R385): it stays below a read whose response has not left. -/
def Sess.cum (x : Sess) (space : Nat) : Nat :=
  let taken := if space = 0 then x.rxCum else (tabGet 0 x.bulkCum space + 0xFFFFFFFF) % 2 ^ 32
  (x.owed.filter fun o => decide (o.1 = space)).foldl (fun c o => if aheadMod 32 o.2.1 c then c else (o.2.1 + 0xFFFFFFFF) % 2 ^ 32) taken

/-- A frame made ready for a path (R381, R382): addresses, tag, EtherType, parts, epoch, the acknowledgement of the reverse space, PCRC. -/
def State.seal (s : State) (peer path : Nat) (f : Frame) : Frame :=
  let p := s.pathAt peer path
  let x := s.sess peer
  let g := { f with
    dmac := (((s.peerDef peer).map fun (d : PeerDef) => d.mac).getD 0 + p.2) % 2 ^ 48
    smac := (s.get F.CMT_ID_MAC_BASE + p.1) % 2 ^ 48
    tagged := s.con.vlan
    pcp := if s.con.vlan then framePcp f.cls else 0
    vid := if s.con.vlan then s.con.vid else 0
    etype := s.cmt.etype
    srcPart := s.con.partId
    dstPart := peer
    epoch := s.mgt.boots % 65536
    ackOk := f.kind = 1 || (f.kind = 0 && x.up)
    ack := if f.kind = 1 || (f.kind = 0 && x.up) then x.cum f.space else 0 }
  { g with pcrc := g.pcrcOf }

/-- A frame queued on the port of a path (R383). -/
def State.sendOn (s : State) (peer path : Nat) (f : Frame) : State :=
  let p := (s.pathAt peer path).1
  let s1 := s.setPort p ((s.port p).put (s.seal peer path f))
  s1.portPump p

/-- The lowest unacknowledged ordered SEQ; the next one where none is. -/
def Sess.low (x : Sess) : Nat :=
  match x.tx.find? fun e => !e.bulk && !e.acked with
  | some e => e.f.seq
  | none => x.txNext

/-- HELLO on a path (R387): the lowest unacknowledged ordered SEQ, the cumulative point, the epoch. A side that lost its numbering and its points says
SEQ 0 and the point 2^32 - 2, which no side that holds them has (DESIGN CHOICE, log entry 177). -/
def State.sayHello (s : State) (peer path : Nat) : State :=
  let x := s.sess peer
  let told := if x.blank then (0, 0xFFFFFFFE) else (x.low, x.cum 0)
  let body := natLe 16 (packBits [(0, 32, told.1), (32, 32, told.2), (64, 16, s.mgt.boots % 65536)])
  let f : Frame := { kind := 2, len := 16, payload := body }
  (s.sendOn peer path f).bump F.CMT_HELLO

/-- Bulk spaces restarted at 0 (R387): what was sent and not acknowledged waits to be numbered again. -/
def Sess.restartBulk (x : Sess) : Sess :=
  { x with bulkCum := [], bulkHeld := [], bulkNext := []
           tx := x.tx.filter fun e => !e.bulk
           wait := (x.tx.filter fun e => e.bulk && !e.acked) ++ x.wait
           owed := x.owed.filter fun o => decide (o.1 = 0) }

/-- Whether a HELLO's SEQ and point are those of a side that has lost what it held. -/
def helloBlank (low cum : Nat) : Bool := decide (low = 0) && decide (cum = 0xFFFFFFFE)

/-- HELLO sent on a path of its own accord: an answer is awaited there. -/
def State.hail (s : State) (peer path : Nat) : State :=
  let x := s.sess peer
  (s.setSess peer { x with hailed := keyPut x.hailed path }).sayHello peer path

/-- An ACK frame for a space (R385); it goes on the space's path, or the ordered one. -/
def State.sendCometAck (s : State) (peer space : Nat) : State :=
  let x := s.sess peer
  let path := if space ≠ 0 && s.pathUp peer (space - 1) then some (space - 1) else x.ord
  match path with
  | some p => s.sendOn peer p { kind := 1, space := space }
  | none => s

/-! ## Numbering -/

/-- An ACK for a space whose cumulative point has moved since it was `old`. -/
def State.ackMoved (s : State) (peer space old : Nat) : State :=
  if (s.sess peer).cum space = old then s else s.sendCometAck peer space

/-- A response has left (R385): the read it answers is committed once all its responses have, and is acknowledged then. -/
def State.responseLeft (s : State) (f : Frame) : State :=
  let x := s.sess f.dstPart
  if f.kind = 0 && (f.op = 2 || f.op = 7) then
    let s1 := s.setSess f.dstPart { x with owed := x.owed.filter fun o => !(o.2.2.1 = f.rtag && decide (o.2.2.2 = f.addr)) }
    (((x.owed.map fun o => o.1).eraseDups).foldl (fun t k => t.ackMoved f.dstPart k (x.cum k)) s1)
  else s

/-- Unacknowledged frames of a space. -/
def Sess.unacked (x : Sess) (space : Nat) : Nat := (x.tx.filter fun e => !e.acked && decide (e.f.space = space)).length

/-- One waiting frame numbered and sent, where its space has room and a path is UP (R385, R386); `none` where it waits on. -/
def State.number1 (s : State) (peer : Nat) (e : CTx) : Option State :=
  let x := s.sess peer
  if !x.up then none
  else if e.bulk then
    let ups := s.upPaths peer
    match ups[x.stripe % ups.length]? with
    | none => none
    | some p =>
      if 4096 ≤ x.unacked (p + 1) then none
      else
        let n := tabGet 0 x.bulkNext (p + 1)
        let f := { e.f with space := p + 1, seq := n }
        let s1 := s.setSess peer { x with stripe := x.stripe + 1
                                          bulkNext := tabPut 0 x.bulkNext (p + 1) ((n + 1) % 2 ^ 32)
                                          tx := x.tx ++ [{ e with f := f, sends := 1, sentAt := s.now, path := p }] }
        some (s1.sendOn peer p f)
  else match x.ord with
    | none => none
    | some p =>
      if 16384 ≤ x.unacked 0 then none
      else
        let f := { e.f with space := 0, seq := x.txNext }
        let s1 := s.setSess peer { x with txNext := (x.txNext + 1) % 2 ^ 32
                                          tx := x.tx ++ [{ e with f := f, sends := 1, sentAt := s.now, path := p }] }
        some (s1.sendOn peer p f)

/-- Waiting frames numbered in order while they can be. -/
def State.cometDrain (s : State) (peer : Nat) : State :=
  let w := (s.sess peer).wait
  w.foldl (fun (t : State) e => match t.number1 peer e with
    | some u => u
    | none => t.setSess peer { t.sess peer with wait := (t.sess peer).wait ++ [e] })
    (s.setSess peer { s.sess peer with wait := [] })

/-- A frame given to the transport. -/
def State.cometPush (s : State) (peer : Nat) (e : CTx) : State :=
  (s.setSess peer { s.sess peer with wait := (s.sess peer).wait ++ [e] }).cometDrain peer

/-- A frame of the transmit store sent again (R385, R386). -/
def State.resend (s : State) (peer path : Nat) (e : CTx) : State :=
  let x := s.sess peer
  let s1 := s.setSess peer { x with tx := x.tx.map fun y =>
    if y.f.space = e.f.space && decide (y.f.seq = e.f.seq) then { y with sends := y.sends + 1, sentAt := s.now, path := path } else y }
  (s1.bump F.CMT_RETX).sendOn peer path e.f

/-! ## Cards and sites that a peer's answer concerns -/

/-- Whether a dealt card is active on a site in the transit (R391): a slot card on its tiles, and on the memory sites whose engines work for it; an
unscheduled card on hub W. -/
def State.activeOn (s : State) (site seq : Nat) (e : Entry) : Bool :=
  e.state = 2 && e.started && !e.finished &&
  (if site < 24 then e.pipe.isSome && bit (s.cardTiles e.card) site
   else if site < 36 then s.cmp.runs.any fun r => decide (r.seq = some seq) && r.jobs.any fun j => decide (24 + j.mbd = site)
   else decide (site = 42) && e.pipe.isNone)

/-- A status of every card active on a site (R391). -/
def State.chargeSite (s : State) (site : Nat) (r : Result) : State :=
  (s.tally.entries.filter fun p => s.activeOn site p.1 p.2).foldl (fun t p => t.meets p.1 r) s

/-- A refused or lost operation charged: to its bulk card, or to the cards active on its source site. -/
def State.chargeWork (s : State) (site : Nat) (work : Option Nat) (r : Result) : State :=
  match work with
  | some q => s.meets q r
  | none => s.chargeSite site r

/-- Whether anything of a COMET_BULK card is still under way with a peer. -/
def Sess.busyWith (x : Sess) (q : Nat) : Bool :=
  x.tx.any (fun e => e.work = some q && !e.acked) || x.wait.any (fun e => e.work = some q) ||
  x.reqs.any fun r => r.work = some q

/-- A COMET_BULK card none of whose bytes is under way any more has ended (R389). -/
def State.bulkEnd (s : State) (work : Option Nat) : State :=
  match work with
  | none => s
  | some q =>
    if (s.ent q).opcode = 0x11 && (s.ent q).started && !s.cmt.sess.any fun p => p.2.busyWith q then s.finish q else s

/-- Entries that need nothing more leave the transmit store: acknowledged, and an ATOMIC answered (R385). -/
def Sess.prune (x : Sess) : Sess :=
  { x with tx := x.tx.filter fun e => !e.acked || (e.f.kind = 0 && e.f.op = 3 && x.reqs.any fun r => decide (r.rtag = e.f.rtag)) }

/-- An acknowledgement of a space taken (R385): covered frames are released, waiting ones numbered. -/
def State.takeCometAck (s : State) (peer space ack : Nat) : State :=
  let x := s.sess peer
  let hit (e : CTx) : Bool := decide (e.f.space = space) && !e.acked && !aheadMod 32 e.f.seq ack
  let done := x.tx.filter hit
  let x1 := { x with tx := x.tx.map fun e => if hit e then { e with acked := true } else e
                     txCum := if space = 0 && aheadMod 32 ack x.txCum then ack else x.txCum }
  let s1 := (s.setSess peer x1.prune).cometDrain peer
  let s2 := done.foldl (fun t e => match e.f.op, e.work with
    | 5, some q => t.setValue q ((t.ent q).value + e.f.len)
    | _, _ => t) s1
  done.foldl (fun t e => t.bulkEnd e.work) s2

/-! ## Paths and sessions -/

/-- The chiplet that serves the peer follows the ordered path (R380). -/
def State.serveBy (s : State) (peer path : Nat) : State :=
  let c := 36 + (s.pathAt peer path).1 / 8
  { s with cmt := { s.cmt with server := (s.cmt.server.filter fun p => decide (p.1 ≠ peer)) ++ [(peer, c)] } }

/-- Every unacknowledged frame of the ordered space sent again on a path in SEQ order, each with its retransmissions counted anew (R386). -/
def State.resendOrdered (s : State) (peer path : Nat) : State :=
  let l := (s.sess peer).tx.filter fun e => !e.bulk && !e.acked
  let s1 := s.setSess peer { s.sess peer with tx := (s.sess peer).tx.map fun e => if e.bulk || e.acked then e else { e with sends := 0 } }
  l.foldl (fun t e => t.resend peer path e) s1

/-- The ordered space put on the lowest-numbered UP path (R386): a move is counted, HELLO goes out there and every unacknowledged
frame follows. -/
def State.pickOrd (s : State) (peer : Nat) : State :=
  let x := s.sess peer
  let now := (s.upPaths peer).head?
  if now = x.ord then s
  else match now with
    | none => s.setSess peer { x with ord := none, up := false, since := s.now }
    | some p =>
      let s1 := (s.setSess peer { x with ord := some p }).serveBy peer p
      if x.ord = none && x.tx.isEmpty then s1
      else ((s1.bump F.CMT_REROUTE).hail peer p).resendOrdered peer p

/-- A path fails (R386): counted; the ordered space moves, and the path's bulk frames go over the remaining paths. -/
def State.failPath (s : State) (peer i : Nat) : State :=
  let x := s.sess peer
  if x.failed.contains i then s
  else
    let s1 := ((s.setSess peer { x with failed := keyPut x.failed i }).bump F.CMT_PATH_FAIL).pickOrd peer
    let mine (e : CTx) : Bool := e.bulk && !e.acked && decide (e.path = i)
    let y := s1.sess peer
    let l := y.tx.filter mine
    let s2 := s1.setSess peer { y with tx := y.tx.map fun e => if mine e then { e with sends := 0 } else e }
    match (s2.upPaths peer).head? with
    | none => s2
    | some p => l.foldl (fun t e => t.resend peer p e) s2

/-- The peers a path of which runs over a port, with the path's number. -/
def State.pathsOver (s : State) (port : Nat) : List (Nat × Nat) :=
  s.con.peers.flatMap fun p => (p.paths.zipIdx.filter fun q => decide (q.1.1 = port)).map fun q => (p.part, q.2)

/-- A port's link has gone (R386, R399): its queues are emptied and every path over it fails; their frames move under R386. -/
def State.portGone (s : State) (port : Nat) : State :=
  (s.pathsOver port).foldl (fun t p => t.failPath p.1 p.2)
    (s.setPort port { s.port port with q0 := [], q1 := [], q2 := [], q3 := [], cur := none })

/-- An UP port that goes down counted over the part's life (R499). -/
def State.countDown (s : State) (port : Nat) : State := if s.portUp port then s.lifeAdd (0x4414 + 8 * port) 1 else s

/-- A port set to retrain from 8 lanes (R399). -/
def State.train (s0 : State) (port : Nat) : State :=
  let s := s0.countDown port
  ((s.set F.CMT_PORT_STATE 1 port).set F.CMT_PORT_LANES 0 port).setPort port { s.port port with attempt := 1, since := s.now }

/-- Whether the chart in force names a port in a path (R376). -/
def State.portNamed (s : State) (port : Nat) : Bool := !(s.pathsOver port).isEmpty

/-- The constellation of a chart that comes into force (R376, R401): PART_ID, named ports trained, unnamed ones OFF, sessions kept with the
peers that stay as they were. -/
def State.cometChart (s : State) (old : Option Constell) : State :=
  let c := s.con
  let s1 := (s.set F.CMT_STAT_PART_ID c.partId).set F.CMT_ID_PART_ID c.partId
  if old = s.cht.chart.constell then s1
  else
    let oldPeers := (old.getD {}).peers
    let same (p : PeerDef) : Bool := oldPeers.contains p
    let s2 := { s1 with cmt := { s1.cmt with
      sess := c.peers.foldl (fun t p => tabPut {} t p.part
        (if same p then s1.sess p.part else { since := s1.now, failed := List.range p.paths.length })) []
      server := c.peers.map fun p =>
        (p.part, 36 + (p.paths.getD (if same p then (s1.sess p.part).ord.getD 0 else 0) (0, 0)).1 / 8)
      bars := [] } }
    (List.range 32).foldl (fun t p =>
      let st := t.get F.CMT_PORT_STATE p
      if t.portNamed p then (if st = 0 then t.train p else t)
      else ((t.set F.CMT_PORT_STATE 0 p).set F.CMT_PORT_LANES 0 p).setPort p {}) s2

/-! ## What a part sends its peers -/

/-- The pack under way goes out as a WRITE (R389). -/
def State.flushPack (s : State) (peer : Nat) : State :=
  let x := s.sess peer
  match x.pack with
  | none => s
  | some p =>
    (s.setSess peer { x with pack := none }).cometPush peer
      { f := { op := 0, len := p.bytes.length, addr := p.addr, rtag := p.site, poison := p.bad, payload := p.bytes }
        took := some p.since, site := p.site }

/-- Bytes of a write joined to the pack under way, where they follow it, or begun as a new one (R389). -/
def State.packIn (s : State) (peer site a : Nat) (bs : List Byte) (bad : Bool) : State :=
  let fits := match (s.sess peer).pack with
    | some p => decide (p.site = site) && decide (p.addr + p.bytes.length = a) && p.bad == bad && decide (p.bytes.length + bs.length ≤ 4096)
    | none => false
  if fits then
    let x := s.sess peer
    s.setSess peer { x with pack := x.pack.map fun p => { p with bytes := p.bytes ++ bs } }
  else
    let t := s.flushPack peer
    t.setSess peer { t.sess peer with pack := some ⟨site, a, bs, bad, t.now⟩ }

/-- A range cut into runs of granules that are all poisoned or all clean, at most 4,096 bytes each: offset, length, poison (R382). -/
def poisonRuns (a n : Nat) (bad : Nat → Bool) : List (Nat × Nat × Bool) :=
  let ps := (granules a n).map fun g =>
    let lo := max a (g * 64)
    let k := min (a + n) (g * 64 + 64) - lo
    (lo - a, k, (List.range k).any fun i => bad (lo - a + i))
  (ps.foldl (fun (acc : List (Nat × Nat × Bool)) p => match acc with
    | q :: r => if q.2.2 == p.2.2 && decide (q.2.1 + p.2.1 ≤ 4096) then (q.1, q.2.1 + p.2.1, q.2.2) :: r else p :: acc
    | [] => [p]) []).reverse

/-- Bulk writes of a range to a peer (R389). -/
def State.bulkOut (s : State) (peer site raddr : Nat) (bs : List Byte) (bad : Nat → Bool) (gateway : Bool) (work : Option Nat) : State :=
  (poisonRuns raddr bs.length bad).foldl (fun t p =>
    t.cometPush peer
      { f := { op := 5, len := p.2.1, addr := raddr + p.1, rtag := site, poison := p.2.2, gateway := gateway, payload := slice bs p.1 p.2.1 }
        bulk := true, took := some t.now, site := site, work := work }) s

/-- A fresh RTAG: 64 and above, so that a refused write's RTAG, its source site, is none. -/
def Sess.freshTag (x : Sess) : Nat := 64 + x.nextTag % 65472

/-- A request sent with a fresh RTAG (R382, R389). -/
def State.ask (s : State) (peer : Nat) (r : CReq) (f : Frame) (bulk : Bool) : State :=
  let x := s.sess peer
  let tag := x.freshTag
  (s.setSess peer { x with nextTag := x.nextTag + 1, reqs := x.reqs ++ [{ r with rtag := tag, took := s.now }] }).cometPush peer
    { f := { f with rtag := tag }, bulk := bulk, took := some s.now, site := r.site, work := r.work }

/-- The bytes a gateway sends of its block (R398): the touched span rounded out to 4 KiB, zeros where nothing was stored. -/
def Gw.span (g : Gw) : Nat × Nat :=
  let offs := g.bytes.map fun p => p.1
  let lo := offs.foldl min 65535 / 4096 * 4096
  let hi := (offs.foldl max 0 / 4096 + 1) * 4096
  (lo, hi - lo)

/-- A gateway block sent as one bulk transfer (R398). -/
def State.gwSend (s : State) (g : Gw) : State :=
  let s1 := { s with cmt := { s.cmt with gws := s.cmt.gws.filter fun h => !(h.win = g.win && decide (h.site = g.site)) } }
  let sp := g.span
  let bs := (List.range sp.2).map fun i => BitVec.ofNat 8 (tabGet 0 g.bytes (sp.1 + i) - 1)
  (s1.bulkOut g.peer g.site (g.block + sp.1) bs (fun i => g.bad.contains ((g.block + sp.1 + i) / 64)) true none).bump F.CMT_GW_FLUSH

/-- A store through a gateway (R398): gathered in the block of its window and site; one outside the block, or for another peer than the
block's (R378), sends that first. -/
def State.gwStore (s : State) (win peer site a : Nat) (bs : List Byte) (bad : Bool) : State :=
  let block := a / 65536 * 65536
  let s0 := match s.cmt.gws.find? fun g => decide (g.win = win) && decide (g.site = site) && (decide (g.block ≠ block) || decide (g.peer ≠ peer)) with
    | some g => s.gwSend g
    | none => s
  let g : Gw := (s0.cmt.gws.find? fun g => decide (g.win = win) && decide (g.site = site)).getD ⟨win, site, block, [], [], s0.now, peer⟩
  let put := bs.zipIdx.foldl (fun l p => tabPut 0 l (a - block + p.2) (p.1.toNat + 1)) g.bytes
  let gs := granules a bs.length
  let g' := { g with bytes := put
                     bad := if bad then gs.foldl keyPut g.bad else g.bad }
  { s0 with cmt := { s0.cmt with gws := (s0.cmt.gws.filter fun h => !(h.win = win && decide (h.site = site))) ++ [g'] } }

end Sys2Proof.Machine
end

