-- ==== Sys2Proof/Machine/CometRx.lean ====
section
/-! DEFINITION. What a part does with what its peers send and with what its own agents send them: remote accesses (R379, R385), atomics and their
log (R390 to R396), responses (R389, R391), lost peers (R387), constellation barriers (R405, R406). -/

namespace Sys2Proof.Machine

/-! ## Barriers (R70, R71, R405) -/

/-- A local barrier context released (R70, R71): the next round begins. -/
def State.barRelease (s : State) (ctx : Nat) (aborted : Bool) : State :=
  let s1 := ((s.set F.SKY_BAR_STAT_ARRIVED 0 ctx).set F.SKY_BAR_STAT_ABORTED (b2n aborted) ctx).set F.SKY_BAR_STAT_ROUNDS
    (s.get F.SKY_BAR_STAT_ROUNDS ctx + 1) ctx
  let s2 := { s1 with sky := { s1.sky with released := keyPut s1.sky.released ctx
                                           broken := if aborted then keyPut s1.sky.broken ctx else keyDrop s1.sky.broken ctx } }
  s2.emit (.release ctx aborted)

/-- The valid constellation barrier entry of an index. -/
def State.conBar (s : State) (i : Nat) : Option ConBar := (s.con.bars[i]?).bind fun b => if b.valid then some b else none

/-- The entry that extends a local context (R405). -/
def State.extends_ (s : State) (ctx : Nat) : Option Nat :=
  (List.range s.con.bars.length).find? fun i => (s.conBar i).any fun b => decide (b.ctx = ctx)

/-- The round of an entry. -/
def State.cbar (s : State) (i : Nat) : CBar := tabGet {} s.cmt.bars i

/-- The round of an entry replaced. -/
def State.setCbar (s : State) (i : Nat) (b : CBar) : State := { s with cmt := { s.cmt with bars := tabPut {} s.cmt.bars i b } }

/-- A BARRIER frame of the entry's round (R405): 0 ARRIVE, 1 RELEASE, 2 ABORT. -/
def State.sendBar (s : State) (peer i kind : Nat) : State :=
  s.cometPush peer { f := { kind := 4, len := 8, payload := natLe 8 (packBits [(0, 8, i), (8, 8, kind), (16, 16, (s.cbar i).round)]) } }

/-- A round over at this part: its local participants released, after an ABORT whether any has arrived or not (R405), the next round begun. -/
def State.endRound (s : State) (i : Nat) (b : ConBar) (aborted : Bool) : State :=
  let c := s.cbar i
  let s1 := s.setCbar i { round := (c.round + 1) % 65536 }
  if c.mine || aborted then s1.barRelease b.ctx aborted else s1

/-- ROOT ends a round: RELEASE to each part it counted, or ABORT to every member (R405). -/
def State.rootEnd (s : State) (i : Nat) (b : ConBar) (aborted : Bool) : State :=
  let goal := if aborted then (s.con.peers.filter fun p => p.member).map fun p => p.part
    else (s.cbar i).arrived.filter fun p => decide (p ≠ s.con.partId)
  (goal.foldl (fun t p => t.sendBar p i (if aborted then 2 else 1)) s).endRound i b aborted

/-- ROOT counts a part's arrival (R405). -/
def State.rootCount (s : State) (i : Nat) (b : ConBar) (part : Nat) : State :=
  let c := s.cbar i
  let s1 := s.setCbar i { c with arrived := keyPut c.arrived part }
  if b.nmembers ≤ (s1.cbar i).arrived.length then s1.rootEnd i b false else s1

/-- Every local participant of an extended context has arrived (R405). -/
def State.conArrive (s : State) (i : Nat) (b : ConBar) : State :=
  let s1 := s.setCbar i { s.cbar i with mine := true }
  if b.root = s.con.partId then s1.rootCount i b s.con.partId else s1.sendBar b.root i 0

/-- A round aborted at this part (R71, R405, R406): told to ROOT, or ended by it. -/
def State.conAbort (s : State) (i : Nat) (b : ConBar) : State :=
  if b.root = s.con.partId then s.rootEnd i b true else s.sendBar b.root i 2

/-- A local context with arrivals pending aborted (R71): its participants are released with ABORTED; at a context that an entry extends,
ROOT releases every member so. -/
def State.barAbort (s : State) (ctx : Nat) : State :=
  if s.get F.SKY_BAR_STAT_ARRIVED ctx = 0 then s
  else match s.extends_ ctx with
    | none => s.barRelease ctx true
    | some i => match s.conBar i with
      | some b => s.conAbort i b
      | none => s.barRelease ctx true

/-- A BARRIER frame acted on (R405); one of another round is discarded. -/
def State.takeBar (s : State) (peer : Nat) (f : Frame) : State :=
  let (i, kind, round) := (leAt f.payload 0 1, leAt f.payload 1 1, leAt f.payload 2 2)
  match s.conBar i with
  | none => s
  | some b =>
    if round ≠ (s.cbar i).round then s
    else match kind with
      | 0 => if b.root = s.con.partId then s.rootCount i b peer else s
      | 1 => if b.root = peer then s.endRound i b false else s
      | 2 => if b.root = s.con.partId then s.rootEnd i b true else if b.root = peer then s.endRound i b true else s
      | _ => s

/-! ## Remote accesses -/

/-- The site a local address lies at. -/
def ownerSite (a : Nat) : Nat :=
  match regionOf a with
  | .hbm m => 24 + m
  | .cache t => t
  | _ => 63

/-- The check of a remote access (R379): 0 to go on, 3 ADDRESS, 4 PARTITION. A die in reset or fenced off refuses (R90), which the frame reports as
ADDRESS (DESIGN CHOICE, log entry 178). -/
def State.remoteCheck (s : State) (port a n : Nat) : Nat :=
  if !s.mapped a n || noWrite a || noWrite (a + (n - 1)) || decide (43 < ownerSite a) then 3
  else if s.part (36 + port / 8) ≠ s.part (ownerSite a) then 4
  else if s.isSet F.SKY_DLV_DIE_DIE_DOWN (ownerSite a) then 3 else 0

/-- A frame refused (R379, R391); a refusal that the Sky's own checks make counts at the station that makes it (R90). -/
def State.refuseFrame (s : State) (peer why : Nat) (f : Frame) : State :=
  let k := ownerSite f.addr
  let s0 := if why = 3 && decide (k < 44) && s.mapped f.addr 1 && !noWrite f.addr && s.isSet F.SKY_DLV_DIE_DIE_DOWN k then s.bump F.SKY_DIE_DOWN_REJ k else s
  (s0.bump F.CMT_REFUSED_IN).cometPush peer { f := { op := 7, addr := f.addr, rtag := f.rtag, aux := why } }

/-- A remote write (R379, R385): refused, or its bytes committed, whole granules poisoned where the frame says so (R382). -/
def State.remoteWrite (s : State) (peer port : Nat) (f : Frame) (ecc : List EccHit) : State :=
  let n := f.len
  let why := s.remoteCheck port f.addr n
  if why ≠ 0 then s.refuseFrame peer why f
  else if n = 0 then s
  else if s.writeRefused f.addr n then s.refuseFrame peer 3 f
  else
    let part := (granules f.addr n).filter fun g => decide (g * 64 < f.addr) || decide (f.addr + n < g * 64 + 64)
    let s1 := (ecc.filter fun h => part.contains h.granule).foldl (fun t h => t.eccHit 3 ecc h) s
    (chunks f.addr n).foldl (fun t c => t.skyWrite (36 + port / 8) (f.addr + c.1) (slice f.body c.1 c.2) fun _ => f.poison) s1

/-- An answer to a read that is yet to leave (R385). -/
def State.owe (s : State) (peer : Nat) (f : Frame) (addr : Nat) : State :=
  let x := s.sess peer
  s.setSess peer { x with owed := x.owed ++ [(f.space, f.seq, f.rtag, addr)] }

/-- A remote read answered (R379, R389): responses of up to 4,096 bytes, poisoned granules in frames of their own. The read is committed when they have
left; a repeated one (`fresh` false) has been taken before (R385). -/
def State.remoteRead (s : State) (peer port : Nat) (f : Frame) (n : Nat) (fresh : Bool) (ecc : List EccHit) : State :=
  let why := s.remoteCheck port f.addr n
  if why ≠ 0 then (if fresh then s.owe peer f f.addr else s).refuseFrame peer why f
  else
    let s1 := (chunks f.addr n).foldl (fun t c => (t.rides (36 + port / 8) (ownerSite f.addr) 1 c.2).rides (ownerSite f.addr) (36 + port / 8) 2 c.2)
      (s.eccIn f.addr n 0 ecc)
    let runs := if n = 0 then [(0, 0, false)] else poisonRuns f.addr n fun i => s1.poisoned ((f.addr + i) / 64)
    let bytes := s1.rdN f.addr n
    let s2 := if fresh then runs.foldl (fun t p => t.owe peer f (f.addr + p.1)) s1 else s1
    runs.foldl (fun t p => t.cometPush peer
      { f := { op := 2, len := p.2.1, addr := f.addr + p.1, rtag := f.rtag, poison := p.2.2, payload := slice bytes p.1 p.2.1 }
        bulk := decide (f.op = 6) }) s2

/-! ## Atomics (R390 to R396) -/

/-- Bytes of an atomic's operand by ATYPE (R382). -/
def atomicSize (atype : Nat) : Nat := if atype = 2 || atype = 3 then 8 else 4

/-- Whether `x` lies below `y` by ATYPE (R390). -/
def atomicLt (atype x y : Nat) : Bool :=
  match atype with
  | 1 => decide (toSigned 32 x < toSigned 32 y)
  | 3 => decide (toSigned 64 x < toSigned 64 y)
  | _ => decide (x < y)

/-- The value an atomic writes (R390), `none` where a CAS does not match. -/
def atomicNew (aop atype old a b : Nat) : Option Nat :=
  let w := 8 * atomicSize atype
  match aop with
  | 0 => some (if atype = 4 then ((decElem 0 old).add (decElem 0 a)).bits32 else (old + a) % 2 ^ w)
  | 1 => some (if atype = 4 then ((decElem 0 old).min2 (decElem 0 a)).bits32 else if atomicLt atype a old then a else old)
  | 2 => some (if atype = 4 then ((decElem 0 old).max2 (decElem 0 a)).bits32 else if atomicLt atype old a then a else old)
  | _ => if old = a then some b else none

/-- Where the atomic log of a stack lies (R393, R401); none for a stack that has none. -/
def State.logBase (s : State) (m : Nat) : Option Nat :=
  let o := s.con.logs.getD m 0
  if o = 0 then none else some (m * stackSize + o * 65536)

/-- The header of a source slot (R393): the watermark, `none` while no atomic of the source has been applied, and the ring's next place. -/
def State.logHead (s : State) (base slot : Nat) : Option Nat × Nat :=
  let h := s.rdN (base + 16 * slot) 16
  (if leAt h 4 1 = 1 then some (leAt h 0 4) else none, leAt h 8 4 % 4096)

/-- The ring entry of a sequence (R393): its status and old value. -/
def State.logFind (s : State) (base slot seq : Nat) : Option (Nat × Nat) :=
  (List.range 4096).findSome? fun i =>
    let e := s.rdN (base + 16384 + 65536 * slot + 16 * i) 16
    if leAt e 5 1 = 1 && leAt e 0 4 = seq then some (leAt e 4 1, leAt e 8 8) else none

/-- An atomic logged (R393): the ring entry, then the header; the watermark moves with an applied one. -/
def State.logPut (s : State) (base slot seq status old : Nat) : State :=
  let h := s.logHead base slot
  let w := if status = 0 then some seq else h.1
  let s1 := s.wrN (base + 16384 + 65536 * slot + 16 * h.2) (natLe 16 (packBits [(0, 32, seq), (32, 8, status), (40, 8, 1), (64, 64, old)]))
  s1.wrN (base + 16 * slot) (natLe 16 (packBits [(0, 32, w.getD 0), (32, 8, b2n w.isSome), (64, 32, (h.2 + 1) % 4096)]))

/-- An atomic applied and logged at its stack (R390, R393): its status and old value. A poisoned granule is not touched. -/
def State.applyAtomic (s : State) (base slot : Nat) (f : Frame) : (Nat × Nat) × State :=
  let n := atomicSize f.atype
  if s.poisoned (f.addr / 64) then ((1, 0), s.logPut base slot f.seq 1 0)
  else
    let old := leNat (s.rdN f.addr n)
    let s1 := s.logPut base slot f.seq 0 old
    match atomicNew f.aop f.atype old (leAt f.payload 0 n) (leAt f.payload 8 n) with
    | some v => ((0, old), s1.commitWrite f.addr (natLe n v) fun _ => false)
    | none => ((0, old), s1)

/-- The answer to an atomic (R382). -/
def State.atomicAnswer (s : State) (peer : Nat) (f : Frame) (r : Nat × Nat) : State :=
  s.cometPush peer { f := { op := 4, len := 8, addr := f.addr, rtag := f.rtag, aux := r.1, payload := natLe 8 r.2 } }

/-- An atomic at its target (R379, R394 to R396): refused, the chiplet's own check first; a duplicate answered from the log; else applied as new. -/
def State.remoteAtomic (s : State) (peer port : Nat) (f : Frame) (dup : Bool) (ecc : List EccHit) : State :=
  let n := atomicSize f.atype
  let slot := ((s.peerDef peer).map fun (p : PeerDef) => p.slot).getD 0xFFFF
  let why := s.remoteCheck port f.addr n
  match regionOf f.addr with
  | .hbm m => match s.logBase m with
    | some base =>
      if f.addr % n ≠ 0 || slot = 0xFFFF then s.refuseFrame peer 3 f
      else if why ≠ 0 then s.refuseFrame peer why f
      else if s.writeRefused f.addr n then s.refuseFrame peer 3 f
      else
        let k := 36 + port / 8
        let fresh := fun (t : State) => let r := ((((t.rides k (24 + m) 1 n).rides (24 + m) k 2 n).rides k (24 + m) 0 n).eccIn f.addr n 3 ecc).applyAtomic base slot f
                                        r.2.atomicAnswer peer f r.1
        if dup then match s.logFind base slot f.seq with
          | some r => (s.bump F.CMT_ATOMIC_DUP).atomicAnswer peer f r
          | none => match (s.logHead base slot).1 with
            | some w => if aheadMod 32 f.seq w then fresh s else (s.bump F.CMT_RESULT_LOST).atomicAnswer peer f (2, 0)
            | none => fresh s
        else fresh s
    | none => s.refuseFrame peer 3 f
  | _ => s.refuseFrame peer 3 f

/-! ## Responses at the requester -/

/-- POISON bits of a Sky packet of `n` bytes (R51, R230): one for each data flit that holds a poisoned byte. -/
def flitPoison (n : Nat) (bad : Nat → Bool) : Nat :=
  bitMask ((List.range (ceilDiv n 64)).filter fun i => (List.range (min 64 (n - 64 * i))).any fun k => bad (64 * i + k))

/-- The Sky response to a load of the Comet window (R389, R391). -/
def State.loadAnswer (s : State) (r : CReq) (bs : List Byte) (bad : Nat → Bool) : State :=
  s.send r.chip { dest := r.site, cls := 1, op := 2, len := r.pkt.len, addr := r.pkt.aux, rtag := r.pkt.rtag,
                  poison := flitPoison (r.pkt.len * 16) bad, payload := bs, agent := .chiplet }

/-- The reply to an atomic request (R390). -/
def State.atomicReply (s : State) (r : CReq) (status old : Nat) : State :=
  s.send r.chip { dest := r.dest, cls := 1, op := 3, len := 1, addr := r.box, agent := .chiplet
                  payload := natLe 16 (packBits [(0, 8, status), (32, 32, r.tag), (64, 64, old)]) }

/-- What a request's source is told when its peer refuses it or is lost (R391). -/
def State.reqFails (s : State) (r : CReq) (status : Nat) : State :=
  match r.kind with
  | .load | .gateway => s.loadAnswer r ((List.range (r.pkt.len * 16)).map Config.freeByte) fun _ => true
  | .atomic => s.atomicReply r status 0
  | .pull => s

/-- A request out of its session. -/
def Sess.dropReq (x : Sess) (rtag : Nat) : Sess := ({ x with reqs := x.reqs.filter fun r => decide (r.rtag ≠ rtag) }).prune

/-- The bytes of a request's responses, each at its own offset. -/
def CReq.data (r : CReq) (i : Nat) : Byte × Bool :=
  match r.got.find? fun g => decide (g.1 ≤ i) && decide (i < g.1 + g.2.1.length) with
  | some g => ((slice g.2.1 (i - g.1) 1).headD 0, g.2.2)
  | none => (0, false)

/-- How far a request's responses reach from byte `i` on without a gap. -/
def CReq.reach (r : CReq) (i : Nat) : Nat → Nat
  | 0 => i
  | k + 1 => match r.got.find? fun g => decide (g.1 ≤ i) && decide (i < g.1 + g.2.1.length) with
    | some g => r.reach (g.1 + g.2.1.length) k
    | none => i

/-- A READ_RESP taken (R389, R398): a pull places it at its offset as it arrives; a load is answered once it is whole. What has come before (a repeated
answer, R385) counts once. -/
def State.takeRead (s : State) (peer : Nat) (f : Frame) : State :=
  let x := s.sess peer
  match x.reqs.find? fun r => decide (r.rtag = f.rtag) && decide (r.kind ≠ .atomic) with
  | none => s
  | some r =>
    let off := f.addr - r.addr
    let known := decide (0 < f.body.length) && decide (off + f.body.length ≤ r.reach off r.got.length)
    let r1 := if known then r else { r with got := r.got ++ [(off, f.body, f.poison)] }
    let whole := decide (r.len ≤ r1.reach 0 r1.got.length)
    let x1 := { x with reqs := x.reqs.map fun q => if q.rtag = r.rtag then r1 else q }
    let s1 := s.setSess peer (if whole then x1.dropReq r.rtag else x1)
    match r.kind with
    | .pull => if known then s1 else
      let q := r.work.getD 0
      let m := s1.cardOut q (r.dst + off) ⟨f.body, fun _ => f.poison⟩ (min f.len (r.off - off)) r.chip
      let s2 := m.1.setValue q ((m.1.ent q).value + m.2)
      if whole then s2.bulkEnd r.work else s2
    | .load => if whole then s1.loadAnswer r1 ((List.range r.len).map fun i => (r1.data i).1) fun i => (r1.data i).2 else s1
    | .gateway =>
      if whole then s1.loadAnswer r1 ((List.range (r.pkt.len * 16)).map fun i => (r1.data (r.off + i)).1) fun i => (r1.data (r.off + i)).2
      else s1
    | .atomic => s1

/-- An ATOMIC_RESP taken (R390, R391). -/
def State.takeAtomic (s : State) (peer : Nat) (f : Frame) : State :=
  match (s.sess peer).reqs.find? fun r => decide (r.rtag = f.rtag) && decide (r.kind = .atomic) with
  | none => s
  | some r => (s.setSess peer ((s.sess peer).dropReq r.rtag)).atomicReply r f.aux (leAt f.payload 0 8)

/-- A REFUSE taken (R391): the agent or the site that the frame was sent for is told. An RTAG below 64 is a write's, its source site. -/
def State.takeRefuse (s : State) (peer : Nat) (f : Frame) : State :=
  let s0 := s.bump F.CMT_REFUSED_OUT
  let res : Result := { status := 4, detail := if f.aux = 4 then 2 else 1, count := 1 }
  match (s0.sess peer).reqs.find? fun r => decide (r.rtag = f.rtag) with
  | some r =>
    let s1 := (s0.setSess peer ((s0.sess peer).dropReq r.rtag)).reqFails r f.aux
    if r.kind = .atomic then s1 else (s1.chargeWork r.site r.work res).bulkEnd r.work
  | none => if f.rtag < 64 then s0.chargeSite f.rtag res else s0

/-! ## Frames in order -/

/-- A frame of a space committed (R385). An ATOMIC that may have been applied before the cumulative point was lost is looked up in the log (R388, R396). -/
def State.commitFrame (s : State) (peer port : Nat) (f : Frame) (ecc : List EccHit) : State :=
  if f.kind = 4 then s.takeBar peer f
  else match f.op with
    | 0 | 5 => s.remoteWrite peer port f ecc
    | 1 => s.remoteRead peer port f f.len true ecc
    | 6 => s.remoteRead peer port f (f.aux * 1024) true ecc
    | 2 => s.takeRead peer f
    | 3 => s.remoteAtomic peer port f (s.sess peer).doubt ecc
    | 4 => s.takeAtomic peer f
    | _ => s.takeRefuse peer f

/-- A duplicate (R385, R396): a write is discarded, a read answered again, an atomic answered from its log. -/
def State.duplicate (s : State) (peer port : Nat) (f : Frame) (ecc : List EccHit) : State :=
  if f.kind = 4 then s
  else match f.op with
    | 1 => s.remoteRead peer port f f.len false ecc
    | 6 => s.remoteRead peer port f (f.aux * 1024) false ecc
    | 3 => s.remoteAtomic peer port f true ecc
    | _ => s

/-- Whether a frame of the ordered space waits behind a read whose response has not left (R385): the read is not committed yet. A further read is taken and
answered behind it. -/
def Sess.blocked (x : Sess) (f : Frame) : Bool := (x.owed.any fun o => decide (o.1 = 0)) && !(f.kind = 0 && f.op = 1)

/-- Held frames of the ordered space committed while the next one is there and may be. -/
def State.commitHeld (s : State) (peer port : Nat) : Nat → State
  | 0 => s
  | n + 1 =>
    let x := s.sess peer
    match x.held.find? fun f => decide (f.seq = (x.rxCum + 1) % 2 ^ 32) with
    | none => s
    | some f =>
      if x.blocked f then s
      else ((s.setSess peer { x with rxCum := f.seq, held := x.held.filter fun g => decide (g.seq ≠ f.seq) }).commitFrame peer port f
        []).commitHeld peer port n

/-- A frame of the ordered space (R385): committed in its turn, held before that. -/
def State.takeOrdered (s : State) (peer port : Nat) (f : Frame) (ecc : List EccHit) : State :=
  let x := s.sess peer
  let d := subMod 32 f.seq x.rxCum
  if d = 0 || decide (2 ^ 31 ≤ d) then (s.duplicate peer port f ecc).sendCometAck peer 0
  else if 16384 < d then s
  else if d = 1 && !x.blocked f then
    (((s.setSess peer { x with rxCum := f.seq }).commitFrame peer port f ecc).commitHeld peer port x.held.length).ackMoved peer 0 (x.cum 0)
  else if x.held.any fun g => decide (g.seq = f.seq) then s
  else s.setSess peer { x with held := x.held ++ [f] }

/-- What follows the departure of a response (R385): the frames that waited for it are committed, as their port's frames are. -/
def State.goOn (s : State) (f : Frame) (port : Nat) : State :=
  if f.kind = 0 && (f.op = 2 || f.op = 7) then
    let x := s.sess f.dstPart
    let on := (x.ord.map fun i => (s.pathAt f.dstPart i).1).getD port
    (s.commitHeld f.dstPart on x.held.length).ackMoved f.dstPart 0 (x.cum 0)
  else s

/-- The cumulative point of a bulk space moved over what it holds. -/
def Sess.bulkAdvance (x : Sess) (space : Nat) : Nat → Sess
  | 0 => x
  | n + 1 =>
    let c := tabGet 0 x.bulkCum space
    if x.bulkHeld.contains (space, c) then
      ({ x with bulkCum := tabPut 0 x.bulkCum space ((c + 1) % 2 ^ 32)
                bulkHeld := x.bulkHeld.filter fun q => decide (q ≠ (space, c)) }).bulkAdvance space n
    else x

/-- A frame of a bulk space, committed as it comes (R385). -/
def State.takeBulk (s : State) (peer port : Nat) (f : Frame) (ecc : List EccHit) : State :=
  let x := s.sess peer
  let d := subMod 32 f.seq (tabGet 0 x.bulkCum f.space)
  if decide (2 ^ 31 ≤ d) || x.bulkHeld.contains (f.space, f.seq) then (s.duplicate peer port f ecc).sendCometAck peer f.space
  else if 16384 ≤ d then s
  else
    let x1 := { x with bulkHeld := x.bulkHeld ++ [(f.space, f.seq)] }
    ((s.setSess peer (x1.bulkAdvance f.space x1.bulkHeld.length)).commitFrame peer port f ecc).ackMoved peer f.space (x.cum f.space)

/-- A frame off a port (R375, R384): one not addressed to the port is not taken; one that fails a check is discarded and counted; the
acknowledgement it carries is taken, and then the frame itself. -/
def State.recvFrame (s : State) (port kind op : Nat) (f : Frame) (fcsOk : Bool) (act : Nat → State → State) : State :=
  if !s.portUp port || f.dmac ≠ (s.get F.CMT_ID_MAC_BASE + port) % 2 ^ 48 then s
  else
    let s1 := s.add F.CMT_PORT_RX_BYTES f.wire port
    let peer := f.srcPart
    if !fcsOk || f.etype ≠ s.cmt.etype || f.ver ≠ 1 || !f.codesOk || f.dstPart ≠ s.con.partId || (s.peerDef peer).isNone ||
       f.pcrc ≠ f.pcrcOf || (f.kind ≠ 2 && (s.sess peer).epoch ≠ some f.epoch) then s1.add F.CMT_PORT_DROP 1 port
    else if f.kind ≠ kind || f.op ≠ op then s1
    else act peer (if f.ackOk then s1.takeCometAck peer f.space f.ack else s1)

/-- A DATA frame (R385). -/
def State.recvData (s : State) (port op : Nat) (f : Frame) (fcsOk : Bool) (ecc : List EccHit) : State :=
  s.recvFrame port 0 op f fcsOk fun peer t => if f.space = 0 then t.takeOrdered peer port f ecc else t.takeBulk peer port f ecc

/-- HELLO (R387, R407): cumulative points and numbering restored, the path established, an answer sent to a greeting. A side that lost its numbering
continues it at the point held here, so its first HELLO, which cannot tell it, leaves that point as it is; such a HELLO opens a new session,
as a changed epoch does, whose bulk spaces restart (DESIGN CHOICE, log entry 177). A point outside what is unacknowledged acknowledges nothing. -/
def State.takeHello (s : State) (port peer : Nat) (f : Frame) : State :=
  let (low, cum, ep) := (leAt f.payload 0 4, leAt f.payload 4 4, leAt f.payload 8 2)
  let x := s.sess peer
  let blank := helloBlank low cum
  let mine := (s.pathsOver port).find? fun p => decide (p.1 = peer)
  let restart := decide (x.epoch ≠ some ep) || blank
  let x1 := if x.rxLost || (decide (x.epoch ≠ some ep) && !blank) then
      { x with rxCum := (low + 2 ^ 32 - 1) % 2 ^ 32, rxLost := false, doubt := x.doubt || x.rxLost, held := [], owed := [] }
    else if restart then { x with rxCum := x.cum 0, held := [], owed := [] }
    else x
  let x2 := { (if restart then x1.restartBulk else x1) with epoch := some ep }
  let x3 := if x.fresh then (if blank then { x2 with fresh := false } else { x2 with fresh := false, txNext := (cum + 1) % 2 ^ 32, txCum := cum }) else x2
  let mac := ((s.peerDef peer).map fun (p : PeerDef) => p.mac).getD 0
  let s1 := ((s.setSess peer { x3 with up := true, lost := false }).set F.CMT_PORT_PEER peer port).set F.CMT_PORT_PEER_PORT
    ((f.smac + 2 ^ 48 - mac) % 2 ^ 48) port
  let s2 := if x.lost then s1.set F.CMT_STAT_PEERS_LOST (s1.get F.CMT_STAT_PEERS_LOST - 1) else s1
  let s3 := match mine with
    | none => s2
    | some (_, i) =>
      let y := s2.sess peer
      let t := s2.setSess peer { y with failed := keyDrop y.failed i, hailed := keyDrop y.hailed i }
      let u := if y.hailed.contains i then t else t.sayHello peer i
      u.setSess peer { u.sess peer with blank := false }
  let s4 := s3.pickOrd peer
  let s5 := if x.fresh || blank || aheadMod 32 x.txCum cum || !aheadMod 32 x.txNext cum then s4 else s4.takeCometAck peer 0 cum
  let s6 := match restart, (s5.sess peer).ord with
    | true, some p => s5.resendOrdered peer p
    | _, _ => s5
  s6.cometDrain peer

/-! ## Lost peers -/

/-- Everything under way with a peer ends as UNREACHABLE (R391). -/
def State.dropPeer (s : State) (peer : Nat) : State :=
  let x := s.sess peer
  let gone : Result := { status := 5, detail := 3 }
  let s1 := s.setSess peer { x with tx := [], wait := [], reqs := [], pack := none, owed := [] }
  let s2 := { s1 with cmt := { s1.cmt with gws := s1.cmt.gws.filter fun g => decide (g.peer ≠ peer) } }
  let s3 := x.reqs.foldl (fun t r => let t := t.reqFails r 5
                                     if r.kind = .atomic then t else t.chargeWork r.site r.work gone) s2
  let frames := (x.tx.filter fun e => !e.acked) ++ x.wait
  let stores := frames.filter fun e => e.f.kind = 0 && (e.f.op = 0 || e.f.op = 5)
  let s4 := stores.foldl (fun t e => t.chargeWork e.site e.work gone) s3
  let s5 := match x.pack with
    | some p => s4.chargeSite p.site gone
    | none => s4
  let s6 := (s.cmt.gws.filter fun g => decide (g.peer = peer)).foldl (fun t g => t.chargeSite g.site gone) s5
  (frames.map (fun e => e.work) ++ x.reqs.map fun r => r.work).foldl (fun t w => t.bulkEnd w) s6

/-- A peer lost (R387, R406): counted, its fault source raised, what it was asked ended, its barrier rounds aborted. -/
def State.losePeer (s : State) (peer : Nat) : State :=
  let s1 := (s.setSess peer { s.sess peer with lost := true, up := false }).set F.CMT_STAT_PEERS_LOST (s.get F.CMT_STAT_PEERS_LOST + 1)
  let s2 := (s1.dropPeer peer).raise 244
  let member := (s2.peerDef peer).any fun p => p.member
  (List.range s2.con.bars.length).foldl (fun t i => match t.conBar i with
    | none => t
    | some b =>
      if b.root = t.con.partId && member then t.rootEnd i b true
      else if b.root = peer then t.endRound i b true else t) s2

/-! ## From the Sky to Comet -/

/-- A card whose traffic a chiplet carries noted (R400). -/
def State.uses (s : State) (work : Option Nat) (chip : Nat) : State :=
  match work with
  | some q => if s.cmt.users.contains (q, chip) then s else { s with cmt := { s.cmt with users := s.cmt.users ++ [(q, chip)] } }
  | none => s

/-- A Sky write to the Comet window taken into a chiplet's transmit store (R380, R389, R398), under the entry it was issued under (R378). -/
def State.cometStore (s : State) (p : Pkt) (under : Option (Nat × Win)) (work : Option Nat) : State :=
  match under with
  | none => s
  | some (i, w) =>
    let s1 := s.uses work p.dest
    let a := w.remote + (p.addr - w.base)
    if (s1.sess w.peer).lost then s1.chargeSite p.src { status := 5, detail := 3 }
    else (poisonRuns a (p.len * 16) fun k => bit p.poison (k / 64)).foldl (fun t r =>
      let bs := slice p.payload r.1 r.2.1
      if w.gateway then t.gwStore i w.peer p.src (a + r.1) bs r.2.2 else t.packIn w.peer p.src (a + r.1) bs r.2.2) s1

/-- A Sky read request to the Comet window (R380, R389, R398): a READ, or through a gateway a BULK_READ of the 4 KiB block around it. -/
def State.cometLoad (s : State) (p : Pkt) (under : Option (Nat × Win)) (work : Option Nat) : State :=
  match under with
  | none => s
  | some (_, w) =>
    let s1 := s.uses work p.dest
    let a := w.remote + (p.addr - w.base)
    let r : CReq := { rtag := 0, kind := .load, chip := p.dest, site := p.src, addr := a, len := p.len * 16, pkt := p }
    if (s1.sess w.peer).lost then (s1.reqFails r 5).chargeSite p.src { status := 5, detail := 3 }
    else if w.gateway then
      let b := a / 4096 * 4096
      s1.ask w.peer { r with kind := .gateway, addr := b, len := 4096, off := a - b }
        { op := 6, addr := b, gateway := true, aux := 4 } true
    else (s1.flushPack w.peer).ask w.peer r { op := 1, len := p.len * 16, addr := a } false

/-- Whether a chiplet serves an atomic request (R390): its DPA's peer, with ATOMIC permitted. -/
def State.atomicServed (s : State) (chip a : Nat) : Bool :=
  (s.winFor a).any fun w => w.2.atomic && decide (s.serving w.2.peer = some chip)

/-- An atomic request taken from mailbox 2 of a chiplet (R390). -/
def State.cometAtomic (s : State) (chip src : Nat) (body : List Byte) : State :=
  let a := leAt body 0 8 % 2 ^ 52
  if !s.atomicServed chip a then s.emit (.report src .chiplet none (.refused 1))
  else match s.winFor a with
    | none => s
    | some (_, w) =>
      let r : CReq := { rtag := 0, kind := .atomic, chip := chip, site := src, addr := w.remote + (a - w.base), len := 8
                        dest := leAt body 9 1 % 64, box := leAt body 10 1 % 64, tag := leAt body 12 4 }
      if (s.sess w.peer).lost then s.atomicReply r 5 0
      else (s.flushPack w.peer).ask w.peer r
        { op := 3, len := 16, addr := r.addr, aop := leAt body 8 1 % 4, atype := leAt body 8 1 / 4 % 8, payload := slice body 16 16 } false

/-- Whether every frame taken in from the Sky by time `t` has been acknowledged (R392). -/
def State.cometQuiet (s : State) (t : Nat) : Bool :=
  s.cmt.sess.all (fun p =>
    (p.2.tx.all fun e => e.acked || !e.took.any fun u => decide (u ≤ t)) &&
    (p.2.wait.all fun e => !e.took.any fun u => decide (u ≤ t)) &&
    (p.2.pack.all fun q => decide (t < q.since))) &&
  s.cmt.gws.all fun g => decide (t < g.since)

end Sys2Proof.Machine
end

