-- ==== Sys2Proof/Machine/Sky.lean ====
section
/-! DEFINITION. Meanings of the Sky's commands: injection, arbitration, deflection, bounded waits, accepting flags, acks and
retransmission, space restarts, fences (chapters "The Sky fabric" and "Delivery, ordering and fences"). -/

namespace Sys2Proof.Machine

/-- CHANNEL_FREE (R57, R66): the channel at place `ch` of the writer's map is free; the arbiter starts the next packets. -/
def execChannelFree (site ch : Nat) (s : State) : Res :=
  live s fun s =>
    match (s.txChans site)[ch]? with
    | none => s
    | some (n, _) => ((s.mapChan n fun c => { c with busy := false }).flags site).pump site

/-- PACKET_INJECT (R77, R78): an agent's request, refused at the station or numbered, stored and queued. An access of the Croupier to the host
window is refused as unmapped and counted in BLOCKED (R485). -/
def execPacketInject (site : Nat) (r : SendReq) (s : State) : Res :=
  live s fun s =>
    if 44 ≤ site then s
    else if r.agent = .croupier && (r.op = 0 || r.op = 1) && decide (regionOf r.addr = .host) then
      (s.add F.GRD_STAT_BLOCKED 1).report site r.agent r.work (.refused 1)
    else s.send site r

/-- The time a head has waited its class's `limit`. -/
def State.headDue (s : State) (site q cls limit : Nat) : State :=
  match ((s.stn site).headOf q cls).bind fun e => e.head with
  | some t => s.atLeast (t + limit)
  | none => s

/-- DEFLECTION_TIMEOUT (R61 to R63): the head has waited its threshold; a DEFL-2 head with a direct pair is counted in LIMIT, once (R76). -/
def execDeflectionTimeout (site q cls : Nat) (s : State) : Res :=
  live s fun s =>
    let s1 := s.headDue site q cls (deflectNs cls)
    match (s1.stn site).headOf q cls with
    | none => s1
    | some e =>
      if e.pkt.defl = 2 && s1.hasDirect site e.pkt.dest then
        if e.limit then s1 else (s1.mapHead site q cls fun e => { e with limit := true }).bump F.SKY_LIMIT site
      else if (s1.freeTo site e.pkt.dest).isEmpty then s1.deflect site q cls else s1.pump site

/-- RELAY_SEARCH (R62): one more search, of a head whose station has not found a relay. -/
def execRelaySearch (site q cls : Nat) (s : State) : Res :=
  live s fun s =>
    match (s.stn site).headOf q cls with
    | none => s
    | some e => if e.search then s.deflect site q cls else s

/-- BOUND_MISS (R60): the head has waited longer than its class bound; counted once for a packet. -/
def execBoundMiss (site q cls : Nat) (s : State) : Res :=
  live s fun s =>
    match (s.stn site).headOf q cls with
    | none => s
    | some e =>
      if e.missed then s
      else ((s.headDue site q cls (boundNs cls + 1)).mapHead site q cls fun e => { e with missed := true }).bump F.SKY_BOUND_MISS site cls

/-- ACCEPT_FLAG_PUBLISH (R64): the station's accepting flags go out on the Trump wires. -/
def execAcceptFlagPublish (site : Nat) (s : State) : Res :=
  live s fun s =>
    let s1 := s.flags site
    let x := s1.stn site
    s1.setStn site { x with pub0 := x.acc0, pub1 := x.acc1 }

/-- GUEST_PACKET_SUBMIT (R28): R55 steps 1 to 3, SRC the guest itself, DEST a present site other than the guest; a packet that
passes is numbered by the guest's station and queued; an ack goes out with VC 0 and DEFL 0 (R65). Steps 1 to 3 do not look at PCRC, and the station
builds the packet anew with a PCRC of its own (DESIGN CHOICE, log entry 207). -/
def execGuestPacketSubmit (g : Nat) (p : Pkt) (s : State) : Res :=
  live s fun s =>
    let site := 40 + g % 2
    if p.hcrc ≠ p.hcrcOf then s.bump F.SKY_HDR_CRC site
    else if 44 ≤ p.dest || 44 ≤ p.src then s.bump F.SKY_BAD_SITE site
    else if !p.formatOk then s.bump F.SKY_BAD_FMT site
    else if p.src ≠ site || p.dest = site || !s.present p.dest then s.bump F.SKY_BAD_SITE site
    else if p.op = 4 then
      ((((s.bump F.SKY_INJ_PKT site).bump F.SKY_INJ_BYTE site 0 p.wire)).enqueue site 0 { p with vc := 0, defl := 0 }.rehead).pump site
    else s.send site { dest := p.dest, cls := p.cls, op := p.op, len := p.len, addr := p.addr, aux := p.aux, rtag := p.rtag,
                       poison := p.poison, payload := p.payload, agent := .guest }

/-! ## Acks and retransmission -/

/-- The time an unacknowledged commit has waited 256 ns. -/
def State.ackDue (s : State) (site src : Nat) : State :=
  match (s.space src site).oldest with
  | some t => s.atLeast (t + 256)
  | none => s

/-- ACK_TIMER_EXPIRY (R83): 256 ns after the oldest unacknowledged commit the reader acks. -/
def execAckTimerExpiry (site src : Nat) (s : State) : Res :=
  live s fun s => if (s.space src site).oldest = none then s else (s.ackDue site src).sendAck site src

/-- The store entry of a sequence. -/
def Space.entry (x : Space) (seq : Nat) : Option TxEnt := x.store.find? fun e => decide (e.pkt.seq = seq)

/-- Whether a packet of a site still waits in an injection queue. -/
def State.queued (s : State) (site dest seq : Nat) : Bool :=
  [0, 1, 2, 3].any fun k => ((s.stn site).queue k).any fun e =>
    decide (e.pkt.src = site) && decide (e.pkt.dest = dest) && decide (e.pkt.seq = seq) && e.pkt.sequenced

/-- Whether a packet of a store waits for an ack: sent, no copy of it queued, not covered, not given up (R84, R86). -/
def State.awaits (s : State) (site dest : Nat) (e : TxEnt) : Bool :=
  decide (0 < e.sends) && !s.queued site dest e.pkt.seq && !e.sel && !e.gaveUp

/-- RETRANSMIT_TIMEOUT (R84): 4 µs after its last serialisation started an uncovered packet goes again, DEFL and VC 0, BIRTH fresh. -/
def execRetransmitTimeout (site dest seq : Nat) (s : State) : Res :=
  live s fun s =>
    match (s.space site dest).entry seq with
    | none => s
    | some e =>
      if !s.awaits site dest e || decide (9 ≤ e.sends) then s
      else
        let s1 := s.atLeast (e.sentAt + 4000)
        let p := { e.pkt with vc := 0, defl := 0, birth := s1.birth }.rehead
        ((s1.bump F.SKY_RETX site).enqueue site p.cls p).pump site

/-- The spaces of a pair closed at both ends (R89 step 1). -/
def State.closePair (s : State) (a b : Nat) : State :=
  let f (t : State) (x y : Nat) : State := t.setSpace x y { t.space x y with txClosed := true, rxClosed := true }
  f (f s a b) b a

/-- RETX_LIMIT (R86): after 9 sends and 4 µs the source gives up the space: its packets are UNREACHABLE, the station's source
is raised, a pair restart begins; a mirror forward's loss degrades its shard and lets the original's ack go (R242). -/
def execRetxLimit (site dest seq : Nat) (s : State) : Res :=
  live s fun s =>
    match (s.space site dest).entry seq with
    | none => s
    | some e =>
      if !s.awaits site dest e || decide (e.sends < 9) then s
      else
        let s1 := s.atLeast (e.sentAt + 4000)
        let first := decide (s1.get F.SKY_RETX_LIMIT site = 0) && !s1.frozen F.SKY_RETX_LIMIT site
        let s2 := s1.bump F.SKY_RETX_LIMIT site
        let s3 := if first then s2 else s2.raise site
        let sp := s3.space site dest
        let give (l : List TxEnt) : List TxEnt := l.map fun x => { x with gaveUp := true }
        let s4 := s3.setSpace site dest { sp with store := give sp.store, waits := give sp.waits }
        let s5 := (sp.store ++ sp.waits).foldl (fun t x => if x.gaveUp then t else (t.abandon site x true).forwardLost site x) s4
        let s6 := s5.closePair site dest
        { s6 with sky := { s6.sky with restarts := s6.sky.restarts ++ [⟨false, site, dest, 0, s6.now, []⟩] } }

/-! ## Space restarts (R89) -/

/-- Whether the space from `x` to `y` lies in a restart's scope. -/
def inScope (one : Bool) (a b x y : Nat) : Bool :=
  if one then decide (x = a) || decide (y = a) else (decide (x = a) && decide (y = b)) || (decide (x = b) && decide (y = a))

/-- A read whose response cannot come any more ends with its space (R89, R95): its card and the fences that cover it learn so; those wait for the
space to reopen where that is to come. -/
def State.cutRead (s : State) (site : Nat) (r : ReadTag) (unreach wait : Bool) : State :=
  let s1 := s.mapFences site fun c =>
    if c.reads.contains r.rtag then
      let c := if wait then { c with cut := keyPut c.cut r.dest } else c
      if unreach then { c with unreach := true } else { c with aborted := true }
    else c
  let s2 := match r.work with
    | some q => if unreach then s1.meets q { status := 5, detail := 1 } else s1.cutCard q
    | none => s1
  s2.endRead site r.rtag

/-- The reads that other stations await from a site that is gone end with ABORTED (R95): no response can come (DESIGN CHOICE, log entry 173). -/
def State.cutReadsOf (s : State) (k : Nat) : State :=
  (List.range 44).foldl (fun t y => ((t.stn y).rtags.filter fun r => decide (r.dest = k)).foldl (fun u r => u.cutRead y r false false) t) s

/-- The sending end of the space to `y` cleared by a restart (R89 step 3): every packet not acknowledged ends for its agent and its fences. -/
def State.cutSpace (s : State) (site y : Nat) (unreach wait : Bool) : State :=
  let sp := s.space site y
  let s1 := s.setSpace site y { sp with store := [], waits := [], past := [], txNext := 0, txCum := 0xFFFFFF }
  let s2 := (sp.store ++ sp.waits).foldl (fun t e =>
    (if e.gaveUp then t else (t.abandon site e unreach).forwardLost site e).cutFences site y e.pkt.seq unreach wait) s1
  let s3 := ((s2.stn site).rtags.filter fun r => decide (r.dest = y)).foldl (fun t r => t.cutRead site r unreach wait) s2
  s3.bump F.SKY_ABORTED site 0 (sp.store ++ sp.waits).length

/-- Step 3 of R89 at one station: queues and buffers purged, its unacknowledged packets ended, its ends of the spaces reset,
RX_GEN taken, DONE set. `wait`: the scope is closed and reopens later (R89 step 5). -/
def State.restartAt (s : State) (site : Nat) (one : Bool) (a b gen : Nat) (wait : Bool) : State :=
  let x := s.stn site
  let keep (l : List Queued) : List Queued := l.filter fun e => !inScope one a b e.pkt.src e.pkt.dest
  let s1 := s.setStn site { x with
    q0 := keep x.q0, q1 := keep x.q1, q2 := keep x.q2, q3 := keep x.q3, r0 := keep x.r0, r1 := keep x.r1 }
  let others := (List.range 44).filter fun y => decide (y ≠ site)
  let s2 := (others.filter fun y => inScope one a b site y).foldl (fun t y => t.cutSpace site y (!one) wait) s1
  let s3 := (others.filter fun y => inScope one a b y site).foldl (fun t y =>
    let sp := t.space y site
    let g := if one && decide (y = a) then gen else sp.rxGen
    t.setSpace y site { sp with rxCum := 0xFFFFFF, held := [], unacked := 0, oldest := none, reject := none, fwdHold := [], rxGen := g }) s2
  let s4 := if site = 42 then
      { s3 with host := { s3.host with accs := s3.host.accs.filter fun x => !inScope one a b x.pkt.src 42 } }
    else s3
  ((((s4.set F.SKY_DLV_RESTAT_DONE 1 site).flags site).markHeads site).letIn site).pump site

/-- Whether a restart has the scope that a write to SKY_DLV_RESTART names: one site, or a pair in either order (R102). -/
def Restart.named (r : Restart) (one : Bool) (a b : Nat) : Bool :=
  r.scopeOne = one && (if one then decide (r.a = a) else decide ((r.a = a ∧ r.b = b) ∨ (r.a = b ∧ r.b = a)))

/-- The effect of a write to SKY_DLV_RESTART (R89, R102): step 3 of a restart at the station. One that no trigger closed the scope for has no
step 5 to wait for. -/
def State.wDlvRestart (s : State) (site v : Nat) : State :=
  let one := bit v 12
  let a := bitsOf v 0 6
  let b := bitsOf v 6 6
  let s1 := s.restartAt site one a b (bitsOf v 13 8) (s.sky.restarts.any fun r => r.named one a b)
  let tick (r : Restart) : Restart := if r.named one a b then { r with done := keyPut r.done site } else r
  { s1 with sky := { s1.sky with restarts := s1.sky.restarts.map tick } }

/-- Whether a restart still keeps the space from `x` to `y` closed (R89). -/
def State.shut (s : State) (x y : Nat) : Bool := s.sky.restarts.any fun r => inScope r.scopeOne r.a r.b x y

/-- The closed scope of a restart that has ended opened again (R89 steps 4 and 5), save what another restart keeps closed; the fences that waited
for it may complete. -/
def State.reopen (s : State) (r : Restart) : State :=
  let open_ (x y : Nat) : Bool := inScope r.scopeOne r.a r.b x y && !s.shut x y
  let s1 := if r.scopeOne then s.set F.SKY_DLV_EJECT_CLOSED 0 r.a else s
  let s3 := s1.sky.spaces.foldl (fun t p =>
    if open_ (p.1 / 64) (p.1 % 64) then t.setSpace (p.1 / 64) (p.1 % 64) { p.2 with txClosed := false, rxClosed := false } else t) s1
  (List.range 44).foldl (fun t k => t.mapFences k fun c => { c with cut := c.cut.filter fun d => !open_ k d }) s3

/-- SKY_DLV_EJECT.CLOSED written 0 (R89 step 4, R102): the station ejects packets again, save those of spaces that another restart keeps closed.
The site's own restart goes on to its step 5 once every station has done step 3. -/
def State.openEject (s : State) (k : Nat) : State :=
  let other (y : Nat) : Bool := s.sky.restarts.any fun r => !(r.scopeOne && decide (r.a = k)) && inScope r.scopeOne r.a r.b y k
  (List.range 44).foldl (fun t y => if other y then t else t.setSpace y k { t.space y k with rxClosed := false }) s

/-- Whether every present station has done step 3 of a restart; a retired one has no step to do (R474). -/
def State.restartDone (s : State) (r : Restart) : Bool := s.sites.all fun k => r.done.contains k || s.retired k || s.get F.SKY_STN_STATUS_STATE k = 6

/-- SPACE_RESTART_REOPEN (R89 steps 4 and 5): once every present station has set DONE, plus 2 µs, the Croupier, if it runs,
opens the closed scope and traffic resumes from SEQ 0. -/
def execSpaceRestartReopen (s : State) : Res :=
  live s fun s =>
    if !s.sky.restarts.any s.restartDone || decide (s.get F.MGT_STAT_CROUPIER ≠ 0) then s
    else
      let s1 := s.atLeast (s.now + 2000)
      let s2 := { s1 with sky := { s1.sky with restarts := s.sky.restarts.filter fun r => !s.restartDone r } }
      let t1 := (s.sky.restarts.filter s.restartDone).foldl State.reopen s2
      t1.sites.foldl (fun u k => (u.readmit k).pump k) t1

/-! ## Fences -/

/-- The packets and reads of a site that a fence of a scope covers now (R94, R95): all it has numbered in those spaces and not released. -/
def State.covered (s : State) (site : Nat) (scope : FenceScope) : List (Nat × Nat) × List Nat :=
  let dests := match scope with
    | .all => (List.range 44).filter fun d => decide (d ≠ site)
    | .one d => [d]
  (dests.flatMap fun d => ((s.space site d).store ++ (s.space site d).waits).map fun e => (d, e.pkt.seq),
   ((s.stn site).rtags.filter fun t => dests.contains t.dest).map fun t => t.rtag)

/-- A fence issued to a station: pending, or waiting while 16 are pending (R94, R96). One that waits covers what was numbered before its issue, not
before its start (DESIGN CHOICE, log entry 140). -/
def State.issueFence (s : State) (site : Nat) (a : Agent) (scope : FenceScope) (work : Option Nat) (implicit : Bool) : State :=
  let (cov, rds) := s.covered site scope
  let f : Fence := { id := s.sky.nextId, agent := a, scope := scope, work := work, implicit := implicit, holds := cov, covers := cov, reads := rds }
  let x := s.stn site
  let s1 := if x.fences.length < 16 then s.setStn site { x with fences := x.fences ++ [f] }
    else s.setStn site { x with fwait := x.fwait ++ [f] }
  { s1 with sky := { s1.sky with nextId := s.sky.nextId + 1 } }

/-- FENCE_ISSUE (R94, R96). -/
def execFenceIssue (site : Nat) (a : Agent) (scope : FenceScope) (work : Option Nat) (s : State) : Res :=
  live s fun s => if site < 44 then s.issueFence site a scope work false else s

/-- A fence's result: the first that applies (R95), 3 UNREACHABLE, 2 ABORTED, 1 REFUSED, 0 OK. -/
def Fence.result (f : Fence) : Nat :=
  if f.unreach then 3 else if f.aborted then 2 else if f.refused ≠ none then 1 else 0

/-- Whether everything a fence covers has ended, and the spaces that aborted a packet of it have reopened (R89, R95). -/
def Fence.ready (f : Fence) : Bool := f.covers.isEmpty && f.reads.isEmpty && f.cut.isEmpty

/-- A fence that is over returns its result (R95, R98); a site's implicit fence is noted. -/
def State.tellFence (s : State) (site : Nat) (f : Fence) : State :=
  let s1 := if f.implicit then { s with trn := { s.trn with fenced := keyPut s.trn.fenced site } } else s
  (s1.bump F.SKY_FENCE_DONE site).emit (.fence site f.id f.result (f.refused.getD 0))

/-- FENCE_COMPLETE (R95, R96, R98): the fence returns its result and a waiting one takes its place. -/
def execFenceComplete (site id : Nat) (s : State) : Res :=
  live s fun s =>
    let x := s.stn site
    match x.fences.find? fun f => decide (f.id = id) && f.ready with
    | none => s
    | some f =>
      let s1 := s.setStn site { x with
        fences := (x.fences.filter fun g => decide (g.id ≠ id)) ++ x.fwait.take 1
        fwait := x.fwait.drop 1 }
      ((s1.tellFence site f).readmit site).pump site

/-- The fences of a site that is retired complete at once, with ABORTED unless UNREACHABLE (R95, R98; DESIGN CHOICE, log entry 87). -/
def State.endAllFences (s : State) (site : Nat) : State :=
  let x := s.stn site
  (x.fences ++ x.fwait).foldl (fun t f => t.tellFence site { f with aborted := true }) (s.setStn site { x with fences := [], fwait := [] })

end Sys2Proof.Machine
end

