-- ==== Sys2Proof/Machine/Comet.lean ====
section
/-! DEFINITION. Meanings of Comet's commands: frames received, timeouts, ports, gateways, COMET_BULK, log queries, barrier arrivals (R70, R373 to
R407). TIMING stands with the transits. -/

namespace Sys2Proof.Machine

/-- COMET_WRITE (R379, R385). -/
def execCometWrite (port : Nat) (f : Frame) (fcsOk : Bool) (ecc : List EccHit) (s : State) : Res :=
  live s fun s => s.recvData port 0 f fcsOk ecc

/-- COMET_READ (R379, R385, R389). -/
def execCometRead (port : Nat) (f : Frame) (fcsOk : Bool) (ecc : List EccHit) (s : State) : Res :=
  live s fun s => s.recvData port 1 f fcsOk ecc

/-- READ_RESP (R389, R398). -/
def execReadResp (port : Nat) (f : Frame) (fcsOk : Bool) (s : State) : Res :=
  live s fun s => s.recvData port 2 f fcsOk []

/-- ATOMIC (R379, R390 to R396). -/
def execAtomic (port : Nat) (f : Frame) (fcsOk : Bool) (ecc : List EccHit) (s : State) : Res :=
  live s fun s => s.recvData port 3 f fcsOk ecc

/-- ATOMIC_RESP (R390, R391). -/
def execAtomicResp (port : Nat) (f : Frame) (fcsOk : Bool) (s : State) : Res :=
  live s fun s => s.recvData port 4 f fcsOk []

/-- BULK_WRITE (R379, R385). -/
def execBulkWrite (port : Nat) (f : Frame) (fcsOk : Bool) (ecc : List EccHit) (s : State) : Res :=
  live s fun s => s.recvData port 5 f fcsOk ecc

/-- BULK_READ (R379, R389). -/
def execBulkRead (port : Nat) (f : Frame) (fcsOk : Bool) (ecc : List EccHit) (s : State) : Res :=
  live s fun s => s.recvData port 6 f fcsOk ecc

/-- REFUSE (R391). -/
def execRefuse (port : Nat) (f : Frame) (fcsOk : Bool) (s : State) : Res :=
  live s fun s => s.recvData port 7 f fcsOk []

/-- ACK (R385): the acknowledgement is all it carries. -/
def execAck (port : Nat) (f : Frame) (fcsOk : Bool) (s : State) : Res :=
  live s fun s => s.recvFrame port 1 0 f fcsOk fun _ t => t

/-- HELLO (R387). -/
def execHello (port : Nat) (f : Frame) (fcsOk : Bool) (s : State) : Res :=
  live s fun s => s.recvFrame port 2 0 f fcsOk fun peer t => t.takeHello port peer f

/-- BARRIER (R405): a frame of the ordered space. -/
def execBarrier (port : Nat) (f : Frame) (fcsOk : Bool) (s : State) : Res :=
  live s fun s => s.recvFrame port 4 0 f fcsOk fun peer t => t.takeOrdered peer port f []

/-- BARRIER_ARRIVE (R70, R405): a participant arrives; the last one releases the context, or tells ROOT. Only the participants that are present on this part
are waited for (DESIGN CHOICE, log entry 159). -/
def execBarrierArrive (ctx site : Nat) (s : State) : Res :=
  live s fun s =>
    let d := (section_ [] s.cht.chart.barriers s.variant).getD ctx {}
    if !d.valid || 32 ≤ ctx || !bit d.sites site then s
    else
      let a := s.get F.SKY_BAR_STAT_ARRIVED ctx ||| 2 ^ site
      let s1 := s.set F.SKY_BAR_STAT_ARRIVED a ctx
      let need := bitMask ((bitList 42 d.sites).filter s.present)
      if a &&& need ≠ need then s1
      else match s1.extends_ ctx with
        | none => s1.barRelease ctx false
        | some i => match s1.conBar i with
          | some b => if (s1.cbar i).mine then s1 else s1.conArrive i b
          | none => s1.barRelease ctx false

/-- ATOMIC_REQUEST (R390): the oldest request in mailbox 2 of an I/O chiplet is sent as an ATOMIC frame, or refused. -/
def execAtomicRequest (site : Nat) (s : State) : Res :=
  live s fun s =>
    let x := s.stn site
    match x.mailbox.find? fun m => decide (m.2.1 = 2) with
    | some m =>
      if siteKind site = .xio then
        (s.setStn site { x with mailbox := x.mailbox.erase m }).cometAtomic site m.1 m.2.2
      else s
    | none => s

/-- WRITE_PACK_TIMEOUT (R389): 100 ns after its first write a pack goes out. -/
def execWritePackTimeout (peer : Nat) (s : State) : Res :=
  live s fun s =>
    match (s.sess peer).pack with
    | some p => (s.atLeast (p.since + 100)).flushPack peer
    | none => s

/-- The retransmission timeout in ns and the retransmissions before a path fails (R385, R386, R407). -/
def State.rtoNs (s : State) : Nat := max 2 (s.get F.CMT_CTRL_RTO_US) * 1000
def State.retries (s : State) : Nat := max 1 (s.get F.CMT_CTRL_RETRIES)

/-- COMET_RTO (R385, R386): a frame no acknowledgement covers, or an ATOMIC not answered, is sent again, or its path fails. -/
def execCometRto (peer space seq : Nat) (s : State) : Res :=
  live s fun s =>
    match (s.sess peer).tx.find? fun e => decide (e.f.space = space) && decide (e.f.seq = seq) with
    | none => s
    | some e =>
      let s1 := s.atLeast (e.sentAt + s.rtoNs)
      if !e.acked && decide (s1.retries < e.sends) then s1.failPath peer e.path
      else if s1.pathUp peer e.path then s1.resend peer e.path e
      else match (s1.upPaths peer).head? with
        | some p => s1.resend peer p e
        | none => s1

/-- HELLO_RETRY (R386): every 100 ms HELLO goes out on each failed path whose port is up. -/
def execHelloRetry (peer : Nat) (s : State) : Res :=
  live s fun s =>
    ((s.sess peer).failed.filter fun i => s.portUp (s.pathAt peer i).1).foldl (fun t i => t.hail peer i) s

/-- PEER_LOST (R387, R391, R406): no session with a peer on any path for 1 s. -/
def execPeerLost (peer : Nat) (s : State) : Res :=
  live s fun s =>
    let x := s.sess peer
    if (s.peerDef peer).isNone || x.up || x.lost then s else (s.atLeast (x.since + 1000000000)).losePeer peer

/-- GATEWAY_FLUSH (R398): 10 µs after the first store. -/
def execGatewayFlush (win site : Nat) (s : State) : Res :=
  live s fun s =>
    match s.cmt.gws.find? fun g => decide (g.win = win) && decide (g.site = site) with
    | some g => (s.atLeast (g.since + 10000)).gwSend g
    | none => s

/-- FRAME_TRANSMIT_DONE (R383, R385): the port starts its next frame; a read whose responses have all left is acknowledged, and what waited
for that is committed. -/
def execFrameTransmitDone (port : Nat) (s : State) : Res :=
  live s fun s =>
    let x := s.port port
    match x.cur with
    | none => s
    | some f => (((s.setPort port { x with cur := none }).portPump port).responseLeft f).goOn f port

/-! ## Ports (R399) -/

/-- The lanes of a retraining attempt as a mask, 1 to 7. -/
def attemptLanes (k : Nat) : Nat := [0xFF, 0x0F, 0xF0, 0x03, 0x0C, 0x30, 0xC0].getD (k - 1) 0

/-- PORT_DOWN (R386, R399): the port's paths fail and it retrains. -/
def execPortDown (port : Nat) (s : State) : Res :=
  live s fun s => if port < 32 && s.portUp port then (s.train port).portGone port else s

/-- RETRAIN_ATTEMPT (R399): one attempt of 50 ms ends; `lanes` are the healthy lanes. -/
def execRetrainAttempt (port : Nat) (ok : Bool) (lanes : Nat) (s : State) : Res :=
  live s fun s =>
    if s.get F.CMT_PORT_STATE port ≠ 1 then s
    else
      let x := s.port port
      let s1 := (s.atLeast (x.since + 50000000)).set F.CMT_PORT_LANE_OK lanes port
      if ok then
        let n := popCount 8 (attemptLanes x.attempt)
        let s2 := (s1.set F.CMT_PORT_STATE (if n = 8 then 2 else 3) port).set F.CMT_PORT_LANES n port
        (s2.pathsOver port).foldl (fun t p => t.hail p.1 p.2) s2
      else if x.attempt < 7 then s1.setPort port { x with attempt := x.attempt + 1, since := s1.now }
      else (s1.set F.CMT_PORT_STATE 4 port).raise (80 + port / 8)

/-- RETRAIN written to a port's register (R399, R407): retrained from 8 lanes. -/
def State.wRetrain (s : State) (port v : Nat) : State :=
  if bit v 15 && decide (s.get F.CMT_PORT_STATE port ≠ 0) then (s.train port).portGone port else s

/-- A Comet load whose chiplet has lost it: the read request that asked for it ends with ABORTED at its source, so that no fence waits for it (R95, R400). -/
def State.cutLoad (s : State) (r : CReq) : State :=
  if r.kind = .load || r.kind = .gateway then
    match (s.stn r.site).rtags.find? fun g => decide (g.rtag = r.pkt.rtag) && decide (g.dest = r.chip) with
    | some g => s.cutRead r.site g false false
    | none => s
  else s

/-- The Comet side of an I/O chiplet's reset or retirement (R400): its paths fail, its transmit store and cumulative points are lost, cards
that sent through it are replayed. -/
def State.chipletLost (s : State) (chip : Nat) : State :=
  let mine := s.con.peers.filter fun p => s.serving p.part = some chip
  let s1 := mine.foldl (fun t p =>
    let x := t.sess p.part
    let t1 := x.reqs.foldl State.cutLoad t
    t1.setSess p.part { x with tx := [], wait := [], reqs := [], pack := none, held := [], owed := [], fresh := true, blank := true, rxLost := true, up := false
                               txNext := 0, txCum := 0xFFFFFFFF, rxCum := 0xFFFFFFFF, bulkNext := [], bulkCum := [], bulkHeld := []
                               since := t.now }) s
  let gws := s1.cmt.gws.filter fun g => !mine.any fun p => decide (p.part = g.peer)
  let s2 := { s1 with cmt := { s1.cmt with gws := gws } }
  let cut := (s2.cmt.users.filter fun u => decide (u.2 = chip)).map fun u => u.1
  let s3 := cut.foldl (fun t q => t.cutCard q) s2
  let s4 := { s3 with cmt := { s3.cmt with users := s3.cmt.users.filter fun u => decide (u.2 ≠ chip) } }
  (List.range 8).foldl (fun t j =>
    let p := 8 * (chip - 36) + j
    (((t.countDown p).set F.CMT_PORT_STATE 0 p).set F.CMT_PORT_LANES 0 p).portGone p) s4

/-! ## COMET_BULK (R389) -/

/-- A push: the source read and sent as BULK_WRITE frames. -/
def State.bulkPush (s : State) (seq src dst n : Nat) (w : Win) (host : List Byte) (bad : Bool) (ecc : List EccHit) : State :=
  let s1 := (s.eccIn src n 0 ecc).skyRead 42 seq src n
  match (if s1.hostGone src then none else s1.cardFetch seq src n host bad) with
  | some p => ((chunks dst n).foldl (fun t c => t.rides 42 ((t.serving w.peer).getD 63) 0 c.2) s1).bulkOut w.peer 42 (w.remote + (dst - w.base)) p.bytes p.bad false (some seq)
  | none => s1.moverLost seq src n

/-- A pull: BULK_READ requests of up to 64 KiB, whole KiB of at least 4. -/
def State.bulkPull (s : State) (seq src dst n : Nat) (w : Win) : State :=
  let a := w.remote + (src - w.base)
  (List.range (ceilDiv n 65536)).foldl (fun t k =>
    let len := min 65536 (n - 65536 * k)
    let kib := max 4 (ceilDiv len 1024)
    t.ask w.peer { rtag := 0, kind := .pull, chip := (t.serving w.peer).getD 36, site := 42, addr := a + 65536 * k, len := kib * 1024
                   work := some seq, dst := dst + 65536 * k, off := len }
      { op := 6, addr := a + 65536 * k, aux := kib } true) s

/-- COMET_BULK (R318, R389): a push where DST lies in the Comet window, a pull where SRC does. -/
def execCometBulk (seq : Nat) (host : List Byte) (bad : Bool) (ecc : List EccHit) (s : State) : Res :=
  live s fun s => s.startRun seq 0x11 fun e t =>
    let (src, dst, n) := (leAt e.card 16 8, leAt e.card 24 8, leAt e.card 32 8)
    let push := decide (regionOf dst = .comet)
    match t.winFor (if push then dst else src) with
    | none => (t.meets seq { status := 4, detail := 1, count := (chunks src n).length }).finish seq
    | some (_, w) =>
      if !w.bulk then (t.meets seq { status := 4, detail := 1, count := (chunks src n).length }).finish seq
      else if (t.sess w.peer).lost then (t.meets seq { status := 5, detail := 3 }).finish seq
      else
        let chip := (t.serving w.peer).getD 36
        let t1 := (t.uses (some seq) chip).setValue seq 0
        if push then t1.bulkPush seq src dst n w host bad ecc else t1.bulkPull seq src dst n w

/-! ## The log query (R407) -/

/-- CMT_ALOG_Q written: the query starts, CMT_ALOG_R reads DONE 0. -/
def State.wAlogQ (s : State) (v : Nat) : State :=
  let s1 := ((s.set F.CMT_ALOG_Q_STACK v).set F.CMT_ALOG_Q_SLOT (v / 2 ^ 4)).set F.CMT_ALOG_Q_SEQ (v / 2 ^ 14)
  let s2 := (((s1.set F.CMT_ALOG_R0_STATE 0).set F.CMT_ALOG_R0_STATUS 0).set F.CMT_ALOG_R0_DONE 0).set F.CMT_ALOG_R1_OLD 0
  { s2 with cmt := { s2.cmt with query := true } }

/-- ALOG_QUERY_DONE (R396, R407): what the log of the stack holds of the sequence. -/
def execAlogQueryDone (s : State) : Res :=
  live s fun s =>
    if !s.cmt.query then s
    else
      let (m, slot, seq) := (s.get F.CMT_ALOG_Q_STACK, s.get F.CMT_ALOG_Q_SLOT, s.get F.CMT_ALOG_Q_SEQ)
      let s1 := ({ s with cmt := { s.cmt with query := false } }).set F.CMT_ALOG_R0_DONE 1
      match s1.logBase m with
      | none => s1.set F.CMT_ALOG_R0_STATE 3
      | some base =>
        if s1.con.sources ≤ slot then s1.set F.CMT_ALOG_R0_STATE 3
        else match s1.logFind base slot seq with
          | some r => ((s1.set F.CMT_ALOG_R0_STATE 1).set F.CMT_ALOG_R0_STATUS r.1).set F.CMT_ALOG_R1_OLD r.2
          | none => match (s1.logHead base slot).1 with
            | some w => if aheadMod 32 seq w then s1 else s1.set F.CMT_ALOG_R0_STATE 2
            | none => s1

/-! ## The window table (R378) -/

/-- A staged entry as the registers hold it (R407). -/
def State.stagedWin (s : State) (i : Nat) : Win :=
  { valid := s.isSet F.CMT_WIN0_VALID i, read := s.isSet F.CMT_WIN0_READ i, write := s.isSet F.CMT_WIN0_WRITE i
    atomic := s.isSet F.CMT_WIN0_ATOMIC i, bulk := s.isSet F.CMT_WIN0_BULK i, gateway := s.isSet F.CMT_WIN0_GATEWAY i
    peer := s.get F.CMT_WIN0_PEER i, base := s.get F.CMT_WIN1_LOCAL_BASE i * 65536, size := s.get F.CMT_WIN2_SIZE i
    remote := s.get F.CMT_WIN3_REMOTE_BASE i * 65536 }

/-- Whether a staged entry may be installed (R378): VALID or not, each is checked. -/
def State.winOk (s : State) (w : Win) : Bool :=
  (decide (w.size ≠ 0) && decide (w.size % 65536 = 0) &&
    decide (0xC00000000000 ≤ w.base) && decide (w.base + w.size ≤ 0x1000000000000) &&
    (s.peerDef w.peer).any fun p => !p.far || (w.gateway && !w.atomic))

/-- The staged entries installed at a quiet window (R378): one that fails its check is not, and WIN_ERR is set. -/
def State.installWins (s : State) : State :=
  let s1 := s.cmt.staged.foldl (fun (t : State) i =>
    let w := t.stagedWin i
    if t.winOk w then { t with cmt := { t.cmt with wins := tabPut {} t.cmt.wins i w } } else t.set F.CMT_STAT_WIN_ERR 1) s
  ({ s1 with cmt := { s1.cmt with staged := [] } }).set F.CMT_STAT_WIN_PENDING 0

end Sys2Proof.Machine
end

