-- ==== Sys2Proof/Machine/SettleOps.lean ====
section
/-! DEFINITION. Settle (R326, R327, R329, R347, R349, R351): which cards become DONE, with what completion. -/

namespace Sys2Proof.Machine

/-- Whether a card's work is over: an unscheduled card that has finished, a slot card whose run the transit held (R323). -/
def Entry.isOver (e : Entry) : Bool :=
  (e.state = 2 && (e.finished || (e.started && e.pipe.isSome))) || (e.state = 1 && e.finished)

/-- The RESULT of a card (R329, R367). -/
def State.resultOf (s : State) (e : Entry) : Nat :=
  if e.opcode ≤ 0x04 || e.opcode = 0x0C then s.get F.TRN_NUM else e.value

/-- A card made DONE (R327, R347, R348): its completion image fixed, its mirror record rewritten. -/
def State.makeDone (s : State) (seq : Nat) : State :=
  let e := s.ent seq
  let w := worstResult e.runs
  let e1 := { e with state := 3, transit := s.get F.TRN_NUM, pipe := none, again := false, fin := { w with result := s.resultOf e } }
  let s1 := s.setEnt seq e1
  if s1.linkUp then s1.mirrorLine seq 0 (e1.line0 seq) else s1

/-- Every card whose work is over made DONE, in Tally order (R351 step 2). -/
def State.makeAllDone (s : State) : State :=
  (s.tally.entries.filter fun p => p.2.isOver).foldl (fun t p => t.makeDone p.1) s

/-- A hunt ends on a tile when no suspect of it remains (R473). -/
def State.endHunts (s : State) : State :=
  (bitList 24 (s.get F.FLT_HANG_HUNT)).foldl (fun t k =>
    if t.tally.entries.any fun p => p.2.suspect && decide (p.2.state ≠ 3) && bit (t.cardTiles p.2.card) k then t
    else t.set F.FLT_HANG_HUNT (t.get F.FLT_HANG_HUNT - 2 ^ k)) s

/-- Suspects not DONE. -/
def State.suspects (s : State) : Nat := (s.tally.entries.filter fun p => p.2.suspect && decide (p.2.state ≠ 3)).length

/-- What the Dealer copies to the standby (R353, R355), with the last transit whose end of settle it holds: a state sent before the settle of its transit has
begun holds that of the transit before. -/
def State.copyNow (s : State) : Image :=
  { transit := if 3 ≤ s.get F.TRN_STAT_PHASE then s.get F.TRN_NUM else s.get F.TRN_NUM - 1, entries := s.tally.entries, decks := s.tally.decks
    cursors := (List.range 64).map fun d => (d, s.get F.DLR_DECK_CQ_CQ_TAIL d, s.get F.DLR_DECK_CQ_PHASE d)
    hands := s.hands.slots }

/-- What the Dealer does in a settle phase (R351): hand commits decided, DONE written, completions posted. -/
def State.settleCards (s : State) : State :=
  let s1 := s.decideHands.makeAllDone.endHunts
  let s2 := (s1.set F.FLT_HANG_SUSPECTS (satTo 255 s1.suspects)).postAll
  { s2 with boot := { s2.boot with folded := s2.boot.folded || decide (s2.get F.FLT_STAT_STATE = 1) } }

/-- SETTLE_START (R351, R353): the Dealer's work, and the copy of its state to the standby. A Dealer that has failed, or that a takeover replaces, decides and
posts nothing (R354; log entry 198): the copy the standby waits for does not come. -/
def State.settle (s : State) : State :=
  let s1 := s.set F.TRN_STAT_PHASE 3
  let s2 := if s1.dealing then s1.settleCards else s1
  if s2.isSet F.TAL_STAT_STANDBY_OK then { s2 with tally := { s2.tally with copyWait := true } } else s2

end Sys2Proof.Machine
end

