-- ==== Sys2Proof/Machine/ResetOps.lean ====
section
/-! DEFINITION. Device resets the part asks for itself (R356, R459, R475, R476), and the reset of a front end (R255, R467). -/

namespace Sys2Proof.Machine

/-- Fields of a station's and a site's blocks that their reset leaves: states the model keeps by rule (R525, R76, R90), the rings' codes (R127), and
what the OMUs keep (R162). -/
def heldFlds : List Fld :=
  [F.SKY_STN_STATUS_STATE, F.SKY_STN_STATUS_PART, F.SKY_DLV_DIE_DIE_GEN, F.SKY_DLV_DIE_DIE_DOWN, F.SKY_DLV_EJECT_CLOSED,
   F.TWK_RING_HEATER, F.TWK_RING_STATE,
   F.OMU_STAT_STATE, F.OMU_STAT_STALE, F.OMU_STAT_LEFT, F.OMU_STAT_DOWN_INPUT, F.OMU_PILOT_PHASE, F.OMU_PILOT_LAST, F.OMU_LOADED_VALID]

/-- Whether a reset of register domain `d` at index `i` clears the value at `key` (R12, R76). -/
def clears (d : RegDom) (i key : Nat) : Bool :=
  match regAt (key / 64), fldAt key with
  | some (r, k, _), some f => decide (r.dom = d) && decide ((if d = .port then k / 8 else k) = i) && decide (f.kind = .val) && !heldFlds.contains f
  | _, _ => false

/-- The registers of a domain at their Reset column again (R12). -/
def State.clearRegs (s : State) (d : RegDom) (i : Nat) : State := { s with regs := s.regs.filter fun p => !clears d i p.1 }

/-- Fetching, dealing and ticks stopped (R459 step 1); TRN_STAT shows HELD. -/
def State.halt (s : State) : State :=
  ({ s with boot := { s.boot with halt := true } }).set F.TRN_STAT_PHASE 5

/-- A counted device reset noted; those of the last 10 min are kept (R475). -/
def State.countReset (s : State) : State :=
  { s with boot := { s.boot with counted := (s.boot.counted.filter fun t => decide (s.now < t + 600000000000)) ++ [s.now] } }

/-- A device reset that waits for the crash dumps (R459 step 2): everything stops, and it waits from its first request on. -/
def State.askReset (s : State) : State :=
  let s1 := s.halt
  { s1 with flt := { s1.flt with asked := s1.flt.asked.orElse fun _ => some s1.now } }

/-- A device reset the part asks for itself (R356, R458): the crash dump is written first (R476). `kind` is the dump's: 3 part-requested, 4 takeover
failure. -/
def State.requestReset (s : State) (src kind : Nat) : State := s.askReset.addDump src kind

/-- The device reset of a part in service, from outside, by a register or asked for by the part (R458, R459, R475): it is counted where the part asked for one or
stands in Fold. -/
def State.outerReset (s : State) : State :=
  (if s.get F.FLT_STAT_STATE = 1 || s.flt.asked.isSome then s.countReset else s).deviceReset

/-- The scan that runs in a context. -/
def State.scanOf (s : State) (h k : Nat) : Option Scan := s.cmp.scans.find? fun x => decide (x.ctx = 8 * h + k)

/-- A scan ended: its context's status, and the CHECK card it ran for (R255, R258, R327); `err` as CHK_STATUS.ERR has it. -/
def State.endScan (s : State) (h k err : Nat) : State :=
  let q := (s.scanOf h k).bind fun x => x.seq
  let s1 := { s with cmp := { s.cmp with scans := s.cmp.scans.filter fun x => decide (x.ctx ≠ 8 * h + k) } }
  let s2 := (((s1.set F.CHK_STATUS_STATE 2 h k).set F.CHK_STATUS_ERR err h k).set F.CHK_STATUS_VALID (b2n (decide (err = 0))) h k).set
    F.CHK_STATUS_DONE 1 h k
  match q with
  | some q =>
    let r : List Result := if err = 0 then [] else if err = 3 then [{ status := 1 }] else [{ status := 6, detail := 1 }]
    let v := if err = 3 then s2.get F.CHK_POISON_DPA h k else s2.get F.CHK_RESULT0 h k
    (r.foldl (fun (t : State) x => t.meets q x) (s2.setValue q v)).finish q
  | none => s2

/-- A scan that ends early with ABORTED after `n` bytes (R255): POS shows them, POISON the first poisoned byte among them. -/
def State.stopScan (s : State) (h k : Nat) (x : Scan) (n : Nat) : State :=
  let s1 := s.set F.CHK_POS n h k
  (match (granules x.start n).find? s.poisoned with
   | some g => s1.set F.CHK_POISON_DPA (max x.start (g * 64)) h k
   | none => s1).endScan h k 4

/-- A scan cut off by ABORT or by its engine's reset (R255); how far it had come is a free value. -/
def State.abortScan (s : State) (h k : Nat) : State :=
  match s.scanOf h k with
  | none => s
  | some x =>
    let (v, s1) := s.draw 49
    s1.stopScan h k x (v % (x.len + 1))

/-- The check-value contexts of a hub end with ABORTED (R255). -/
def State.abortScans (s : State) (h : Nat) : State := (List.range 8).foldl (fun t k => t.abortScan h k) s

/-- The runs of a tile end without running on. -/
def State.dropRuns (s : State) (t : Nat) : State :=
  let mine := s.cmp.runs.filter fun r => decide (r.tile = t)
  mine.foldl (fun (u : State) r => { u with trn := { u.trn with ended := keyPut u.trn.ended r.idx, ends := tabPut 0 u.trn.ends t u.now } })
    { s with cmp := { s.cmp with runs := s.cmp.runs.filter fun r => decide (r.tile ≠ t) } }

/-- The FLT_DOM index of a hub's front end (R479). -/
def frontDom (h : Nat) : Nat := 128 + h

/-- A front end reset (R12, R255, R258, R467, R468): its tag moves, it stands in reset; its check-value engine ends every scan and has its registers at their
Reset column, but for what each context keeps of its last scan until its next start. -/
def State.frontReset (s : State) (h : Nat) : State :=
  (((s.domReset (frontDom h)).set F.FLT_DOM0_STATE 1 (frontDom h)).abortScans h).clearRegs .front h

end Sys2Proof.Machine
end

