-- ==== Sys2Proof/Machine/Failover.lean ====
section
/-! DEFINITION. Meanings of the two hubs' commands: the end-of-settle copy, the heartbeat, takeovers, resynchronisation and the
recovery from the mirror (R353 to R356, R366, R368). -/

namespace Sys2Proof.Machine

/-- STATE_COPY_ACK (R353): the standby holds the copy; the next deal phase may go on. A Dealer that has failed sends none (log entry 198). -/
def execStateCopyAck (s : State) : Res :=
  live s fun s =>
    if s.tally.copyWait && s.dealing then { s.setImage s.copyNow with tally := { s.tally with image := s.copyNow, copyWait := false } } else s

/-- HEARTBEAT (R353): the Dealer's 1 µs heartbeat reaches the standby. -/
def execHeartbeat (s : State) : Res :=
  live s fun s => { s with tally := { s.tally with beat := s.now } }

/-! ## Takeover -/

/-- Why a standby takes over (R354): a missed heartbeat, a late copy, or the Dealer's own FATAL fault. -/
def State.takeoverDue (s : State) (cause : Nat) : State :=
  match cause with
  | 0 => s.atLeast (s.tally.beat + 4000)
  | 1 => s.atLeast (s.trn.tick + s.periodNs - s.quietNs + 10000)
  | _ => s

/-- TAKEOVER (R354 step 1, R355): the standby takes the Dealer role and the old Dealer's front end is reset; without a standby
the part resets itself. Flips that the standby has no copy of are not made at the tick, and their hands wait for their commit records (log entry 198). -/
def execTakeover (cause : Nat) (s : State) : Res :=
  live s fun s =>
    if s.tally.takeover.isSome || (cause = 1 && !s.tally.copyWait) then s
    else
      let s1 := s.takeoverDue cause
      let h := s1.get F.TAL_STAT_DEALER_HUB
      let up := s1.get F.FLT_DOM0_STATE (frontDom h) = 0
      if !s1.isSet F.TAL_STAT_STANDBY_OK then (if up then s1.raise (241 + h) else s1).requestReset (241 + h) 3
      else
        let gone := s1.get F.FLT_DOM0_STATE (frontDom h) = 3
        let s1 := if up then s1.frontReset h else s1
        let s2 := (s1.set F.TAL_STAT_DEALER_HUB (1 - h)).set F.TAL_STAT_STANDBY_OK 0
        { s2 with
          tally := { s2.tally with takeover := some s1.now, takeT := s1.get F.TRN_NUM, copyWait := false, noDummy := gone }
          hands := if s2.tally.copyWait then s2.hands.unflip else s2.hands }

/-- Whether the run of a card that the image holds is cut off by the takeover (R354 step 3): the card was dealt, or became DONE, in the failed transit. -/
def Entry.cutBy (im real : Entry) (failed : Nat) : Bool :=
  im.state ≠ 3 && (real.state = 2 || real.state = 3) && decide (real.transit = failed)

/-- An entry of the standby's image as the takeover leaves it (R354 step 3): a DONE mirror record gives DONE; a card dealt in the
failed transit returns to ACCEPTED; one that runs on from an earlier transit keeps what its run has come to (log entry 198). -/
def replayEntry (im real : Entry) (failed : Nat) (mirror : Option (List Byte)) : Entry :=
  match mirror with
  | some line =>
    if im.state ≠ 3 && leAt line 7 1 % 4 = 3 then
      { im with
        state := 3, commit := bit (leAt line 7 1) 2, replays := leAt line 7 1 / 16, transit := leAt line 16 8, pipe := none
        fin := { status := leAt line 40 1, detail := leAt line 43 1, count := leAt line 44 4, result := leAt line 56 8 }
        doneVis := true, finished := true }
    else im
  | none =>
    if im.cutBy real failed then im.replayed
    else if im.state = 2 then { im with started := real.started, finished := real.finished, runs := real.runs, counts := real.counts, value := real.value }
    else im

/-- A completion of a deck found at its posting cursor (R354 step 4): the cursor moves past it. -/
def State.foundPosted (s : State) (d q : Nat) : State :=
  let t := s.get F.DLR_DECK_CQ_CQ_TAIL d
  let s1 := s.setDeck d { s.deck d with posted := (s.deck d).posted ++ [(t, q)] }
  if t + 1 = s.cqSize d then (s1.set F.DLR_DECK_CQ_CQ_TAIL 0 d).set F.DLR_DECK_CQ_PHASE (1 - s.get F.DLR_DECK_CQ_PHASE d) d
  else s1.set F.DLR_DECK_CQ_CQ_TAIL (t + 1) d

/-- A deck's fetch position moved past a slot, where it does not lie behind that already. -/
def State.fetchPast (s : State) (d slot : Nat) : State :=
  let gap := ((s.deck d).fetch + s.sqSize d - slot) % s.sqSize d
  if gap = 0 || decide (s.sqSize d / 2 < gap) then s.setDeck d { s.deck d with fetch := (slot + 1) % s.sqSize d } else s

/-- The completions of a deck's ring counted as posted (R354 step 4): each slot that holds the next DONE card's sequence with the expected PHASE moves the
cursor. So does one with TALLY_SEQ 0, a rejection of the old Dealer's that the copy does not hold: its card is not taken again, and no completion behind
it is posted twice (R338; DEDUCED, log entry 209). -/
def State.countPosted (s : State) (d : Nat) : List (List Byte) → State
  | [] => s
  | c :: cs =>
    if bit (leAt c 9 1) 7 ≠ s.isSet F.DLR_DECK_CQ_PHASE d then s
    else if leAt c 0 6 = 0 then
      (((s.foundPosted d 0).fetchPast d (leAt c 6 2)).add F.DLR_DECK_OUT_OUTSTANDING 1 d).countPosted d cs
    else match s.tally.entries.find? fun x => decide (x.2.deck = d) && x.2.state = 3 && !x.2.posted with
      | some (q, e) => if leAt c 0 6 = q then ((s.setEnt q { e with posted := true }).foundPosted d q).countPosted d cs else s
      | none => s

/-- A deck as the new Dealer takes it over: its cursor and fetch position from the image, moved past the cards the image
holds as accepted, OUTSTANDING counted again. -/
def State.adoptDeck (s : State) (im : Image) (d : Nat) : State :=
  let x := tabGet {} im.decks d
  let (tail, ph) := match im.cursors.find? fun c => decide (c.1 = d) with
    | some c => (c.2.1, c.2.2)
    | none => (0, 1)
  let mine := im.entries.filter fun p => decide (p.2.deck = d) && decide (p.2.state ≠ 0)
  let newer := mine.filter fun p => decide (im.transit ≤ p.2.transit) && p.2.state = 1
  let owed := (mine.filter fun p => !p.2.freed).length + (x.posted.filter fun p => decide (p.2 = 0)).length
  let s0 := s.setDeck d { x with sqTail := (s.deck d).sqTail }
  let s1 := match newer.getLast? with
    | some p => s0.fetchPast d p.2.slot
    | none => s0
  (((s1.set F.DLR_DECK_CQ_CQ_TAIL tail d).set F.DLR_DECK_CQ_PHASE ph d).set F.DLR_DECK_OUT_OUTSTANDING owed d).moveHead d

/-- What a card did to its hand after the last copy, done again (R354 steps 3 and 5, R366): a card that was accepted since, and one whose mirror record is
DONE: its rows lie in the shadow, its commit is flipped at the next tick. `was` is the state at the takeover. -/
def State.adoptCard (was : State) (im : Image) (t : State) (p : Nat × Entry) : State :=
  let e := p.2
  if (tabGet {} im.entries p.1).state = 3 then t
  else
    let t1 := t.acceptHand p.1 e.card e.part
    if e.state ≠ 3 && !(e.opcode = 0x09 && e.finished) then t1
    else match e.opcode, t1.handOf e.hand with
      | 0x09, some (h, hd) =>
        (match was.hands.slots.find? fun x => x.2.rows.any fun r => decide (r.seq = p.1) with
         | some (_, old) => match old.shapes.find? fun u => decide (u.id = leAt e.card 16 2) with
           | some u => t1.setHand h (hd.stage u (old.rows.filter fun r => decide (r.seq = p.1)))
           | none => t1
         | none => t1)
      | 0x0A, some (h, hd) => if e.commit then t1.commitHand p.1 h hd else t1.dropHand h
      | 0x0B, some (h, _) => t1.dropHand h
      | 0x0F, _ =>
        if e.fin.status ≠ 0 then t1
        else
          let t2 := t1.stageDef p.1 e.hand (tableOf e.desc)
          if e.hand = 0 then t2.addFlip (32 + p.1) else t2
      | _, _ => t1

/-- The hands as the new Dealer holds them (R354 step 5, R366): their state of the last copy; those that write back stand where they are. -/
def State.adoptHands (s : State) (im : Image) : State :=
  let slots := im.hands.filterMap fun p =>
    if p.2.state ≠ 3 then some p
    else
      let now_ := tabGet ({} : Hand) s.hands.slots p.1
      if now_.state = 3 && decide (now_.commitT = p.2.commitT) then some (p.1, now_) else none
  let s1 := { s with hands := { s.hands with slots := slots, solo := [], flips := [] } }
  s1.tally.entries.foldl (State.adoptCard s im) s1

/-- TAKEOVER_REPLAY (R354 steps 2 to 6, R356): after the next tick, the failed transit's cards replayed from the image and the mirror, the posting
cursors moved, hands resolved, dealing resumed. `mirror` holds line 0 of each record read, `rings` each deck's completion
slots from its cursor on; `imageOk` says the image's CRCs hold. While the link is down it waits. Where the old Dealer's
front end is retired, the new one goes on alone. -/
def execTakeoverReplay (mirror : List (Nat × List Byte)) (rings : List (Nat × List (List Byte))) (imageOk : Bool) (s : State) : Res :=
  live s fun s =>
    match s.tally.takeover with
    | none => s
    | some _ =>
      if s.get F.TRN_NUM = s.tally.takeT then s
      else if !imageOk then s.requestReset (241 + s.get F.TAL_STAT_DEALER_HUB) 4
      else if !s.linkUp then s.set F.TAL_STAT_LINK_WAIT 1
      else
        let im := s.tally.image
        let failed := im.transit + 1
        let line (q : Nat) : Option (List Byte) :=
          (mirror.find? fun m => decide (m.1 = q) && leAt m.2 0 6 = q && leAt m.2 7 1 % 4 = 3).map fun m => m.2
        let real := s.tally.entries
        let es := im.entries.map fun p => (p.1, replayEntry p.2 (tabGet {} real p.1) failed (line p.1))
        let again := (im.entries.filter fun p => (line p.1).isNone && p.2.cutBy (tabGet {} real p.1) failed).map fun p => p.1
        let s1 := { s with tally := { s.tally with entries := es } }
        let s2 := (List.range 64).foldl (fun t d => t.adoptDeck im d) s1
        let s3 := s2.adoptHands im
        let s4 := rings.foldl (fun t r => if r.1 < 64 then (t.countPosted r.1 r.2).moveHead r.1 else t) s3
        let s5 := match es.getLast? with
          | some p => s4.set F.TAL_NEXT_SEQ (p.1 + 1)
          | none => s4
        let s6 := ((again.foldl State.mirrorReplay s5).add F.TAL_REPLAYS again.length).add F.TAL_TAKEOVERS 1
        let s7 := if s6.indexFree then (s6.set F.TAL_STAT_LINK_WAIT 0).set F.TAL_STAT_FULL 0 else s6.set F.TAL_STAT_LINK_WAIT 0
        let s8 := { s7 with tally := { s7.tally with takeover := none } }
        (if s8.tally.noDummy then s8.loseDummy else s8).raise (241 + (1 - s8.get F.TAL_STAT_DEALER_HUB))

/-- TAKEOVER_TIMEOUT (R356): 50 ms from detection without the last step; the part resets itself. -/
def execTakeoverTimeout (s : State) : Res :=
  live s fun s =>
    match s.tally.takeover with
    | some t => (s.atLeast (t + 50000000)).requestReset (241 + s.get F.TAL_STAT_DEALER_HUB) 4
    | none => s

/-! ## Resynchronisation -/

/-- STANDBY_RESYNC (R355): the hub that does not hold the Dealer role is out of reset; intake is held while it takes the whole
state. -/
def execStandbyResync (s : State) : Res :=
  live s fun s =>
    if s.isSet F.TAL_STAT_STANDBY_OK || s.tally.noDummy || s.tally.takeover.isSome ||
        decide (s.get F.FLT_DOM0_STATE (frontDom (1 - s.get F.TAL_STAT_DEALER_HUB)) ≠ 0) then s
    else { s with tally := { s.tally with resync := true } }

/-- STANDBY_RESYNC_DONE (R355): the transfer is acknowledged; cards that waited for the Dummy are accepted. -/
def execStandbyResyncDone (s : State) : Res :=
  live s fun s =>
    if s.tally.resync then
      let s1 := { s with tally := { s.tally with resync := false } }
      let s2 := (s1.setImage s1.copyNow).set F.TAL_STAT_STANDBY_OK 1
      ((s2.tally.entries.filter fun p => p.2.state = 1 && !p.2.acked).map fun p => p.1).foldl State.acknowledge s2
    else s

/-! ## Recovery from the mirror -/

/-- A mirror record's CRC holds (R345, R348). -/
def recordOk (r : List Byte) : Bool := leAt r 28 4 = crc32c (slice r 0 28 ++ slice r 32 96)

/-- The entry a mirror record rebuilds (R368 step 4): DONE stays DONE, every other returns to ACCEPTED with REPLAYS raised. -/
def recoverEntry (r desc : List Byte) (epoch : Nat) : Entry :=
  let st := leAt r 7 1 % 4
  { deck := leAt r 6 1 % 64, part := leAt r 6 1 / 64, state := if st = 3 then 3 else 1, commit := bit (leAt r 7 1) 2
    replays := if st = 3 then leAt r 7 1 / 16 else satTo 15 (leAt r 7 1 / 16 + 1), slot := leAt r 8 2, hand := leAt r 10 2
    opcode := leAt r 12 1, transit := leAt r 16 8, accT := leAt r 16 8, card := slice r 64 64, desc := desc, acked := true, visible := true, chart := epoch
    finished := st = 3, doneVis := st = 3, warm := true
    fin := { status := leAt r 40 1, detail := leAt r 43 1, count := leAt r 44 4, result := leAt r 56 8 } }

/-- A hand after a device reset (R366): a commit record rolls it forward; without one it is discarded, with its flip if that was made, and its cards that are
not DONE complete with ABORTED, DETAIL 2. A hand that writes back has one unless the card of its commit returned to ACCEPTED. -/
def State.resolveHand (s : State) (p : Nat × Hand) : State :=
  let hd := p.2
  let flipped := decide (hd.state = 3)
  let mine (x : Nat × Entry) : Bool :=
    decide (hd.begun ≤ x.1) && (!flipped || decide (x.1 ≤ hd.ended)) && decide (x.2.hand = hd.id)
  match flipped, s.tally.entries.find? fun x => mine x && x.2.state = 3 && x.2.commit && decide (x.2.opcode = 0x0A) with
  | false, some (q, _) => s.commitHand q p.1 hd
  | true, _ =>
    if (s.ent hd.ended).state ≠ 1 then s
    else (s.tally.entries.filter fun x => mine x && x.2.state = 1).foldl
      (fun u x => u.endUnrun x.1 { status := 6, detail := 2 }) ((s.undoFlip hd).dropHand p.1)
  | false, none => (s.tally.entries.filter fun x => mine x && x.2.state = 1).foldl
      (fun u x => u.endUnrun x.1 { status := 6, detail := 2 }) (s.dropHand p.1)

/-- Every hand after a device reset, and the decided TABLE_DEFINEs without one (R361, R366). -/
def State.resolveHands (s : State) : State :=
  let s1 := s.hands.slots.foldl State.resolveHand s
  s1.hands.solo.foldl (fun t x => if (t.ent x.1).state = 3 then t.addFlip (32 + x.1) else t.dropSolo x.1) s1

/-- A mirror record read: its place in the ring, and its 128 bytes with a TABLE_DEFINE's descriptor after them. -/
abbrev MirrorRec := Nat × List Byte

/-- Whether a place of the ring lies in the live range: the 65,536 sequences that end at `top`, the highest with a valid record (R368 step 4). -/
def livePlace (top i : Nat) : Bool :=
  let q := top - (top + 65536 - i % 65536) % 65536
  decide (0 < q) && decide ((top + 65536 - i % 65536) % 65536 ≤ top)

/-- The Tally rebuilt from the live records (R368 step 4): DONE completions that the driver has seen are posted and consumed. -/
def State.rebuiltTally (s : State) (live : List (List Byte)) : List (Nat × Entry) :=
  let es := live.foldl (fun m r => tabPut {} m (leAt r 0 6) (recoverEntry r (s.descBytes (slice r 64 64) (r.drop 128)) s.cht.epoch)) []
  es.map fun p => if p.2.state = 3 && decide (p.1 ≤ s.get F.TAL_RECOVER_HEAD p.2.deck) then (p.1, { p.2 with posted := true, freed := true }) else p

/-- TAL_RECOVER_SLOT of every deck (R368 step 4), and the OUTSTANDING of a deck that is enabled already. -/
def State.recoverDeck (s : State) (d : Nat) : State :=
  let s1 := match (s.tally.entries.filter fun p => decide (p.2.deck = d)).getLast? with
    | some p => (s.set F.TAL_RECOVER_SLOT_NEXT_SLOT ((p.2.slot + 1) % 65536) d).set F.TAL_RECOVER_SLOT_VALID 1 d
    | none => (s.set F.TAL_RECOVER_SLOT_NEXT_SLOT 0 d).set F.TAL_RECOVER_SLOT_VALID 0 d
  if s1.deckState d = 0 then s1
  else s1.set F.DLR_DECK_OUT_OUTSTANDING (s1.tally.entries.filter fun x => decide (x.2.deck = d) && decide (x.2.state ≠ 0) && !x.2.freed).length d

/-- RECOVERY_DONE (R368 step 4): the Tally rebuilt from the mirror records read (a TABLE_DEFINE's descriptor in
host memory is read again, and follows its record here); `readable` is false where the
mirror could not be read. A bad CRC at a place in the live range stops it. Line 0 of each replayed card's record is written again (R348). -/
def execRecoveryDone (recs : List MirrorRec) (readable : Bool) (s : State) : Res :=
  live s fun s =>
    if s.get F.TAL_STAT_RECOVERY ≠ 2 then s
    else if s.get F.TAL_MIRROR_BASE = 0 then (s.set F.TAL_STAT_REC_ERR 1).set F.TAL_STAT_RECOVERY 1
    else if !readable then (s.set F.TAL_STAT_REC_ERR 2).set F.TAL_STAT_RECOVERY 1
    else
      let good := (recs.map fun r => r.2).filter fun r => recordOk r && decide (leAt r 0 6 ≠ 0)
      let top := good.foldl (fun m r => max m (leAt r 0 6)) 0
      if recs.any fun r => !recordOk r.2 && livePlace top r.1 then (s.set F.TAL_STAT_REC_ERR 3).set F.TAL_STAT_RECOVERY 1
      else
        let s1 := ({ s with tally := { s.tally with entries := s.rebuiltTally (good.filter fun r => decide (top < leAt r 0 6 + 65536)) } }).set F.TAL_NEXT_SEQ (top + 1)
        let back := s1.entsIn 1
        let s2 := (List.range 64).foldl State.recoverDeck (s1.add F.TAL_REPLAYS back.length)
        let s3 := (back.foldl State.mirrorReplay s2).resolveHands
        let s4 := match s3.cht.ended with
          | some q => if (s3.ent q).state = 1 then s3.endUnrun q { status := 6, detail := 3 } else s3
          | none => s3
        ((s4.setImage s4.copyNow).set F.TAL_STAT_REC_ERR 0).set F.TAL_STAT_RECOVERY 3

end Sys2Proof.Machine
end

