-- ==== Sys2Proof/Machine/Elementary.lean ====
section
/-! DEFINITION. exp, log, tanh, erf and the sigmoid (R194): each is computed in fixed point with 192 fraction bits, far below half an ULP of FP32, and
rounded once; the result lies within 2 ULP of that, the distance a free value of the operand. -/

namespace Sys2Proof.Machine

/-- 1, ln 2 and 2 ÷ √π in fixed point. -/
def fxOne : Int := 2 ^ 192
def fxLn2 : Int := 4350955369971217654477563090224794165364344896676135745069
def fxErf : Int := 7082950827949419406546779429796514218173736946937360083502

/-- A finite value in fixed point, its bits below 2⁻¹⁹² dropped. -/
def Fv.fx : Fv → Int
  | .fin s m e =>
    let n : Nat := if -192 ≤ e then m * 2 ^ (e + 192).toNat else m / 2 ^ (-(e + 192)).toNat
    if s then -(n : Int) else n
  | _ => 0

/-- A fixed-point number of 0 or more as a value. -/
def fxVal (neg : Bool) (x : Int) : Fv := .fin neg x.toNat (-192)

/-- e^x as m × 2^k, m in fixed point: x is reduced by multiples of ln 2, the rest goes through 48 terms of the series. -/
def fxExp (x : Int) : Int × Int :=
  let k := (x + fxLn2 / 2) / fxLn2
  let r := x - k * fxLn2
  ((List.range 48).foldl (fun acc n => fxOne + r * acc / ((48 - n : Nat) * fxOne)) fxOne, k)

/-- e^x of a finite value; beyond ±256 FP32 has no number left for it. -/
def expOf (x : Fv) : Fv :=
  let f := x.fx
  if fxOne * 256 ≤ f then .inf false
  else if f ≤ -(fxOne * 256) then .nat 0
  else
    let y := fxExp f
    .fin false y.1.toNat (y.2 - 192)

/-- e^(−x) for a fixed-point x of 0 or more, in fixed point. -/
def fxExpNeg (x : Int) : Int :=
  let y := fxExp (-x)
  y.1 / 2 ^ (-y.2).toNat

/-- The natural logarithm of m × 2^e with m not 0: m is brought next to 1, whose logarithm is 2 artanh((m − 1) ÷ (m + 1)). -/
def logOf (m : Nat) (e : Int) : Fv :=
  let n := m.log2
  let big := decide (3 * m ≥ 4 * 2 ^ n)
  let k : Int := e + n + (if big then 1 else 0)
  let f : Int := (m : Int) * fxOne / 2 ^ (if big then n + 1 else n)
  let z := (f - fxOne) * fxOne / (f + fxOne)
  let z2 := z * z / fxOne
  let r := (List.range 96).foldl (fun (a : Int × Int) (i : Nat) => (a.1 + a.2 / (2 * i + 1 : Nat), a.2 * z2 / fxOne)) (0, z)
  let y := k * fxLn2 + 2 * r.1
  fxVal (decide (y < 0)) y.natAbs

/-- ln 10 in fixed point. -/
def fxLn10 : Int := 14453560883108425870374435737727394665043423914827363902522

/-- The power that `x` hundredths of a decibel stand for, in fixed point. -/
def powerOf (x : Int) : Int :=
  let y := fxExp (x * fxLn10 / 1000)
  if 0 ≤ y.2 then y.1 * 2 ^ y.2.toNat else y.1 / 2 ^ (-y.2).toNat

/-- A power in fixed point in hundredths of a decibel, rounded; no power at all is the lowest number of 16 bits. -/
def dbOf (p : Int) : Int := if p ≤ 0 then -32768 else ((logOf p.toNat (-192)).fx * 2000 + fxLn10) / (2 * fxLn10)

/-- tanh of ±m × 2^e: the operand itself where x³ ÷ 3 lies far below half an ULP, ±1 where e^(−2x) does. -/
def tanhOf (s : Bool) (m : Nat) (e : Int) : Fv :=
  let f := (Fv.fin false m e).fx
  if f < fxOne / 2 ^ 14 then .fin s m e
  else if fxOne * 32 ≤ f then .fin s 1 0
  else
    let t := fxExpNeg (2 * f)
    fxVal s ((fxOne - t) * fxOne / (fxOne + t))

/-- erf of ±m × 2^e: x × 2 ÷ √π × Σ (−x²)ⁿ ÷ (n! (2n + 1)); from 4 on it rounds to ±1. -/
def erfOf (s : Bool) (m : Nat) (e : Int) : Fv :=
  let f := (Fv.fin false m e).fx
  if fxOne * 4 ≤ f then .fin s 1 0
  else
    let x2 := f * f / fxOne
    let r := (List.range 160).foldl (fun (a : Int × Int) (i : Nat) => (a.1 + a.2 / (2 * i + 1 : Nat), -(a.2 * x2) / ((i + 1 : Nat) * fxOne))) (0, fxOne)
    .fin s (m * (fxErf * r.1 / fxOne).toNat) (e - 192)

/-- The sigmoid of a finite value: 1 ÷ (1 + e^(−x)), or e^x ÷ (1 + e^x) below 0. -/
def sigmoidOf (x : Fv) : Fv :=
  let f := x.fx
  if f ≤ -(fxOne * 256) then .nat 0
  else if fxOne * 256 ≤ f then .nat 1
  else if 0 ≤ f then fxVal false (fxOne * fxOne / (fxOne + fxExpNeg f))
  else
    let y := fxExp f
    .fin false (y.1 * fxOne / (fxOne + y.1 / 2 ^ (-y.2).toNat)).toNat (y.2 - 192)

/-- A function of R194 by number: 0 exp, 1 log, 2 tanh, 3 erf, 4 sigmoid. NaN gives NaN, as does log below 0. -/
def Fv.fn (k : Nat) (x : Fv) : Fv :=
  let exact : Fv := match x with
    | .nan => .nan
    | .inf s => match k with
      | 0 => if s then .nat 0 else .inf false
      | 1 => if s then .nan else .inf false
      | 4 => if s then .nat 0 else .nat 1
      | _ => .fin s 1 0
    | .fin s m e => match k with
      | 0 => expOf x
      | 1 => if m = 0 then .inf true else if s then .nan else logOf m e
      | 2 => tanhOf s m e
      | 3 => erfOf s m e
      | _ => sigmoidOf x
  loose (2 + k) x.bits32 0 exact.f32

end Sys2Proof.Machine
end

