-- ==== Sys2Proof/Machine/Tensor.lean ====
section
/-! DEFINITION. Operands in memory: element placement, reading with poison, conversion and quantisation on output (R191 to R196,
R199, R201, R238). -/

namespace Sys2Proof.Machine

/-- An element read: its value and whether a byte of it was poisoned (R201). -/
structure Elem where
  v   : Fv
  bad : Bool := false
  deriving DecidableEq, Repr

/-- Bits of an element of a format (R191). -/
def elemWidth (fmt : Nat) : Nat :=
  match fmt with
  | 0 | 7 => 32 | 1 | 2 => 16 | 10 | 11 => 6 | 12 | 15 => 4 | _ => 8

/-- The bits of element `i` of a packed row: element 0 in the least significant bits (R191). -/
def rawElem (fmt : Nat) (row : List Byte) (i : Nat) : Nat :=
  let w := elemWidth fmt
  let o := i * w
  leAt row (o / 8) 5 / 2 ^ (o % 8) % 2 ^ w

/-- Bytes of the packed elements of a row, scales aside. -/
def packedElems (fmt cols : Nat) : Nat := (cols * elemWidth fmt + 7) / 8

/-- Whether a format is one of the MX formats, or a row-scaled one. -/
def isMx (fmt : Nat) : Bool := decide (8 ≤ fmt) && decide (fmt ≤ 13)
def isRowScaled (fmt : Nat) : Bool := decide (fmt = 14) || decide (fmt = 15)

/-- The scale an E8M0 byte means (R192). -/
def e8m0 (b : Nat) : Fv := if b = 255 then .nan else .fin false 1 ((b : Int) - 127)

/-- The exact value of element `i` of a row: an MX element times its block's scale, a row-scaled element dequantised by R196. -/
def exactElem (fmt cols : Nat) (row : List Byte) (i : Nat) : Fv :=
  let r := rawElem fmt row i
  if isMx fmt then (decElem fmt r).mulX (e8m0 (leAt row (packedElems fmt cols + i / 32) 1))
  else if isRowScaled fmt then
    let o := packedElems fmt cols
    (decElem 2 (leAt row o 2)).fma (Fv.nat r) (decElem 2 (leAt row (o + 2) 2))
  else decElem fmt r

/-- Element `i` of a row as an operator reads it (R193): exactly, but for an MX product, which is rounded to FP32. An INT8 or UINT8 code of an
operator that gives no scale and zero point is read as the integer (DESIGN CHOICE, log entry 187). -/
def readElem (fmt cols : Nat) (row : List Byte) (i : Nat) : Fv :=
  let x := exactElem fmt cols row i
  if isMx fmt then x.f32 else x

/-! ## Reading -/

/-- A byte that a read of host or remote memory returned, with its poison. -/
def extAt (ext : Ext) (a : Nat) : Option (Byte × Bool) :=
  (ext.find? fun p => decide (p.1 ≤ a) && decide (a < p.1 + p.2.1.length)).map fun p => ((slice p.2.1 (a - p.1) 1).headD 0, p.2.2)

/-- Bytes of a range: the part's own memory, or what was returned for it; bytes that no read returned, the die being down (R90) among the reasons, are free
values. -/
def State.bytesAt (s : State) (ext : Ext) (a n : Nat) : List Byte :=
  match regionOf a with
  | .hbm _ | .cache _ => if s.dieDownAt a then (List.range n).map fun i => Config.freeByte (a + i) else s.rdN a n
  | _ => (List.range n).map fun i => match extAt ext (a + i) with
    | some b => b.1
    | none => Config.freeByte (a + i)

/-- Whether a byte of a range came poisoned (R201, R230). -/
def State.badAt (s : State) (ext : Ext) (a n : Nat) : Bool :=
  match regionOf a with
  | .hbm _ | .cache _ => s.anyPoison a n
  | _ => (List.range n).any fun i => (extAt ext (a + i)).any fun b => b.2

/-- Row `r` of an operand. -/
def State.rowAt (s : State) (ext : Ext) (o : Opnd) (r : Nat) : List Byte :=
  s.bytesAt ext (o.dpa + r * o.stride * 16) (rowBytes o.fmt o.cols)

/-- Where element `i` of a row starts, in bytes from the row's start, and how many bytes it touches. -/
def elemSpan (fmt i : Nat) : Nat × Nat :=
  let w := elemWidth fmt
  (i * w / 8, (i * w % 8 + w + 7) / 8)

/-- Whether element `i` of row `r` is poisoned: it, its block's scale or its row's scale and offset. -/
def State.elemBad (s : State) (ext : Ext) (o : Opnd) (r i : Nat) : Bool :=
  let a := o.dpa + r * o.stride * 16
  let sp := elemSpan o.fmt i
  let pe := packedElems o.fmt o.cols
  s.badAt ext (a + sp.1) sp.2 || (isMx o.fmt && s.badAt ext (a + pe + i / 32) 1) || (isRowScaled o.fmt && s.badAt ext (a + pe) 4)

/-- A row as operators read it: `cols` elements in FP32. -/
def State.readRow (s : State) (ext : Ext) (o : Opnd) (r : Nat) : List Elem :=
  let b := s.rowAt ext o r
  (List.range o.cols).map fun i => ⟨readElem o.fmt o.cols b i, s.elemBad ext o r i⟩

/-- A row with exact element values, as the matrix unit takes it (R193, R197). -/
def State.readExact (s : State) (ext : Ext) (o : Opnd) (r : Nat) : List Elem :=
  let b := s.rowAt ext o r
  (List.range o.cols).map fun i => ⟨exactElem o.fmt o.cols b i, s.elemBad ext o r i⟩

/-- Whether an operand is used (R198: unused ones are all 0). -/
def Opnd.used (o : Opnd) : Bool := decide (o.rows ≠ 0)

/-! ## Writing -/

/-- Elements packed into bytes from the least significant bits on. -/
def packElems (w : Nat) (xs : List Nat) : List Byte :=
  natLe ((xs.length * w + 7) / 8) (xs.foldr (fun x acc => acc * 2 ^ w + x % 2 ^ w) 0)

/-- The largest magnitude of a list of finite values, as mantissa and exponent. -/
def maxMag (vs : List Fv) : Nat × Int :=
  vs.foldl (fun b v => match v with
    | .fin _ m e => if magLt b.1 b.2 m e then (m, e) else b
    | _ => b) (0, 0)

/-- The exponent e_max of an MX format (R195). -/
def mxEmax (fmt : Nat) : Int :=
  match fmt with
  | 8 => 8 | 9 => 15 | 10 => 2 | 11 => 4 | 12 => 2 | _ => 0

/-- An INT8 code of MXINT8, whose elements are q × 2⁻⁶. -/
def mxInt8 (v : Fv) : Conv :=
  match v with
  | .nan => { bits := 0, nans := 1 }
  | .inf s => { bits := if s then 0x80 else 0x7F, sat := 1 }
  | .fin s m e =>
    let q := (Fv.fin s m (e + 6)).rne
    if q < -128 then { bits := 0x80, sat := 1 } else if 127 < q then { bits := 0x7F, sat := 1 }
    else { bits := (if q < 0 then q + 256 else q).toNat }

/-- NaN in an MX element (R193): the canonical NaN of E4M3 and E5M2, code 0 of the integers, counted; MXFP6 and MXFP4 have none (log entry 155). -/
def mxNanConv (fmt : Nat) : Conv :=
  if fmt = 13 then mxInt8 .nan else if fmt = 8 || fmt = 9 then toFloat fmt .nan else { bits := Config.mxNan fmt % 2 ^ elemWidth fmt }

/-- One MX block quantised (R195): its scale byte and its elements. In a block that holds a NaN the scale is NaN, and so is every v ÷ X. -/
def mxBlock (fmt : Nat) (vs : List Fv) : Nat × List Conv :=
  if vs.any Fv.isNan then (0xFF, vs.map fun _ => mxNanConv fmt)
  else
    let (m, e) := maxMag vs
    let sb : Int :=
      if vs.any Fv.isInf then 0xFE
      else if m = 0 then 0
      else max 0 (min 254 (e + (m.log2 : Int) - mxEmax fmt + 127))
    (sb.toNat, vs.map fun v =>
      let x : Fv := match v with
        | .fin s m e => .fin s m (e - (sb - 127))
        | w => w
      if fmt = 13 then mxInt8 x else toFloat fmt x)

/-- A list cut into blocks of `n`. -/
def blocksOf {α : Type} (n : Nat) (l : List α) : List (List α) :=
  (List.range (ceilDiv l.length n)).map fun k => (l.drop (k * n)).take n

/-- A row quantised to INT8-R or INT4-R (R196): its bytes and its counts. -/
def quantRow (fmt : Nat) (vs : List Fv) : List Byte × Nat × Nat :=
  let top : Nat := if fmt = 14 then 255 else 15
  let fins := vs.filter fun v => !v.isNan && !v.isInf
  let lo := fins.foldl (fun (b : Option Fv) v => some (match b with
    | none => v
    | some x => if v.lt x then v else x)) none
  let hi := fins.foldl (fun (b : Option Fv) v => some (match b with
    | none => v
    | some x => if x.lt v then v else x)) none
  let (off, sc) := match lo, hi with
    | some a, some b => (a, (b.sub a).div (Fv.nat top))
    | _, _ => (Fv.nat 0, Fv.nat 0)
  let o16 := toFloat 2 off
  let s16 := toFloat 2 sc
  let ov := decElem 2 o16.bits
  let sv := decElem 2 s16.bits
  let code (v : Fv) : Nat × Nat × Nat :=
    match v with
    | .nan => (0, 0, 1)
    | .inf s => (if s then 0 else top, 1, 0)
    | x =>
      if sv.isZero then (0, 0, 0)
      else
        let q := ((x.sub ov).div sv).rne
        ((max 0 (min (top : Int) q)).toNat, 0, 0)
  let cs := vs.map code
  (packElems (elemWidth fmt) (cs.map fun c => c.1) ++ natLe 2 s16.bits ++ natLe 2 o16.bits,
   cs.foldl (fun n c => n + c.2.1) 0 + o16.sat + s16.sat, cs.foldl (fun n c => n + c.2.2) 0)

/-- A value in INT8 or UINT8 with a scale and zero point (R193). -/
def quantInt (fmt : Nat) (s : Fv) (z : Int) (v : Fv) : Conv :=
  let lo : Int := if fmt = 5 then -128 else 0
  let hi : Int := if fmt = 5 then 127 else 255
  let enc (q : Int) : Nat := (if q < 0 then q + 256 else q).toNat
  match v with
  | .nan => { bits := enc z, nans := 1 }
  | .inf s => { bits := enc (if s then lo else hi), sat := 1 }
  | x =>
    match x.div s with
    | .nan => { bits := enc z, nans := 1 }
    | .inf g => { bits := enc (if g then lo else hi), sat := 1 }
    | d =>
      let q := d.rne + z
      if q < lo then { bits := enc lo, sat := 1 } else if hi < q then { bits := enc hi, sat := 1 } else { bits := enc q }

/-- A row of FP32 values converted to a format (R193, R195, R196): its bytes, SAT_KEPT and NAN counts. -/
def encRow (fmt : Nat) (sc : Fv) (z : Int) (vs : List Fv) : List Byte × Nat × Nat :=
  let sum (cs : List Conv) : Nat × Nat := (cs.foldl (fun n c => n + c.sat) 0, cs.foldl (fun n c => n + c.nans) 0)
  if isRowScaled fmt then quantRow fmt vs
  else if isMx fmt then
    let bs := (blocksOf 32 vs).map (mxBlock fmt)
    let cs := bs.flatMap fun b => b.2
    let raw := packElems (elemWidth fmt) (cs.map fun c => c.bits) ++ bs.flatMap fun b => natLe 1 b.1
    (slice raw 0 (pad16 raw.length), sum cs)
  else
    let cs := vs.map fun v => if fmt = 5 || fmt = 6 then quantInt fmt sc z v
      else if fmt = 7 then { bits := v.rne.toNat } else toFloat fmt v
    (packElems (elemWidth fmt) (cs.map fun c => c.bits), sum cs)

/-- The granules of a written row that carry the tag (R201): of its tagged elements, and of their scales. -/
def badGranules (fmt cols a : Nat) (es : List Elem) : List Nat :=
  (es.zipIdx.filter fun p => p.1.bad).flatMap fun p =>
    granules (a + (elemSpan fmt p.2).1) (elemSpan fmt p.2).2 ++
    (if isMx fmt then granules (a + packedElems fmt cols + p.2 / 32) 1
     else if isRowScaled fmt then granules (a + packedElems fmt cols) 4 else [])

/-- Elements that share a scale depend on one another: a tagged one tags its block or its row (R195, R196, R201). -/
def spreadBad (fmt : Nat) (es : List Elem) : List Elem :=
  let tag (b : List Elem) : List Elem := if b.any fun x => x.bad then b.map fun x => { x with bad := true } else b
  if isMx fmt then (blocksOf 32 es).flatMap tag else if isRowScaled fmt then tag es else es

/-- Row `r` of an output: its bytes where they go, and its counts. -/
def outRow (o : Opnd) (r : Nat) (sc : Fv) (z : Int) (es0 : List Elem) : OutPiece × Counts :=
  let es := spreadBad o.fmt es0
  let a := o.dpa + r * o.stride * 16
  let e := encRow o.fmt sc z (es.map fun x => x.v)
  (⟨a, e.1, badGranules o.fmt es.length a es⟩, { satKept := e.2.1, nans := e.2.2, poison := (es.filter fun x => x.bad).length })

/-- Counts added. -/
def Counts.add (a b : Counts) : Counts :=
  { satKept := a.satKept + b.satKept, recomp := a.recomp + b.recomp, nans := a.nans + b.nans, empty := a.empty + b.empty
    short := a.short + b.short, poison := a.poison + b.poison, scores := a.scores + b.scores, oob := a.oob + b.oob }

/-- Pieces and counts of several rows together. -/
def joinRows (rs : List (OutPiece × Counts)) : List OutPiece × Counts :=
  (rs.map fun r => r.1, rs.foldl (fun c r => c.add r.2) {})

/-! ## Sums whose order is not fixed -/

/-- A list in an order no rule fixes (R183, R245): drawn element by element. -/
def State.shuffle {α : Type} (s : State) : List α → Nat → List α × State
  | l, 0 => (l, s)
  | l, n + 1 =>
    match l with
    | [] => ([], s)
    | x :: xs =>
      let (k, s1) := s.draw 32
      let i := k % (xs.length + 1)
      let y := (x :: xs).getD i x
      let rest := (x :: xs).eraseIdx i
      let r := s1.shuffle rest n
      (y :: r.1, r.2)

/-- FP32 additions in the order given, from +0. -/
def sumF32 (l : List Fv) : Fv := l.foldl Fv.add (Fv.nat 0)

/-- The exact sum of a group's products, rounded once (R197). -/
def groupSum (l : List Fv) : Fv := (l.foldl Fv.addX (Fv.nat 0)).f32

/-- A dot product on the matrix unit (R197): `group` inputs summed exactly at a time, or each product added with rounding; the groups' sums added in
ascending input order. -/
def dot (fmt : Nat) (x w : List Fv) : Fv :=
  let ps := x.zipWith Fv.mulX w
  if fmt = 1 || fmt = 2 || fmt = 0 then ps.foldl (fun acc p => (acc.addX p).f32) (Fv.nat 0)
  else sumF32 ((blocksOf (if fmt = 5 || fmt = 6 then 64 else 32) ps).map groupSum)

end Sys2Proof.Machine
end

