-- ==== Sys2Proof/Machine/OpMath.lean ====
section
/-! DEFINITION. What each operator computes for one row of its output (R202 to R220). Where the spec gives a formula and no rounding
of its intermediate values, each operation rounds to FP32 (R194). -/

namespace Sys2Proof.Machine

/-- Rows of an output with their counts, and the state after the free choices made. -/
abbrev RowsOut := List (OutPiece × Counts) × State

/-- An FP32 number by its bits. -/
def f32c (b : Nat) : Fv := decElem 0 b

/-! ## Functions (R207) -/

/-- ACT and FUNC. -/
def actFn (k : Nat) (v : Fv) : Fv :=
  let half := f32c 0x3F000000
  match k with
  | 1 => Fv.max2 v (.nat 0)
  | 2 => (v.mul half).mul ((Fv.nat 1).add ((v.div (f32c 0x3FB504F3)).fn 3))
  | 3 => ((v.mul half)).mul ((Fv.nat 1).add (((f32c 0x3F4C4231).mul (v.add ((f32c 0x3D372713).mul ((v.mul v).mul v)))).fn 2))
  | 4 => v.fn 4
  | 5 => v.fn 2
  | 6 => v.mul (v.fn 4)
  | _ => v

/-- A scale of 0.0 is read as 1.0 (R207). -/
def scaleOr1 (c : Fv) : Fv := if c.isZero then .nat 1 else c

/-- An element with a function applied. -/
def Elem.map (f : Fv → Fv) (e : Elem) : Elem := { e with v := f e.v }

/-- Whether any element is tagged. -/
def anyBad (es : List Elem) : Bool := es.any fun e => e.bad

/-- The element `i` of a list, NaN past its end. -/
def elemAt (es : List Elem) (i : Nat) : Elem := es.getD i ⟨.nan, false⟩

/-- A sum in an order no rule fixes (R183). -/
def State.sumFree (s : State) (l : List Fv) : Fv × State :=
  let r := s.shuffle l l.length
  (sumF32 r.1, r.2)

/-! ## Elementwise and row operators -/

/-- ELTWISE (R208). -/
def State.eltwise (s : State) (ext : Ext) (o : OpDesc) (r : Nat) : List Elem :=
  let a := s.readRow ext o.in0 r
  let c := fp32At o.param 4
  let b := s.readRow ext o.in1 (if o.in1.rows = 1 then 0 else r)
  let f (x y : Fv) : Fv := match leAt o.param 0 1 with
    | 0 => x.add y | 1 => x.sub y | 2 => x.mul y | 3 => x.max2 y | _ => x.min2 y
  a.zipIdx.map fun p =>
    let y := elemAt b (if o.in1.cols = 1 then 0 else p.2)
    ⟨c.mul (f p.1.v y.v), p.1.bad || y.bad⟩

/-- ACT (R207). -/
def State.actRow (s : State) (ext : Ext) (o : OpDesc) (r : Nat) : List Elem :=
  let c := scaleOr1 (fp32At o.param 4)
  (s.readRow ext o.in0 r).map (Elem.map fun v => c.mul (actFn (leAt o.param 0 1) v))

/-- SOFTMAX (R209): the row, and whether it counts in EMPTY. -/
def State.softmax (s : State) (ext : Ext) (o : OpDesc) (r : Nat) : List Elem × Bool :=
  let x := s.readRow ext o.in0 r
  let mask := if o.in1.used then s.readRow ext o.in1 r else List.replicate x.length ⟨.nat 1, false⟩
  let inc (i : Nat) : Bool := !o.in1.used || !(elemAt mask i).v.isZero
  let c := fp32At o.param 4
  let bad := anyBad mask || (x.zipIdx.any fun p => inc p.2 && p.1.bad)
  -- an excluded element depends on its mask byte alone
  let tag (i : Nat) : Bool := if inc i then bad else (elemAt mask i).bad
  let kept := x.zipIdx.filter fun p => inc p.2
  let allNegInf := kept.all fun p => match p.1.v with
    | .inf n => n
    | _ => false
  if allNegInf then (x.zipIdx.map fun p => ⟨.nat 0, tag p.2⟩, true)
  else if kept.any (fun p => match p.1.v with
    | .inf n => !n
    | _ => false) then (x.zipIdx.map fun p => ⟨if inc p.2 then .nan else .nat 0, tag p.2⟩, false)
  else
    let m := kept.foldl (fun m p => m.max2 (c.mul p.1.v)) (.inf true)
    let e (v : Fv) : Fv := ((c.mul v).sub m).fn 0
    let d := kept.foldl (fun d p => d.add (e p.1.v)) (.nat 0)
    (x.zipIdx.map fun p => ⟨if inc p.2 then (e p.1.v).div d else .nat 0, tag p.2⟩, false)

/-- LAYERNORM (R210). -/
def State.layernorm (s : State) (ext : Ext) (o : OpDesc) (r : Nat) : List Elem × State :=
  let x := s.readRow ext o.in0 r
  let g := s.readRow ext o.in1 0
  let b := s.readRow ext o.in2 0
  let n := Fv.nat o.in0.cols
  let (sum, s1) := if leAt o.param 0 1 = 1 then (Fv.nat 0, s) else s.sumFree (x.map fun e => e.v)
  let mu := if leAt o.param 0 1 = 1 then Fv.nat 0 else sum.div n
  let (sq, s2) := s1.sumFree (x.map fun e => ((e.v.sub mu).mul (e.v.sub mu)))
  let inv := ((sq.div n).add (fp32At o.param 4)).rsqrt
  let bad := anyBad x
  (x.zipIdx.map fun p =>
    let ge := elemAt g p.2
    let be := elemAt b p.2
    ⟨((ge.v.mul (p.1.v.sub mu)).mul inv).add be.v, bad || ge.bad || be.bad⟩, s2)

/-- CONCAT (R211). -/
def State.concatRow (s : State) (ext : Ext) (o : OpDesc) (r : Nat) : List Elem :=
  ([o.in0, o.in1, o.in2, o.in3].filter Opnd.used).flatMap fun i => s.readRow ext i r

/-- DEQUANT (R216). -/
def State.dequantRow (s : State) (ext : Ext) (o : OpDesc) (r : Nat) : List Elem :=
  let z := Fv.nat (leAt o.param 4 1)
  (s.readRow ext o.in0 r).map (Elem.map fun v =>
    if o.in0.fmt = 5 || o.in0.fmt = 6 then (fp32At o.param 0).mul (v.sub z) else v)

/-! ## The matrix unit -/

/-- A dot product of two lists of elements, tagged where either holds a tagged one. -/
def dotElems (fmt : Nat) (p : List Elem × List Elem) : Elem :=
  ⟨dot fmt (p.1.map fun e => e.v) (p.2.map fun e => e.v), anyBad p.1 || anyBad p.2⟩

/-- The summing rule of two operand formats (R197): INT8 and UINT8 together, 16-bit floats, and the rest. For pairs and formats that R197
does not list: with FP32 or a 16-bit float product by product, else in groups of 32 (DESIGN CHOICE, log entry 184). -/
def dotFmt (a b : Nat) : Nat :=
  if (a = 5 || a = 6) && (b = 5 || b = 6) then 5 else if a ≤ 2 then 1 else if b ≤ 2 then 1 else 3

/-- DOTINT (R212). -/
def State.dotint (s : State) (ext : Ext) (o : OpDesc) (r : Nat) : List Elem :=
  let f := leAt o.param 0 2
  let d := leAt o.param 2 2
  let self := decide (leAt o.param 4 1 = 1)
  let x := s.readExact ext o.in0 r
  let e (i : Nat) : List Elem := (x.drop (i * d)).take d
  let pairs := (List.range f).flatMap fun i => (List.range (if self then i + 1 else i)).map fun j => (e i, e j)
  let dense := if o.in1.used then s.readRow ext o.in1 r else []
  dense ++ pairs.map (dotElems (dotFmt o.in0.fmt o.in0.fmt))

/-- SCORE (R213): the scores of the candidates of query `g`. -/
def State.scoreRow (s : State) (ext : Ext) (o : OpDesc) (g : Nat) : List Elem :=
  let n := leAt o.param 0 4
  let q := s.readExact ext o.in0 g
  let y := (List.range n).map fun k => dotElems (dotFmt o.in0.fmt o.in1.fmt) (q, s.readExact ext o.in1 (g * n + k))
  let b := if o.in2.used then elemAt (s.readRow ext o.in2 0) 0 else ⟨.nat 0, false⟩
  y.map fun e => ⟨(if leAt o.param 4 1 = 1 then (b.v.add e.v).fn 4 else b.v.add e.v), e.bad || b.bad⟩

/-! ## Attention (R214, R215) -/

/-- The running maximum, sum and accumulator of one query and head. -/
structure AttnAcc where
  m   : Fv
  sum : Fv
  acc : List Fv

/-- One block of up to 256 included keys, each a score and its value row: where the maximum rises, the sum and the accumulator are rescaled. -/
def AttnAcc.block (a : AttnAcc) (ks : List (Fv × List Fv)) : AttnAcc :=
  let m := ks.foldl (fun m k => m.max2 k.1) a.m
  let k0 := (a.m.sub m).fn 0
  let b : AttnAcc := if a.m.lt m || m.isNan then { m := m, sum := a.sum.mul k0, acc := a.acc.map fun x => x.mul k0 } else a
  ks.foldl (fun a k =>
    let p := (k.1.sub m).fn 0
    let w := decElem 1 (toFloat 1 p).bits
    { a with sum := a.sum.add p, acc := a.acc.zipWith (fun x v => (x.addX (w.mulX v)).f32) k.2 }) b

/-- ATTN (R214, R215): row `r` of the output and the queries that had no included key, one for each head (DESIGN CHOICE, log entry 185). An output element depends on its head's part of the query and of
every included key, on its column of their values, and on the valid length. -/
def State.attn (s : State) (ext : Ext) (o : OpDesc) (r : Nat) : List Elem × Nat :=
  let h := leAt o.param 0 1
  let dh := leAt o.param 1 2
  let lq := leAt o.param 4 2
  let lkv := leAt o.param 6 2
  let b := r / lq
  let i := r % lq
  let scale := fp32At o.param 8
  let len := elemAt (s.readRow ext o.in3 b) 0
  let valid := min len.v.rne.toNat lkv
  let keys := (List.range valid).filter fun j => !(leAt o.param 12 1 = 1) || decide (j + lq ≤ i + lkv)
  let cut (es : List Elem) (k : Nat) : List Elem := (es.drop (k * dh)).take dh
  let q := s.readExact ext o.in0 r
  let krows := keys.map fun j => s.readExact ext o.in1 (b * lkv + j)
  let vrows := keys.map fun j => s.readExact ext o.in2 (b * lkv + j)
  (List.range h).foldl (fun st k =>
    let sc := krows.map fun kr => dotElems (dotFmt o.in0.fmt o.in1.fmt) (cut q k, cut kr k)
    let vs := vrows.map fun v => cut v k
    let bad := len.bad || anyBad sc
    if keys.isEmpty then (st.1 ++ List.replicate dh ⟨.nat 0, len.bad⟩, st.2 + 1)
    else
      let ks := (sc.map fun e => scale.mul e.v).zip (vs.map fun v => v.map fun e => e.v)
      let a := (blocksOf 256 ks).foldl AttnAcc.block ⟨.inf true, .nat 0, List.replicate dh (.nat 0)⟩
      (st.1 ++ a.acc.zipIdx.map (fun x => ⟨x.1.div a.sum, bad || vs.any fun v => (elemAt v x.2).bad⟩), st.2)) ([], 0)

/-! ## The selector (R217, R218) -/

/-- A candidate: its raw score bits, its value and its index. -/
structure Cand where
  bits : Nat
  v    : Fv
  idx  : Nat

/-- The order of R218: by value (zeros equal), then by the lower index. -/
def Cand.before (small : Bool) (a b : Cand) : Bool :=
  let z (v : Fv) : Fv := if v.isZero then .nat 0 else v
  let lt := if small then (z a.v).lt (z b.v) else (z b.v).lt (z a.v)
  let gt := if small then (z b.v).lt (z a.v) else (z a.v).lt (z b.v)
  lt || (!gt && decide (a.idx ≤ b.idx))

/-- A candidate put in its place of a sorted list. -/
def Cand.insert (small : Bool) (c : Cand) : List Cand → List Cand
  | [] => [c]
  | x :: xs => if c.before small x then c :: x :: xs else x :: Cand.insert small c xs

/-- TOPK (R218): row `g`; its scores and its indices as pieces, the indices' rows 4K bytes apart (DESIGN CHOICE, log entry 186). -/
def State.topkRow (s : State) (ext : Ext) (o : OpDesc) (k g : Nat) : List (OutPiece × Counts) :=
  let row := s.rowAt ext o.in0 g
  let es := s.readRow ext o.in0 g
  let ids := if o.in1.used then s.readRow ext o.in1 g else []
  let small := decide (leAt o.param 2 1 = 1)
  let cs := es.zipIdx.map fun p =>
    Cand.mk (rawElem o.in0.fmt row p.2) p.1.v (if o.in1.used then (elemAt ids p.2).v.rne.toNat else p.2)
  let ok := cs.filter fun c => !c.v.isNan
  let best := (ok.foldr (Cand.insert small) []).take k
  let fill := List.replicate (k - best.length) (nanBits o.in0.fmt, 0xFFFFFFFF)
  let out := best.map (fun c => (c.bits, c.idx)) ++ fill
  let bad := anyBad es || anyBad ids
  let w := elemWidth o.in0.fmt
  let a := o.out.dpa + g * o.out.stride * 16
  let b := leAt o.param 8 8 % 2 ^ 52 + g * 4 * k
  let tag (a n : Nat) : List Nat := if bad then granules a n else []
  [(⟨a, packElems w (out.map fun p => p.1), tag a (w / 8 * k)⟩,
    { nans := cs.length - ok.length, short := b2n (decide (ok.length < k)), poison := if bad then k else 0, scores := cs.length }),
   (⟨b, out.flatMap fun p => natLe 4 p.2, tag b (4 * k)⟩, { poison := if bad then k else 0 })]

/-! ## GEMM (R202 to R206) -/

/-- The weight code of row `r`, input `i` of a block (R148); −128 is loaded as −127 (R141). -/
def weightCode (b : List Byte) (r i : Nat) : Int := max (-127) (toSigned 8 (leAt b (64 * r + i) 1))

/-- Whether a weight block's CRC holds (R148). -/
def blockCrcOk (b : List Byte) : Bool := leAt b 4100 4 = crc32c (slice b 0 4100)

/-- Rounds `n ÷ d` to the nearest integer, half to even. -/
def rneDiv (n : Int) (d : Nat) : Int :=
  let q := n / d
  let r := n % d
  if 2 * r < d then q else if 2 * r = d then (if q % 2 = 0 then q else q + 1) else q + 1

/-- The ideal output code of an exact sum Σ w(x − Z) (R143, R158), the class and the range. -/
def idealCode (fine : Bool) (range : Nat) (sum : Int) : Int :=
  let k : Int := (if fine then 8 else 4) * 2 ^ range
  let c := rneDiv (sum * k) 32385
  if fine then max (-256) (min 254 c) else max (-128) (min 127 c)

/-- The value of y that an output code stands for (R143): code × F ÷ 256, or ÷ 512 in the fine class. -/
def codeY (fine : Bool) (range : Nat) (c : Int) : Fv :=
  match Fv.int c with
  | .fin s m _ => .fin s m (-(range : Int) - (if fine then 3 else 2))
  | x => x

/-- Whether an output code is an end code of its class (R143). -/
def atEnd (fine : Bool) (c : Int) : Bool := if fine then decide (c = -256) || decide (c = 254) else decide (c = -128) || decide (c = 127)

/-! ## The analog path (R139) -/

/-- The DAC level of an input for a code (R139 stage 2): its transfer table as the last pilot left it, else its factory trim. -/
def State.inputLevel (s : State) (k i code : Nat) : Nat :=
  ((tabGet [] s.omus.inputs (64 * k + i))[code]?).getD (Config.inputSeed (64 * k + i) code)

/-- A point of a weight ring's table (R139): as the last pilot that refined its row left it, else its factory trim. -/
def State.driverPoint (s : State) (ring p : Nat) : Nat := ((tabGet [] s.omus.drivers ring)[p]?).getD (Config.driverSeed ring p)

/-- The driver value of a weight ring for a weight code (R139 stage 5): between the two points of its 17-point table about the code, which stand 16 codes
apart from −128 on (DESIGN CHOICE, log entry 151). -/
def State.driverFor (s : State) (ring : Nat) (w : Int) : Nat :=
  let n := (w + 128).toNat
  (s.driverPoint ring (n / 16) * (16 - n % 16) + s.driverPoint ring (n / 16 + 1) * (n % 16)) / 16

/-- Stage 7 of R139 for row `r` of OMU `k`: its offset DAC's trim as the last pilot left it, else its first one, and the gain trim (R151). -/
def State.tia (s : State) (k r : Nat) : Nat × Int :=
  (((tabGet [] s.omus.dacs k)[r]?).getD (Config.offsetSeed (64 * k + r)), toSigned 10 (s.get F.OMU_GAIN_TRIM (k / 4) (k % 4)))

/-- One ADC sample of a row of OMU `k` (R139, R142, R143): its sum in steps of the ADC with the error of its inputs, rings, heaters, trims and noise,
which lies within ±8 codes (DESIGN CHOICE, log entry 151); a sum beyond the span gives the end code. -/
def State.adcSample (s : State) (k range r : Nat) (b xs : List Byte) (sum : Int) : Int × State :=
  let levels := (List.range 64).map fun i => s.inputLevel k i (leAt xs i 1)
  let ring (i : Nat) : Nat := 4096 * k + 64 * r + i
  let drivers := (List.range 64).map fun i => s.driverFor (ring i) (weightCode b r i)
  let heaters := (List.range 64).map fun i => Config.weightHeater (ring i) (toSigned 12 (s.get F.THM_TILE_T_SITE (k / 4)))
  let n := s.draw 64
  let e := max (-128) (min 128 (Config.rowError (64 * k + r) levels drivers heaters (s.tia k r) n.1))
  let y := sum * (4 * 2 ^ range)
  (if y < -128 * 32385 then -128 else if 128 * 32385 < y then 127
   else max (-128) (min 127 (rneDiv (y * 16 + e * 32385) (32385 * 16))), n.2)

/-- The output code of a row of OMU `k`, and whether it is saturated (R143): the fine class sums two samples, of which either may be at its end. -/
def State.omuCode (s : State) (k : Nat) (fine : Bool) (range r : Nat) (b xs : List Byte) (sum : Int) : Int × Bool × State :=
  let a := s.adcSample k range r b xs sum
  if fine then
    let c := a.2.adcSample k range r b xs sum
    (a.1 + c.1, atEnd false a.1 || atEnd false c.1, c.2)
  else (a.1, atEnd false a.1, a.2)

/-- Whether a block counts as loaded on an OMU (R149), RELOAD aside. -/
def State.omuHas (s : State) (t u off id : Nat) : Bool :=
  s.isSet F.OMU_LOADED_VALID t u && decide (s.get F.OMU_LOADED_WBLOCK t u = off) && decide (s.get F.OMU_LOADED_BLOCK_ID t u = id)

/-- A weight block loaded into an OMU (R149), which keeps it: counted, its codes of −128 counted (R141). -/
def State.loadBlock (s : State) (t u off : Nat) (b : List Byte) : State :=
  let clamps := ((List.range 4096).filter fun i => leAt b i 1 = 128).length
  let s1 := { s with omus := { s.omus with blocks := tabPut [] s.omus.blocks (4 * t + u) b } }
  ((((s1.bump F.OMU_LOAD t u).bump F.OMU_W_CLAMP t 0 clamps).set F.OMU_LOADED_WBLOCK off t u).set F.OMU_LOADED_BLOCK_ID (leAt b 4096 4) t
    u).set F.OMU_LOADED_VALID 1 t u

/-- OMU `k`'s row offset table, as its last pilot found it, at its place (R177, R460 step 7); none before a pilot. -/
def State.putOfftab (s : State) (k : Nat) : State :=
  match tabGet [] s.omus.offtabs k with
  | [] => s
  | l => s.commitWrite (0x100000000000 + k / 4 * cacheSize + s.get F.OMU_CAL_OFFTAB_BASE k) (l.flatMap fun x => natLe 2 x) fun _ => false

/-- The row offset entry of an OMU's row (R177). -/
def State.offEntry (s : State) (t u r : Nat) : Int :=
  toSigned 16 (leNat (s.rdN (0x100000000000 + t * cacheSize + s.get F.OMU_CAL_OFFTAB_BASE (4 * t + u) + 2 * r) 2))

/-- A GEMM's scale of output `n` times s_x (R202, R204). -/
def State.gemmScale (s : State) (ext : Ext) (o : OpDesc) (n : Nat) : Elem :=
  let sx := fp32At o.param 0
  let e := if o.in3.used then elemAt (s.readRow ext o.in3 0) n else ⟨.nat 1, false⟩
  ⟨sx.mul e.v, e.bad⟩

/-- Bias added and ACT applied (R204). -/
def State.gemmEnd (s : State) (ext : Ext) (o : OpDesc) (n : Nat) (e : Elem) : Elem :=
  let b := if o.in2.used then elemAt (s.readRow ext o.in2 0) n else ⟨.nat 0, false⟩
  ⟨actFn (leAt o.param 7 1) (e.v.add b.v), e.bad || b.bad⟩

/-- A GEMM row on the digital path (R197, R202). -/
def State.gemmDigital (s : State) (ext : Ext) (o : OpDesc) (r : Nat) : List Elem :=
  let xi := o.in0.fmt = 5 || o.in0.fmt = 6
  let wi := o.in1.fmt = 5 || o.in1.fmt = 6
  let z := Fv.nat (if xi then leAt o.param 4 1 else 0)
  let x := (s.readExact ext o.in0 r).map (Elem.map fun v => if xi then v.addX z.flip else v)
  let y := (List.range o.out.cols).map fun n => dotElems (dotFmt o.in0.fmt o.in1.fmt) (x, s.readExact ext o.in1 n)
  y.zipIdx.map fun p =>
    let k := if wi then s.gemmScale ext o p.2 else ⟨.nat 1, false⟩
    let v := if xi && wi then k.v.mul p.1.v else if xi then (fp32At o.param 0).mul p.1.v
      else if wi then ((elemAt (s.readRow ext o.in3 0) p.2).v).mul p.1.v else p.1.v
    s.gemmEnd ext o p.2 ⟨v, p.1.bad || k.bad⟩

/-! ## One output row -/

/-- The scale and zero point an INT8 or UINT8 output takes (R191, R216): QUANT gives them; of other operators the spec gives none,
and they are free values. -/
def State.outScale (s : State) (o : OpDesc) : Fv × Int × State :=
  if o.opcode = 0x0C then (fp32At o.param 0, (leAt o.param 4 1 : Nat), s)
  else if o.out.fmt = 5 || o.out.fmt = 6 then
    let (b, s1) := s.draw 32
    let (z, s2) := s1.draw 8
    (f32c b, (z : Int), s2)
  else (.nat 1, 0, s)

/-- An output row's piece with more counts. -/
def State.rowOut (s : State) (o : OpDesc) (r : Nat) (es : List Elem) (c : Counts) : RowsOut :=
  let (sc, z, s1) := s.outScale o
  let x := outRow o.out r sc z es
  ([(x.1, x.2.add c)], s1)

/-- Unit `r` of an operator's work: a row of its output; SCORE's and TOPK's are queries. -/
def State.opRow (s : State) (ext : Ext) (o : OpDesc) (r : Nat) : RowsOut :=
  match o.opcode with
  | 0x01 => s.rowOut o r (s.gemmDigital ext o r) {}
  | 0x02 => s.rowOut o r (s.eltwise ext o r) {}
  | 0x03 => s.rowOut o r (s.actRow ext o r) {}
  | 0x04 => let y := s.softmax ext o r
            s.rowOut o r y.1 { empty := b2n y.2 }
  | 0x05 => let y := s.layernorm ext o r
            y.2.rowOut o r y.1 {}
  | 0x06 => s.rowOut o r (s.concatRow ext o r) {}
  | 0x07 => s.rowOut o r (s.dotint ext o r) {}
  | 0x08 => let y := s.attn ext o r
            s.rowOut o r y.1 { empty := y.2 }
  | 0x0A =>
    let n := leAt o.param 0 4
    s.rowOut { o with out := { o.out with dpa := o.out.dpa + r * n * (elemWidth o.out.fmt / 8) } } 0 (s.scoreRow ext o r) {}
  | 0x0B => (s.topkRow ext o (leAt o.param 0 2) r, s)
  | 0x0C => s.rowOut o r (s.readRow ext o.in0 r) {}
  | 0x0D => s.rowOut o r (s.dequantRow ext o r) {}
  | _ => ([], s)

/-- Several units one after another. -/
def State.opRows (s : State) (ext : Ext) (o : OpDesc) : List Nat → RowsOut
  | [] => ([], s)
  | r :: rs =>
    let a := s.opRow ext o r
    let b := a.2.opRows ext o rs
    (a.1 ++ b.1, b.2)

end Sys2Proof.Machine
end

