-- ==== Sys2Proof/Machine/OpRun.lean ====
section
/-! DEFINITION. Which card an operator's slot runs with, what it reads and where it writes (R199, R201, R223, R306, R323, R324). -/

namespace Sys2Proof.Machine

/-! ## Slots and overrides -/

/-- The rank of a schedule entry among the entries of its operator on its tile, by START (R323). -/
def State.entrySlot (s : State) (idx : Nat) (e : SchedEnt) : Nat :=
  (s.sched.zipIdx.filter fun p =>
    decide (p.1.op = e.op) && decide (p.1.tile = e.tile) &&
    (decide (p.1.start < e.start) || (decide (p.1.start = e.start) && decide (p.2 < idx)))).length

/-- The started card that a schedule entry's slot belongs to (R323), none of a card convicted of a hang (R473). -/
def State.slotCard (s : State) (idx : Nat) (e : SchedEnt) : Option Nat :=
  let j := s.entrySlot idx e
  (s.dealtSlots.find? fun d =>
    decide (d.2.2 = j) && decide (d.2.1.1 ≤ e.op) && decide (e.op ≤ d.2.1.2) && (s.ent d.1).started && !(s.ent d.1).guilty).map fun d => d.1

/-- An operand at another address; 0 keeps the chart's (R318, R324). -/
def Opnd.at (o : Opnd) (a : Nat) : Opnd := if a = 0 then o else { o with dpa := a }

/-- An operator as a slot card runs it, and the active row count (R199, R324): ENTRY, EXIT and every operator between. -/
def applyCard (c : List Byte) (i : Nat) (o : OpDesc) : OpDesc × Nat :=
  let a (off : Nat) := leAt c off 8
  match cardOp c with
  | 0x01 =>
    let o1 := if i = leAt c 16 2 then { o with in0 := o.in0.at (a 24), in1 := o.in1.at (a 32) } else o
    (if i = leAt c 18 2 then { o1 with out := o1.out.at (a 40) } else o1, leAt c 20 4)
  | 0x02 => ({ o with in0 := { o.in0.at (a 24) with cols := leAt c 20 4 }, out := o.out.at (a 32) }, o.out.rows)
  | 0x03 => ({ o with in0 := o.in0.at (a 24), in1 := o.in1.at (a 32), out := o.out.at (a 40) }, leAt c 20 4)
  | 0x04 =>
    let k := if leAt c 18 2 = 0 then leAt o.param 0 2 else leAt c 18 2
    let ix := if a 48 = 0 then leAt o.param 8 8 else a 48
    ({ o with
        in0 := o.in0.at (a 24), in1 := o.in1.at (a 32), out := o.out.at (a 40)
        param := natLe 2 k ++ slice o.param 2 6 ++ natLe 8 ix ++ slice o.param 16 16 }, leAt c 20 4)
  | _ => (o, 0)

/-- Units of an operator's work: rows of its output, or queries (R213, R218), within the active row count. -/
def opUnits (o : OpDesc) (rows : Nat) : Nat :=
  match o.opcode with
  | 0x0A | 0x0B => min o.in0.rows rows
  | _ => min o.out.rows rows

/-- The tiles that run an operator: those of TILES that the schedule gives an entry of it. -/
def State.opTiles (s : State) (i : Nat) (o : OpDesc) : List Nat :=
  (bitList 24 o.tiles).filter fun t => s.sched.any fun e => decide (e.op = i) && decide (e.tile = t)

/-- The units a tile takes: one in so many as there are tiles (the spec gives no split). -/
def unitsOf (tiles : List Nat) (t n : Nat) : List Nat :=
  (List.range n).filter fun u => decide (u % max 1 tiles.length = tiles.idxOf t)

/-! ## Reading -/

/-- Memory as the read requests of a site find it (R91): behind every write that the site has numbered before them. -/
def State.afterOwn (s : State) (site : Nat) : State :=
  let mine := (List.range 44).flatMap fun d => (s.uncommitted site d).filter fun e => decide (e.pkt.op = 0)
  let t := mine.foldl (fun t e => match t.region e.pkt.addr with
    | .hbm _ | .cache _ => t.store e.pkt.addr e.pkt.payload (fun i => bit e.pkt.poison i) []
    | _ => t) s
  { s with mem := t.mem, poison := t.poison }


/-- What reading rows of an operand meets (R90, R199, R226, R306, R307, R377, R391): the packets of it that are refused, each checked by itself, a link that is
down, or a peer that is lost. -/
def State.readFault (s : State) (o : Opnd) (rows : List Nat) : Option Result :=
  if !o.used || rows.isEmpty then none
  else if s.hostGone o.dpa then some { status := 5, detail := 2 }
  else if s.peerGone o.dpa then some { status := 5, detail := 3 }
  else
    let n := rows.foldl (fun n r => n + (s.refusedReads (o.dpa + r * o.stride * 16) (rowBytes o.fmt o.cols)).length) 0
    if n = 0 then none else some { status := 4, detail := if s.dieDownAt o.dpa then 3 else 1, count := n }

/-- The rows of input `i` that an operator reads for some units of its work (R199, R200, R203, R208 to R219): the active ones alone. The weights of a GEMM on the
optical path lie in the cache die already. -/
def opReads (o : OpDesc) (i : Nat) (units : List Nat) : List Nat :=
  let n := (match i with | 0 => o.in0 | 1 => o.in1 | 2 => o.in2 | _ => o.in3).rows
  let own := if n = 1 then [0] else units
  let samples := (units.map fun u => u / max 1 (leAt o.param 4 2)).eraseDups
  let block (k : Nat) (l : List Nat) : List Nat := l.flatMap fun b => (List.range k).map fun j => b * k + j
  let l := match o.opcode, i with
    | 0x01, 0 => own
    | 0x01, 1 => if o.path ≠ 2 then [] else List.range n
    | 0x01, _ => [0]
    | 0x08, 1 | 0x08, 2 => block (leAt o.param 6 2) samples
    | 0x08, 3 => samples
    | 0x09, _ => [0]
    | 0x0A, 1 => block (leAt o.param 0 4) units
    | _, _ => own
  if units.isEmpty then [] else l.filter fun r => decide (r < n)

/-- The statuses the reads of an operator's inputs meet for some units of its work. -/
def State.readFaults (s : State) (o : OpDesc) (units : List Nat) : List Result :=
  [s.readFault o.in0 (opReads o 0 units), s.readFault o.in1 (opReads o 1 units), s.readFault o.in2 (opReads o 2 units),
   s.readFault o.in3 (opReads o 3 units)].filterMap id

/-! ## Writing -/

/-- The bytes a granule-aligned cut of a piece covers. -/
def cut64 (a n : Nat) : List (Nat × Nat) :=
  if n = 0 then [] else
    (List.range ((a + n - 1) / 64 - a / 64 + 1)).map fun k =>
      let lo := max a ((a / 64 + k) * 64)
      let hi := min (a + n) ((a / 64 + k) * 64 + 64)
      (lo - a, hi - lo)

/-- A piece written where it is local: granule by granule, each with or without the tag (R201, R231). -/
def State.writeHere (s : State) (p : OutPiece) : State :=
  (cut64 p.addr p.bytes.length).foldl (fun t c =>
    t.commitWrite (p.addr + c.1) (slice p.bytes c.1 c.2) fun _ => p.bad.contains ((p.addr + c.1) / 64)) s

/-- The write packets a piece takes over the Sky (R50, R52): up to 256 bytes each, the last filled up to 16 bytes, a POISON bit
for each flit that holds a tagged byte. -/
def pieceReqs (p : OutPiece) (dest cls : Nat) (a : Agent) (work : Option Nat) : List SendReq :=
  let n := p.bytes.length
  let pad := (16 - n % 16) % 16
  let bytes := p.bytes ++ (List.range pad).map fun i => Config.freeByte (p.addr + n + i)
  (chunks p.addr (n + pad)).map fun c =>
    let flit (k : Nat) : Bool := decide (64 * k < c.2) && (granules (p.addr + c.1 + 64 * k) (min 64 (c.2 - 64 * k))).any fun g => p.bad.contains g
    { dest := dest, cls := cls, op := 0, len := c.2 / 16, addr := p.addr + c.1, poison := bitMask ((List.range 4).filter flit)
      payload := slice bytes c.1 c.2, agent := a, work := work }

/-- The class of a write from a site to another (R52, R56, R279): bulk where the flows of the chart in force mark the pair's writes as bulk alone.
Where they give the pair no write flow, or both kinds, the write is latency-bound (DESIGN CHOICE, log entry 141). -/
def State.writeClass (s : State) (src dest : Nat) : Nat :=
  let marks (c : Nat) : Bool := (section_ [] s.cht.chart.flows s.variant).any fun f => decide (f.src = src) && decide (f.dest = dest) && decide (f.cls = c)
  if marks 3 && !marks 2 then 3 else 2

/-- A piece written by an agent at a site: into the site's own memory, or over the Sky (R223). Where no site serves the address the
write is refused with reason 1 (R226). A piece that lies in a row cache area, which R222 has no operator write, is written like any other (DESIGN CHOICE,
log entry 207). -/
def State.writePiece (s : State) (site : Nat) (a : Agent) (work : Option Nat) (p : OutPiece) : State :=
  match s.siteOf p.addr with
  | none => (chunks p.addr p.bytes.length).foldl (fun t _ => t.report site a work (.refused 1)) s
  | some d => if d = site then s.writeHere p else (pieceReqs p d (s.writeClass site d) a work).foldl (fun t r => t.send site r) s

/-- The counts of a run charged to the tile's counters (R201, R224) and to its card. -/
def State.charge (s : State) (t : Nat) (seq : Option Nat) (c : Counts) : State :=
  let s1 := (((((s.bump F.CMP_SAT_KEPT t 0 c.satKept).bump F.CMP_SAT_RECOMP t 0 c.recomp).bump F.CMP_NAN t 0 c.nans).bump F.CMP_EMPTY t 0
    c.empty).bump F.CMP_SHORT t 0 c.short).bump F.CMP_POISON t 0 c.poison
  let s2 := s1.add F.CMP_TOPK_SCORES c.scores t
  match seq with
  | some q =>
    let s3 := if (s2.ent q).state = 2 then s2.mapEnt q fun e => { e with counts := e.counts.add c } else s2
    if c.poison = 0 then s3 else s3.meets q { status := 1, count := c.poison }
  | none => s2

/-- The runs replaced. -/
def State.setRuns (s : State) (l : List OpRun) : State := { s with cmp := { s.cmp with runs := l } }

/-- A schedule entry marked as started, or as ended. -/
def State.entryBegan (s : State) (i : Nat) : State := { s with trn := { s.trn with started := keyPut s.trn.started i } }
def State.entryEnded (s : State) (i t : Nat) : State :=
  { s with trn := { s.trn with ended := keyPut s.trn.ended i, ends := tabPut 0 s.trn.ends t s.now } }

/-- Whether a tile runs entries of its schedule: present, in service, not in reset (R261). -/
def State.tileUp (s : State) (t : Nat) : Bool := decide (s.get F.FLT_DOM0_STATE t = 0) && s.present t && !s.retired t

/-- Whether a tile's run phase has work left (R266, R285): an entry that runs, or one that a card holds and that is still to start. -/
def State.working (s : State) (t : Nat) : Bool :=
  s.cmp.runs.any (fun r => decide (r.tile = t)) ||
  (s.tileUp t && s.sched.zipIdx.any fun p => decide (p.1.tile = t) && !s.trn.started.contains p.2 && (s.slotCard p.2 p.1).isSome)

end Sys2Proof.Machine
end

