-- ==== Sys2Proof/Machine/GemmOps.lean ====
section
/-! DEFINITION. A GEMM on an optical path (R203 to R206): its pass descriptors, the pass ring it fills (R155), and what it makes of the completion
records and the output codes. The kernels that do so are not visible; where they keep inputs, codes and records in the tile's cache die is the
SCHEDULE_ENTRY_START command's `scratch` (log entry 152). -/

namespace Sys2Proof.Machine

/-- A byte offset in a tile's cache die as a DPA (R225). -/
def cacheAt (t off : Nat) : Nat := 0x100000000000 + t * cacheSize + off

/-- Whether an operator is a GEMM on the FAST or FINE path. -/
def OpDesc.optical (o : OpDesc) : Bool := decide (o.opcode = 1) && decide (o.path ≠ 2)

/-- The input blocks of a GEMM, and its weight blocks, by output block and then by input block (R203). -/
def OpDesc.kBlocks (o : OpDesc) : Nat := ceilDiv o.in0.cols 64
def OpDesc.blocks (o : OpDesc) : Nat := ceilDiv o.out.cols 64 * o.kBlocks

/-- Bytes of an output vector of a GEMM's class (R143). -/
def OpDesc.codeBytes (o : OpDesc) : Nat := if o.path = 1 then 128 else 64

/-- The cache offset of weight block `k` (R203). -/
def OpDesc.blockAt (o : OpDesc) (k : Nat) : Nat := (o.in1.dpa - 0x100000000000) % cacheSize + k * 4160

/-! ## The work area: staged inputs, output codes, completion records -/

def OpRun.inAt (r : OpRun) (j : Nat) : Nat := r.base + 64 * r.rows.length * j
def OpRun.codesAt (r : OpRun) (k : Nat) : Nat := r.inAt r.op.kBlocks + k * (r.rows.length * r.op.codeBytes)
def OpRun.cplAt (r : OpRun) (k : Nat) : Nat := r.codesAt r.op.blocks + 32 * k

/-- The pass descriptor of a block (R156, R203): every OMU of the tile may run it, its TAG names its output block. -/
def OpRun.passDesc (r : OpRun) (fallback : Bool) (k : Nat) : List Byte :=
  let o := r.op
  natLe 2 (packBits [(0, 4, 15), (4, 1, o.path), (5, 2, leAt o.param 5 1), (7, 1, b2n fallback)]) ++ natLe 1 (leAt o.param 4 1) ++ natLe 1 0 ++
  natLe 4 r.rows.length ++ natLe 4 (o.blockAt k) ++ natLe 4 (r.inAt (k % o.kBlocks)) ++ natLe 4 64 ++ natLe 4 (r.codesAt k) ++
  natLe 4 o.codeBytes ++ natLe 4 (r.cplAt k) ++ natLe 8 (k / o.kBlocks) ++ natLe 24 0

/-- Whether the passes of an operator may run under FALLBACK (R206): always, unless the chart pins its layer to an optical path and forbids it (DESIGN CHOICE, log
entry 161). -/
def State.mayFallBack (s : State) (o : OpDesc) : Bool :=
  !(s.cht.chart.targets.any fun t => decide (t.kind = 2) && decide (t.path ≤ 1) && decide (t.opId = o.opId) && Config.noFallback o.opId)

/-! ## The pass ring (R155) -/

/-- A run in the list replaced. -/
def State.mapRun (s : State) (idx : Nat) (f : OpRun → OpRun) : State :=
  s.setRuns (s.cmp.runs.map fun r => if r.idx = idx then f r else r)

/-- One descriptor written behind TAIL and TAIL advanced, unless the ring is full (R155). -/
def State.feedRing1 (s : State) (t : Nat) : State :=
  let tail := s.get F.OMU_PQ_TAIL t
  match s.cmp.runs.find? fun r => decide (r.tile = t) && !r.todo.isEmpty with
  | none => s
  | some r => match r.todo with
    | [] => s
    | d :: ds =>
      if (tail + 1) % 256 = s.get F.OMU_PQ_HEAD t then s
      else ((s.commitWrite (cacheAt t (s.get F.OMU_PQ_BASE t + 64 * tail)) d fun _ => false).mapRun r.idx fun x => { x with todo := ds }).set
        F.OMU_PQ_TAIL ((tail + 1) % 256) t

/-- The descriptors that the GEMMs of a tile still have to write, as far as the ring takes them (R155). -/
def State.feedRing (s : State) (t : Nat) : State :=
  ((s.cmp.runs.filter fun r => decide (r.tile = t)).flatMap fun r => r.todo).foldl (fun u _ => u.feedRing1 t) s

/-! ## Start and end -/

/-- A GEMM begun on a tile (R203): its rows staged as vectors of 64 codes, its records marked as not yet written, its descriptors ready for the ring; `v` is memory
as its reads find it. -/
def State.gemmStart (s v : State) (run : OpRun) (ext : Ext) : State × OpRun :=
  let o := run.op
  let s1 := run.rows.zipIdx.foldl (fun t r =>
    let x := v.rowAt ext o.in0 r.1
    (List.range o.kBlocks).foldl (fun t j =>
      let a := cacheAt run.tile (run.inAt j + 64 * r.2)
      let n := min 64 (o.in0.cols - 64 * j)
      t.writeHere ⟨a, slice x (64 * j) 64, if v.badAt ext (o.in0.dpa + r.1 * o.in0.stride * 16 + 64 * j) n then granules a 64 else []⟩) t) s
  let s2 := (List.range o.blocks).foldl (fun t k => t.writeHere ⟨cacheAt run.tile (run.cplAt k), natLe 32 0xFF, []⟩) s1
  let fb := s.mayFallBack o
  (s2, { run with todo := if run.rows.isEmpty then [] else (List.range o.blocks).map (run.passDesc fb) })

/-- The completion record of a block's pass; the status that a run's start puts there, 0xFF, is one that no pass gives (R157, R158). -/
def State.gemmRecord (s : State) (run : OpRun) (k : Nat) : List Byte := s.rdN (cacheAt run.tile (run.cplAt k)) 32

/-- Whether every pass of a run has posted its record. -/
def State.gemmReady (s : State) (run : OpRun) : Bool :=
  !run.op.optical || run.rows.isEmpty || (run.todo.isEmpty && (List.range run.op.blocks).all fun k => leAt (s.gemmRecord run k) 0 1 ≠ 0xFF)

/-- Whether the pass of a block leaves its partials unformed (R206). -/
def State.unformed (s : State) (run : OpRun) (k : Nat) : Bool :=
  let st := leAt (s.gemmRecord run k) 0 1
  !(decide (st ≤ 1) || decide (st = 5))

/-- The output code of vector `v`, row `r` of a block, as the operator reads it (R143, R204). -/
def State.gemmCode (s : State) (run : OpRun) (k v r : Nat) : Int :=
  let w := run.op.codeBytes / 64
  toSigned (8 * w) (leNat (s.rdN (cacheAt run.tile (run.codesAt k + v * run.op.codeBytes + w * r)) w))

/-- One partial (R204 step 1, R205): 32,385 times its y, exactly, and its counts. A FALLBACK pass has no offset to take off. -/
def State.partialY (s : State) (run : OpRun) (k v r : Nat) : Fv × Counts :=
  let o := run.op
  let fine := decide (o.path = 1)
  let range := leAt o.param 5 1 % 4
  let c := s.gemmCode run k v r
  let rec_ := s.gemmRecord run k
  let sat := if fine then s.omus.clipped.contains (cacheAt run.tile (run.codesAt k + v * o.codeBytes + 2 * r)) else atEnd false c
  if sat && leAt o.param 6 1 = 1 then
    let b := s.rdN (cacheAt run.tile (o.blockAt k)) 4096
    let x := s.rdN (cacheAt run.tile (run.inAt (k % o.kBlocks) + 64 * v)) 64
    (Fv.int ((List.range 64).foldl (fun (q : Int) i => q + weightCode b r i * ((leAt x i 1 : Int) - (leAt o.param 4 1 : Int))) 0), { recomp := 1 })
  else
    let off : Fv := if leAt rec_ 0 1 = 1 then .nat 0 else match Fv.int (s.offEntry run.tile (leAt rec_ 1 1 % 4) r) with
      | .fin g m _ => .fin g m (-(range : Int) - 10)
      | x => x
    ((Fv.nat 32385).mulX ((codeY fine range c).addX off.flip), { satKept := b2n sat })

/-- A row of a GEMM's output (R204 to R206): the partials scaled and added in ascending input-block order in FP32, bias and ACT.
An output of a block that was not formed carries the poison tag and a free value (log entry 207). -/
def State.gemmRow (s : State) (run : OpRun) (v : Nat) : List Elem × Counts :=
  let o := run.op
  (List.range o.out.cols).foldl (fun st n =>
    let ks := (List.range o.kBlocks).map fun j => n / 64 * o.kBlocks + j
    if ks.any (s.unformed run) then (st.1 ++ [⟨decElem 0 (Config.unformed s.now v n % 2 ^ 32), true⟩], st.2)
    else
      let sc := s.gemmScale run.ext o n
      let r := ks.foldl (fun (acc : Fv × Counts) k =>
        let y := s.partialY run k v (n % 64)
        (acc.1.add (sc.v.mulX y.1).f32, acc.2.add y.2)) (.nat 0, {})
      let bad := ks.any fun k => s.anyPoison (cacheAt run.tile (run.codesAt k + v * o.codeBytes)) o.codeBytes
      (st.1 ++ [s.gemmEnd run.ext o n ⟨r.1, bad || sc.bad⟩], st.2.add r.2)) ([], {})

/-- What a GEMM on an optical path writes once its passes have ended. -/
def State.gemmOuts (s : State) (run : OpRun) : RowsOut :=
  run.rows.zipIdx.foldl (fun st v =>
    let e := s.gemmRow run v.2
    let r := st.2.rowOut run.op v.1 e.1 e.2
    (st.1 ++ r.1, r.2)) ([], s)

end Sys2Proof.Machine
end

