-- ==== Sys2Proof/Machine/OmuOps.lean ====
section
/-! DEFINITION. The shared operations of the optical matrix units (R138 to R186): pass descriptors, the start of a pass, its record,
pilots, and what light gained or lost does to an OMU. -/

namespace Sys2Proof.Machine

/-! ## Descriptors (R156, R157) -/

def dMask (d : List Byte) : Nat := bitsOf (leAt d 0 2) 0 4
def dFine (d : List Byte) : Bool := bit (leAt d 0 2) 4
def dRange (d : List Byte) : Nat := bitsOf (leAt d 0 2) 5 2
def dFallback (d : List Byte) : Bool := bit (leAt d 0 2) 7
def dWait (d : List Byte) : Bool := bit (leAt d 0 2) 8
def dReload (d : List Byte) : Bool := bit (leAt d 0 2) 9
def dGroup (d : List Byte) : Bool := bit (leAt d 0 2) 10
def dZero (d : List Byte) : Nat := leAt d 2 1
def dNvec (d : List Byte) : Nat := leAt d 4 4 % 2 ^ 20
/-- A 28-bit offset or stride at a byte of the descriptor. -/
def dOff (d : List Byte) (i : Nat) : Nat := leAt d i 4 % 2 ^ 28
def dTag (d : List Byte) : Nat := leAt d 32 8

/-- Bytes of an output vector (R143). -/
def outSize (d : List Byte) : Nat := if dFine d then 128 else 64

/-- The first byte behind an area of NVEC vectors (R157). -/
def areaEnd (base n stride size : Nat) : Nat := if n = 0 then base else base + (n - 1) * stride + size

/-- Whether the completion record lies in range (R157). -/
def cplOk (d : List Byte) : Bool := decide (dOff d 28 + 32 ≤ 0x0FC00000)

/-- Whether a descriptor fails its check (R157). One with NVEC 0 passes it, as long as its record has a place. -/
def descBad (d : List Byte) : Bool :=
  let n := dNvec d
  if n = 0 then !cplOk d else
  let inEnd := areaEnd (dOff d 12) n (dOff d 16) 64
  let outEnd := areaEnd (dOff d 20) n (dOff d 24) (outSize d)
  let meets (a b c e : Nat) : Bool := decide (a < e) && decide (c < b)
  bitsOf (leAt d 0 2) 11 5 ≠ 0 || leAt d 3 1 ≠ 0 || bitsOf (leAt d 4 4) 20 12 ≠ 0 ||
  [8, 12, 16, 20, 24, 28].any (fun i => decide (2 ^ 28 ≤ leAt d i 4)) || (slice d 40 24).any (fun b => b ≠ 0) || dMask d = 0 ||
  [8, 12, 16, 20, 24].any (fun i => dOff d i % 64 ≠ 0) || dOff d 28 % 32 ≠ 0 || decide (dOff d 16 < 64) || decide (dOff d 24 < outSize d) ||
  [inEnd, outEnd, dOff d 8 + 4160, dOff d 28 + 32].any (fun e => decide (0x0FC00000 < e)) ||
  meets (dOff d 20) outEnd (dOff d 12) inEnd || meets (dOff d 20) outEnd (dOff d 8) (dOff d 8 + 4160)

/-- The completion record (R157). -/
def passRecord (status omu : Nat) (loaded rerun : Bool) (sat bad tag fin : Nat) : List Byte :=
  natLe 1 status ++ natLe 1 (packBits [(0, 2, omu), (2, 1, b2n loaded), (3, 1, b2n rerun)]) ++ natLe 2 (satTo 0xFFFF sat) ++
  natLe 4 bad ++ natLe 8 tag ++ natLe 8 fin ++ List.replicate 8 0

/-- Streaming time of a number of vectors in ns, rounded up (R146). -/
def streamNs (d : List Byte) : Nat := ceilDiv (dNvec d * (if dFine d then 250 else 125)) 2000

/-- When a pass's input stream starts, and when its last input has left (R146). -/
def Pass.feedAt (p : Pass) : Nat := p.start + (if p.loaded then 256 else 0)
def Pass.streamed (p : Pass) : Nat := p.feedAt + streamNs p.desc

/-- The vectors of a pass that have left by a time (R145, R146): 16 each ns in the fast class, 8 in the fine class. -/
def Pass.fed (p : Pass) (now : Nat) : Nat := min (dNvec p.desc) ((now - p.feedAt) * (if dFine p.desc then 8 else 16))

/-- Whether a pass runs on an OMU of a tile. -/
def Pass.runsOn (p : Pass) (t u : Nat) : Bool := decide (p.tile = t) && decide (p.omu = u) && !p.waits

/-- The level a pass puts on its OMU (R447). -/
def passLevel (slotNs : Nat) (d : List Byte) : Nat :=
  if dFine d then 1 else if slotNs ≠ 0 && decide (slotNs * 1000 ≤ dNvec d * 125) then 3 else 2

/-! ## The state of an OMU -/

/-- Whether an OMU counts as in service (R159, R161, R176, R440). -/
def State.omuServes (s : State) (t u : Nat) : Bool :=
  let st := s.get F.OMU_STAT_STATE t u
  decide (1 ≤ st) && decide (st ≤ 4) && !s.isSet F.THM_TILE_OUT_WINDOW t && !(s.isSet F.OMU_STAT_STALE t u && s.isSet F.OMU_CAL_CTRL_STALE_OUT)

/-- When an OMU can take its next pass (R146): the symbol after the last input of the passes on it; for one that loads its block, 2 ns after it has left
the modulators. -/
def State.omuNext (s : State) (t u : Nat) (load : Bool) : Nat :=
  (s.cmp.passes.filter fun p => p.runsOn t u).foldl (fun n p => max n (p.streamed + (if load then 2 else 0))) s.now

/-- Whether a pass of a descriptor would load its block on an OMU (R149). -/
def State.omuLoads (s : State) (t u : Nat) (d : List Byte) : Bool :=
  dReload d || !s.omuHas t u (dOff d 8) (leAt (s.rdN (cacheAt t (dOff d 8)) 4160) 4096 4)

/-- Whether an OMU can take a pass now: READY, or BUSY with every pass's inputs already streamed (R146, R159); a pilot that waits goes first (R164), and so does the
one that a trunk swap asks for (R132). -/
def State.omuFree (s : State) (t u : Nat) (d : List Byte) : Bool :=
  let st := s.get F.OMU_STAT_STATE t u
  s.omuServes t u && !s.omus.owed.contains (4 * t + u) && !s.omus.want.contains (4 * t + u) && !s.omus.due.contains (4 * t + u) &&
  !s.light.stopped.contains (if siteEast t then 5 else 4) &&
  (st = 1 || (st = 2 && decide (s.omuNext t u (s.omuLoads t u d) ≤ s.now)))

/-- The passes replaced. -/
def State.setPasses (s : State) (l : List Pass) : State := { s with cmp := { s.cmp with passes := l } }

/-- The OMU's bookkeeping replaced. -/
def State.setOmus (s : State) (x : Omus) : State := { s with omus := x }

/-- A completion record written (R157). -/
def State.passDone (s : State) (t : Nat) (d : List Byte) (r : List Byte) : State :=
  s.commitWrite (cacheAt t (dOff d 28)) r fun _ => false

/-- A pass that ends without running: its record with a status (R158); `redo`: it had been rerun. It ran on no OMU, so OMU reads 0 and END is the
time of the record (DESIGN CHOICE, log entry 148). -/
def State.passEnds (s : State) (t : Nat) (d : List Byte) (status : Nat) (redo : Bool := false) : State :=
  s.passDone t d (passRecord status 0 false redo 0 0 (dTag d) s.now)

/-! ## Pilots (R163 to R177) -/

/-- A pilot starts on an OMU that is free and has one to run, a scheduled one before an extra one (R164); outside 40 to 80 °C it is skipped and tried
again (R164, R174). -/
def State.tryPilot (s : State) (t u : Nat) : State :=
  let k := 4 * t + u
  let o := s.omus
  if (o.due.contains k || o.want.contains k) && s.get F.OMU_STAT_STATE t u = 1 && !s.cmp.passes.any (fun p => p.runsOn t u) then
    if s.isSet F.OMU_STAT_TEMP_OK t u then
      let s1 := s.setOmus { o with
        due := keyDrop o.due k, want := if o.due.contains k then o.want else keyDrop o.want k
        retry := keyDrop o.retry k, pilots := o.pilots ++ [(k, s.now, false)] }
      (s1.set F.OMU_STAT_STATE 3 t u).set F.OMU_LOADED_VALID 0 t u
    else (s.bump F.OMU_PILOT_SKIP t).setOmus { o with due := keyDrop o.due k, want := keyDrop o.want k, retry := keyPut o.retry k }
  else s

/-- A scheduled pilot's slot (R164): the pilot runs at once, or once the OMU is READY and free. -/
def State.duePilot (s : State) (t u : Nat) : State :=
  (s.setOmus { s.omus with due := keyPut s.omus.due (4 * t + u) }).tryPilot t u

/-- An extra pilot asked for (R164, R173, R174): requests before its start merge into one. -/
def State.wantPilot (s : State) (t u : Nat) : State :=
  (s.setOmus { s.omus with want := keyPut s.omus.want (4 * t + u) }).tryPilot t u

/-- A pilot in progress given up (R174): its tables are never committed. -/
def State.dropPilot (s : State) (t u : Nat) : State :=
  s.setOmus { s.omus with pilots := s.omus.pilots.filter fun p => decide (p.1 ≠ 4 * t + u) }

/-! ## Running a pass -/

/-- Σ w(x − Z) of row `r` of a block for an input vector (R142): whole, before any range. -/
def rowSum (d b xs : List Byte) (r : Nat) : Int :=
  (List.range 64).foldl (fun (z : Int) i => z + weightCode b r i * ((leAt xs i 1 : Int) - (dZero d : Int))) 0

/-- The codes of one output vector (R142, R143, R158): an OMU's carry its error, the compute die's are exact; the rows that are saturated. -/
def State.vecCodes (s : State) (t : Nat) (omu : Option Nat) (d b xs : List Byte) : List Int × List Nat × State :=
  (List.range 64).foldl (fun (a : List Int × List Nat × State) r =>
    let sum := rowSum d b xs r
    match omu with
    | none =>
      let c := idealCode (dFine d) (dRange d) sum
      (a.1 ++ [c], if atEnd (dFine d) c then a.2.1 ++ [r] else a.2.1, a.2.2)
    | some u =>
      let (c, sat, s1) := a.2.2.omuCode (4 * t + u) (dFine d) (dRange d) r b xs sum
      (a.1 ++ [c], if sat then a.2.1 ++ [r] else a.2.1, s1)) ([], [], s)

/-- What a pass writes with a weight block (R139, R143, R158): output vectors, the addresses of saturated codes, how many input vectors carried poison. -/
def State.passOuts (s : State) (t : Nat) (omu : Option Nat) (d b : List Byte) : List OutPiece × List Nat × Nat × State :=
  (List.range (dNvec d)).foldl (fun (a : List OutPiece × List Nat × Nat × State) v =>
    let src := cacheAt t (dOff d 12 + v * dOff d 16)
    let dst := cacheAt t (dOff d 20 + v * dOff d 24)
    let (cs, ends, s1) := a.2.2.2.vecCodes t omu d b (s.rdN src 64)
    let bad := s.anyPoison src 64
    let w := if dFine d then 2 else 1
    (a.1 ++ [⟨dst, cs.flatMap fun c => natLe w (ofSigned (8 * w) c), if bad then granules dst (outSize d) else []⟩],
     a.2.1 ++ ends.map fun r => dst + w * r, a.2.2.1 + b2n bad, s1)) ([], [], 0, s)

/-- A pass put on the compute die (R158): the block's poison and CRC hold for it too. Where inputs were poisoned its status stays FALLBACK and their
outputs carry the tag (DESIGN CHOICE, log entry 147). -/
def State.fallbackPass (s : State) (t slot : Nat) (d : List Byte) (drops : Nat) (redo : Bool) : State :=
  let a := cacheAt t (dOff d 8)
  if s.anyPoison a 4160 then s.passEnds t d 6 redo
  else if !blockCrcOk (s.rdN a 4160) then s.passEnds t d 4 redo
  else
    let (outs, ends, bad, s1) := s.passOuts t none d (s.rdN a 4160)
    s1.setPasses (s1.cmp.passes ++
      [{ tile := t, omu := 4, slot := slot, desc := d, start := s.now, drops := drops, redo := redo, outs := outs, status := 1, sat := ends.length, ends := ends, bad := bad }])

/-- A pass that no OMU can run: on the compute die where its FALLBACK bit says so, else with a status (R158). -/
def State.passElse (s : State) (t slot : Nat) (d : List Byte) (status drops : Nat) (redo : Bool) : State :=
  if dFallback d then s.fallbackPass t slot d drops redo else s.passEnds t d status redo

/-- The status of a pass whose block an OMU cannot load (R150, R158): 3 outside 40 to 80 °C, 6 poisoned, 4 with a wrong CRC; a block that is loaded
already is not looked at again. -/
def State.loadFault (s : State) (t u : Nat) (d : List Byte) : Option Nat :=
  let a := cacheAt t (dOff d 8)
  if !s.omuLoads t u d then none
  else if !s.isSet F.OMU_STAT_TEMP_OK t u then some 3
  else if s.anyPoison a 4160 then some 6
  else if !blockCrcOk (s.rdN a 4160) then some 4
  else none

/-- A pass begins on an OMU (R146, R149, R150, R157), as soon as the passes before it let it, its input not before `feed`: its block is loaded where it
is not yet, else the one the OMU holds is used. Its inputs and its block are read here, its outputs stand in the cache die from its end on
(DESIGN CHOICE, log entry 146). -/
def State.beginPass (s : State) (t u slot : Nat) (d : List Byte) (drops : Nat) (redo : Bool) (feed : Nat := 0) (lead : Nat := slot) : State :=
  let load := s.omuLoads t u d
  match s.loadFault t u d with
  | some st => if st = 3 then (s.bump F.OMU_TEMP_REFUSE t).passElse t slot d 3 drops redo else s.passEnds t d st redo
  | none =>
    let s1 := if load then s.loadBlock t u (dOff d 8) (s.rdN (cacheAt t (dOff d 8)) 4160) else s
    let (outs, ends, bad, s2) := s1.passOuts t (some u) d (tabGet [] s1.omus.blocks (4 * t + u))
    let s3 := s2.setPasses (s2.cmp.passes ++
      [{ tile := t, omu := u, slot := slot, desc := d, start := max (s.omuNext t u load) (feed - (if load then 256 else 0)), loaded := load
         drops := drops, redo := redo, outs := outs, status := if bad = 0 then 0 else 5, sat := ends.length, ends := ends, bad := bad, lead := lead }])
    ((s3.set F.OMU_STAT_STATE 2 t u).set F.OMU_STAT_CLASS (b2n (dFine d)) t u).set F.OMU_STAT_LEFT (dNvec d) t u

/-- A number put into a list behind those that `f` ranks no higher. -/
def insertBy (f : Nat → Nat) (u : Nat) : List Nat → List Nat
  | [] => [u]
  | v :: l => if f v ≤ f u then v :: insertBy f u l else u :: v :: l

/-- The OMUs of a mask that a pass can start on, by preference (R159): those with its block loaded, then the ones READY before those that still drain a
pass, the sooner the better, the lowest number first; `taken` are those its group has taken. -/
def State.omuRank (s : State) (t : Nat) (d : List Byte) (taken : List Nat) : List Nat :=
  let us := (bitList 4 (dMask d)).filter fun u => s.omuFree t u d && !taken.contains u
  let drain (u : Nat) : Nat := (s.cmp.passes.filter fun p => p.runsOn t u).foldl (fun n p => max n (p.streamed + 242)) 0
  let soon (l : List Nat) : List Nat := l.foldl (fun m u => insertBy drain u m) []
  soon (us.filter fun u => !s.omuLoads t u d) ++ soon (us.filter fun u => s.omuLoads t u d)

/-- The OMU a pass starts on (R159). -/
def State.omuFor (s : State) (t : Nat) (d : List Byte) : Option Nat := (s.omuRank t d []).head?

/-! ## The guard (R447, R448) -/

/-- The slot length of the activity map in force (R282, R447). -/
def State.slotNs (s : State) : Nat := (section_ ({} : Activity) s.cht.chart.activity s.variant).slotNs

/-- Whether the guard holds a pass's start under a cluster (R448). -/
def State.guarded (s : State) (t u : Nat) (d : List Byte) : Bool :=
  passLevel s.slotNs d = 3 && tabGet 0 s.omus.levels (4 * t + u) = 3

/-- Starts at HEAD that the guard holds on a tile's OMUs: each counted, tried again at the next slot boundary (R159, R448). -/
def State.hold (s : State) (t : Nat) (us : List Nat) : State :=
  let s1 := us.foldl (fun t1 u => t1.bump F.OMU_GUARD_DELAY t u) s
  s1.setOmus { s1.omus with guard := keyPut s1.omus.guard t }

/-- A rerun that the guard holds under a cluster (R448): counted, and the pass keeps waiting, to the next slot boundary. -/
def State.holdRerun (s : State) (t u : Nat) (p : Pass) : State :=
  (s.bump F.OMU_GUARD_DELAY t u).setPasses (s.cmp.passes.map fun q => if q = p then { q with held := true } else q)

/-- The reruns that the guard held on a tile, free to be tried again at their slot boundary (R448). -/
def State.freeHeld (s : State) (t : Nat) : State :=
  s.setPasses (s.cmp.passes.map fun p => if p.tile = t ∧ p.waits ∧ p.held then { p with held := false } else p)

/-! ## The OMU port (R411, R414, R416) -/

/-- GB/s of the OMU port at a cache step (R411). -/
def portRate (c : Nat) : Nat := if c = 0 then 4096 else if c = 1 then 5120 else if c = 2 then 6144 else 8192

/-- GB/s of a pass's input and output streams (R147). -/
def passFeed (d : List Byte) : Nat × Nat := (if dFine d then 512 else 1024, 1024)

/-- Whether passes that start together fit the port beside those that stream (R153, R414, R416): the members of one group share one input stream. -/
def State.admits (s : State) (t : Nat) (ds : List (List Byte)) : Bool :=
  let cur := s.get F.CLK_CACHE_EFF t
  let step := match s.clk.plan with
    | some p => min cur p.2.2
    | none => cur
  let on := s.cmp.passes.filter fun p => decide (p.tile = t) && decide (p.omu < 4) && !p.waits && decide (s.now < p.streamed)
  let reads := (on.map fun p => (p.lead, p.feedAt, passFeed p.desc)).eraseDups
  let now := ds.map passFeed
  let input := (reads.foldl (fun n p => n + p.2.2.1) 0) + ((now.map fun p => p.1).headD 0)
  let output := (on.foldl (fun n p => n + (passFeed p.desc).2) 0) + now.foldl (fun n p => n + p.2) 0
  decide (input + output ≤ portRate step)

/-! ## Light lost and gained (R160 to R162) -/

/-- The passes discarded on an OMU that has stopped (R160, R165): the vectors they have streamed count; a third discard ends one, the others wait for
their rerun. -/
def State.discard (s : State) (t u : Nat) : State :=
  let l := s.cmp.passes.filter fun p => p.runsOn t u
  let keep := s.cmp.passes.filter fun p => !p.runsOn t u
  let s0 := s.bump F.OMU_VEC t u (l.foldl (fun n p => n + p.fed s.now) 0)
  let s1 := s0.setPasses (keep ++ (l.filter fun p => decide (p.drops < 2)).map fun p => { p with waits := true, drops := p.drops + 1, outs := [] })
  (l.filter fun p => decide (2 ≤ p.drops)).foldl (fun t1 p => t1.passElse t p.slot p.desc 2 (p.drops + 1) p.redo) s1

/-- An OMU loses its light (R160, R161): it stops, its passes are discarded, a pilot in progress is given up and wanted again. A full pilot given up
leaves it in OFF until its light is back (R174). -/
def State.omuDark (s : State) (t u : Nat) : State :=
  let st := s.get F.OMU_STAT_STATE t u
  if st = 1 || st = 2 || st = 3 then
    let s1 := (s.discard t u).dropPilot t u
    let s2 := ((s1.set F.OMU_STAT_STATE 4 t u).set F.OMU_STAT_LEFT 0 t u)
    s2.setOmus { s2.omus with want := keyPut s2.omus.want (4 * t + u) }
  else if st = 0 then s.dropPilot t u
  else s

/-- A pass that has left its OMU, taken out of the list (R159): it starts on an OMU of its mask that can take it, unless the port (R416) or the guard (R448)
holds it; while its mask has an OMU in service it waits for any of them; else it runs under FALLBACK or ends. -/
def State.reroute (s : State) (t : Nat) (p : Pass) : State :=
  let wait (s : State) (held : Bool) : State := s.setPasses (s.cmp.passes ++ [{ p with omu := 5, waits := true, held := held }])
  match s.omuFor t p.desc with
  | some v =>
    if !s.admits t [p.desc] then wait s false
    else if s.guarded t v p.desc then wait (s.bump F.OMU_GUARD_DELAY t v) true
    else (s.bump F.OMU_RERUN t v).beginPass t v p.slot p.desc p.drops true
  | none =>
    if (bitList 4 (dMask p.desc)).any fun v => s.omuServes t v then wait s false
    else s.passElse t p.slot p.desc 2 p.drops p.redo

/-- Whether an OMU can take a rerun of its own now (R132, R146, R160, R164): no pilot goes first, and the inputs of every pass that runs on it have left. -/
def State.canRerun (s : State) (t u : Nat) (d : List Byte) : Bool :=
  let k := 4 * t + u
  !s.omus.owed.contains k && !s.omus.want.contains k && !s.omus.due.contains k && decide (s.omuNext t u (s.omuLoads t u d) ≤ s.now)

/-- The passes of an OMU that wait for a rerun (R160): where the OMU is in service (R159, R176) the first that neither the port (R416) nor the guard (R448)
holds starts, the next when that one's inputs have left and a later end of a pass tries it, so that only a pass that runs can be discarded again; after
them those of the tile that wait for any OMU. HALT holds no rerun: R165 speaks of a new pass, and a discarded one has begun (DESIGN CHOICE, log entry
206). -/
def State.rerun (s : State) (t u : Nat) : State :=
  let hit (v : Nat) (p : Pass) : Bool := decide (p.tile = t) && decide (p.omu = v) && p.waits && !p.held
  let s1 := (s.cmp.passes.filter (hit u)).foldl (fun t1 p =>
    let rest := t1.setPasses (t1.cmp.passes.erase p)
    if !t1.omuServes t u then rest.reroute t p
    else if !t1.canRerun t u p.desc || !t1.admits t [p.desc] then t1
    else if t1.guarded t u p.desc then t1.holdRerun t u p
    else (rest.bump F.OMU_RERUN t u).beginPass t u p.slot p.desc p.drops true) s
  (s1.cmp.passes.filter (hit 5)).foldl (fun t1 p => (t1.setPasses (t1.cmp.passes.erase p)).reroute t p) s1

/-- The passes of a tile that wait, tried on the OMUs that run (R159, R416, R448). -/
def State.rerunTile (s : State) (t : Nat) : State :=
  (List.range 4).foldl (fun t1 u =>
    let st := t1.get F.OMU_STAT_STATE t u
    if st = 1 || st = 2 then t1.rerun t u else t1) s

/-- A pilot given up because the site left 40 to 80 °C (R174): counted, tried again. The OMU shows READY, and the passes that wait for their rerun start as
they do where a pilot is skipped (DESIGN CHOICE, log entry 150), unless the pilot is the one a trunk swap asks for (R132). -/
def State.coldPilot (s : State) (t u : Nat) : State :=
  let k := 4 * t + u
  if s.omus.pilots.any fun p => decide (p.1 = k) then
    let full := s.omus.pilots.any fun p => decide (p.1 = k) && p.2.2
    let s1 := ((s.dropPilot t u).bump F.OMU_PILOT_SKIP t).set F.OMU_STAT_STATE (if full then 0 else 1) t u
    let s2 := s1.setOmus { s1.omus with retry := keyPut s1.omus.retry k }
    if full then s2 else s2.rerun t u
  else s

/-- The half's trunk feed (R109). -/
def trunkOf (t : Nat) : Nat := if siteEast t then 5 else 4

/-- Whether an OMU has light: all its input modulators ACTIVE, its trunk neither stopped nor dark (R161). -/
def State.omuLit (s : State) (t u : Nat) : Bool :=
  ((List.range 64).all fun i => s.get F.TWK_RING_STATE t (768 + 64 * u + i) = 4) &&
  !s.light.stopped.contains (trunkOf t) && s.get F.TWK_FEED_STATE (trunkOf t) ≠ 5

/-- Transits since an OMU's last pilot. -/
def State.pilotAge (s : State) (t u : Nat) : Nat := subMod 32 (s.get F.TRN_NUM % 2 ^ 32) (s.get F.OMU_PILOT_LAST t u)

/-- A full pilot begins on an OMU in OFF (R175). -/
def State.fullPilot (s : State) (t u : Nat) : State :=
  let k := 4 * t + u
  s.setOmus { s.omus with pilots := s.omus.pilots ++ [(k, s.now, true)], want := keyDrop s.omus.want k, retry := keyDrop s.omus.retry k }

/-- The full pilot of an OMU in OFF started, from boot step 5 on (R175), where it has light and lies within 40 to 80 °C (R174). -/
def State.startFull (s : State) (t u : Nat) : State :=
  let k := 4 * t + u
  if !s.omuLit t u || s.omus.uncal.contains k || s.omus.pilots.any (fun p => decide (p.1 = k)) || decide (s.get F.FLT_BOOT_STEP < 5) ||
    !s.isSet F.OMU_STAT_TEMP_OK t u then s
  else s.fullPilot t u

/-- The pilot on the new source that an OMU owes after a trunk swap (R132): asked for where it runs passes, and wherever it waits for light, after a site
reset too. -/
def State.owePilot (s : State) (t u : Nat) : State :=
  let k := 4 * t + u
  let st := s.get F.OMU_STAT_STATE t u
  if st = 1 || st = 2 || st = 3 || st = 4 then s.setOmus { s.omus with owed := keyPut s.omus.owed k, want := keyPut s.omus.want k } else s

/-- An OMU whose light is back (R161, R162): from OFF its full pilot runs (R175), unless it was given up for temperature and waits for its slot (R164, R174);
from WAIT_LIGHT a pilot, which outside 40 to 80 °C is the skipped pilot of R164 (DESIGN CHOICE, log entry 150); after a site reset a recent
pilot suffices, but for one that a trunk swap asks for (R132). -/
def State.omuLight (s : State) (t u : Nat) : State :=
  let k := 4 * t + u
  let st := s.get F.OMU_STAT_STATE t u
  if !s.omuLit t u then s
  else if st = 0 then
    if s.omus.retry.contains k then s else s.startFull t u
  else if st = 4 then
    let recent := s.omus.relock.contains k && !s.omus.owed.contains k && decide (s.pilotAge t u < s.get F.OMU_PILOT_CFG_EVERY t)
    let s1 := (s.setOmus { s.omus with relock := keyDrop s.omus.relock k }).set F.OMU_STAT_STATE 1 t u
    let s2 := if recent then s1.tryPilot t u else s1.wantPilot t u
    if s2.get F.OMU_STAT_STATE t u = 1 then s2.rerun t u else s2
  else s

/-- An OMU out of service for good: its pilot, its requests and its passes leave it (R124, R161), and it is not
counted as left in OFF (R184). -/
def State.omuGone (s : State) (t u st : Nat) : State :=
  let k := 4 * t + u
  let s1 := (s.omuDark t u).dropPilot t u
  let s2 := (s1.set F.OMU_STAT_STATE st t u).setOmus 
    { s1.omus with want := keyDrop s1.omus.want k, due := keyDrop s1.omus.due k, owed := keyDrop s1.omus.owed k, uncal := keyDrop s1.omus.uncal k }
  let mine (p : Pass) : Bool := decide (p.tile = t) && decide (p.omu = u)
  (s2.cmp.passes.filter mine).foldl (fun t1 p => t1.reroute t p) (s2.setPasses (s2.cmp.passes.filter fun p => !mine p))

/-- An OMU goes DOWN with a failed modulator (R124, R161): its passes go to other OMUs of their masks, or end (R159). A RETIRED one stays so. -/
def State.omuDown (s : State) (t u input : Nat) : State :=
  if s.get F.OMU_STAT_STATE t u = 6 then s else (s.omuGone t u 5).set F.OMU_STAT_DOWN_INPUT input t u

/-- The OMUs of a site discard their passes without records and their loaded blocks lapse (R162); pilots in progress are given up, and a drift that one was
to end asks anew (R173). With its Firmament site an OMU waits for its light again; one that waited for it already keeps the pilot it owes (DEDUCED, log
entry 149). The descriptors left in the ring stay there (DESIGN CHOICE, log entry 182). -/
def State.omuReset (s : State) (t : Nat) (lightToo : Bool) : State :=
  let gone := s.cmp.passes.filter fun p => decide (p.tile = t)
  let s0 := gone.foldl (fun t1 p => if p.omu < 4 && !p.waits then t1.bump F.OMU_VEC t p.omu (p.fed t1.now) else t1) s
  let s1 := s0.setPasses (s.cmp.passes.filter fun p => decide (p.tile ≠ t))
  (List.range 4).foldl (fun t1 u =>
    let st := t1.get F.OMU_STAT_STATE t u
    let k := 4 * t + u
    let o := t1.omus
    let t0 := if o.pilots.any fun p => decide (p.1 = k) then t1.setOmus { o with drifted := keyDrop o.drifted k } else t1
    let t2 := ((t0.dropPilot t u).set F.OMU_LOADED_VALID 0 t u).set F.OMU_STAT_LEFT 0 t u
    if st = 1 || st = 2 || st = 3 then
      if lightToo then (t2.set F.OMU_STAT_STATE 4 t u).setOmus { t2.omus with relock := keyPut t2.omus.relock (4 * t + u) }
      else t2.set F.OMU_STAT_STATE 1 t u
    else t2) s1

/-- The OMUs of a retired tile (R161): RETIRED, without passes or pilots, and what their pilots failed forgotten (R184). -/
def State.omuRetire (s : State) (t : Nat) : State :=
  let s1 := s.omuReset t false
  (List.range 4).foldl (fun t1 u =>
    let k := 4 * t + u
    (t1.set F.OMU_STAT_STATE 6 t u).setOmus
      { t1.omus with want := keyDrop t1.omus.want k, due := keyDrop t1.omus.due k, retry := keyDrop t1.omus.retry k, relock := keyDrop t1.omus.relock k
                     owed := keyDrop t1.omus.owed k, uncal := keyDrop t1.omus.uncal k, fails := tabPut 0 t1.omus.fails k 0 }) s1

/-- The OMUs of a tile that is reinstated (R161): from OFF, for a full pilot once they have light. -/
def State.omuRevive (s : State) (t : Nat) : State :=
  (List.range 4).foldl (fun t1 u => if t1.get F.OMU_STAT_STATE t u = 6 then t1.set F.OMU_STAT_STATE 0 t u else t1) s

end Sys2Proof.Machine
end

