-- ==== Sys2Proof/Machine/LightOps.lean ====
section
/-! DEFINITION. The shared operations of the light: laser modules and their gate (R103 to R112), rings and the channels they carry (R116 to
R126), feeds and swaps (R109, R130 to R135). -/

namespace Sys2Proof.Machine

/-- The light control replaced. -/
def State.setLight (s : State) (x : Light) : State := { s with light := x }

/-- A feed's state, with a LIGHT record where it changes (R136, R332). -/
def State.setFeed (s : State) (f st : Nat) : State :=
  if s.get F.TWK_FEED_STATE f = st then s
  else (s.set F.TWK_FEED_STATE st f).recordAny 5 (packBits [(0, 3, f), (3, 3, st), (6, 3, s.get F.TWK_FEED_SLOT f)])

/-! ## Modules -/

/-- A module's case temperature (R104). -/
def State.caseT (s : State) (n : Nat) : Int := toSigned 8 (s.get F.TWK_ELS_CASE_T n)

/-- The highest set point that the guard allows, in 0.01 dBm (R105, R482, R483). -/
def State.laserCap (s : State) : Int := (s.get F.GRD_LIMITS_LASER_CAP : Int) - 2000

/-- A line as the gate makes it (R105): asserted while its request is set, the loop is closed, the case lies within 15 to 70 °C and the guard allows
the set point. -/
def State.gate (s : State) (n : Nat) : State :=
  s.set F.TWK_ELS_EN (b2n (s.light.asks.contains n && s.isSet F.TWK_STAT_INTLK && decide (15 ≤ s.caseT n) && decide (s.caseT n ≤ 70) &&
    decide (tabGet 0 s.light.setPts n ≤ s.laserCap))) n

/-- An enable request set, and cleared with its line released (R105). -/
def State.askEn (s : State) (n : Nat) : State := (s.setLight { s.light with asks := keyPut s.light.asks n }).gate n
def State.freeEn (s : State) (n : Nat) : State := (s.setLight { s.light with asks := keyDrop s.light.asks n }).set F.TWK_ELS_EN 0 n

/-- A module's mode ordered over I²C: 0 dark, 1 standby, 2 full (R104). -/
def State.order (s : State) (n m : Nat) : State := s.emit (.module n 4 m)

/-- A module set dark and its line released; its role becomes FAILED (R110, R130, R131, R133). -/
def State.failModule (s : State) (n : Nat) : State :=
  let s1 := ((s.order n 0).freeEn n).set F.TWK_ELS_ROLE 5 n
  let s2 := s1.set F.TWK_ELS_FEED 7 n
  s2.setLight { s2.light with modes := tabPut 0 s2.light.modes n 0 }

/-- The spares that no swap has taken, rising (R110). -/
def State.spares (s : State) : List Nat :=
  (List.range 8).filter fun n => s.get F.TWK_ELS_ROLE n = 4 && !s.light.swaps.any fun w => decide (w.spare = n)

/-- TWK_STAT.SPARES follows the roles (R136). -/
def State.countSpares (s : State) : State :=
  s.set F.TWK_STAT_SPARES (min 2 ((List.range 8).filter fun n => s.get F.TWK_ELS_ROLE n = 4).length)

/-- The reading of a tap in a list. -/
def tapOf (taps : List (Tap × Int)) (t : Tap) : Option Int := (taps.find? fun p => decide (p.1 = t)).map fun p => p.2

/-- The reference of a tap against the factory's, in 0.01 dB (R129): that of the last commissioning accepted, 0 until there is one. -/
def State.refOf (s : State) (t : Tap) : Int := (tapOf s.light.refs t).getD 0

/-- The reference of the dump arm that a slot's input sits on. -/
def State.dumpRef (s : State) (n : Nat) : Int :=
  let a := s.light.net.getD n 0
  if 6 ≤ a then s.refOf (.dump (a - 6)) else 0

/-- The output power of a module in 0.01 dBm: the sum of its 32 lines (R104, R136). -/
def outPower (r : ModRead) : Int := dbOf (((r.lines.take 32).map powerOf).foldl (fun a b => a + b) 0)

/-- What a module reads taken into TWK_ELS (R104, R136); a set point above LASER_CAP is rewritten to it (R483). A slot that does not answer is ABSENT
and its line released, unless its module feeds. -/
def State.readModule (s : State) (n : Nat) (r : ModRead) : State :=
  if r.answers then
    let s1 := (((s.set F.TWK_ELS_PRESENT 1 n).set F.TWK_ELS_LOCAL_INTLK (b2n r.intlk) n).set F.TWK_ELS_GRID_LOCK (b2n r.grid) n)
    let s2 := ((s1.set F.TWK_ELS_CASE_T (ofSigned 8 r.temp) n).set F.TWK_ELS_OUT_PWR (ofSigned 16 (outPower r)) n).set F.TWK_ELS_TAP
      (ofSigned 16 (r.tap - s.refOf (.input n))) n
    let s3 := s2.setLight { s2.light with setPts := tabPut 0 s2.light.setPts n (min r.setPt s2.laserCap) }
    if s3.laserCap < r.setPt then s3.emit (.module n 5 (ofSigned 16 s3.laserCap)) else s3
  else
    let s1 := s.set F.TWK_ELS_PRESENT 0 n
    if s1.get F.TWK_ELS_ROLE n = 3 then s1 else ((s1.freeEn n).set F.TWK_ELS_ROLE 0 n).countSpares

/-- Whether the 32 identity tones of a module are present at 1 % ± 0.3 % (R112 step 6). -/
def tonesOk (r : ModRead) : Bool := r.tones.length = 32 && r.tones.all fun x => decide (70 ≤ x) && decide (x ≤ 130)

/-- Whether a tap lies within 1 dB of its reference (R131); the spec gives the check of R110 no limit of its own (DESIGN CHOICE, log
entry 167). -/
def within1dB (x : Int) : Bool := decide (x.natAbs ≤ 100)

/-- Whether a spare passes its check (R110). -/
def State.spareOk (s : State) (n : Nat) (r : ModRead) : Bool :=
  r.answers && r.grid && decide (15 ≤ r.temp) && decide (r.temp ≤ 70) && within1dB (r.dump - s.dumpRef n) && tonesOk r

/-- A tap's reading kept (R128). -/
def State.readTap (s : State) (p : Tap × Int) : State :=
  s.setLight { s.light with taps := (s.light.taps.filter fun q => decide (q.1 ≠ p.1)) ++ [p] }

/-- The tap of the dump arm that a slot's input sits on, where it sits on one. -/
def State.readDump (s : State) (n : Nat) (x : Int) : State :=
  let a := s.light.net.getD n 0
  if 6 ≤ a then s.readTap (.dump (a - 6), x) else s

/-- A sample of a slot's input tap kept with those of its last millisecond, one each 10 µs (R128), and the time at which it is taken. -/
def State.sampleTap (s : State) (n : Nat) (x : Int) : State :=
  let l := tabGet [] s.light.samples n ++ [x]
  let s1 := match (tabGet [] s.light.fades n).getLast? with
    | some p => s.atLeast (p.1 + 10000)
    | none => s
  s1.setLight { s1.light with samples := tabPut [] s1.light.samples n (l.drop (l.length - 100)) }

/-- A feed's fade (R129): the power at the tap of the input that feeds it, averaged over 1 ms, in 0.01 dB against that input's reference. -/
def State.fadeOf (s : State) (n : Nat) : Int :=
  let l := tabGet [] s.light.samples n
  dbOf ((l.map powerOf).foldl (fun a b => a + b) 0 / (l.length : Nat)) - s.refOf (.input n)

/-- The fades of a slot's input that its slope needs, with the present one: those of the last 200 ms, and the one before them (R129). -/
def State.fadesOf (s : State) (n : Nat) : List (Nat × Int) :=
  let l := tabGet [] s.light.fades n ++ [(s.now, s.fadeOf n)]
  l.drop ((l.filter fun p => decide (p.1 + 200000000 ≤ s.now)).length - 1)

/-- A feed's slope (R129): the change of its fade over the last 200 ms, in 0.001 dB/s. Before 200 ms have been sampled the fade counts as unchanged before
the first of them (DESIGN CHOICE, log entry 174). -/
def State.slopeOf (s : State) (n : Nat) : Int :=
  match s.fadesOf n with
  | p :: _ => (s.fadeOf n - p.2) * 50
  | [] => 0

/-- How far the input tap of a slot fell from the sample before to the last, in 0.01 dB (R130). -/
def State.fallOf (s : State) (n : Nat) : Int :=
  match (tabGet [] s.light.samples n).reverse with
  | x :: y :: _ => y - x
  | _ => 0

/-! ## Rings and channels -/

/-- A site's temperature in 0.25 °C as its sensors last showed it (R430). -/
def State.siteTemp (s : State) (k : Nat) : Int := tabGet 0 s.thm.temps (48 + k)

/-- The key of a ring. -/
def ringKey (site i : Nat) : Nat := site * 1024 + i

/-- Whether a site has the ring of an index by its layout (R41, R46, R137). -/
def ringThere (site i : Nat) : Bool :=
  if i < 768 then decide (i % 96 < orbitRings site (i % 384 / 96)) else decide (site < 24) && decide (i < 1024)

/-- The channels of the map in force that a ring carries (R41). -/
def State.chansOf (s : State) (site i : Nat) : List Nat :=
  (s.chanList.filter fun p =>
    (decide (p.2.writer = site) && decide (p.2.orbit * 96 + p.2.wring = i)) ||
    (decide (p.2.reader = site) && decide (384 + p.2.orbit * 96 + p.2.rring = i))).map fun p => p.1

/-- Whether a site has a ring: by its layout, or because the map in force puts a channel on it (R41, R137). -/
def State.hasRing (s : State) (site i : Nat) : Bool := ringThere site i || !(s.chansOf site i).isEmpty

/-- Whether a channel that is not DARK or an OMU input uses a ring (R29, R112 step 9). -/
def State.ringUsed (s : State) (site i : Nat) : Bool :=
  (768 ≤ i && ringThere site i) || (s.chansOf site i).any fun n => (s.sky.chans[n]?).any fun c => c.state ≠ 4

/-- Whether a ring is reserved for a DARK channel: it is not tuned (R29). -/
def State.ringDark (s : State) (site i : Nat) : Bool := i < 768 && !(s.chansOf site i).isEmpty && !s.ringUsed site i

/-- The grid channel a ring is to hold (R138, R278). -/
def State.ringTarget (s : State) (site i : Nat) : Nat :=
  if 768 ≤ i then (i - 768) % 64 % 32
  else match (s.chansOf site i).head? with
    | some n => match s.sky.chans[n]? with
      | some c => c.lambda
      | none => 0
    | none => s.get F.TWK_RING_LAMBDA site i

/-- TWK_STAT.LIGHT of a part whose light is on: DEGRADED with a feed in NOSPARE or DARK, or a channel dropped (R136). -/
def State.relight (s : State) : State :=
  let st := s.get F.TWK_STAT_LIGHT
  if st = 2 || st = 3 then
    let bad := ((List.range 6).any fun f => s.get F.TWK_FEED_STATE f = 4 || s.get F.TWK_FEED_STATE f = 5) || s.sky.chans.any fun c => c.state = 3
    s.set F.TWK_STAT_LIGHT (if bad then 3 else 2)
  else s

/-- The ordered pairs of the map that have an active direct channel. -/
def State.directPairs (s : State) : List (Nat × Nat) :=
  ((s.sky.chans.filter fun c => c.state = 1 && s.orbitOn c.orbit).map fun c => (c.writer, c.reader)).eraseDups

/-- A change after which the all-pairs loss is raised if it leaves a pair without an active direct channel (R126). -/
def State.watchPairs (s : State) (f : State → State) : State :=
  let before := s.directPairs
  let t := f s
  if before.any fun p => !t.hasDirect p.1 p.2 then t.raise 225 else t

/-- A channel's state as its rings make it (R119, R122): ACTIVE with both confirmed, else IDCHECK; a channel that was dropped stays so. -/
def State.chanState (s : State) (n : Nat) : State :=
  match s.sky.chans[n]? with
  | none => s
  | some c =>
    if c.state = 1 || c.state = 2 then
      let ok := s.get F.TWK_RING_STATE c.writer (c.orbit * 96 + c.wring) = 4 && s.get F.TWK_RING_STATE c.reader (384 + c.orbit * 96 + c.rring) = 4
      s.mapChan n fun c => { c with state := if ok then 1 else 2 }
    else s

/-- Whether every ring that a channel of the station uses is confirmed or failed, held for LOCATE (R124) or not (R525). -/
def State.locked (s : State) (site : Nat) : Bool :=
  let ok (i : Nat) : Bool := let st := s.get F.TWK_RING_STATE site i
    st = 4 || st = 5 || st = 6
  s.sky.chans.all fun c => c.state = 4 ||
    (c.writer ≠ site || ok (c.orbit * 96 + c.wring)) && (c.reader ≠ site || ok (384 + c.orbit * 96 + c.rring))

/-- What every station in service shows while the Sky drains for a map change (R99, R525): DRAINING until the drain line reaches 1, QUIET from then to
step 4, or to the end of the window where the switch is put off; 0 outside a drain. -/
def State.drainShows (s : State) : Nat :=
  if s.trn.drain.isSome || (s.trn.putOff && s.trn.emptied) then 4 else if s.get F.CHT_SWITCH_STATE = 3 || s.trn.putOff then 3 else 0

/-- What a station in service shows (R525). -/
def State.serviceShows (s : State) (site : Nat) : Nat :=
  if s.drainShows ≠ 0 then s.drainShows else if (s.stn site).locking && !s.locked site then 1 else 2

/-- A station all of whose rings are done is no longer LOCKING (R525). -/
def State.lockEnd (s : State) (site : Nat) : State :=
  if (s.stn site).locking && s.locked site then
    let s1 := s.setStn site { s.stn site with locking := false }
    if s1.get F.SKY_STN_STATUS_STATE site = 1 then ((s1.set F.SKY_STN_STATUS_STATE 2 site).readmit site).pump site else s1
  else s

/-- A station begins to lock its rings (R525); in reset or retired it shows that. -/
def State.lockBegin (s : State) (site : Nat) : State :=
  let s1 := s.setStn site { s.stn site with locking := true }
  let st := s1.get F.SKY_STN_STATUS_STATE site
  if st = 5 || st = 6 then s1 else s1.set F.SKY_STN_STATUS_STATE (if s1.drainShows ≠ 0 then s1.drainShows else 1) site

/-- The state of a ring, and with it that of its channels and its OMU (R122, R124, R161). A ring that leaves IDCHECK has no window to repeat (R119). -/
def State.putRing (s : State) (site i st : Nat) : State :=
  let s0 := if st = 3 then s else s.setLight { s.light with again := keyDrop s.light.again (ringKey site i) }
  let s1 := s0.set F.TWK_RING_STATE st site i
  if 768 ≤ i then
    let u := (i - 768) / 64
    if st = 4 then s1.omuLight site u else if st = 6 then s1.omuDown site u ((i - 768) % 64) else s1.omuDark site u
  else
    let s2 := s1.watchPairs fun t => (t.chansOf site i).foldl State.chanState t
    let s3 := if st = 4 then (((s2.chansOf site i).filterMap fun n => s2.sky.chans[n]?).map fun c => c.writer).foldl (fun (t : State) w => t.pump w) s2
      else s2
    s3.lockEnd site

/-- The rings of a site that its 64 tone decoders read (R115): those in IDCHECK that have one, and with the decoders that are free the others in index
order (R119). -/
def State.serveDecoders (s : State) (site : Nat) : State :=
  let waits (i : Nat) : Bool := s.get F.TWK_RING_STATE site i = 3
  let (mine, others) := s.light.reading.partition fun k => decide (k / 1024 = site)
  let on := mine.filter fun k => waits (k % 1024)
  let next := if on.length < 64 then (List.range 1024).filter fun i => waits i && !on.contains (ringKey site i) else []
  s.setLight { s.light with reading := others ++ on ++ (next.take (64 - on.length)).map (ringKey site) }

/-- A ring's state changed, and the tone decoders of its site given to those that wait (R119); a ring that fails counts over the part's life (R499). -/
def State.setRing (s : State) (site i st : Nat) : State :=
  let s0 := if st = 6 && decide (s.get F.TWK_RING_STATE site i ≠ 6) then s.lifeAdd (0x3DCC + 16 * site) 1 else s
  let s1 := s0.putRing site i st
  if st = 3 || s.get F.TWK_RING_STATE site i = 3 then s1.serveDecoders site else s1

/-- Whether a channel of a pair is active or waits for its rings (R122). -/
def State.hasOpen (s : State) (a b : Nat) : Bool :=
  s.sky.chans.any fun c => decide (c.writer = a) && decide (c.reader = b) && (c.state = 1 || c.state = 2)

/-- A channel dropped at both ends (R124): counted at each. A drop that takes the pair's last active channel, or the last that could become active, raises
the all-pairs loss (R126). A DARK channel stays DARK (R29). -/
def State.dropChan (s : State) (n : Nat) : State :=
  match s.sky.chans[n]? with
  | none => s
  | some c =>
    if c.state = 3 || c.state = 4 then s
    else
      let s0 := s.mapChan n fun c => { c with state := 3 }
      let s1 := if !s0.hasDirect c.writer c.reader && (s.hasDirect c.writer c.reader || !s0.hasOpen c.writer c.reader) then s0.raise 225 else s0
      ((s1.bump F.TWK_DROPS c.writer).bump F.TWK_DROPS c.reader).relight

/-- A failed ring (R124): its channel dropped, or held until the next quiet window's LOCATE reading; its OMU taken out of service. The ring of a DARK
channel carries nothing that could be held or dropped (R29). -/
def State.failRing (s : State) (site i : Nat) : State :=
  let k := ringKey site i
  let s1 := s.setLight { s.light with relocks := s.light.relocks.filter fun r => decide (r.ring ≠ k) }
  if 768 ≤ i then s1.setRing site i 6
  else if s1.isSet F.TWK_CTRL_FAILMODE && !(s1.chansOf site i).isEmpty && !s1.ringDark site i then
    let s2 := s1.setRing site i 5
    s2.setLight { s2.light with locate := (s2.chansOf site i).foldl keyPut s2.light.locate }
  else ((s1.chansOf site i).foldl State.dropChan s1).setRing site i 6

/-- A relock in progress that has failed to confirm at `now`; the next begins (R121). -/
def Relock.fail (r : Relock) (now : Nat) : Relock :=
  { r with since := now, fails := (r.fails ++ [(r.since, now)]).drop (r.fails.length - 2) }

/-- Whether three relocks in a row have failed to confirm within 20 ms in all (R121). -/
def Relock.spent (r : Relock) : Bool :=
  match r.fails with
  | [a, _, c] => decide (c.2 ≤ a.1 + 20000000)
  | _ => false

/-- The relocks in progress replaced. -/
def State.setRelocks (s : State) (l : List Relock) : State := s.setLight { s.light with relocks := l }

/-- The relock in progress of a ring fails to confirm; nothing where none is (R121). -/
def State.failRelock (s : State) (site i : Nat) : State :=
  s.setRelocks (s.light.relocks.map fun r => if r.ring = ringKey site i then r.fail s.now else r)

/-- The relock of a ring whose lock is gone, or whose confirmation failed (R121): it is swept again. -/
def State.relockRing (s : State) (site i : Nat) : State :=
  let k := ringKey site i
  if s.ringDark site i then s
  else
  let s1 := if s.light.relocks.any fun r => decide (r.ring = k) then s.failRelock site i
    else s.setRelocks (s.light.relocks ++ [{ ring := k, since := s.now }])
  (s1.setLight { s1.light with aims := tabPut 0 s1.light.aims k 0 }).setRing site i 2

/-- Whether a swap pauses the feed that lights a ring (R135). -/
def State.ringPaused (s : State) (site i : Nat) : Bool := s.light.stopped.contains (if i < 768 then i % 384 / 96 else trunkOf site)

/-- A lock lost (R121): counted; the ring is swept again. During a swap pause of its feed it waits for the end of the pause (R135). -/
def State.lockLoss (s : State) (site i : Nat) : State :=
  if s.ringPaused site i then s.setLight { s.light with later := keyPut s.light.later (ringKey site i) }
  else (s.bump F.TWK_LOCKLOSS site).relockRing site i

/-- The rings whose lost lock has waited for the end of a pause (R135); one whose heater has failed is failed now (R121). -/
def State.lateLosses (s : State) : State :=
  (s.light.later.filter fun k => !s.ringPaused (k / 1024) (k % 1024)).foldl (fun t k =>
    let t1 := t.setLight { t.light with later := keyDrop t.light.later k }
    let st := t1.get F.TWK_RING_STATE (k / 1024) (k % 1024)
    if t1.light.broken.contains k then
      ((t1.setLight { t1.light with broken := keyDrop t1.light.broken k }).bump F.TWK_LOCKLOSS (k / 1024)).failRing (k / 1024) (k % 1024)
    else if st = 3 || st = 4 then t1.lockLoss (k / 1024) (k % 1024) else t1) s

/-- Every ring of a site but those of DARK channels (R29) relocked from its held code, without a sweep (R113, R127): a ring in use is then confirmed, another is
IDLE. Their alias counts are 0 again (R137). -/
def State.relockSite (s : State) (site : Nat) : State :=
  (((List.range 1024).filter fun i => s.hasRing site i && !s.ringDark site i && s.get F.TWK_RING_STATE site i ≠ 6).foldl (fun t i =>
    let t1 := t.set F.TWK_RING_ALIASES 0 site i
    if s.ringUsed site i then (t1.set F.TWK_RING_LAMBDA (t1.ringTarget site i) site i).putRing site i 3 else t1.set F.TWK_RING_STATE 1 site i)
    (s.lockBegin site)).serveDecoders site |>.lockEnd site

/-- Whether a ring is one of orbit O0. -/
def ringO0 (i : Nat) : Bool := i < 768 && i % 384 < 96

/-- Rings of a site that `p` picks swept from their heater tables, those of DARK channels left untuned (R29, R112 step 8, R116). -/
def State.sweepRings (s : State) (site : Nat) (p : Nat → Bool) : State :=
  ((List.range 1024).filter fun i => p i && s.hasRing site i && !s.ringDark site i && s.get F.TWK_RING_STATE site i ≠ 6).foldl (fun t i =>
    (t.set F.TWK_RING_LAMBDA (t.ringTarget site i) site i).setRing site i 2) s

/-- Rings of a site swept, O0 first (R112 step 8). -/
def State.sweepSite (s : State) (site : Nat) : State := ((s.lockBegin site).sweepRings site ringO0).lockEnd site

/-- Steps 8 and 9 of the light start begin (R112, R113): every present site's rings are swept, or relocked from their held codes. -/
def State.startRings (s : State) : State :=
  let s1 := s.setLight { s.light with step := 8, rest := !s.light.keep }
  s1.sites.foldl (fun t k => if t.light.keep then t.relockSite k else t.sweepSite k) s1

/-- The rings of O1 to O3 and the OMU inputs swept once no ring of O0 is in its sweep any more (R112 step 8). -/
def State.sweepRest (s : State) : State :=
  if s.light.rest && s.sites.all fun k => (List.range 1024).all fun i => !ringO0 i || s.get F.TWK_RING_STATE k i ≠ 2 then
    s.sites.foldl (fun t k => t.sweepRings k fun i => !ringO0 i) (s.setLight { s.light with rest := false })
  else s

/-- Whether every ring in use at a site, OMU inputs too, has been confirmed or has failed. -/
def State.siteLocked (s : State) (k : Nat) : Bool :=
  (List.range 1024).all fun i => !(s.hasRing k i && s.ringUsed k i) || s.get F.TWK_RING_STATE k i = 4 || s.get F.TWK_RING_STATE k i = 6

/-- Whether every ring in use has been confirmed or has failed (R112 step 9). -/
def State.ringsDone (s : State) : Bool :=
  s.sites.all s.siteLocked

/-- The fence of a die lifted once its site is back with its rings confirmed (R470 step 5). -/
def State.liftFence (s : State) (k : Nat) : State :=
  match dieDom k with
  | some d =>
    if s.get F.FLT_DOM0_STATE d = 2 && s.get F.FLT_DOM0_STATE (24 + k) = 0 && s.siteLocked k then
      (s.set F.FLT_DOM0_STATE 0 d).set F.SKY_DLV_DIE_DIE_DOWN 0 k
    else s
  | none => s

/-- The light start goes on (R112 steps 8 and 9): the rings that waited for O0, then LIGHT ON; fences whose sites are confirmed are lifted (R470). -/
def State.lightOn (s : State) : State :=
  let s := s.sweepRest
  let s1 := if s.light.step = 8 && s.get F.TWK_STAT_LIGHT = 1 && s.ringsDone then
      ((s.setLight { s.light with step := 9 }).set F.TWK_STAT_LIGHT 2).relight
    else s
  (List.range 40).foldl State.liftFence s1

/-! ## Feeds and swaps -/

/-- The swaps replaced. -/
def State.setSwaps (s : State) (l : List Swap) : State := s.setLight { s.light with swaps := l }

/-- A feed's swap. -/
def State.swapOf (s : State) (f : Nat) : Option Swap := s.light.swaps.find? fun w => decide (w.feed = f)

/-- A feed's swap changed. -/
def State.mapSwap (s : State) (f : Nat) (g : Swap → Swap) : State :=
  s.setSwaps (s.light.swaps.map fun w => if w.feed = f then g w else w)

/-- A feed's swap ended. -/
def State.dropSwap (s : State) (f : Nat) : State := s.setSwaps (s.light.swaps.filter fun w => decide (w.feed ≠ f))

/-- The OMUs of a trunk's half as (tile, OMU) pairs. -/
def trunkOmus (f : Nat) : List (Nat × Nat) :=
  ((List.range 24).filter fun t => decide (trunkOf t = f)).flatMap fun t => (List.range 4).map fun u => (t, u)

/-- A feed stopped or started again: an orbit's sending (R131, R133), a trunk's OMUs. -/
def State.stopFeed (s : State) (f : Nat) : State := s.setLight { s.light with stopped := keyPut s.light.stopped f }
def State.startFeed (s : State) (f : Nat) : State := s.setLight { s.light with stopped := keyDrop s.light.stopped f }

/-- The input that a feed's new module changes places with: its old one, or, on a feed that is dark, what stands there. -/
def State.standing (s : State) (f old : Nat) : Nat :=
  if old < 8 then old else ((List.range 8).find? fun n => s.light.net.getD n 0 = f).getD 8

/-- Two inputs of the switch network exchanged (R109). With a spare the other place is its dump arm. Where a feed takes the module of a bulk orbit (R134), the old
input goes to that orbit's feed, which is dark from then on: the spec names no place for it (log entry 142). -/
def State.crossbar (s : State) (a b : Nat) : State :=
  let x := s.light.net.getD a 0
  let y := s.light.net.getD b 0
  s.setLight { s.light with net := modAt (modAt s.light.net a fun _ => y) b fun _ => x }

/-- An input put on a dump arm (R109, R111): it stays on the one it is on; else it takes the first on which no other spare stands. -/
def State.toDump (s : State) (n : Nat) : State :=
  let taken := (List.range 8).any fun m => m ≠ n && s.get F.TWK_ELS_ROLE m = 4 && s.light.net.getD m 0 = 6
  if 6 ≤ s.light.net.getD n 0 then s else s.setLight { s.light with net := modAt s.light.net n fun _ => if taken then 7 else 6 }

/-- A swap's two inputs exchanged, or put back by a second exchange (R131, R133). Where nothing stood on a dark feed the spare comes from its dump arm and goes
back to one. -/
def State.swapInputs (s : State) (w : Swap) : State :=
  let a := s.standing w.feed w.old
  if a < 8 && a ≠ w.spare then s.crossbar a w.spare
  else if s.light.net.getD w.spare 0 = w.feed then s.toDump w.spare
  else s.setLight { s.light with net := modAt s.light.net w.spare fun _ => w.feed }

/-- The bulk orbit of lowest priority that is still lit (R134): a module feeds it, and no other feed's swap is to take that module. -/
def State.donorOrbit (s : State) : Option Nat :=
  [3, 2, 1].find? fun o => s.get F.TWK_FEED_STATE o ≠ 5 && !(s.light.swaps.any fun w => w.donor = some o) && (List.range 8).any fun n => s.get F.TWK_ELS_ROLE n = 3 && s.get F.TWK_ELS_FEED n = o

/-- Every channel of an orbit dropped (R134). -/
def State.dropOrbit (s : State) (o : Nat) : State :=
  ((s.chanList.filter fun p => decide (p.2.orbit = o)).map fun p => p.1).foldl State.dropChan s

/-- A feed that needs a swap with no spare left (R134): `hard` at −3.5 dB or on a fast-swap cause. -/
def State.noSpare (s : State) (f : Nat) (hard : Bool) : State :=
  let slot := s.get F.TWK_FEED_SLOT f
  if f = 0 || f = 4 || f = 5 then
    match s.donorOrbit with
    | some o =>
      let w : Swap := { feed := f, fast := false, step := 1, old := slot, spare := s.get F.TWK_FEED_SLOT o, since := 0, donor := some o }
      ((s.dropSwap f).setFeed f (if s.light.stopped.contains f then 3 else 2)).setSwaps ((s.dropSwap f).light.swaps ++ [w])
    | none => if hard then s.enterFold 227 else s
  else if hard then
    let s1 := ((s.dropSwap f).startFeed f).dropOrbit f
    ((((s1.failModule slot).setFeed f 5).set F.TWK_FEED_SLOT 7 f).countSpares).relight
  else if s.get F.TWK_FEED_STATE f = 4 then s
  else (((s.dropSwap f).setFeed f 4).raise 227).relight

/-- The rank of a feed by priority, O0 highest (R134). -/
def feedRank (f : Nat) : Nat := [0, 4, 5, 1, 2, 3].idxOf f

/-- The pending slow swap of the lowest priority below a feed's: it gives its spare up to that feed (R135). -/
def State.yielding (s : State) (f : Nat) : Option Swap :=
  ([3, 2, 1, 5, 4].filter fun g => feedRank f < feedRank g).findSome? fun g =>
    s.light.swaps.find? fun w => decide (w.feed = g) && !w.fast && w.step = 1 && w.donor.isNone

/-- A slow swap ordered (R131 step 1): the lowest spare is set to full output; a feed already pending keeps its swap. With no spare left it takes that of a
pending feed of lower priority (R135), which then has none (R134). A dark feed has no old input (R136). -/
def State.slowSwap (s : State) (f since : Nat) : State :=
  let old := if s.get F.TWK_FEED_STATE f = 5 then 8 else s.get F.TWK_FEED_SLOT f
  let swap (n : Nat) : Swap := { feed := f, fast := false, step := 1, old := old, spare := n, since := since }
  if (s.swapOf f).isSome then s
  else match s.spares with
    | n :: _ => ((s.setSwaps (s.light.swaps ++ [swap n])).setFeed f 2).order n 2
    | [] => match s.yielding f with
      | some w =>
        let s1 := s.dropSwap w.feed
        ((s1.setSwaps (s1.light.swaps ++ [swap w.spare])).setFeed f 2).noSpare w.feed false
      | none => s.noSpare f false

/-- Step 1 of a fast swap (R133): the orbit's channels suspended, a trunk's OMUs stopped at once. A suspended channel goes on showing ACTIVE in SKY_TXMAP and
SKY_RXMAP, which have no value for it (DESIGN CHOICE, log entry 205). -/
def State.suspendFeed (s : State) (f : Nat) : State :=
  let s1 := (s.watchPairs fun t => t.stopFeed f).setFeed f 3
  if 4 ≤ f then (trunkOmus f).foldl (fun t p => t.omuDark p.1 p.2) s1 else s1

/-- A fast swap begins, or takes the place of a pending slow swap (R133, R135). A cause that comes while the feed's swap is in its pause or stopped starts
none: the swap under way goes on (log entry 143). -/
def State.fastSwap (s : State) (f : Nat) : State :=
  match s.swapOf f with
  | some w =>
    if w.fast || decide (2 ≤ w.step) then s
    else
      let s1 := (s.mapSwap f fun w => { w with fast := true, since := s.now }).suspendFeed f
      match w.donor with
      | some o => s1.dropOrbit o
      | none => s1
  | none => match s.spares with
    | [] => (s.suspendFeed f).noSpare f true
    | n :: _ =>
      let w : Swap := { feed := f, fast := true, step := 1, old := s.get F.TWK_FEED_SLOT f, spare := n, since := s.now }
      ((s.setSwaps (s.light.swaps ++ [w])).suspendFeed f).order n 2

/-- Sending goes on after a swap or a pause (R131, R133): locks lost in the pause are handled (R135), stations send on the orbit again, a trunk's OMUs
run a pilot first (R132). -/
def State.resumeFeed (s : State) (f : Nat) (pilot : Bool) : State :=
  let s1 := (s.startFeed f).lateLosses
  if 4 ≤ f then (trunkOmus f).foldl (fun t p =>
    let t1 := if pilot then t.owePilot p.1 p.2 else t
    (t1.omuLight p.1 p.2).tryPilot p.1 p.2) s1
  else s1.sites.foldl (fun t k => t.pump k) s1

/-- A swap that has passed its check takes effect (R110, R130): the slots' roles, the feed's slot, the count of swaps; the orbit a donor came
from goes dark. -/
def State.endSwap (s : State) (w : Swap) : State :=
  let f := w.feed
  let s0 := match w.donor with
    | some o => (((s.dropOrbit o).setFeed o 5).set F.TWK_FEED_SLOT 7 o)
    | none => s
  let s1 := if w.old < 8 then (s0.failModule w.old).lifeAdd (0x3CC8 + 32 * w.old) 1 else s0
  let s2 := ((s1.set F.TWK_ELS_ROLE 3 w.spare).set F.TWK_ELS_FEED f w.spare).set F.TWK_FEED_SLOT w.spare f
  let s3 := s2.setLight { s2.light with samples := tabPut [] s2.light.samples w.spare [], fades := tabPut [] s2.light.fades w.spare [] }
  ((((s3.setFeed f 0).add F.TWK_FEED_SWAPS 1 f).dropSwap f).countSpares).relight

/-- A swap's check that failed for good (R110, R131, R133): the spare is FAILED; a donor's orbit, whose module it was, is dark (R134). -/
def State.failSwap (s : State) (w : Swap) : State :=
  let s1 := ((s.dropSwap w.feed).failModule w.spare).countSpares
  (match w.donor with
   | some o => (((s1.dropOrbit o).setFeed o 5).set F.TWK_FEED_SLOT 7 o).relight
   | none => s1).raise 227

end Sys2Proof.Machine
end

