-- ==== Sys2Proof/Machine/Light.lean ====
section
/-! DEFINITION. Meanings of the light's commands (chapter "Light sources, ring locking and optical failures"): the interlock, the light start,
modules, rings and their identity tones. -/

namespace Sys2Proof.Machine

/-! ## The interlock -/

/-- ELS_INTLK_OPEN (R106): every ELS_EN line released; FATAL where any was asserted. -/
def execElsIntlkOpen (s : State) : Res :=
  liveHub s fun s =>
    let was := (List.range 8).any fun n => s.isSet F.TWK_ELS_EN n
    let s1 := (s.set F.TWK_STAT_INTLK 0).releaseEls
    if was then s1.raise 224 else s1

/-- ELS_INTLK_CLOSE (R105, R511). -/
def execElsIntlkClose (s : State) : Res := liveHub s fun s => s.set F.TWK_STAT_INTLK 1

/-- LASER_INTERLOCK_FAULT (R107): light or emission where the gate allows none, or a module over its cap for 1 ms. -/
def execLaserInterlockFault (_slot : Nat) (s : State) : Res := live s fun s => s.raise 224

/-! ## The light start (R112, R113) -/

/-- The first slot that fails a test. -/
def firstBad (mods : List ModRead) (p : Nat → ModRead → Bool) : Option Nat :=
  (List.range 8).find? fun n => !p n (mods.getD n {})

/-- The first of steps 1 to 3 that fails: its number, its reason and its slot; `keep` skips step 2 (R113). -/
def State.lightFault (s : State) (mods : List ModRead) : Option (Nat × Nat × Nat) :=
  if !s.isSet F.TWK_STAT_INTLK then some (1, 4, 0)
  else
    let wrong := if s.light.keep then none else firstBad mods fun _ r => r.answers && r.type = 0x4C53 && r.intlk
    let cold := firstBad mods fun _ r => decide (15 ≤ r.temp) && decide (r.temp ≤ 70)
    (wrong.map fun n => (2, 1, n)) <|> cold.map fun n => (3, 3, n)

/-- No slot feeds any more: every feed is without a slot, and the spares are counted (R136). -/
def State.feedsDark (s : State) : State :=
  let s1 := (List.range 8).foldl (fun (t : State) n => t.set F.TWK_ELS_FEED 7 n) s
  ((List.range 6).foldl (fun (t : State) f => (t.set F.TWK_FEED_SLOT 7 f).set F.TWK_FEED_STATE 0 f) s1).countSpares

/-- The gate's state given up (R113): every line released, every module dark, the switch network at its default setting. -/
def State.lightDark (s : State) : State :=
  ((List.range 8).foldl (fun t n => t.order n 0) (s.releaseEls.setLight { s.releaseEls.light with modes := [], net := [0, 1, 2, 3, 4, 5, 6, 7] })).feedsDark

/-- The light start stops at a step (R112, R461): every line is released, and a slot whose module answers is OFF; a start that kept the gate's state
does not keep it any more. Steps 1 and 3 are repeated and suspend the boot watchdog, any other fails the boot. -/
def State.lightStop (s : State) (step err slot : Nat) : State :=
  let s0 := if s.light.keep then s.lightDark else s.releaseEls
  let s1 := (((s0.set F.TWK_STAT_LIGHT 4).set F.TWK_STAT_START_ERR err).set F.TWK_STAT_ERR_SLOT slot)
  let s2 := (List.range 8).foldl (fun (t : State) n => t.set F.TWK_ELS_ROLE (b2n (t.isSet F.TWK_ELS_PRESENT n)) n) s1
  let s3 := s2.feedsDark.setLight { s2.light with step := step, since := s2.now, keep := false }
  if step = 1 || step = 3 then { s3 with boot := { s3.boot with suspend := true } }
  else if s3.get F.FLT_BOOT_STEP = 4 then s3.bootFail 4 else s3

/-- Step 4 of R112 on one slot: its line alone asserted, the module in standby, the line released again. -/
def State.lampCheck (s : State) (n : Nat) : State :=
  let s1 := (s.askEn n).order n 1
  (s1.setLight { s1.light with modes := tabPut 0 s1.light.modes n 1 }).freeEn n

/-- Step 7 of R112: the switch network at its default setting, P0 to P5 at full output on feeds 0 to 5, P6 and P7 spares (R32, R109). -/
def State.lightUp (s : State) : State :=
  let s1 := s.setLight { s.light with
    net := [0, 1, 2, 3, 4, 5, 6, 7], modes := (List.range 8).foldl (fun m n => tabPut 0 m n (if n < 6 then 2 else 1)) s.light.modes }
  let s2 := (List.range 8).foldl (fun (t : State) n =>
    ((if n < 6 then t.order n 2 else t).set F.TWK_ELS_ROLE (if n < 6 then 3 else 4) n).set F.TWK_ELS_FEED (if n < 6 then n else 7) n) s1
  ((List.range 6).foldl (fun t f => (t.set F.TWK_FEED_SLOT f f).setFeed f 0) s2).countSpares

/-- Whether every present site stands at 40 °C or more (R112 step 8, R441); a site retired for the start does not count. -/
def State.sitesWarm (s : State) : Bool := s.sites.all fun k => s.get F.FLT_DOM0_STATE (24 + k) = 3 || decide (160 ≤ tabGet 0 s.thm.temps (48 + k))

/-- Step 8 begins once step 7 has passed and every present site is warm (R112). -/
def State.tryRings (s : State) : State :=
  if s.light.step = 7 && s.sitesWarm then s.startRings.lightOn else s

/-- Steps 4 to 7 of the light start (R112). The power of the feed taps belongs to step 7, for whose failure the spec names no reason: a free one of
the six. -/
def State.lightTests (s : State) (mods : List ModRead) (feedsOk : Bool) : State :=
  let crossed := firstBad mods fun n r => r.taps = [n]
  let s1 := (List.range (match crossed with
    | some n => n + 1
    | none => 8)).foldl State.lampCheck s
  match crossed with
  | some n => s1.lightStop 4 2 n
  | none =>
    let s2 := (List.range 8).foldl State.askEn s1
    match firstBad mods fun _ r => r.grid, firstBad mods fun _ r => tonesOk r with
    | some n, _ => s2.lightStop 5 6 n
    | none, some n => s2.lightStop 6 5 n
    | none, none =>
      let s3 := s2.lightUp
      if feedsOk then (s3.setLight { s3.light with step := 7 }).tryRings
      else
        let (e, s4) := s3.draw 4
        s4.lightStop 7 (1 + e % 6) 0

/-- After a start that kept the switch network: a feed that no slot feeds is DARK again, and the spares are counted (R113, R134, R136). -/
def State.showDark (s : State) : State := ((List.range 6).foldl (fun t f => if t.get F.TWK_FEED_SLOT f = 7 then t.setFeed f 5 else t) s).countSpares

/-- Steps 1 to 7 of the light start (R112), or steps 1, 3 and 6, which a warm reset repeats (R113). -/
def State.runLight (s : State) (mods : List ModRead) (feedsOk : Bool) : State :=
  let s1 := ((s.set F.TWK_STAT_LIGHT 1).set F.TWK_STAT_START_ERR 0).set F.TWK_STAT_ERR_SLOT 0
  let s2 := (List.range 8).foldl (fun t n => t.readModule n (mods.getD n {})) s1
  match s2.lightFault mods with
  | some (step, err, n) => s2.lightStop step err n
  | none =>
    let s3 := { s2 with boot := { s2.boot with suspend := false } }
    if !s3.light.keep then s3.lightTests mods feedsOk
    else match firstBad mods fun _ r => tonesOk r with
      | some n => s3.lightStop 6 5 n
      | none => (s3.showDark.setLight { s3.light with step := 7 }).tryRings

/-- LIGHT_START (R112, R113): in boot step 4 the Croupier brings up the light; a start that does not keep the gate's state first gives it up. -/
def execLightStart (mods : List ModRead) (feedsOk : Bool) (s : State) : Res :=
  live s fun s =>
    if s.get F.FLT_BOOT_STEP = 4 && s.light.step = 0 && s.get F.MGT_STAT_CROUPIER = 0 && s.get F.FLT_STAT_STATE = 0 then
      let s1 := if s.light.keep then s else (List.range 8).foldl (fun t n => t.set F.TWK_ELS_ROLE 2 n) s.lightDark
      s1.runLight mods feedsOk
    else s

/-- LIGHT_START_RETRY (R112): 1 s after a start stopped at step 1 or 3 it is tried again. A retry of step 3 repeats steps 1 and 2 before it: what they
found may have changed in the second (log entry 144). -/
def execLightStartRetry (mods : List ModRead) (feedsOk : Bool) (s : State) : Res :=
  live s fun s =>
    if (s.light.step = 1 || s.light.step = 3) && !s.patience then
      ((List.range 8).foldl (fun t n => t.set F.TWK_ELS_ROLE 2 n) (s.atLeast (s.light.since + 1000000000))).runLight mods feedsOk
    else s

/-! ## Modules -/

/-- MODULE_WRITE_DONE (R104, R131 step 1): the module is in its new mode; `tap` is what its dump arm then shows against the factory reference, in
0.01 dB. A spare ordered for a slow swap must show its reference within 1 dB, or it fails and another takes its place. -/
def execModuleWriteDone (slot mode : Nat) (tap : Int) (s : State) : Res :=
  live s fun s =>
    let s1 := (s.setLight { s.light with modes := tabPut 0 s.light.modes slot mode }).readDump slot tap
    match s1.light.swaps.find? fun w => decide (w.spare = slot) && !w.fast && w.step = 1 && w.donor.isNone with
    | some w => if within1dB (tap - s1.dumpRef slot) || mode ≠ 2 then s1 else ((((s1.dropSwap w.feed).failModule slot).countSpares).slowSwap w.feed w.since)
    | none => s1

/-- A poll's 10 ms of a module that answers, at full output or in standby, counted over the part's life (R499). -/
def State.countOutput (s : State) (n : Nat) (r : ModRead) : State :=
  let mode := tabGet 0 s.light.modes n
  if !r.answers then s
  else if mode = 2 then s.lifeAdd (0x3CC0 + 32 * n) 1
  else if mode = 1 then s.lifeAdd (0x3CC4 + 32 * n) 1
  else s

/-- MODULE_POLL (R105, R107, R128, R130, R483): a module's status, temperature and powers; the gate follows its case temperature. At 70 °C its line is
released for good. The time that a module has spent at full output and in standby counts by polls (R499). The bus stays released until the light start of boot
step 4 (R508). -/
def execModulePoll (slot : Nat) (r : ModRead) (s : State) : Res :=
  live s fun s =>
    if 8 ≤ slot || decide (s.get F.FLT_BOOT_STEP < 4) then s
    else
      let s1 := (s.countOutput slot r).readModule slot r
      let feed := s1.get F.TWK_ELS_FEED slot
      let feeding := s1.get F.TWK_ELS_ROLE slot = 3 && decide (feed < 6)
      if !r.answers then s1
      else if 70 ≤ r.temp then
        let s2 := s1.freeEn slot
        if feeding then s2.fastSwap feed else s2
      else
        let s2 := s1.gate slot
        if feeding && (!r.grid || r.fault || !r.intlk) then s2.fastSwap feed
        else if feeding && decide (67 ≤ r.temp) then s2.slowSwap feed s2.now
        else s2

/-- SPARE_CHECK (R110): every spare of which the check reads lock, temperature, dump-arm tap and tones; one that fails is FAILED. -/
def execSpareCheck (rs : List (Nat × ModRead)) (s : State) : Res :=
  live s fun s =>
    if s.get F.MGT_STAT_CROUPIER = 1 then s
    else ((rs.filter fun p => s.spares.contains p.1).foldl (fun t p =>
      let t1 := (t.readModule p.1 p.2).readDump p.1 p.2.dump
      if s.spareOk p.1 p.2 then t1 else t1.failModule p.1) s).countSpares

/-- The reason for which the slot checks of R112 steps 2 to 6 fail on one module, 0 where they pass (R111). With the loop open no line can be asserted, and the
module fails with reason 4 (DESIGN CHOICE, log entry 205). -/
def State.slotErr (s : State) (slot : Nat) (r : ModRead) : Nat :=
  if !s.isSet F.TWK_STAT_INTLK then 4
  else if !r.answers || r.type ≠ 0x4C53 || !r.intlk then 1
  else if r.temp < 15 || decide (70 < r.temp) then 3
  else if r.taps ≠ [slot] then 2 else if !r.grid then 6 else if !tonesOk r then 5 else 0

/-- MODULE_DETECT (R111): a module put into a slot that is empty, OFF or FAILED is checked alone by steps 2 to 6 of the light start; it becomes a
spare in standby on a dump arm, or FAILED with the reason. -/
def execModuleDetect (slot : Nat) (r : ModRead) (s : State) : Res :=
  live s fun s =>
    let role := s.get F.TWK_ELS_ROLE slot
    if 8 ≤ slot || !(role = 0 || role = 1 || role = 5) || decide (s.get F.MGT_STAT_CROUPIER = 1) then s
    else
      let s1 := s.readModule slot r
      let err := s1.slotErr slot r
      if err = 0 then
        let s2 := (((s1.askEn slot).order slot 1).toDump slot).set F.TWK_ELS_ROLE 4 slot
        (s2.setLight { s2.light with modes := tabPut 0 s2.light.modes slot 1 }).countSpares
      else ((((s1.freeEn slot).set F.TWK_ELS_ROLE 5 slot).set F.TWK_STAT_START_ERR err).set F.TWK_STAT_ERR_SLOT slot)

/-! ## Rings (R116 to R123) -/

/-- The lowest and the highest heater code within 0.25 to 13.75 mW (R116). -/
def codeMin : Nat := 293
def codeMax : Nat := 16090

/-- How far a code lies from a setting. -/
def apart (p : Nat) (z : Int) : Nat := ((p : Int) - z).natAbs

/-- Heater powers in 1/4200 of a code (R116): one grid spacing (0.1 THz at 0.3 THz per mW), the floor of 0.25 mW, 0.04 mW for each kelvin as its
quarter. -/
def gridPow : Int := 1638300
def floorPow : Int := 1228725
def quarterPow : Int := 49149

/-- The power that holds grid channel `n` at 35 °C, for a ring whose power for channel 0 is `base` (R116): a channel higher takes one spacing less, and
orders lie 33 spacings apart. The order is the lowest whose power at 85 °C is not below the floor (DESIGN CHOICE, log entry 164); one spacing of orders and the window's 2 mW end below
13.75 mW. -/
def orderPow (base : Int) (n : Nat) : Int :=
  let low := floorPow + 200 * quarterPow
  low + (base - n * gridPow - low) % (33 * gridPow)

/-- The heater code that a ring's table predicts for its target at the site's temperature (R116). -/
def State.predict (s : State) (site i : Nat) : Int :=
  let k := ringKey site i
  let p := orderPow (Config.heaterSeed k + 4200 * tabGet 0 s.light.tables k) (s.ringTarget site i)
  (p - quarterPow * (s.siteTemp site - 140) + 2100) / 4200

/-- The setting that a ring's sweep is centred on and how far it reaches to either side: ±0.1 mW around what an alias set (R120), ±0.25 mW around the
prediction (R116). -/
def State.sweepAim (s : State) (site i : Nat) : Int × Nat :=
  let goal := tabGet 0 s.light.aims (ringKey site i)
  if goal = 0 then (s.predict site i, 292) else (goal, 117)

/-- RING_SWEEP_DONE (R116, R119, R120): of the peaks inside the sweep's window the ring locks at the one nearest its centre and is in IDCHECK; one that
nothing uses is IDLE; a sweep that finds no peak is repeated: from then on the ring relocks (R121), and each further such sweep is a relock that failed (R116 does not say what
follows a sweep without a peak: DESIGN CHOICE, log entry 175). Of peaks equally near the part takes any:
`pick` says which. -/
def execRingSweepDone (site ring pick : Nat) (peaks : List Nat) (s : State) : Res :=
  live s fun s =>
    if site < 44 && s.get F.TWK_RING_STATE site ring = 2 then
      let k := ringKey site ring
      let (z, reach) := s.sweepAim site ring
      let near := peaks.filter fun p => decide (p < 16384) && decide (apart p z ≤ reach)
      let d := near.foldl (fun m p => min m (apart p z)) reach
      match near.filter fun p => apart p z = d with
      | [] => (s.relockRing site ring).lightOn
      | p :: ps =>
        let whole := tabGet 0 s.light.aims k = 0
        let s1 := s.setLight { s.light with
          aims := tabPut 0 s.light.aims k 0, visitT := tabPut none s.light.visitT k none
          preds := if whole then tabPut none s.light.preds k (some z) else s.light.preds }
        ((s1.set F.TWK_RING_HEATER ((p :: ps).getD (pick % (p :: ps).length) p) site ring).setRing site ring
          (if s1.ringUsed site ring then 3 else 1)).lightOn
    else s

/-- A ring confirmed (R119 to R121): ACTIVE, its alias count 0, its heater table corrected by how far it locked from the prediction. -/
def State.confirmRing (s : State) (site i level : Nat) : State :=
  let k := ringKey site i
  let pred := (tabGet none s.light.preds k).getD (s.predict site i)
  let fix := (s.get F.TWK_RING_HEATER site i : Int) - pred
  let again := s.light.relocks.any fun r => decide (r.ring = k)
  let s1 := s.setLight { s.light with
    relocks := s.light.relocks.filter fun r => decide (r.ring ≠ k)
    preds := tabPut none s.light.preds k none, tables := tabPut 0 s.light.tables k (tabGet 0 s.light.tables k + fix)
    sums := tabPut 0 s.light.sums k level }
  let s2 := if again then s1.bump F.TWK_RELOCK site else s1
  ((s2.set F.TWK_RING_ALIASES 0 site i).setRing site i 4).lightOn

/-- Codes between neighbouring grid channels: 0.1 THz at 0.3 THz per mW and 16,383 codes to 14 mW (R116, R120). -/
def aliasCodes (d : Int) : Int := (d * 16383 * 2 + 42) / 84

/-- An alias (R120): counted; the heater moved by the frequency difference for a short sweep, or the whole window swept again; the third in
a row fails the ring. On a ring that relocks it is a relock that failed to confirm (R121). -/
def State.aliasRing (s : State) (site i : Nat) (m : Option Nat) : State :=
  let k := ringKey site i
  let n := s.get F.TWK_RING_ALIASES site i + 1
  let s1 := ((s.bump F.TWK_ALIAS site).set F.TWK_RING_ALIASES n site i)
  let s2 := s1.failRelock site i
  if 3 ≤ n then (s2.bump F.TWK_ALIAS_FAIL site).failRing site i
  else
    let goal : Int := match m with
      | some m => (s2.get F.TWK_RING_HEATER site i : Int) + aliasCodes ((m : Int) - (s2.ringTarget site i : Int))
      | none => -1
    let aim := if (codeMin : Int) ≤ goal ∧ goal ≤ (codeMax : Int) then goal.toNat else 0
    (s2.setLight { s2.light with aims := tabPut 0 s2.light.aims k aim }).setRing site i 2

/-- The verdict on a decoder's window (R119). -/
inductive Verdict where
  | confirmed
  | alias_ (m : Nat)
  | noLight
  | ambiguous
  deriving DecidableEq, Repr

/-- Whether a tone's amplitude lies at least 12 dB below another's (DEDUCED, log entry 165). -/
def below12dB (x y : Nat) : Bool := decide (x * x * 15849 ≤ y * y * 1000)

/-- The verdict on a window for target `n` (R119); of two other tones equally strong, `pick` says which is the alias. -/
def verdict (r : ToneRead) (n pick : Nat) : Verdict :=
  let amp (i : Nat) : Nat := r.tones.getD i 0
  let top := (List.range 32).foldl (fun m i => max m (amp i)) 0
  let best := (List.range 32).filter fun i => amp i = top
  if top < 50 then .noLight
  else if amp n ≠ top then .alias_ (best.getD (pick % best.length) 0)
  else if (List.range 32).all fun i => i = n || below12dB (amp i) top then .confirmed
  else .ambiguous

/-- TONE_DECODE_DONE (R115, R119, R120, R121): the verdict of the window in which a decoder read a ring in IDCHECK. -/
def execToneDecodeDone (site ring : Nat) (r : ToneRead) (s : State) : Res :=
  live s fun s =>
    let k := ringKey site ring
    if site < 44 && s.get F.TWK_RING_STATE site ring = 3 && s.light.reading.contains k then
      match verdict r (s.ringTarget site ring) (Config.freeValue s.free).toNat with
      | .noLight => (s.lockLoss site ring).lightOn
      | .alias_ m => ({ s with free := s.free + 1 }.aliasRing site ring (some m)).lightOn
      | .confirmed => s.confirmRing site ring r.level
      | .ambiguous =>
        if s.light.again.contains k then (s.aliasRing site ring none).lightOn
        else s.setLight { s.light with again := keyPut s.light.again k }
    else s

/-- The Twinkle engine of a ring: a sixteenth of the indices each (R118; DESIGN CHOICE, log entry 163). -/
def engineOf (i : Nat) : Nat := i % 16

/-- Whether a ring is locked: in IDCHECK or ACTIVE, or IDLE after a sweep that locked it (R112 step 8, R118). -/
def State.ringLocked (s : State) (site i : Nat) : Bool :=
  let st := s.get F.TWK_RING_STATE site i
  st = 1 || st = 3 || st = 4

/-- The ring that an engine visits next: its locked rings in turn (R118). -/
def State.turn (s : State) (site e : Nat) : Option Nat :=
  let mine := (List.range 1024).filter fun i => engineOf i = e && s.ringLocked site i
  let last := tabGet 1023 s.light.turns (site * 16 + e)
  (mine.find? fun i => decide (last < i)) <|> mine.head?

/-- The move a visit asks for in codes (R118): the loop gain, toward the resonance, on the error (A − B) / (A + B), and the feed-forward for the temperature since the ring's
last visit; fractions of a code are dropped. -/
def State.loopMove (s : State) (site i a b : Nat) : Int :=
  let k := ringKey site i
  let was := (tabGet none s.light.visitT k).getD (s.siteTemp site)
  (((Config.loopGain k + 1 : Nat) : Int) * ((a : Int) - b)).tdiv (a + b) + (Config.feedForward k * (s.siteTemp site - was)).tdiv 4

/-- TWINKLE_VISIT (R117, R118, R121): an engine visits the ring whose turn it is, with its samples A and B. The heater moves by what the loop asks
for, at most 16 codes; below half of its level at confirmation the ring has lost lock; at an end of its range the heater is held and counted. -/
def execTwinkleVisit (site engine ring a b : Nat) (s : State) : Res :=
  live s fun s =>
    if 44 ≤ site || decide (s.turn site engine ≠ some ring) then s
    else
      let k := ringKey site ring
      let d := max (-16) (min 16 (s.loopMove site ring a b))
      let h := s.get F.TWK_RING_HEATER site ring
      let s1 := s.setLight { s.light with
        turns := tabPut 1023 s.light.turns (site * 16 + engine) ring, visitT := tabPut none s.light.visitT k (some (s.siteTemp site)) }
      if 2 * (a + b) < tabGet 0 s.light.sums k && s.get F.TWK_RING_STATE site ring = 4 then s1.lockLoss site ring
      else if (h ≤ codeMin && decide (d < 0)) || (codeMax ≤ h && decide (0 < d)) then s1.bump F.TWK_RANGE_END site
      else s1.set F.TWK_RING_HEATER (max (codeMin : Int) (min (codeMax : Int) ((h : Int) + d))).toNat site ring

/-- HEATER_FAULT (R121, R135, R464, R467): an open or a short is a lock loss that fails the ring, at once or, in a swap pause of its feed, after the
pause; a short raises its site's source too. -/
def execHeaterFault (site ring : Nat) (short : Bool) (s : State) : Res :=
  live s fun s =>
    if site < 44 && s.hasRing site ring && s.get F.TWK_RING_STATE site ring ≠ 6 then
      let s0 := s.bump F.TWK_HEATER_FAULT site
      let s1 := if s.ringPaused site ring then
          s0.setLight { s0.light with later := keyPut s0.light.later (ringKey site ring), broken := keyPut s0.light.broken (ringKey site ring) }
        else ((s0.bump F.TWK_LOCKLOSS site).failRing site ring).lightOn
      if short then s1.raise (180 + site) else s1
    else s

/-- RELOCK_TIMEOUT (R121): three relocks in a row have failed to confirm within 20 ms. -/
def execRelockTimeout (site ring : Nat) (s : State) : Res :=
  live s fun s =>
    match s.light.relocks.find? fun r => decide (r.ring = ringKey site ring) with
    | some r => if r.spent then (s.failRing site ring).lightOn else s
    | none => s

/-- ID_RECHECK (R123): an ACTIVE ring read through a decoder that no confirmation needs; one that is not confirmed is counted and handled as a lock
loss. -/
def execIdRecheck (site ring : Nat) (r : ToneRead) (s : State) : Res :=
  live s fun s =>
    if site < 44 && s.get F.TWK_RING_STATE site ring = 4 && decide ((s.light.reading.filter fun k => decide (k / 1024 = site)).length < 64) then
      if verdict r (s.ringTarget site ring) 0 = .confirmed then s
      else (s.bump F.TWK_ID_RECHECK_FAIL site).lockLoss site ring
    else s

end Sys2Proof.Machine
end

