-- ==== Sys2Proof/Machine/GatherOps.lean ====
section
/-! DEFINITION. Bag lists, pooling and engine jobs (R240, R241, R243 to R250). -/

namespace Sys2Proof.Machine

/-! ## Bag lists (R244) -/

/-- A bag list as read: for each bag its (index, weight) pairs. -/
abbrev Bags := List (List (Nat × Fv))

/-- The positions of the parts of a list whose offsets start at `off`: indices, weights, end. -/
def bagParts (off nb nx : Nat) : Nat × Nat × Nat :=
  let i := pad16 (off + 4 * (nb + 1))
  let w := pad16 (i + 4 * nx)
  (i, w, w + 4 * nx)

/-- The bags of a list (R244) whose offsets start at byte `off`; none where the offsets are not as R244 states. -/
def bagsAt (b : List Byte) (off nb nx : Nat) (wsum : Bool) : Option Bags :=
  let o (k : Nat) : Nat := leAt b (off + 4 * k) 4
  let (ix, wx, _) := bagParts off nb nx
  if o 0 = 0 && o nb = nx && (List.range nb).all (fun k => decide (o k ≤ o (k + 1))) then
    some ((List.range nb).map fun k => (List.range (o (k + 1) - o k)).map fun j =>
      let p := o k + j
      (leAt b (ix + 4 * p) 4, if wsum then decElem 0 (leAt b (wx + 4 * p) 4) else .nat 1))
  else none

/-- The bag list of a GATHER operand of `words` words (R244); none for BAG_FORMAT. -/
def gatherBags (b : List Byte) (words maxBags : Nat) (wsum : Bool) : Option Bags :=
  let nb := leAt b 0 4
  let nx := leAt b 4 4
  let (ix, wx, e) := bagParts 16 nb nx
  let need := if wsum then e else if nx = 0 then ix else ix + 4 * nx
  if decide (65536 < nb) || decide (1048576 < nx) || leAt b 8 8 ≠ 0 || decide (maxBags < nb) || decide (4 * words < need) ||
      decide (wx < ix) then none
  else bagsAt b 16 nb nx wsum

/-- The bags of a list at `a` that depend on a poisoned byte of it (R201): of the list's header, which only a GATHER's has, of their offsets, or of
their indices and weights. -/
def State.taintedBags (s : State) (ext : Ext) (a off nb nx : Nat) (wsum : Bool) (bags : Bags) : List Nat :=
  let (ix, wx, _) := bagParts off nb nx
  let starts := bags.foldl (fun (l : List Nat) b => l ++ [l.getLastD 0 + b.length]) [0]
  let all := decide (0 < off) && s.badAt ext a off
  (List.range nb).filter fun k =>
    let o := starts.getD k 0
    let n := 4 * (bags.getD k []).length
    all || s.badAt ext (a + off + 4 * k) 8 || s.badAt ext (a + ix + 4 * o) n || (wsum && s.badAt ext (a + wx + 4 * o) n)

/-! ## Rows -/

/-- The shard of a table that holds row `r`, with its number. -/
def Table.shardOf (t : Table) (r : Nat) : Option (Nat × Shard) :=
  ((List.range t.shards.length).findSome? fun k => match t.shards[k]? with
    | some sh => if decide (sh.firstRow ≤ r) && decide (r < sh.firstRow + sh.nrows) then some (k, sh) else none
    | none => none)

/-- A row's elements in FP32 and whether it is poisoned: a hand's committed row that is not yet written back (R363), else the copy
of the table, or what host memory returned. -/
def State.tableRow (s : State) (ext : Ext) (t : Table) (a row : Nat) : List Fv × Bool :=
  let dec (b : List Byte) : List Fv := (List.range t.d).map fun i => readElem t.fmt t.d b i
  match s.redirect t.id row with
  | some st => (dec st.data, st.poison)
  | none => (dec (s.bytesAt ext a t.packed), s.badAt ext a t.packed)

/-- Whether a row's contribution carries into the pool: bits of the sum so far with one more row (R245). -/
def poolStep (mode : Nat) (acc : List Fv) (w : Fv) (v : List Fv) : List Fv :=
  match mode with
  | 2 => acc.zipWith (fun a x => w.fma x a) v
  | 3 => acc.zipWith Fv.max2 v
  | _ => acc.zipWith Fv.add v

/-- What pooling starts from: zeros, or nothing below (R245). -/
def poolZero (mode d : Nat) : List Fv := List.replicate d (if mode = 3 then .inf true else .nat 0)

/-- A bag's rows pooled in an order no rule fixes (R245): the values, the count of rows, whether a poisoned row was left out. -/
def State.pool (s : State) (ext : Ext) (t : Table) (mode : Nat) (rows : List (Nat × Nat × Fv)) : List Fv × Nat × Bool × State :=
  let (rs, s1) := s.shuffle rows rows.length
  let r := rs.foldl (fun (st : List Fv × Nat × Bool) x =>
    let v := s.tableRow ext t x.2.1 x.1
    if v.2 then (st.1, st.2.1, true) else (poolStep mode st.1 x.2.2 v.1, st.2.1 + 1, st.2.2)) (poolZero mode t.d, 0, false)
  (r.1, r.2.1, r.2.2, s1)

/-- A bag's final values (R245): zeros where no row was pooled, the mean for MEAN. -/
def poolEnd (mode n : Nat) (v : List Fv) : List Fv :=
  if n = 0 then v.map fun _ => .nat 0 else if mode = 1 then v.map fun x => x.div (.nat n) else v

/-- A bag's output in a float format at an address: D elements (R250). -/
def bagPiece (fmt a : Nat) (v : List Fv) (bad : Bool) : OutPiece × Counts :=
  let e := encRow fmt (.nat 1) 0 v
  (⟨a, e.1, if bad then granules a e.1.length else []⟩,
   { satKept := e.2.1, nans := e.2.2, poison := if bad then v.length else 0 })

/-! ## Jobs -/

/-- The MBD and first address of a shard's chosen copy. -/
def Shard.copyAt (sh : Shard) (mcopy : Bool) : Nat × Nat := if mcopy then (sh.mirror, sh.mbase) else (sh.engine, sh.base)

/-- Whether an MBD can take jobs: present, not in reset, not retired (R240). -/
def State.mbdUp (s : State) (m : Nat) : Bool := s.present (24 + m) && !s.retired (24 + m) && decide (s.get F.FLT_DOM0_STATE (68 + m) = 0)

/-- Whether a shard has two copies that serve reads (R240, R242). -/
def Shard.twoCopies (sh : Shard) : Bool := sh.state = 1 && decide (sh.mirror ≠ 0xFF)

/-- The copy a tile's job goes to (R240): the nearer one, the primary on a tie, the other where one cannot serve or is lost. -/
def State.chooseCopy (s : State) (t : Nat) (sh : Shard) : Bool :=
  if sh.state = 2 && decide (sh.mirror ≠ 0xFF) then sh.lost = 1
  else if !sh.twoCopies then false
  else if !s.mbdUp sh.engine then true
  else if !s.mbdUp sh.mirror then false
  else decide (distClass t (24 + sh.mirror) < distClass t (24 + sh.engine))

/-- The engine job's 64 bytes (R247). -/
def jobBytes (table shard mode : Nat) (part mcopy : Bool) (fmt nb nx inl bagAt outAt stride notify box tag : Nat) : List Byte :=
  natLe 2 (table + 4096 * shard) ++ natLe 1 (mode + 4 * b2n part + 8 * b2n mcopy) ++ natLe 1 fmt ++ natLe 4 nb ++ natLe 4 nx ++
  natLe 1 inl ++ natLe 3 0 ++ natLe 8 bagAt ++ natLe 8 outAt ++ natLe 4 stride ++ natLe 2 (notify + 64 * box) ++ natLe 2 0 ++
  natLe 8 tag ++ natLe 16 0

/-- A message of an agent (R52: OP 3, class 1, its mailbox in ADDR). -/
def messageReq (dest box : Nat) (body : List Byte) (a : Agent) (work : Option Nat) : SendReq :=
  { dest := dest, cls := 1, op := 3, len := ceilDiv body.length 16, addr := box, payload := body, agent := a, work := work }

/-- A job sent to its MBD's mailbox 1 (R247). -/
def State.sendJob (s : State) (t : Nat) (seq : Option Nat) (j : SentJob) : State :=
  s.send t (messageReq (24 + j.mbd) 1 j.body (.core 0) seq)

/-- The bag list of a job as the tile writes it (R244): offsets, indices, weights. -/
def bagListBytes (bags : Bags) (wsum : Bool) : List Byte :=
  let nx := bags.foldl (fun n b => n + b.length) 0
  let offs := (List.range (bags.length + 1)).flatMap fun k => natLe 4 ((bags.take k).foldl (fun n b => n + b.length) 0)
  let pad (l : List Byte) : List Byte := slice l 0 (pad16 l.length)
  let ix := bags.flatMap fun b => b.flatMap fun p => natLe 4 p.1
  pad offs ++ (if wsum then pad ix ++ bags.flatMap (fun b => b.flatMap fun p => natLe 4 p.2.bits32) else slice ix 0 (4 * nx))

/-- Bytes between the partial outputs of a job (R250). -/
def partStride (d : Nat) : Nat := (ceilDiv (4 * d) 16 + 1) * 16

/-- The plan of a GATHER on one tile: sub-lists by shard, each a list of (bag, its indices there). -/
def shardLists (t : Table) (bags : List (Nat × List (Nat × Fv))) : List (Nat × List (Nat × List (Nat × Fv))) :=
  (List.range t.shards.length).filterMap fun k =>
    let l := bags.filterMap fun b =>
      let mine := b.2.filter fun p => (t.shardOf p.1).any fun q => decide (q.1 = k)
      if mine.isEmpty then none else some (b.1, mine)
    if l.isEmpty then none else some (k, l)

/-- Whether bag numbers rise by one step, and that step. -/
def evenStep : List Nat → Option Nat
  | [] => none
  | [_] => some 1
  | a :: b :: rest =>
    if (List.range rest.length).all (fun i => rest.getD i 0 = b + (b - a) * (i + 1)) && decide (a < b) then some (b - a) else none

/-- A bag whose rows come from one place (R246). -/
def onePlace (lists : List (Nat × List (Nat × List (Nat × Fv)))) (hot : List Nat) (bag : Nat) : Bool :=
  decide (((lists.filter fun l => l.2.any fun b => decide (b.1 = bag)).length + b2n (hot.contains bag)) ≤ 1)

/-! ## The operator's start -/

/-- The granules of a job's list at `a` that hold words of the tainted bags (R201). -/
def taintGranules (a : Nat) (bags : Bags) (ids tainted : List Nat) (wsum : Bool) : List Nat :=
  let nx := bags.foldl (fun n b => n + b.length) 0
  let (ix, wx, _) := bagParts 0 bags.length nx
  let starts := bags.foldl (fun (l : List Nat) b => l ++ [l.getLastD 0 + b.length]) [0]
  (ids.zipIdx.filter fun p => tainted.contains p.1).flatMap fun p =>
    let o := starts.getD p.2 0
    let n := 4 * (bags.getD p.2 []).length
    granules (a + 4 * p.2) 8 ++ granules (a + ix + 4 * o) n ++ (if wsum then granules (a + wx + 4 * o) n else [])

/-- GATHER on a tile (R244 to R246): `scratch` is where the tile's kernels put lists and partials in its cache die; hot rows pooled
here, one job for each shard with a sub-list sent to its chosen copy. A list with a bag that depends on poisoned words goes by memory, where it can carry
the tag (R201). A shard's bags that do not all come from one place, or whose outputs do not lie evenly, all go as partials, since a job has one PARTIAL
bit and one OUT_STRIDE (DESIGN CHOICE, log entry 207). -/
def State.gatherStart (s : State) (run : OpRun) (bags : Bags) (mine tainted : List Nat) (ext : Ext) (scratch : Nat) : State × OpRun :=
  let o := run.op
  match s.table (leAt o.param 0 2) with
  | none => (s, { run with lost := mine, status := [{ status := 6, detail := 4 }] })
  | some t =>
    let mode := leAt o.param 2 1
    let live := mine.map fun b => (b, (bags.getD b []).filter fun p => decide (p.1 ≠ 0xFFFFFFFF))
    let oob := live.foldl (fun n b => n + (b.2.filter fun p => decide (t.rows ≤ p.1)).length) 0
    let good := live.map fun b => (b.1, b.2.filter fun p => decide (p.1 < t.rows))
    let ready := s.mems.ready.contains (run.tile * 4096 + t.id)
    let hotAt := s.hotAt run.tile t
    let isHot (p : Nat × Fv) : Bool := decide (p.1 < t.hotRows) && ready && hotAt.isSome
    let hot := (good.filter fun b => b.2.any isHot)
    let hotBags := hot.map fun b => b.1
    let lists := shardLists t (good.map fun b => (b.1, b.2.filter fun p => !isHot p))
    -- the tile's own rows
    let pooled := hot.foldl (fun (st : List Partial × State) b =>
      let rows := (b.2.filter isHot).map fun p => (p.1, hotAt.getD 0 + p.1 * t.stride * 16, p.2)
      let r := st.2.pool ext t mode rows
      (st.1 ++ [⟨b.1, 16, r.1.map Fv.bits32, r.2.1, r.2.2.1 || tainted.contains b.1⟩], r.2.2.2)) ([], s)
    -- one job for each shard
    let step (st : State × List SentJob × Nat) (l : Nat × List (Nat × List (Nat × Fv))) : State × List SentJob × Nat :=
      match t.shards[l.1]? with
      | none => st
      | some sh =>
        let mc := s.chooseCopy run.tile sh
        let nb := l.2.length
        let idx := l.2.map fun b => b.2
        let nx := idx.foldl (fun n b => n + b.length) 0
        let bagIds := l.2.map fun b => b.1
        let step? := if bagIds.all (onePlace lists hotBags) then evenStep bagIds else none
        let part := step?.isNone
        let inl := !bagIds.any tainted.contains && decide (nb = 1) && decide (nx ≤ (if mode = 2 then 24 else 48)) && decide (0 < nx)
        let list := bagListBytes idx (mode = 2)
        let bagAt := st.2.2
        let here := if inl then bagAt else pad16 (bagAt + list.length)
        let stride := if part then partStride t.d else (step?.getD 1) * o.out.stride * 16
        let outAt := if part then here else o.out.dpa + (bagIds.headD 0) * o.out.stride * 16
        let next := if part then here + nb * stride else here
        let tag := st.1.cmp.next
        let body0 := jobBytes t.id l.1 mode part mc (if part then 0 else o.out.fmt) nb nx (if inl then nx else 0)
          (if inl then 0 else bagAt) outAt (stride / 16) run.tile 0 tag
        let tail := if inl then (idx.flatMap fun b => b.flatMap fun p => natLe 4 p.1) ++
            (if mode = 2 then idx.flatMap fun b => b.flatMap fun p => natLe 4 p.2.bits32 else []) else []
        let body := body0 ++ tail
        let j : SentJob := {
          tag := tag, table := t.id, shard := l.1, mcopy := mc, mbd := (sh.copyAt mc).1, body := slice body 0 (pad16 body.length)
          bags := bagIds, part := part, outAt := outAt, stride := stride }
        let s1 := { st.1 with cmp := { st.1.cmp with next := tag + 1 } }
        let s2 := if inl then s1 else s1.writeHere ⟨bagAt, list, taintGranules bagAt idx bagIds tainted (mode = 2)⟩
        (s2.sendJob run.tile run.seq j, st.2.1 ++ [j], next)
    let r := lists.foldl step (pooled.2, [], scratch)
    let direct := (r.2.1.filter fun j => !j.part).flatMap fun j => j.bags
    (r.1,
     { run with
       jobs := r.2.1, parts := pooled.1, bags := mine.filter fun b => !direct.contains b
       counts := { oob := oob }
       status := if oob = 0 then [] else [{ status := 2, count := oob }] })

/-! ## Combining (R246) -/

/-- The contributions of a bag added up in shard order, the tile's own rows last. -/
def combine (mode d : Nat) (ps : List Partial) : List Fv × Nat × Bool :=
  let order := (List.range 17).flatMap fun k => ps.filter fun p => decide (p.place = k)
  order.foldl (fun (st : List Fv × Nat × Bool) p =>
    let v := p.vals.map fun b => decElem 0 b
    ((if p.n = 0 then st.1 else if mode = 3 then st.1.zipWith Fv.max2 v else st.1.zipWith Fv.add v),
     st.2.1 + p.n, st.2.2 || p.bad)) (poolZero mode d, 0, false)

/-- The outputs the tile itself writes: combined bags, and the tagged outputs of bags whose jobs failed for good (R246, R249). -/
def OpRun.gatherOuts (run : OpRun) : List (OutPiece × Counts) :=
  let o := run.op
  let mode := leAt o.param 2 1
  let d := o.out.cols
  let at_ (b : Nat) : Nat := o.out.dpa + b * o.out.stride * 16
  let good := (run.bags.filter fun b => !run.lost.contains b).map fun b =>
    let c := combine mode d (run.parts.filter fun p => decide (p.bag = b))
    bagPiece o.out.fmt (at_ b) (poolEnd mode c.2.1 c.1) c.2.2
  good ++ run.lost.map fun b =>
    let fill := (List.range (rowBytes o.out.fmt d)).map fun i => Config.freeByte (at_ b + i)
    (⟨at_ b, fill, granules (at_ b) fill.length⟩, { poison := d })

/-- A partial output as the tile reads it back (R250). -/
def State.readPartial (s : State) (j : SentJob) (d k bag : Nat) : Partial :=
  let a := j.outAt + k * j.stride
  { bag := bag, place := j.shard, vals := (List.range d).map fun i => leNat (s.rdN (a + 4 * i) 4)
    n := leNat (s.rdN (a + partStride d - 16) 4), bad := s.anyPoison a (4 * d) }

end Sys2Proof.Machine
end

