-- ==== Sys2Proof/Machine/Operators.lean ====
section
/-! DEFINITION. Meanings of the operators' and the gather engines' commands (R201 to R224, R244 to R250, R285). -/

namespace Sys2Proof.Machine

/-! ## Schedule entries -/

/-- Whether a schedule entry may start (R261, R285): the run phase, its barrier, its tile in service. -/
def State.entryReady (s : State) (idx : Nat) (e : SchedEnt) : Bool :=
  decide (s.get F.TRN_STAT_PHASE = 2) && !s.trn.started.contains idx && (!e.waitBar || s.sky.released.contains e.barrier) &&
  s.tileUp e.tile

/-- An operator's run begun on a tile: what it will write, its counts, the statuses its reads met. It reads behind the tile's own earlier writes (R91). -/
def State.beginRun (s : State) (idx : Nat) (e : SchedEnt) (seq : Nat) (o : OpDesc) (rows : Nat) (scratch : Nat) (ext : Ext) : State :=
  let n := opUnits o rows
  let mine := unitsOf (s.opTiles e.op o) e.tile n
  let s0 := (s.entryBegan idx).atLeast (s.trn.tick + 1500 + e.start)
  let run : OpRun := { idx := idx, tile := e.tile, op := o, seq := some seq }
  let v := s0.afterOwn e.tile
  let faults := s0.readFaults o mine
  let put (t : State) (r : OpRun) : State := t.setRuns (t.cmp.runs ++ [r])
  if o.opcode = 0x09 then
    match gatherBags (v.rowAt ext { o.in0 with fmt := 7 } 0) o.in0.cols (min o.out.rows rows) (leAt o.param 2 1 = 2) with
    | none => put s0 { run with status := [{ status := 3 }] }
    | some bags =>
      let b := (List.range bags.length).filter fun k => mine.contains k
      let tainted := v.taintedBags ext o.in0.dpa 16 bags.length (bags.foldl (fun n b => n + b.length) 0) (leAt o.param 2 1 = 2) bags
      let r := s0.gatherStart run bags b tainted ext scratch
      put r.1 { r.2 with status := faults ++ r.2.status }
  else if o.optical then
    let r := s0.gemmStart v { run with rows := mine, base := ceilDiv (scratch % cacheSize) 64 * 64, ext := ext } ext
    (put r.1 { r.2 with status := faults }).feedRing e.tile
  else
    let r := v.opRows ext o mine
    let j := joinRows r.1
    put { r.2 with mem := s0.mem, poison := s0.poison } { run with outs := j.1, counts := j.2, status := faults }

/-- SCHEDULE_ENTRY_START (R285, R324): a tile starts an entry of its schedule, with the overrides of the card that holds its slot;
a slot that no started card holds stays idle; an entry that waited on a barrier released with ABORTED cuts its card off (R469). `scratch` is where the tile's kernels keep lists and partials, `ext` what host and
remote memory returned for the operands that lie there. -/
def execScheduleEntryStart (idx scratch : Nat) (ext : Ext) (s : State) : Res :=
  live s fun s =>
    match s.sched[idx]? with
    | none => s
    | some e =>
      if !s.entryReady idx e then s
      else match s.slotCard idx e, s.ops[e.op]? with
        | some q, some o =>
          if e.waitBar && s.sky.broken.contains e.barrier then ((s.entryBegan idx).cutCard q).entryEnded idx e.tile
          else
            let a := applyCard (s.ent q).card e.op o
            s.beginRun idx e q a.1 a.2 scratch ext
        | _, _ => (s.entryBegan idx).entryEnded idx e.tile

/-- The bags of a GATHER for which no row was pooled and no MBD worked (R245), counted at the engine of the table's first shard (DESIGN CHOICE, log entry
158). -/
def State.emptyBags (s : State) (run : OpRun) : State :=
  let n := (run.bags.filter fun b => !run.lost.contains b && (run.parts.filter fun p => decide (p.bag = b)).all fun p => decide (p.place = 16) && decide (p.n = 0)).length
  match (s.table (leAt run.op.param 0 2)).bind fun t => t.shards.head? with
  | some sh => s.bump F.MBD_EMPTY_BAG sh.engine 0 n
  | none => s

/-- OPERATOR_COMPLETE (R201, R223, R224): the run's outputs are written, its counts go to its card and its tile. A GATHER run completes
once all its jobs have ended; one that met BAG_FORMAT writes nothing (R244). A GEMM on an optical path completes once its passes have (R203 to R206). -/
def execOperatorComplete (idx : Nat) (s : State) : Res :=
  live s fun s =>
    match s.cmp.runs.find? fun r => decide (r.idx = idx) with
    | none => s
    | some run =>
      if !run.jobs.isEmpty || !s.gemmReady run then s
      else
        let m := if run.op.optical then s.gemmOuts run else ([], s)
        let o := joinRows m.1
        let s1 := m.2.setRuns (s.cmp.runs.filter fun r => decide (r.idx ≠ idx))
        let fail := run.status.any fun r => r.status = 3
        let g := if run.op.opcode = 0x09 && !fail then joinRows run.gatherOuts else ([], {})
        let outs := if fail then [] else run.outs ++ o.1 ++ g.1
        let s2 := outs.foldl (fun t p => t.writePiece run.tile (.core 0) run.seq p) s1
        let s3 := s2.charge run.tile run.seq ((run.counts.add o.2).add g.2)
        let s3 := if run.op.opcode = 0x09 && !fail then s3.emptyBags run else s3
        let s4 := match run.seq with
          | some q => run.status.foldl (fun (t : State) r => t.meets q r) s3
          | none => s3
        (s4.add F.CMP_OPS 1 run.tile).entryEnded idx run.tile

/-! ## The gather engine -/

/-- The status byte of a job that met several (R248): the first in the order 3, 6, 7, 5, 2, 1, 0. -/
def jobStatus (l : List Nat) : Nat := ([3, 6, 7, 5, 2, 1].find? fun k => l.contains k).getD 0

/-- Whether a job's fields break R247 or R250: BAG_FORMAT. Of a message of less than 64 bytes, the bytes that are missing read as 0 (DESIGN CHOICE, log
entry 207). -/
def jobBad (b : List Byte) (len : Nat) (d : Nat) : Bool :=
  let wsum := leAt b 2 1 % 4 = 2
  let part := bit (leAt b 2 1) 2
  let fmt := leAt b 3 1
  let nb := leAt b 4 4
  let nx := leAt b 8 4
  let inl := leAt b 12 1
  let need := if part then partStride d else pad16 (rowBytes fmt d)
  decide (16 ≤ leAt b 2 1) || decide (64 ≤ fmt) || !(fmt ≤ 2) || (part && fmt ≠ 0) || decide (2 ^ 17 ≤ nb) || decide (2 ^ 21 ≤ nx) ||
  leAt b 13 3 ≠ 0 || decide (2 ^ 52 ≤ leAt b 16 8) || decide (2 ^ 52 ≤ leAt b 24 8) || decide (2 ^ 24 ≤ leAt b 32 4) ||
  decide (2 ^ 12 ≤ leAt b 36 2) || leAt b 38 2 ≠ 0 || leAt b 48 16 ≠ 0 ||
  decide (nb = 0) || decide (65536 < nb) || decide (1048576 < nx) || decide ((if wsum then 24 else 48) < inl) ||
  (decide (0 < inl) && (decide (nb ≠ 1) || decide (nx ≠ inl) || decide (len < 64 + 4 * inl * (if wsum then 2 else 1)))) ||
  decide (leAt b 32 4 * 16 < need)

/-- A job's bags: inline, or read from BAG_DPA (R247). `none` with `true`: the list's read was refused. -/
def State.jobBags (s : State) (ext : Ext) (b : List Byte) : Option Bags × Bool :=
  let wsum := decide (leAt b 2 1 % 4 = 2)
  let inl := leAt b 12 1
  if 0 < inl then
    (some [(List.range inl).map fun i => (leAt b (64 + 4 * i) 4, if wsum then decElem 0 (leAt b (64 + 4 * inl + 4 * i) 4) else .nat 1)], false)
  else
    let (nb, nx, a) := (leAt b 4 4, leAt b 8 4, leAt b 16 8)
    let p := bagParts 0 nb nx
    let n := if wsum then p.2.2 else p.1 + 4 * nx
    if s.rangeReadable a n && !s.hostGone a then (bagsAt (s.bytesAt ext a n) 0 nb nx wsum, false)
    else (none, true)

/-- The bags of a job's list that depend on poisoned words of it (R201); inline lists carry no poison. -/
def State.jobTaint (s : State) (ext : Ext) (b : List Byte) (bags : Bags) : List Nat :=
  if 0 < leAt b 12 1 then [] else s.taintedBags ext (leAt b 16 8) 0 (leAt b 4 4) (leAt b 8 4) (decide (leAt b 2 1 % 4 = 2)) bags

/-- One bag of a job pooled by the engine (R245, R250): its piece and its counts (rows, granules, index counts). -/
structure BagOut where
  piece : OutPiece
  rows  : Nat
  gran  : Nat
  oob   : Nat
  bad   : Bool
  stray : Bool

/-- The address of a row in the copy an engine reads. -/
def Shard.rowAt (sh : Shard) (t : Table) (mcopy : Bool) (r : Nat) : Nat := (sh.copyAt mcopy).2 + (r - sh.firstRow) * t.stride * 16

/-- The rows of a bag that a shard's copy holds, with their addresses and weights (R245): pads and indices at or beyond ROWS are none. -/
def bagRows (t : Table) (sh : Shard) (mc : Bool) (bag : List (Nat × Fv)) : List (Nat × Nat × Fv) :=
  (bag.filter fun p => decide (p.1 ≠ 0xFFFFFFFF) && decide (p.1 < t.rows) && decide (sh.firstRow ≤ p.1) && decide (p.1 < sh.firstRow + sh.nrows)).map
    fun p => (p.1, sh.rowAt t mc p.1, p.2)

/-- What the fetches of a job's rows find (R229, R232), row by row: a granule that an earlier row of the job touched reads as that fetch left it, so each
is handled once. -/
def State.eccRows (s : State) (rows : List Nat) (n : Nat) (hits : List EccHit) : State :=
  (rows.foldl (fun (p : State × List EccHit) a => (p.1.eccIn a n 2 p.2, p.2.filter fun h => !(granules a n).contains h.granule)) (s, hits)).1

/-- A bag pooled (R245): pads skipped, indices at or beyond ROWS counted, rows of other shards not served here. What saturates in an FP16 or BF16 output
that the engine writes itself is counted nowhere (DESIGN CHOICE, log entry 207). -/
def State.engineBag (s : State) (ext : Ext) (t : Table) (sh : Shard) (b : List Byte) (tainted : List Nat) (k : Nat)
    (bag : List (Nat × Fv)) : BagOut × State :=
  let mode := leAt b 2 1 % 4
  let part := bit (leAt b 2 1) 2
  let mc := bit (leAt b 2 1) 3
  let live := bag.filter fun p => decide (p.1 ≠ 0xFFFFFFFF)
  let oob := (live.filter fun p => decide (t.rows ≤ p.1)).length
  let inr := live.filter fun p => decide (p.1 < t.rows)
  let here (p : Nat × Fv) : Bool := decide (sh.firstRow ≤ p.1) && decide (p.1 < sh.firstRow + sh.nrows)
  let rows := bagRows t sh mc bag
  let (v, n, bad0, s2) := s.pool ext t mode rows
  let bad := bad0 || tainted.contains k
  let a := leAt b 24 8 + k * leAt b 32 4 * 16
  let gran := rows.foldl (fun g r => g + (granules r.2.1 t.packed).length) 0
  let piece : OutPiece :=
    if part then
      let vals := if n = 0 then v.map fun _ => Fv.nat 0 else v
      let bytes := slice (vals.flatMap fun x => natLe 4 x.bits32) 0 (partStride t.d - 16) ++ natLe 4 n ++ natLe 12 0
      ⟨a, bytes, if bad then granules a (partStride t.d) else []⟩
    else (bagPiece (leAt b 3 1) a (poolEnd mode n v) bad).1
  (⟨piece, n, gran, oob, bad, inr.any fun p => !here p⟩, s2)

/-- Every bag of a job. -/
def State.engineBags (s : State) (ext : Ext) (t : Table) (sh : Shard) (b : List Byte) (tainted : List Nat) : Nat → Bags → List BagOut × State
  | _, [] => ([], s)
  | k, x :: xs =>
    let r := s.engineBag ext t sh b tainted k x
    let rs := r.2.engineBags ext t sh b tainted (k + 1) xs
    (r.1 :: rs.1, rs.2)

/-- The jobs replaced. -/
def State.setJobs (s : State) (l : List Job) : State := { s with cmp := { s.cmp with jobs := l } }

/-- The completion message of a job (R248). -/
def Job.message (j : Job) : List Byte :=
  natLe 1 j.status ++ natLe 3 0 ++ natLe 4 j.rows ++ natLe 8 j.tag ++ natLe 4 j.oob ++ natLe 4 j.pbags ++ natLe 4 j.gran ++ natLe 4 0

/-- A job's completion sent to its NOTIFY site (R248). -/
def State.tellJob (s : State) (j : Job) : State := s.send (24 + j.mbd) (messageReq j.notify j.box j.message .engine none)

/-- Whether an MBD serves a shard's copy for a job (R247, R248). -/
def served (t : Table) (k m : Nat) (mcopy : Bool) : Option Shard :=
  match t.shards[k]? with
  | some sh => if (sh.copyAt mcopy).1 = m && !(mcopy && sh.mirror = 0xFF) then some sh else none
  | none => none

/-- What ends a job before it writes anything (R247, R248): its fields, a shard that is not served here, its bag list, a spill shard behind a link that is
down or beyond the window. -/
def State.jobEarly (s : State) (m : Nat) (b : List Byte) (ext : Ext) : List Nat :=
  let tb := s.table (leAt b 0 2 % 4096)
  let mc := bit (leAt b 2 1) 3
  let list := s.jobBags ext b
  let bad := jobBad b b.length ((tb.map fun t => t.d).getD 4)
  if bad then [3]
  else
    (match list with
     | (none, refused) => [if refused then 6 else 3]
     | _ => []) ++
    (match tb.bind fun t => (served t (leAt b 0 2 / 4096) m mc).map fun sh => (t, sh) with
     | none => [5]
     | some (t, sh) =>
       if sh.state ≠ 4 then []
       else (if s.linkUp then [] else [7]) ++
         (if (list.1.getD []).any (fun g => g.any fun p => decide (s.regionEnd sh.base < sh.rowAt t mc p.1 + t.packed - 1) && decide (p.1 < t.rows)) then
           [6] else []))

/-- The read that a job of MBD `m` ends at (R243, R247): of its bag list, or else of the first of its rows that lies beyond the window; it reads no more
after it (DESIGN CHOICE, log entry 208). -/
def State.jobTurned (s : State) (m : Nat) (b : List Byte) (ext : Ext) : State :=
  let site := 24 + m
  match s.jobBags ext b, (s.table (leAt b 0 2 % 4096)).bind fun t => (served t (leAt b 0 2 / 4096) m (bit (leAt b 2 1) 3)).map fun sh => (t, sh) with
  | (none, true), _ =>
    let p := bagParts 0 (leAt b 4 4) (leAt b 8 4)
    s.readTurned site (leAt b 16 8) (if leAt b 2 1 % 4 = 2 then p.2.2 else p.1 + 4 * leAt b 8 4)
  | (some bags, _), some (t, sh) =>
    if sh.state ≠ 4 then s
    else match (bagRows t sh (bit (leAt b 2 1) 3) bags.flatten).find? fun r => !s.rangeReadable r.2.1 t.packed with
      | some r => s.readTurned site r.2.1 t.packed
      | none => s
  | _, _ => s

/-- Where MBD `m` runs a job that tile `src` has sent: its place among the site's jobs there (R249). -/
def State.noteOrd (s : State) (m src tag id : Nat) : State :=
  s.setRuns (s.cmp.runs.map fun r => if r.tile = src then
    { r with jobs := r.jobs.map fun x => if x.tag = tag && x.mbd = m then { x with ord := some id } else x } else r)

/-- A job run to its outputs (R247): its statuses, and its counts in the job. -/
def State.runJob (s : State) (m src : Nat) (b : List Byte) (ecc : List EccHit) (ext : Ext) : State :=
  let id := s.cmp.next
  let n := leAt b 36 2
  let j0 : Job := { id := id, mbd := m, src := src, notify := n % 64, box := n / 64 % 64, tag := leAt b 40 8, status := 0 }
  let s0 := ({ s with cmp := { s.cmp with next := id + 1 } }).noteOrd m src j0.tag id
  let add (t : State) (j : Job) : State := t.setJobs (t.cmp.jobs ++ [j])
  let early := s0.jobEarly m b ext
  if !early.isEmpty then add (if jobStatus early = 6 then s0.jobTurned m b ext else s0) { j0 with status := jobStatus early }
  else match (s0.table (leAt b 0 2 % 4096)).bind fun t => (served t (leAt b 0 2 / 4096) m (bit (leAt b 2 1) 3)).map fun sh => (t, sh),
      (s0.jobBags ext b).1 with
    | some (t, sh), some bags =>
      let fetched := bags.flatMap fun g => (bagRows t sh (bit (leAt b 2 1) 3) g).map fun r => r.2.1
      let r := (s0.eccRows fetched t.packed ecc).engineBags ext t sh b (s0.jobTaint ext b bags) 0 bags
      let sum (f : BagOut → Nat) : Nat := r.1.foldl (fun k x => k + f x) 0
      let pbags := sum fun x => b2n x.bad
      let stray := r.1.any fun x => x.stray
      let s1 := if stray then r.2 else r.1.foldl (fun t x => t.writePiece (24 + m) .engine none x.piece) r.2
      let lostOut := !stray && r.1.any fun x => match r.2.siteOf x.piece.addr with
        | none => true
        | some d => decide (d ≠ 24 + m) && (pieceReqs x.piece d 2 .engine none).any fun q => (r.2.sendCheck (24 + m) q).isSome
      let st := jobStatus ((if stray then [5] else []) ++ (if lostOut then [7] else []) ++
        (if 0 < sum (fun x => x.oob) then [2] else []) ++ (if 0 < pbags then [1] else []))
      let waits := if stray then [] else (r.1.flatMap fun x => match r.2.siteOf x.piece.addr with
        | some d => if d = 24 + m || d = j0.notify then [] else (pieceReqs x.piece d 2 .engine none).map fun q => (d, q.addr)
        | none => [])
      add s1 { j0 with
        status := st, rows := sum fun x => x.rows, oob := sum fun x => x.oob, pbags := pbags, gran := sum fun x => x.gran
        bags := r.1.length, empty := sum fun x => b2n (decide (x.rows = 0)), waits := waits }
    | _, _ => add s0 { j0 with status := 5 }

/-- Whether a message waits in mailbox 1 of an MBD: the oldest, taken out. -/
def State.popBox (s : State) (site box : Nat) : Option ((Nat × List Byte) × State) :=
  let x := s.stn site
  match x.mailbox.find? fun q => decide (q.2.1 = box) with
  | none => none
  | some q => some ((q.1, q.2.2), s.setStn site { x with mailbox := x.mailbox.erase q })

/-- ENGINE_JOB (R247): the engine of MBD `m` takes the oldest job message of its mailbox 1 and runs it; one beyond 64 outstanding of
its source completes with BUSY at once. `ecc` says what its fetches find, `ext` what host memory returned. -/
def execEngineJob (m : Nat) (ecc : List EccHit) (ext : Ext) (s : State) : Res :=
  live s fun s =>
    if 12 ≤ m then s
    else if decide (s.get F.FLT_DOM0_STATE (68 + m) ≠ 0) then s
    else match s.popBox (24 + m) 1 with
      | none => s
      | some ((src, b), s1) =>
        if 64 ≤ (s1.cmp.jobs.filter fun j => decide (j.mbd = m) && decide (j.src = src)).length then
          (s1.bump F.MBD_BUSY m).tellJob
            { id := 0, mbd := m, src := src, notify := leAt b 36 2 % 64, box := leAt b 36 2 / 64 % 64, tag := leAt b 40 8, status := 4 }
        else s1.runJob m src b ecc ext

/-- Whether a write of the engine to an address is still unacknowledged (R248). -/
def State.outPending (s : State) (m d a : Nat) : Bool :=
  ((s.space (24 + m) d).store.any fun e => decide (e.req.agent = .engine) && decide (e.pkt.addr = a) && !e.gaveUp) ||
  (s.stn (24 + m)).backlog.any fun r => decide (r.agent = .engine) && decide (r.dest = d) && decide (r.addr = a)

/-! ## Jobs that wait for a resend (R249) -/

/-- The jobs of a tile at an MBD that are outstanding (R249), each with its run: sent, and not waiting to be sent again. -/
def State.jobsAt (s : State) (t mbd : Nat) : List (OpRun × SentJob) :=
  (s.cmp.runs.filter fun r => decide (r.tile = t)).flatMap fun r => (r.jobs.filter fun j => decide (j.mbd = mbd) && !j.wait).map fun j => (r, j)

/-- Whether an engine's job is one of its site's operators. -/
def State.ownJob (s : State) (j : Job) : Bool :=
  s.cmp.runs.any fun r => decide (r.tile = j.src) && r.jobs.any fun x => decide (x.tag = j.tag) && decide (x.mbd = j.mbd)

/-- Whether a job is its site's oldest outstanding one at its MBD (R249): tags rise in the order in which the operators' jobs are first sent, and the MBD
numbers the jobs it runs, those of other agents too. -/
def State.oldestJob (s : State) (t : Nat) (j : SentJob) : Bool :=
  ((s.jobsAt t j.mbd).all fun p => decide (j.tag ≤ p.2.tag)) &&
    s.cmp.jobs.all fun x => decide (x.mbd ≠ j.mbd) || decide (x.src ≠ t) || s.ownJob x || j.ord.any fun i => decide (i < x.id)

/-- One job of a tile that waits at an MBD resent for BUSY (R249). -/
def State.resendBusy (s : State) (t mbd : Nat) : State :=
  match (s.cmp.runs.filter fun r => decide (r.tile = t)).findSome? fun r => (r.jobs.find? fun j => j.wait && decide (j.mbd = mbd)).map fun j => (r, j) with
  | none => s
  | some (r, j) =>
    let j1 := { j with wait := false, busy := j.busy + 1, ord := none }
    (s.mapRun r.idx fun r => { r with jobs := r.jobs.map fun x => if x.tag = j.tag then j1 else x }).sendJob t r.seq j1

/-- A job of another agent than the site's operators that completes as the site's oldest at its MBD: a job that waits there is resent (R249; DEDUCED, log
entry 188). -/
def State.foreignDone (s : State) (j : Job) (left : List Job) : State :=
  let oldest := (left.all fun x => decide (x.mbd ≠ j.mbd) || decide (x.src ≠ j.src) || decide (j.id ≤ x.id)) &&
    (s.jobsAt j.src j.mbd).all fun p => !p.2.ord.any fun i => decide (i < j.id)
  if oldest && !s.ownJob j then s.resendBusy j.src j.mbd else s

/-- ENGINE_JOB_COMPLETE (R248, R256): once every output to a site other than NOTIFY is acknowledged the completion message goes out and
the engine's counters move. An output whose space was given up makes the status UNREACHABLE. -/
def execEngineJobComplete (m job : Nat) (s : State) : Res :=
  live s fun s =>
    if 12 ≤ m || decide (s.get F.FLT_DOM0_STATE (68 + m) ≠ 0) then s else
    match s.cmp.jobs.find? fun j => decide (j.id = job) && decide (j.mbd = m) with
    | none => s
    | some j =>
      if j.waits.any fun w => s.outPending m w.1 w.2 then s
      else
        let lost := j.waits.any fun w => (s.space (24 + m) w.1).store.any fun e => e.gaveUp && decide (e.pkt.addr = w.2)
        let j1 := if lost && j.status ≠ 3 && j.status ≠ 6 then { j with status := 7 } else j
        let s1 := s.setJobs (s.cmp.jobs.filter fun x => decide (x.id ≠ job))
        let s2 := (((s1.bump F.MBD_JOBS m).bump F.MBD_BAGS m 0 j.bags).bump F.MBD_ROWS m 0 j.rows).bump F.MBD_GRANULES m 0 j.gran
        let s3 := (s2.bump F.MBD_OOB m 0 j.oob).bump F.MBD_EMPTY_BAG m 0 j.empty
        let s4 := if j1.status = 3 || j1.status = 5 then s3.bump F.MBD_BAG_FMT m else s3
        (s4.tellJob j1).foreignDone j s4.cmp.jobs

/-! ## The completions at the tile -/

/-- A job aimed at another copy (R248, R249): MCOPY and MBD changed in its message. -/
def SentJob.aim (j : SentJob) (sh : Shard) (mcopy : Bool) : SentJob :=
  let m := leAt j.body 2 1 % 8 + 8 * b2n mcopy
  { j with mcopy := mcopy, mbd := (sh.copyAt mcopy).1, body := slice j.body 0 2 ++ natLe 1 m ++ j.body.drop 3 }

/-- A job resent once more from the directory in force; none where no retry is left. -/
def State.retryJob (s : State) (j : SentJob) (st : Nat) : Option SentJob :=
  match (s.table j.table).bind fun t => t.shards[j.shard]? with
  | none => none
  | some sh =>
    if st = 5 then
      if j.moved then none
      else
        let twin := decide (sh.mirror ≠ 0xFF) && (sh.state = 1 || sh.state = 2)
        let mc := if (sh.copyAt false).1 ≠ j.mbd then false else if twin then !j.mcopy else j.mcopy
        some { j.aim sh mc with moved := true, ord := none }
    else if j.failed || !sh.twoCopies then none
    else some { j.aim sh (!j.mcopy) with failed := true, ord := none }

/-- A job's end at its tile (R246, R248, R249). -/
def State.jobEnd (s : State) (t : Nat) (run : OpRun) (j : SentJob) (msg : List Byte) : State :=
  let st := leAt msg 0 1
  let next (u : State) : State := if s.oldestJob t j then u.resendBusy t j.mbd else u
  let drop (u : State) (f : OpRun → OpRun) : State :=
    next (u.mapRun run.idx fun r => f { r with jobs := r.jobs.filter fun x => decide (x.tag ≠ j.tag) })
  let put (u : State) (k : SentJob) : State := u.mapRun run.idx fun r => { r with jobs := r.jobs.map fun x => if x.tag = j.tag then k else x }
  let lose (u : State) : State := drop u fun r =>
    { r with lost := r.lost ++ j.bags, bags := r.bags.filter (fun b => !j.bags.contains b), status := r.status ++ [{ status := 6, detail := 4 }] }
  let resend (u : State) (k : SentJob) : State := ((put u k).sendJob t run.seq k)
  match st with
  | 3 => drop s fun r => { r with status := r.status ++ [{ status := 3 }] }
  | 4 =>
    if 8 ≤ j.busy then lose s
    else if ((s.jobsAt t j.mbd).any fun p => decide (p.2.tag ≠ j.tag)) || (s.cmp.jobs.any fun x => decide (x.mbd = j.mbd) && decide (x.src = t)) then
      put s { j with wait := true }
    else resend s { j with busy := j.busy + 1, ord := none }
  | 5 => match s.retryJob j 5 with
    | some k => next (resend s k)
    | none => lose s
  | 6 | 7 => match s.retryJob j st with
    | some k => next (resend s k)
    | none => match run.seq with
      | some q => next ((s.setRuns (s.cmp.runs.filter fun r => decide (r.idx ≠ run.idx))).cutCard q)
      | none => lose s
  | _ =>
    let d := run.op.out.cols
    let ps := if j.part then (List.range j.bags.length).map fun k => s.readPartial j d k (j.bags.getD k 0) else []
    let extra := if st = 2 then [({ status := 2, count := leAt msg 16 4 } : Result)] else []
    let tagged := if j.part then 0 else leAt msg 20 4 * d
    drop s fun r => { r with parts := r.parts ++ ps, status := r.status ++ extra, counts := { r.counts with poison := r.counts.poison + tagged } }

/-- JOB_COMPLETION_RECEIVE (R246, R248, R249): the tile takes the oldest job completion from its mailbox. -/
def execJobCompletionReceive (tile : Nat) (s : State) : Res :=
  live s fun s =>
    if 24 ≤ tile then s else
    match s.popBox tile 0 with
    | none => s
    | some ((_, msg), s1) =>
      match s1.cmp.runs.find? fun r => decide (r.tile = tile) && r.jobs.any fun j => decide (j.tag = leAt msg 8 8) with
      | none => s1
      | some run => match run.jobs.find? fun j => decide (j.tag = leAt msg 8 8) with
        | none => s1
        | some j => s1.jobEnd tile run j msg

end Sys2Proof.Machine
end

