-- ==== Sys2Proof/Machine/ChartParse.lean ====
section
/-! DEFINITION. The chart bit-stream: header, sections, their order, the signature, and what each section's body spells (R273 to R287, R291 steps
3 to 5, R292, R401). -/

namespace Sys2Proof.Machine

/-- A section of a chart image (R275): its index, TYPE, VARIANT (255 the common one), where its body starts, its body. -/
structure Sect where
  idx  : Nat
  type : Nat
  var  : Nat
  pos  : Nat
  body : List Byte

/-- A chart image that has passed steps 3 and 4 of R291. -/
structure Img where
  bytes  : List Byte
  id     : Nat
  nvar   : Nat
  signed : Bool
  sects  : List Sect

/-- A failed load: the reason of R293 and ERR_SECT. -/
abbrev LoadErr := Nat × Nat

/-! ## Header and sections (R274 to R276, R291) -/

/-- Bytes of a body with its padding (R273). -/
def padded (n : Nat) : Nat := (n + 15) / 16 * 16

/-- The sections from a position on: their count and whether they exactly fill the image. -/
def walkSects (b : List Byte) (total : Nat) : Nat → Nat → Nat → Option (List (Nat × Nat))
  | 0, _, pos => if pos = total then some [] else none
  | n + 1, k, pos =>
    if total < pos + 16 then none
    else
      let len := leAt b (pos + 4) 4
      if total < pos + 16 + padded len then none
      else (walkSects b total n (k + 1) (pos + 16 + padded len)).map fun l => (k, pos) :: l

/-- The header checks of step 3, in their order; `len` is the card's LEN. -/
def headerErr (b : List Byte) (len : Nat) : Option Nat :=
  let total := leAt b 16 8
  if leAt b 0 4 ≠ 0x54435A48 then some 1
  else if leAt b 60 4 ≠ crc32c (slice b 0 60) then some 5
  else if !(0x0100 ≤ leAt b 4 2 && decide (leAt b 4 2 ≤ 0x01FF)) then some 2
  else if leAt b 6 2 ≠ 0x3624 || leAt b 8 1 ≠ 0xA0 then some 3
  else if leAt b 9 1 = 0 || decide (16 < leAt b 9 1) || leAt b 10 2 = 0 || decide (1024 < leAt b 10 2) || decide (2 ≤ leAt b 12 4) ||
      leAt b 36 24 ≠ 0 then some 2
  else if total ≠ len || (walkSects b total (leAt b 10 2) 0 64).isNone then some 4
  else none

/-- Whether a type is known, and whether it may have variant sections (R276). -/
def sectKind (ty : Nat) : Option Bool :=
  if [0x1, 0x2, 0x3, 0x40, 0x60, 0xF0, 0x8041].contains ty then some false
  else if [0x10, 0x11, 0x20, 0x30, 0x31, 0x32, 0x33, 0x34, 0x50, 0x51].contains ty then some true
  else none

/-- The types a chart must hold (R276). -/
def needTypes : List Nat := [0x1, 0x2, 0x3, 0x10]

/-- The type rules of R276 for one section, `seen` the sections before it. -/
def typeErr (b : List Byte) (pos nvar nsect idx : Nat) (signed : Bool) (seen : List (Nat × Nat)) : Bool :=
  let ty := leAt b pos 2
  let v := leAt b (pos + 2) 1
  leAt b (pos + 3) 1 ≠ 0 || leAt b (pos + 12) 4 ≠ 0 || (v ≠ 0xFF && decide (nvar ≤ v)) ||
  (match sectKind ty with
   | none => !bit ty 15 || (v ≠ 0xFF && !seen.contains (ty, 0xFF))
   | some false => v ≠ 0xFF
   | some true => v ≠ 0xFF && !seen.contains (ty, 0xFF)) ||
  (ty = 0xF0 && (!signed || idx + 1 ≠ nsect))

/-- The order rules of R275 for one section; SIGNATURE stands last. -/
def orderErr (b : List Byte) (pos : Nat) (seen : List (Nat × Nat)) : Bool :=
  let ty := leAt b pos 2
  let v := leAt b (pos + 2) 1
  (ty ≠ 0xF0 && seen.any fun p => decide (ty < p.1) && decide (p.1 ≠ 0xF0)) || seen.contains (ty, v) ||
  (v = 0xFF && seen.any fun p => decide (p.1 = ty)) ||
  (v ≠ 0xFF && seen.any fun p => decide (p.1 = ty) && decide (p.2 ≠ 0xFF) && decide (v < p.2)) ||
  (needTypes.any fun t => decide (t < ty) && !seen.any fun p => decide (p.1 = t))

/-- Step 4 from one section on: the sections, or the first failure. -/
def readSects (b : List Byte) (nvar nsect : Nat) (signed : Bool) : List (Nat × Nat) → List (Nat × Nat) → Except LoadErr (List Sect)
  | [], seen =>
    if needTypes.any fun t => !seen.any fun p => decide (p.1 = t) then .error (7, nsect)
    else if signed && !seen.any (fun p => decide (p.1 = 0xF0)) then .error (7, nsect - 1)
    else .ok []
  | (i, pos) :: rest, seen =>
    let body := slice b (pos + 16) (leAt b (pos + 4) 4)
    let ty := leAt b pos 2
    let v := leAt b (pos + 2) 1
    if leAt b (pos + 8) 4 ≠ crc32c body then .error (6, i)
    else if typeErr b pos nvar nsect i signed seen || orderErr b pos seen then .error (7, i)
    else match readSects b nvar nsect signed rest (seen ++ [(ty, v)]) with
      | .error e => .error e
      | .ok l => .ok ({ idx := i, type := ty, var := v, pos := pos + 16, body := body } :: l)

/-- Steps 3 and 4 of R291. -/
def readImage (b : List Byte) (len : Nat) : Except LoadErr Img :=
  match headerErr b len with
  | some r => .error (r, 0)
  | none =>
    let nvar := leAt b 9 1
    let nsect := leAt b 10 2
    let signed := bit (leAt b 12 4) 0
    match readSects b nvar nsect signed ((walkSects b (leAt b 16 8) nsect 0 64).getD []) [] with
    | .error e => .error e
    | .ok l => .ok { bytes := b, id := leAt b 24 8, nvar := nvar, signed := signed, sects := l }

/-- The section of a type that a view uses (R276): the common one for 255, else the variant's own or the common one. -/
def Img.sect (im : Img) (ty v : Nat) : Option Sect :=
  (im.sects.find? fun x => decide (x.type = ty) && decide (x.var = v)).or
    (im.sects.find? fun x => decide (x.type = ty) && decide (x.var = 255))

/-- The body of the section a view uses; empty where the chart has none. -/
def Img.body (im : Img) (ty v : Nat) : List Byte := ((im.sect ty v).map fun x => x.body).getD []

/-- The chart keys of the guard record in force (R494). -/
def State.chartKeys (s : State) : List (List Byte) := (List.range (s.get F.GRD_STAT_NKEYS)).map fun i => slice s.mgt.guard (128 + 48 * i) 48

/-- Step 5 of R291 (R292): signed charts only where unsigned ones are not allowed, a known key, a signature that verifies. -/
def State.signErr (s : State) (im : Img) : Option LoadErr :=
  match im.sects.find? fun x => decide (x.type = 0xF0) with
  | none => if s.isSet F.GRD_WP_UNSIGNED_CHARTS then none else some (8, 0)
  | some x =>
    if leAt x.body 8 4 ≠ 1 || leAt x.body 12 4 ≠ 16224 || x.body.length ≠ 16240 then some (9, x.idx)
    else if !(List.range (s.get F.GRD_STAT_NKEYS)).any (fun i => decide (s.get F.GRD_KEY_ID_KEY_ID i = leAt x.body 0 8)) then some (10, x.idx)
    else if !sigOk s.chartKeys x.body (slice im.bytes 0 (x.pos - 16)) then some (9, x.idx)
    else none

/-! ## Bodies -/

/-- A body cut into entries of `n` bytes from byte `off` on. -/
def entries (b : List Byte) (off n : Nat) : List (List Byte) :=
  (List.range ((b.length - off) / n)).map fun i => slice b (off + n * i) n

/-- Entries past a prefix, each with its number. -/
def entriesN (b : List Byte) (off n : Nat) : List (Nat × List Byte) := (entries b off n).zipIdx.map fun p => (p.2, p.1)

/-- A channel of SKY_MAP (R278). -/
def chanSpec (e : List Byte) : ChanSpec :=
  let w := leAt e 0 8
  { orbit := bitsOf w 0 2, wg := bitsOf w 2 6, lambda := bitsOf w 8 5, writer := bitsOf w 13 6, reader := bitsOf w 19 6
    allpairs := bit w 25, wring := bitsOf w 32 7, rring := bitsOf w 39 7 }

/-- The channels of a view's map (R278). -/
def Img.chans (im : Img) (v : Nat) : List ChanSpec := (entries (im.body 0x10 v) 16 8).map chanSpec

/-- The flows of a view (R279). -/
def Img.flows (im : Img) (v : Nat) : List Flow :=
  (entries (im.body 0x11 v) 0 16).map fun e => { src := leAt e 0 1 % 64, dest := leAt e 1 1 % 64, cls := leAt e 2 1 % 4, load := leAt e 4 4 }

/-- Table descriptors back to back (R276), at most `fuel`; `none` where the bytes do not come out even. -/
def splitTables (b : List Byte) : Nat → Nat → Option (List (List Byte))
  | 0, _ => none
  | n + 1, off =>
    if off = b.length then some []
    else
      let len := 64 + 32 * descShards (slice b off 64)
      if b.length < off + len then none
      else (splitTables b n (off + len)).map fun l => slice b off len :: l

/-- The descriptors of a view's TABLES, as bytes. -/
def Img.descs (im : Img) (v : Nat) : List (List Byte) := (splitTables (im.body 0x20 v) 4097 0).getD []

/-- An operand reference (R199). -/
def opndAt (b : List Byte) (off : Nat) : Opnd :=
  { dpa := leAt b off 8 % 2 ^ 52, fmt := bitsOf (leAt b off 8) 52 6, rows := bitsOf (leAt b (off + 8) 8) 0 20
    cols := bitsOf (leAt b (off + 8) 8) 20 20, stride := bitsOf (leAt b (off + 8) 8) 40 24 }

/-- An operator descriptor (R198). -/
def opDesc (b : List Byte) : OpDesc :=
  { opcode := leAt b 0 1, path := leAt b 1 1 % 4, opId := leAt b 2 2, tiles := leAt b 4 3, out := opndAt b 8, in0 := opndAt b 32
    in1 := opndAt b 48, in2 := opndAt b 64, in3 := opndAt b 80, param := slice b 96 32 }

/-- The operators of a view. -/
def Img.ops (im : Img) (v : Nat) : List OpDesc := (entries (im.body 0x30 v) 0 128).map opDesc

/-- A schedule entry (R285). -/
def schedEnt (e : List Byte) : SchedEnt :=
  { tile := leAt e 0 1 % 32, barrier := leAt e 1 1 % 32, waitBar := bit (leAt e 1 1) 7, op := leAt e 2 2
    start := leAt e 4 4 % 2 ^ 21, dur := leAt e 8 4 % 2 ^ 21 }

/-- The schedule of a view. -/
def Img.sched (im : Img) (v : Nat) : List SchedEnt := (entries (im.body 0x31 v) 0 16).map schedEnt

/-- The records of WEIGHTS (R280), at most `fuel`, with their places in the image; the last member says whether the bytes came out even. -/
def splitWeights (b : List Byte) (pos : Nat) : Nat → Nat → List Weights × Bool
  | 0, _ => ([], false)
  | n + 1, off =>
    if off = b.length then ([], true)
    else if b.length < off + 16 then ([], false)
    else
      let c := leAt b (off + 8) 4
      if b.length < off + 16 + 4160 * c then ([], false)
      else
        let r := splitWeights b pos n (off + 16 + 4160 * c)
        ({ tile := leAt b off 1, offset := leAt b (off + 4) 4, count := c, pos := pos + off + 16 } :: r.1, r.2)

/-- The weight records of a view, and whether the section's bytes come out even. -/
def Img.weightRecs (im : Img) (v : Nat) : List Weights × Bool :=
  match im.sect 0x32 v with
  | some x => splitWeights x.body x.pos (x.body.length / 16 + 1) 0
  | none => ([], true)

/-- A tile's layout (R280). -/
def layoutOf (e : List Byte) : Layout :=
  { pqBase := leAt e 0 4, offtab := leAt e 4 4, rowBase := leAt e 8 4, rowMib := leAt e 12 1 }

/-- The layouts of a view (R280): the default layout of R221 where the view has no CACHE_LAYOUT section. -/
def Img.layouts (im : Img) (v : Nat) : List Layout :=
  match im.sect 0x33 v with
  | some x => (entries x.body 0 16).map layoutOf
  | none => List.replicate 24 {}

/-- The pilots of a view (R280): EVERY 64 and phase k where the view has no PILOT section (R164). -/
def Img.pilots (im : Img) (v : Nat) : Pilots :=
  match im.sect 0x34 v with
  | some x => { every := leAt x.body 0 2, omus := (entries x.body 16 8).map fun e => (leAt e 0 2, leAt e 4 4) }
  | none => { every := 64, omus := (List.range 96).map fun k => (k % 64, 0) }

/-- The targets and pins (R281). -/
def Img.targets (im : Img) : List Target :=
  (entries (im.body 0x40 255) 16 8).map fun e => { kind := leAt e 0 1, path := leAt e 1 1, opId := leAt e 2 2, value := leAt e 4 4 }

/-- The activity map of a view (R282). -/
def Img.activity (im : Img) (v : Nat) : Activity :=
  let b := im.body 0x50 v
  { slotNs := leAt b 0 2, words := (List.range (leAt b 2 2 * 24)).map fun i => leAt b (16 + 2 * i) 2 }

/-- The barrier contexts of a view (R283). -/
def Img.barriers (im : Img) (v : Nat) : List BarDef :=
  (entries (im.body 0x51 v) 0 16).map fun e => { valid := leAt e 0 1 = 1, part := leAt e 1 1, sites := leAt e 8 8 }

/-- The partitions (R286). -/
def Img.parts (im : Img) : List PartDef :=
  (entries (im.body 0x2 255) 0 32).map fun e => { valid := leAt e 0 1 = 1, sites := leAt e 8 8, decks := leAt e 16 8 }

/-- The degradation variants (R287). -/
def Img.variants (im : Img) : List Variant :=
  (entries (im.body 0x3 255) 0 16).map fun e => { retTiles := leAt e 4 4, retMem := leAt e 8 2 }

/-- A peer entry of CONSTELLATION (R401). -/
def peerDef (e : List Byte) : PeerDef :=
  { part := leAt e 0 2, far := bit (leAt e 2 1) 0, member := bit (leAt e 2 1) 1, slot := leAt e 4 2, mac := beNat (slice e 6 6)
    paths := (List.range (leAt e 3 1)).map fun i => (leAt e (16 + 2 * i) 1, leAt e (17 + 2 * i) 1) }

/-- The CONSTELLATION section (R401). -/
def constellOf (b : List Byte) : Constell :=
  let np := leAt b 2 2
  { partId := leAt b 0 2, pole := leAt b 4 2, successor := leAt b 6 2, vlan := bit (leAt b 8 1) 0, vid := leAt b 10 2 % 4096
    sources := leAt b 12 2, logs := (List.range 12).map fun m => leAt b (16 + 4 * m) 4
    peers := (List.range np).map fun i => peerDef (slice b (64 + 32 * i) 32)
    bars := (List.range (leAt b 9 1)).map fun i =>
      let e := slice b (64 + 32 * np + 16 * i) 16
      { valid := bit (leAt e 0 1) 0, ctx := leAt e 1 1, root := leAt e 2 2, nmembers := leAt e 4 2 } }

/-- The section variants of a type that a chart holds, each read by `f`. -/
def Img.per {α : Type} (im : Img) (ty : Nat) (f : Nat → α) : List (Nat × α) :=
  (im.sects.filter fun x => decide (x.type = ty)).map fun x => (x.var, f x.var)

/-- Bytes a half stages for a variant (R296): the weight blocks of its tiles, their pass rings where the chart lays them out, and the chart-wide
content, all of it in each half. -/
def Img.stageBytes (im : Img) (v : Nat) (east : Bool) : Nat :=
  let mine := (im.weightRecs v).1.filter fun w => decide (siteEast w.tile = east)
  let wide := [0x11, 0x20, 0x34, 0x50, 0x51].foldl (fun n ty => n + (im.body ty v).length) 0
  mine.foldl (fun n w => n + w.count * 4160) 0 + (if (im.sect 0x33 v).isSome then 12 * 16384 else 0) + wide

/-- STAGE_TRANSITS (R296): at 2.4 TB/s for each half, the largest over the variants. -/
def Img.stageTransits (im : Img) : Nat :=
  let t := im.body 0x1 255
  let ns := ((List.range im.nvar).flatMap fun v => [im.stageBytes v false, im.stageBytes v true]).foldl max 0
  ceilDiv ns (2400 * (leAt t 0 2 - leAt t 2 1) * 1000) + 1

/-- The chart an image spells (R274 to R287). -/
def Img.chart (im : Img) : Chart :=
  let t := im.body 0x1 255
  { id := im.id, signed := im.signed
    keyId := if im.signed then leAt (im.body 0xF0 255) 0 8 else 0
    period := leAt t 0 2, quiet := leAt t 2 1, settle := leAt t 3 1, role := leAt t 4 1 % 4, source := bitsOf (leAt t 4 1) 2 1, step := leAt t 5 1
    variants := im.variants, parts := im.parts, maps := im.per 0x10 im.chans, flows := im.per 0x11 im.flows
    tables := im.per 0x20 fun v => (im.descs v).map tableOf
    ops := im.per 0x30 im.ops, sched := im.per 0x31 im.sched, weights := im.per 0x32 fun v => (im.weightRecs v).1
    layouts := im.per 0x33 im.layouts, pilots := im.per 0x34 im.pilots, typical := bit (leAt (im.body 0x40 255) 0 1) 0
    targets := im.targets, activity := im.per 0x50 im.activity, barriers := im.per 0x51 im.barriers
    constell := (im.sect 0x60 255).map fun x => constellOf x.body, stage := im.stageTransits }

end Sys2Proof.Machine
end

