-- ==== Sys2Proof/Machine/ChartCheck.lean ====
section
/-! DEFINITION. The semantic checks of the chart loader (R291 step 6, R522, R523), each for one view: the common sections (255) or a variant with the
sections R276 gives it. A check answers the index of the section it reports. -/

namespace Sys2Proof.Machine

/-- What the checks know of the part: present sites, retired tiles, field ceilings, tables in force through a TABLE_DEFINE, and the losses recorded. -/
structure Env where
  present : Nat → Bool
  retired : Nat → Bool
  ceiling : Nat → Nat
  defined : Nat → Bool
  loss    : Nat → Nat → Option Nat

/-- The first answer of a list of checks. -/
def firstOf {α : Type} : List (Option α) → Option α
  | [] => none
  | some x :: _ => some x
  | none :: l => firstOf l

/-- The section of a type in a view reported where a fault is found. -/
def Img.fail (im : Img) (ty v : Nat) (bad : Bool) : Option Nat := if bad then (im.sect ty v).map fun x => x.idx else none

/-- Bits above `w` of a field of `n` bytes. -/
def hiBits (e : List Byte) (off n w : Nat) : Bool := leAt e off n / 2 ^ w ≠ 0

/-! ## Channels (R40 to R48, R58, R278, R279) -/

/-- Whether a channel is a bulk channel (R43). -/
def ChanSpec.bulk (c : ChanSpec) : Bool := !(c.allpairs && c.orbit = 0)

/-- Whether both ends of a channel are present: it is not dark (R29). -/
def Env.lit (e : Env) (c : ChanSpec) : Bool := e.present c.writer && e.present c.reader

/-- The waveguide that ring `k` of a kind lies on (R41). -/
def ringGuide (k : Nat) : Nat := if k < 64 then k else 2 * (k - 64)

/-- The loss of a stage: the recorded one, else the nominal (R42), in 0.01 dB. -/
def Env.stage (e : Env) (kind place nominal : Nat) : Nat := (e.loss kind place).getD nominal

/-- The path loss of a channel in 0.01 dB (R42): half of the fixed term at each ring, each intermediate site, each crossing. -/
def Env.pathLoss (e : Env) (c : ChanSpec) : Nat :=
  let mids := (List.range (downstream c.writer c.reader - 1)).map fun i => route.getD ((sitePos c.writer + 1 + i) % 44) 0
  e.stage 0 (c.writer * 512 + c.orbit * 128 + c.wring) 230 + e.stage 1 (c.reader * 512 + c.orbit * 128 + c.rring) 230 +
  mids.foldl (fun n k => n + e.stage 2 ((c.orbit * 64 + c.wg) * 64 + k) 5) 0 +
  (if crossesMeridian c.writer c.reader then e.stage 3 ((c.orbit * 64 + c.wg) * 2) 120 else 0) +
  (if crossesSouth c.writer c.reader then e.stage 3 ((c.orbit * 64 + c.wg) * 2 + 1) 120 else 0)

/-- The stretches of the loop that a channel's path covers, stretch `i` from position `i` to the next (R40). -/
def ChanSpec.arc (c : ChanSpec) : Nat :=
  bitMask ((List.range (downstream c.writer c.reader)).map fun i => (sitePos c.writer + i) % 44)

/-- Whether two channels share a stretch of a grid slot (R40). Paths that only meet do so where one's reader is the other's writer. -/
def arcsMeet (cs : List ChanSpec) : Bool :=
  (cs.foldl (fun (acc : List (Nat × Nat) × Bool) c =>
    let k := (c.orbit * 64 + c.wg) * 32 + c.lambda
    let used := tabGet 0 acc.1 k
    (tabPut 0 acc.1 k (used ||| c.arc), acc.2 || decide (used &&& c.arc ≠ 0))) ([], false)).2

/-- Whether a list of keys holds one twice. -/
def twice (l : List Nat) : Bool := (l.foldl (fun (acc : List Nat × Bool) k => (keyPut acc.1 k, acc.2 || acc.1.contains k)) ([], false)).2

/-- Channels of a map that a predicate picks. -/
def countCh (cs : List ChanSpec) (p : ChanSpec → Bool) : Nat := (cs.filter p).length

/-- R46: writer and reader channels of a site by orbit and in total. -/
def overCap (cs : List ChanSpec) : Bool :=
  (List.range 44).any fun k =>
    let w := cs.filter fun c => c.writer = k
    let r := cs.filter fun c => c.reader = k
    decide (capTotal k < w.length) || decide (capTotal k < r.length) ||
    (List.range 4).any fun o => decide (capOrbit k < countCh w fun c => c.orbit = o) || decide (capOrbit k < countCh r fun c => c.orbit = o)

/-- A malformed SKY_MAP entry (R278, R522). -/
def chanBad (e : List Byte) : Bool :=
  let w := leAt e 0 8
  let c := chanSpec e
  bitsOf w 26 6 ≠ 0 || bitsOf w 46 18 ≠ 0 || decide (95 < c.wring) || decide (95 < c.rring) ||
  decide (capOrbit c.writer ≤ c.wring) || decide (capOrbit c.reader ≤ c.rring) || ringGuide c.wring ≠ c.wg || ringGuide c.rring ≠ c.wg

/-- Whether a list of numbers never falls. -/
def ascending : List Nat → Bool
  | a :: b :: l => decide (a ≤ b) && ascending (b :: l)
  | _ => true

/-- Reason 25 (R40, R41, R46, R522). -/
def mapErr (_ : Env) (im : Img) (v : Nat) : Option Nat :=
  let b := im.body 0x10 v
  let cs := im.chans v
  im.fail 0x10 v (b.length ≠ 16 + 8 * leAt b 0 4 || leAt b 4 12 ≠ 0 || (entries b 16 8).any chanBad || !ascending (cs.map fun c => c.orbit) ||
    arcsMeet cs || twice (cs.map fun c => (c.writer * 4 + c.orbit) * 128 + c.wring) || twice (cs.map fun c => (c.reader * 4 + c.orbit) * 128 + c.rring) ||
    overCap cs)

/-- Reason 12 (R42). -/
def linkErr (e : Env) (im : Img) (v : Nat) : Option Nat := im.fail 0x10 v ((im.chans v).any fun c => decide (950 < e.pathLoss c))

/-- Reason 13 (R43): a pair of present sites without its all-pairs channel, any pair with two, or one off orbit O0. -/
def pairsErr (e : Env) (im : Img) (v : Nat) : Option Nat :=
  let ap := (im.chans v).filter fun c => c.allpairs
  let ks := (List.range 44).filter e.present
  im.fail 0x10 v (ap.any (fun c => c.orbit ≠ 0) || twice (ap.map fun c => c.writer * 64 + c.reader) || ks.any fun a => ks.any fun b =>
    a ≠ b && !ap.any (fun c => decide (c.writer = a) && decide (c.reader = b)))

/-- Reason 14 (R44). -/
def bulkErr (_ : Env) (im : Img) (v : Nat) : Option Nat :=
  let cs := im.chans v
  let n (a b : Nat) (p : ChanSpec → Bool) := countCh cs fun c => decide (c.writer = a) && decide (c.reader = b) && p c
  im.fail 0x10 v
    ((List.range 24).any (fun t => decide (300 < n t (homeMem t) fun c => c.bulk) || decide (300 < n (homeMem t) t fun c => c.bulk)) ||
     (List.range 44).any fun a => (List.range 44).any fun b => decide (siteEast a ≠ siteEast b) && decide (100 < n a b fun _ => true))

/-- Reason 15 (R47, R48, R279). -/
def ingressErr (e : Env) (im : Img) (v : Nat) : Option Nat :=
  let cs := (im.chans v).filter e.lit
  firstOf [
    im.fail 0x10 v ((List.range 44).any fun k => decide (ejectRate k < 8000 * countCh cs fun c => c.reader = k)),
    im.fail 0x11 v ((List.range 12).any fun m => decide (19200000 <
      ((im.flows v).filter fun f => decide (f.dest = 24 + m) && decide (2 ≤ f.cls)).foldl (fun n f => n + f.load) 0))]

/-- A malformed FLOWS entry (R279). -/
def flowBad (e : List Byte) : Bool := hiBits e 0 1 6 || hiBits e 1 1 6 || hiBits e 2 1 2 || leAt e 3 1 ≠ 0 || leAt e 8 8 ≠ 0

/-- Reason 16 (R58, R279, R522). -/
def loadErr (e : Env) (im : Img) (v : Nat) : Option Nat :=
  let b := im.body 0x11 v
  let fs := im.flows v
  let cs := (im.chans v).filter e.lit
  im.fail 0x11 v (b.length % 16 ≠ 0 || (entries b 0 16).any flowBad || fs.any fun f =>
    let n := countCh cs fun c => decide (c.writer = f.src) && decide (c.reader = f.dest)
    let sum (k : Nat) := (fs.filter fun g => decide (g.src = f.src) && decide (g.dest = f.dest) && decide (g.cls ≤ k)).foldl (fun n g => n + g.load) 0
    n = 0 || decide (3200 * n < sum 0) || decide (22400 * n < sum 1) || decide (54400 * n < sum 3))

/-! ## Sites (R29) -/

/-- Reason 11 (R29, R522): unknown or absent sites of channels and flows; tables, operators, schedule entries and outputs at absent sites. A
TABLES field outside its range is a descriptor's fault. -/
def siteErr (e : Env) (im : Img) (v : Nat) : Option Nat :=
  let away (a : Nat) : Bool := match regionOf a with
    | .hbm m => !e.present (24 + m)
    | .cache t => !e.present t
    | _ => false
  firstOf [
    im.fail 0x10 v ((im.chans v).any fun c => decide (44 ≤ c.writer) || decide (44 ≤ c.reader) || c.writer = c.reader || (c.bulk && !e.lit c)),
    im.fail 0x11 v ((im.flows v).any fun f => !e.present f.src || !e.present f.dest),
    im.fail 0x20 v (((im.descs v).map tableOf).any fun t => t.shards.any fun sh =>
      (decide (sh.engine < 12) && !e.present (24 + sh.engine)) || (decide (sh.mirror < 12) && !e.present (24 + sh.mirror))),
    im.fail 0x30 v ((im.ops v).any fun o => (bitList 24 o.tiles).any (fun t => !e.present t) || away o.out.dpa),
    im.fail 0x31 v ((im.sched v).any fun x => decide (x.tile < 24) && !e.present x.tile),
    im.fail 0x60 255 ((constellOf (im.body 0x60 255)).logRanges.any fun r => away r.1)]

/-! ## Timing (R263, R264, R277, R418) -/

/-- The run budget in ns of an image (R263); 0 where nothing is left. -/
def Img.budget (im : Img) : Nat :=
  let t := im.body 0x1 255
  leAt t 0 2 * 1000 - leAt t 2 1 * 1000 - leAt t 3 1 * 1000 - 2500

/-- Reason 17. -/
def timingErr (e : Env) (im : Img) (v : Nat) : Option Nat :=
  let t := im.body 0x1 255
  let (p, q, st) := (leAt t 0 2, leAt t 2 1, leAt t 3 1)
  let sc := im.sched v
  firstOf [
    im.fail 0x1 255 (t.length ≠ 16 || leAt t 6 10 ≠ 0 || hiBits t 4 1 3 || leAt t 4 1 % 4 = 3 || decide (7 < leAt t 5 1) ||
      decide (p < 25) || decide (2000 < p) || decide (q < 2) || decide (50 < q) || decide (st < 1) || decide (20 < st) || decide (im.budget < 10000)),
    im.fail 0x1 255 (sc.any fun x => decide (x.tile < 24) && e.present x.tile && !e.retired x.tile && decide (e.ceiling x.tile < leAt t 5 1)),
    im.fail 0x31 v (sc.any fun x => decide (97 * im.budget < 100 * (x.start + x.dur)))]

/-! ## Layout (R221, R227, R280, R401) -/

/-- The bytes below the retransmission store of a cache die (R221). -/
def cacheTop : Nat := 0x0FC00000

/-- The areas of a tile's layout as (offset, bytes). -/
def Layout.areas (l : Layout) : List (Nat × Nat) :=
  [(l.pqBase, 16384), (l.offtab, 512)] ++ (if l.rowMib = 0 then [] else [(l.rowBase, l.rowMib * 1048576)])

/-- Whether a layout keeps its alignments and lies below the store (R221). -/
def Layout.ok (l : Layout) : Bool :=
  l.pqBase % 16384 = 0 && l.offtab % 512 = 0 && l.rowBase % 1048576 = 0 && decide (l.rowMib ≤ 192) &&
  l.areas.all (fun a => decide (a.1 + a.2 ≤ cacheTop)) &&
  (List.range l.areas.length).all fun i => (List.range i).all fun j => !clash (l.areas.getD i (0, 0)) (l.areas.getD j (0, 0))

/-- The areas of a tile in a view. -/
def Img.areas (im : Img) (v t : Nat) : List (Nat × Nat) := ((im.layouts v).getD t {}).areas

/-- The weight areas of a tile in a view. -/
def Img.weightAreas (im : Img) (v t : Nat) : List (Nat × Nat) :=
  ((im.weightRecs v).1.filter fun w => decide (w.tile = t) && decide (0 < w.count)).map fun w => (w.offset, 4160 * w.count)

/-- Whether an operand is used: not all zero (R198). -/
def Opnd.there (o : Opnd) : Bool := o ≠ {}

/-- The bytes of an operand (R199); a packed index output. -/
def OpDesc.ranges (o : OpDesc) : List (Nat × Nat × Bool) :=
  let r (x : Opnd) (w : Bool) : List (Nat × Nat × Bool) := if x.there then [(x.dpa, x.extent x.rows, w)] else []
  let ix : List (Nat × Nat × Bool) := if o.opcode = 0x0B then [(leAt o.param 8 8 % 2 ^ 52, 4 * o.in0.rows * leAt o.param 0 2, false)] else []
  r o.out false ++ r o.in0 false ++ r o.in1 (o.opcode = 1 && o.path < 2) ++ r o.in2 false ++ r o.in3 false ++ ix

/-- Whether `n` bytes from `a` touch a reserved area of a stack or a store (R78, R227): each of them ends where its stack or its cache die does. -/
def hitsReserved (a n : Nat) : Bool :=
  let upTo (z : Nat) : Bool := decide (0 < n) && noWrite (min (a + n - 1) z)
  match regionOf a with
  | .hbm m => upTo ((m + 1) * stackSize - 1)
  | .cache t => upTo (0x100000000000 + (t + 1) * cacheSize - 1)
  | _ => false

/-- Whether an operand's range shares an area of a cache die; the block array of an optical GEMM is itself a weight area (R203, R221). -/
def Img.areaHit (im : Img) (v : Nat) (r : Nat × Nat × Bool) : Bool :=
  match regionOf r.1 with
  | .cache t =>
    let own := (r.1 % cacheSize, r.2.1)
    (im.areas v t).any (clash own) || (!r.2.2 && (im.weightAreas v t).any (clash own))
  | _ => false

/-- Two members of a list that clash. -/
def clashIn (l : List (Nat × Nat)) : Bool :=
  (List.range l.length).any fun i => (List.range i).any fun j => clash (l.getD i (0, 0)) (l.getD j (0, 0))

/-- The sections of a view whose content an atomic log overlaps, and its own (R401, R523). -/
def Img.logClash (im : Img) (v own : Nat) (c : Constell) : List Nat :=
  let hit (l : List (Nat × Nat)) : Bool := c.logRanges.any fun r => l.any (clash r)
  let at_ (ty : Nat) (l : List (Nat × Nat)) : List Nat := if hit l then ((im.sect ty v).map fun x => x.idx).toList else []
  let l := at_ 0x20 (((im.descs v).map tableOf).flatMap Table.ranges) ++ at_ 0x30 ((im.ops v).flatMap fun o => o.ranges.map fun r => (r.1, r.2.1))
  if l.isEmpty then [] else own :: l

/-- The faults of a CONSTELLATION section on its own (R401, R522). -/
def constellBad (b : List Byte) : Bool :=
  let c := constellOf b
  let ports := c.peers.map fun p => p.paths.map fun x => x.1
  let remote := c.peers.map fun p => p.paths.map fun x => x.2
  let named (x : Nat) : Bool := x = c.partId || c.peers.any fun p => decide (p.part = x) && p.member
  decide (4095 < c.partId) || decide (4095 < leAt b 2 2) || decide (4095 < c.pole) || decide (4095 < c.successor) || hiBits b 8 1 1 ||
  decide (16 < leAt b 9 1) || hiBits b 10 2 12 || decide (1024 < c.sources) || leAt b 14 2 ≠ 0 ||
  b.length ≠ 64 + 32 * leAt b 2 2 + 16 * leAt b 9 1 ||
  (entries (slice b 64 (32 * leAt b 2 2)) 0 32).any (fun e =>
    hiBits e 0 2 12 || hiBits e 2 1 2 || leAt e 3 1 = 0 || decide (8 < leAt e 3 1) || !(decide (leAt e 4 2 < c.sources) || leAt e 4 2 = 0xFFFF) ||
    leAt e 12 4 ≠ 0) ||
  (entries (b.drop (64 + 32 * leAt b 2 2)) 0 16).any (fun e =>
    hiBits e 0 1 1 || decide (31 < leAt e 1 1) || hiBits e 2 2 12 || leAt e 6 10 ≠ 0 ||
    (bit (leAt e 0 1) 0 && (decide (leAt e 4 2 < 2) || decide (1024 < leAt e 4 2)))) ||
  c.peers.any (fun p => decide (p.part = c.partId)) || twice (c.peers.map fun p => p.part) ||
  (ports ++ remote).any (fun l => l.any (fun x => decide (32 ≤ x))) || (ports ++ remote).any twice || twice (ports.flatMap fun l => l.eraseDups) ||
  c.peers.any (fun p => p.far && p.slot ≠ 0xFFFF) ||
  c.logs.any (fun o => o ≠ 0 && decide (stackSize < o * 65536 + 16384 + c.sources * 65536)) || c.logRanges.any (fun r => hitsReserved r.1 r.2) ||
  !named c.pole || !named c.successor

/-- Reason 18 (R221, R227, R280, R401). A log that overlaps data is reported at the first section, in chart order, of those it was found in (R523). -/
def layoutErr (_ : Env) (im : Img) (v : Nat) : Option Nat :=
  let ls := im.layouts v
  let b := im.body 0x33 v
  firstOf [
    im.fail 0x20 v (((im.descs v).map tableOf).any fun t => t.ranges.any fun r => hitsReserved r.1 r.2),
    im.fail 0x30 v ((im.ops v).any fun o => o.ranges.any fun r => hitsReserved r.1 r.2.1 || im.areaHit v r),
    im.fail 0x32 v ((im.weightRecs v).1.any (fun w => w.offset % 64 ≠ 0 || decide (cacheTop < w.offset + 4160 * w.count)) ||
      (List.range 24).any fun t => clashIn (im.weightAreas v t) || (im.weightAreas v t).any fun w => (im.areas v t).any (clash w)),
    im.fail 0x33 v (b.length ≠ 384 || (entries b 0 16).any (fun e => leAt e 13 3 ≠ 0) || !ls.all Layout.ok),
    match im.sect 0x60 255 with
    | some x =>
      if constellBad x.body then some x.idx
      else match im.logClash v x.idx (constellOf x.body) with
        | [] => none
        | k :: l => some (l.foldl min k)
    | none => none]

/-! ## Descriptors (R199 to R218, R237, R239, R285, R148, R164) -/

/-- The last address of the memory a DPA decodes to as the loader sees it (R199): the whole host window range; an absent site has none. -/
def Env.lastOf (e : Env) (a : Nat) : Option Nat :=
  match regionOf a with
  | .hbm m => if e.present (24 + m) then some ((m + 1) * stackSize - 1) else none
  | .cache t => if e.present t then some (0x100000000000 + (t + 1) * cacheSize - 1) else none
  | .host => some 0xBFFFFFFFFFFF
  | .comet => some 0xFFFFFFFFFFFF
  | .unmapped => none

/-- Whether `n` bytes from `a` lie in the memory `a` decodes to. -/
def Env.fits (e : Env) (a n : Nat) : Bool := match e.lastOf a with
  | some z => decide (a + n - 1 ≤ z)
  | none => false

/-- Whether a format is an MX format (R191). -/
def mxFmt (f : Nat) : Bool := decide (8 ≤ f) && decide (f ≤ 13)

/-- An operand reference by the rules of R191, R192 and R199; `words` allows UINT32, which holds indices and valid lengths only. -/
def Env.opndOk (e : Env) (o : Opnd) (raw : Nat) (words : Bool) : Bool :=
  raw / 2 ^ 58 = 0 && decide (o.fmt ≤ 15) && (words || o.fmt ≠ 7) && o.dpa % 16 = 0 && decide (1 ≤ o.rows) && decide (1 ≤ o.cols) &&
  (!mxFmt o.fmt || o.cols % 32 = 0) && decide (rowBytes o.fmt o.cols ≤ o.stride * 16) && e.fits o.dpa (o.extent o.rows)

/-- Which bytes of PARAM an operator uses (R200). -/
def paramUsed (op i : Nat) : Bool :=
  let within (l : List (Nat × Nat)) : Bool := l.any fun r => decide (r.1 ≤ i) && decide (i ≤ r.2)
  match op with
  | 0x01 => within [(0, 7)]
  | 0x02 | 0x03 => within [(0, 0), (4, 7)]
  | 0x04 => within [(4, 7)]
  | 0x05 => within [(0, 0), (4, 7)]
  | 0x07 => within [(0, 4)]
  | 0x08 => within [(0, 2), (4, 12)]
  | 0x09 => within [(0, 2)]
  | 0x0A => within [(0, 4)]
  | 0x0B => within [(0, 2), (8, 15)]
  | 0x0C | 0x0D => within [(0, 4)]
  | _ => false

/-- The inputs an operator may use and must use, as masks (R200). -/
def inputsOf (op : Nat) : Nat × Nat :=
  match op with
  | 0x01 => (15, 3) | 0x02 => (3, 3) | 0x03 => (1, 1) | 0x04 => (3, 1) | 0x05 => (7, 7) | 0x06 => (15, 0) | 0x07 => (3, 1)
  | 0x08 => (15, 15) | 0x09 => (1, 1) | 0x0A => (7, 3) | 0x0B => (3, 1) | _ => (1, 1)

/-- A bias, scale or gain row of FP32 or another format: [1 × n]. -/
def Opnd.rowOf (o : Opnd) (n : Nat) (fmts : List Nat) : Bool := o.rows = 1 && o.cols = n && (fmts.isEmpty || fmts.contains o.fmt)

/-- Two operands of one shape. -/
def Opnd.like (a b : Opnd) : Bool := a.rows = b.rows && a.cols = b.cols

/-- The formats of X and W that the loader lets a GEMM have (R202). -/
def gemmFmts : List Nat := [1, 2, 3, 4, 5, 6, 8, 9, 10, 11, 12, 13]

/-- BLOCK_ID and CRC of the block that WEIGHTS puts at an offset of a tile (R203). -/
def Img.blockTag (im : Img) (ws : List Weights) (t off : Nat) : Option (List Byte) :=
  (ws.find? fun w => decide (w.tile = t) && decide (w.offset ≤ off) && decide (off < w.offset + 4160 * w.count) && (off - w.offset) % 4160 = 0).map
    fun w => slice im.bytes (w.pos + (off - w.offset) + 4096) 8

/-- Whether every tile of TILES holds the block array of an optical GEMM (R203). -/
def Img.placed (im : Img) (v : Nat) (o : OpDesc) : Bool :=
  let ws := (im.weightRecs v).1
  let ts := bitList 24 o.tiles
  let base := o.in1.dpa % cacheSize
  regionOf o.in1.dpa = .cache (lowTile o.tiles) && (List.range o.in1.rows).all fun i =>
    match im.blockTag ws (lowTile o.tiles) (base + 4160 * i) with
    | none => false
    | some x => ts.all fun t => im.blockTag ws t (base + 4160 * i) = some x

/-- The shape rules of GEMM (R202 to R205). -/
def gemmOk (im : Img) (v : Nat) (o : OpDesc) : Bool :=
  let n := o.out.cols
  let p (i : Nat) := leAt o.param i 1
  o.out.rows = o.in0.rows && decide (p 5 ≤ 3) && decide (p 6 ≤ 1) && decide (p 7 ≤ 6) && (!o.in2.there || o.in2.rowOf n [0]) &&
  gemmFmts.contains o.in1.fmt && (if o.path = 2 then
    gemmFmts.contains o.in0.fmt && o.in1.rows = n && o.in1.cols = o.in0.cols &&
    (if o.in1.fmt = 5 || o.in1.fmt = 6 then o.in3.rowOf n [0] else !o.in3.there || o.in3.rowOf n [0])
   else
    o.in0.fmt = 6 && o.in3.rowOf n [0] && o.in1.rows = ceilDiv n 64 * ceilDiv o.in0.cols 64 && o.in1.stride = 260 && im.placed v o)

/-- The shape rules of the other operators (R208 to R218, R244). -/
def shapeRules (e : Env) (tabs : List Table) (o : OpDesc) : Bool :=
  let p (i n : Nat) := leAt o.param i n
  let (x, out) := (o.in0, o.out)
  match o.opcode with
  | 0x02 => decide (p 0 1 ≤ 4) && x.like out && (o.in1.like x || o.in1.rowOf x.cols [] || o.in1.rowOf 1 [])
  | 0x03 => decide (p 0 1 ≤ 6) && x.like out
  | 0x04 => x.like out && (!o.in1.there || (o.in1.like x && o.in1.fmt = 6))
  | 0x05 => decide (p 0 1 ≤ 1) && x.like out && o.in1.rowOf x.cols [] && o.in2.rowOf x.cols []
  | 0x06 =>
    let ins := [o.in0, o.in1, o.in2, o.in3].filter Opnd.there
    ins.all (fun y => y.rows = out.rows) && ins.foldl (fun n y => n + y.cols) 0 = out.cols
  | 0x07 =>
    let (f, d, self) := (p 0 2, p 2 2, p 4 1)
    let dd := if o.in1.there then o.in1.cols else 0
    decide (2 ≤ f) && decide (f ≤ 256) && decide (1 ≤ d) && decide (d ≤ 1024) && decide (self ≤ 1) && x.cols = f * d && out.rows = x.rows &&
    (!o.in1.there || o.in1.rows = x.rows) && out.cols = dd + (if self = 1 then f * (f + 1) / 2 else f * (f - 1) / 2)
  | 0x08 =>
    let (h, dh, lq, lkv) := (p 0 1, p 1 2, p 4 2, p 6 2)
    let b := o.in3.rows
    decide (1 ≤ h) && decide (h ≤ 64) && decide (16 ≤ dh) && decide (dh ≤ 256) && dh % 16 = 0 && decide (1 ≤ lq) && decide (lq ≤ 8192) &&
    decide (1 ≤ lkv) && decide (lkv ≤ 8192) && decide (p 12 1 ≤ 1) && [1, 2, 3, 4].contains x.fmt && o.in1.fmt = x.fmt &&
    [1, 2, 3, 4].contains o.in2.fmt && o.in3.fmt = 7 && o.in3.cols = 1 && x.rows = b * lq && o.in1.rows = b * lkv && o.in2.rows = b * lkv &&
    [x, o.in1, o.in2, out].all (fun y => y.cols = h * dh) && out.rows = b * lq
  | 0x09 =>
    x.fmt = 7 && x.rows = 1 && decide (out.fmt ≤ 2) && decide (p 2 1 ≤ 3) &&
    (match tabs.find? fun t => decide (t.id = p 0 2) with
     | some t => out.cols = t.d
     | none => e.defined (p 0 2))
  | 0x0A =>
    decide (1 ≤ p 0 4) && decide (p 4 1 ≤ 1) && o.in1.rows = p 0 4 * x.rows && o.in1.cols = x.cols && out.rowOf o.in1.rows [0, 2] &&
    (!o.in2.there || o.in2.rowOf 1 [0])
  | 0x0B =>
    let k := p 0 2
    (x.fmt = 0 || x.fmt = 2) && decide (1 ≤ k) && decide (k ≤ 4096) && decide (p 2 1 ≤ 1) && out.rows = x.rows && out.cols = k && out.fmt = x.fmt &&
    (!o.in1.there || (o.in1.like x && o.in1.fmt = 7)) && p 8 8 / 2 ^ 52 = 0 && p 8 8 % 16 = 0 && e.fits (p 8 8) (4 * x.rows * k)
  | 0x0C => x.like out
  | 0x0D => x.like out && decide (out.fmt ≤ 2)
  | _ => false

/-- An operator descriptor by R198 to R218. -/
def opOk (e : Env) (im : Img) (v : Nat) (tabs : List Table) (b : List Byte) : Bool :=
  let o := opDesc b
  let (may, must) := inputsOf o.opcode
  let word (i : Nat) : Bool := (o.opcode = 9 && i = 0) || (o.opcode = 0x0B && i = 1) || (o.opcode = 8 && i = 3)
  decide (1 ≤ o.opcode) && decide (o.opcode ≤ 0x0D) && hiBits b 1 1 2 = false && (if o.opcode = 1 then decide (o.path ≤ 2) else o.path = 0) &&
  leAt b 7 1 = 0 && leAt b 24 8 = 0 && (List.range 32).all (fun i => paramUsed o.opcode i || leAt o.param i 1 = 0) &&
  e.opndOk o.out (leAt b 8 8) false &&
  ([o.in0, o.in1, o.in2, o.in3].zipIdx.all fun q =>
    if q.1.there then bit may q.2 && e.opndOk q.1 (leAt b (32 + 16 * q.2) 8) (word q.2) &&
      (!(o.opcode = 1 && o.path < 2 && q.2 = 1) || e.fits q.1.dpa (4160 * q.1.rows))
    else !bit must q.2 && (slice b (32 + 16 * q.2) 16).all (fun x => x = 0)) &&
  (if o.opcode = 1 then gemmOk im v o else shapeRules e tabs o)

/-- Whether the tables of a view keep the rules of R237 and R239. -/
def tablesOk (e : Env) (im : Img) (v : Nat) : Bool :=
  let ds := im.descs v
  let ts := ds.map tableOf
  let part (m : Nat) : Option Nat := ({ parts := im.parts } : Chart).partOf (24 + m)
  (splitTables (im.body 0x20 v) 4097 0).isSome && ds.all descFieldsOk && !twice (ts.map fun t => t.id) &&
  ts.all (fun t => t.shapeOk (fun m => e.present (24 + m)) part && t.selfClear && (im.parts.getD t.part {}).valid) &&
  (List.range ts.length).all fun i => (List.range i).all fun j => match ts[i]?, ts[j]? with
    | some a, some b => !a.clashes b
    | _, _ => true

/-- Whether a schedule keeps the rules of R285. -/
def schedOk (im : Img) (v : Nat) : Bool :=
  let b := im.body 0x31 v
  let ops := im.ops v
  let bars := im.barriers v
  let sc := im.sched v
  b.length % 16 = 0 && (entries b 0 16).all (fun e => !hiBits e 0 1 5 && bitsOf (leAt e 1 1) 5 2 = 0 && !hiBits e 4 4 21 && !hiBits e 8 4 21 && leAt e 12 4 = 0) &&
  sc.all (fun x => decide (x.tile < 24) && (match ops[x.op]? with
    | some o => bit o.tiles x.tile
    | none => false) && (!x.waitBar || (bars.getD x.barrier {}).valid)) &&
  ascending (sc.map fun x => x.tile * 2 ^ 21 + x.start)

/-- Whether WEIGHTS keeps the rules of R148 and R280. -/
def weightsOk (im : Img) (v : Nat) : Bool :=
  let r := im.weightRecs v
  r.2 && r.1.all fun w => decide (w.tile < 24) && leAt im.bytes (w.pos - 15) 3 = 0 && leAt im.bytes (w.pos - 4) 4 = 0 &&
    (List.range w.count).all fun i =>
      let blk := slice im.bytes (w.pos + 4160 * i) 4160
      leAt blk 4100 4 = crc32c (slice blk 0 4100) && leAt blk 4104 56 = 0

/-- Whether PILOT keeps the rules of R164 and R280. -/
def pilotsOk (im : Img) (v : Nat) : Bool :=
  match im.sect 0x34 v with
  | none => true
  | some x =>
    let n := leAt x.body 0 2
    x.body.length = 784 && leAt x.body 2 14 = 0 && decide (1 ≤ n) && decide (n ≤ 1024) &&
    (entries x.body 16 8).all fun e => decide (leAt e 0 2 < n) && leAt e 2 2 = 0

/-- Reason 19. -/
def descErr (e : Env) (im : Img) (v : Nat) : Option Nat :=
  let tabs := (im.descs v).map tableOf
  let b := im.body 0x30 v
  firstOf [
    im.fail 0x20 v (!tablesOk e im v),
    im.fail 0x30 v (b.length % 128 ≠ 0 || decide (65536 * 128 < b.length) || !(entries b 0 128).all (opOk e im v tabs)),
    im.fail 0x31 v (!schedOk im v),
    im.fail 0x32 v (!weightsOk im v),
    im.fail 0x34 v (!pilotsOk im v)]

/-! ## Targets (R180, R182, R281) -/

/-- Whether an operator's output overlaps an input of another (R182). -/
def feeds (a b : OpDesc) : Bool :=
  [b.in0, b.in1, b.in2, b.in3].any fun i => i.there && clash (a.out.dpa, a.out.extent a.out.rows) (i.dpa, i.extent i.rows)

/-- The operators that a set reaches through chains, with the set (R182); at most `fuel` rounds. -/
def reach (ops : List OpDesc) : Nat → List Nat → List Nat
  | 0, l => l
  | n + 1, l =>
    let new := (List.range ops.length).filter fun j => !l.contains j && l.any fun i => match ops[i]?, ops[j]? with
      | some a, some b => feeds a b
      | _, _ => false
    if new.isEmpty then l else reach ops n (l ++ new)

/-- Whether a GEMM is under an output or a layer target (R182). -/
def underTarget (ts : List Target) (ops : List OpDesc) (i : Nat) (o : OpDesc) : Bool :=
  ts.any (fun t => t.kind = 1 && t.opId = o.opId) ||
  (reach ops ops.length [i]).any fun j => match ops[j]? with
    | some x => ts.any fun t => t.kind = 0 && t.opId = x.opId
    | none => false

/-- Reason 20 (R182, R281, R522). -/
def targetErr (_ : Env) (im : Img) (v : Nat) : Option Nat :=
  let b := im.body 0x40 255
  let ts := im.targets
  let ops := im.ops v
  let gemm (id : Nat) : Bool := ops.any fun o => o.opcode = 1 && o.opId = id
  firstOf [
    im.fail 0x34 v (decide (64 < (im.pilots v).every) && ops.zipIdx.any fun p => p.1.opcode = 1 && p.1.path ≠ 2 && underTarget ts ops p.2 p.1),
    im.fail 0x40 255 ((b.length + 16) % 8 ≠ 0 || decide (b.length < 16) || hiBits b 0 16 1 || ts.any fun t =>
      decide (2 < t.kind) || (t.kind = 2 && (decide (2 < t.path) || t.value ≠ 0 || !gemm t.opId)) || (t.kind = 1 && !gemm t.opId) ||
      (t.kind = 0 && !ops.any fun o => o.opId = t.opId) ||
      (t.kind = 2 && ops.any fun o => o.opcode = 1 && o.opId = t.opId && o.path ≠ t.path))]

/-! ## Variants (R100, R287, R289) -/

/-- Whether two channels agree in the five things R100 names. -/
def ChanSpec.like (x c : ChanSpec) : Bool :=
  x.orbit = c.orbit && x.wg = c.wg && x.lambda = c.lambda && x.writer = c.writer && x.reader = c.reader

/-- Whether every channel of a new map can be ready beside an old one (R100): each of its rings is unused by the old map, or serves the same channel
there. -/
def bridges (old new : List ChanSpec) : Bool :=
  let wr (c : ChanSpec) := (c.writer * 4 + c.orbit) * 128 + c.wring
  let rr (c : ChanSpec) := (c.reader * 4 + c.orbit) * 128 + c.rring
  new.all fun c => old.all fun x => x.like c || (decide (wr x ≠ wr c) && decide (rr x ≠ rr c))

/-- Whether the retired set of `b` contains that of `a` (R289). -/
def Variant.within (a b : Variant) : Bool := decide (a.retTiles ||| b.retTiles = b.retTiles) && decide (a.retMem ||| b.retMem = b.retMem)

/-- The copies of a shard as a pair of (MBD, address). -/
def Shard.pair (sh : Shard) : (Nat × Nat) × (Nat × Nat) := ((sh.engine, sh.base), (sh.mirror, sh.mbase))

/-- Whether a variant's shard differs from the common one only as R289 allows. -/
def shardVar (a b : Shard) : Bool :=
  a.firstRow = b.firstRow && a.nrows = b.nrows && (a = b ||
    (a.state = 1 && ((b.state = 1 && b.pair = (a.pair.2, a.pair.1)) ||
      (b.state = 2 && b.mirror = 0xFF && b.mbase = 0 && (b.pair.1 = a.pair.1 || b.pair.1 = a.pair.2)))))

/-- Whether a variant's table differs from the common one only as R289 allows. -/
def tableVar (a b : Table) : Bool :=
  { a with shards := [] } = { b with shards := [] } && a.shards.length = b.shards.length && (a.shards.zip b.shards).all fun p => shardVar p.1 p.2

/-- Reason 21, the whole-variant rules checked with the common sections. -/
def variantErr (_ : Env) (im : Img) (v : Nat) : Option Nat :=
  let b := im.body 0x3 255
  let vs := im.variants
  let own (k : Nat) : List Table := (im.descs k).map tableOf
  if v ≠ 255 then none
  else im.fail 0x3 255 (b.length ≠ 16 * im.nvar ||
    (entriesN b 0 16).any (fun p => leAt p.2 0 1 ≠ p.1 || leAt p.2 1 3 ≠ 0 || hiBits p.2 4 4 24 || hiBits p.2 8 2 12 || leAt p.2 10 6 ≠ 0) ||
    vs.any (fun x => decide (2 < popCount 24 x.retTiles) || decide (1 < popCount 12 x.retMem)) ||
    (vs.headD {}).count ≠ 0 || twice (vs.map fun x => x.retTiles * 4096 + x.retMem) ||
    (List.range vs.length).any (fun i => (List.range vs.length).any fun j =>
      i ≠ j && (vs.getD i {}).within (vs.getD j {}) && !bridges (im.chans i) (im.chans j)) ||
    (im.sects.any fun x => x.type = 0x20 && x.var ≠ 255 &&
      ((own x.var).length ≠ (own 255).length || !((own 255).zip (own x.var)).all fun p => tableVar p.1 p.2)))

/-! ## Partitions (R283, R286) -/

/-- The partition whose sites include every site of a mask. -/
def Img.partOf (im : Img) (mask : Nat) : Option Nat :=
  (List.range 4).find? fun p => match im.parts[p]? with
    | some x => x.valid && decide (mask ≠ 0) && decide (mask ||| x.sites = x.sites)
    | none => false

/-- Reason 22. -/
def partErr (_ : Env) (im : Img) (v : Nat) : Option Nat :=
  let b := im.body 0x2 255
  let ps := im.parts
  let vs := ps.filter fun x => x.valid
  let ops := im.ops v
  let bars := im.barriers v
  let bb := im.body 0x51 v
  let apart (f : PartDef → Nat) : Bool := (List.range 64).any fun i => decide (1 < (vs.filter fun x => bit (f x) i).length)
  firstOf [
    im.fail 0x2 255 (b.length ≠ 128 || (entries b 0 32).any (fun e => decide (1 < leAt e 0 1) || leAt e 1 7 ≠ 0 || hiBits e 8 8 42 || leAt e 24 8 ≠ 0) ||
      !(ps.headD {}).valid || apart (fun x => x.sites) || apart fun x => x.decks),
    im.fail 0x10 v ((im.chans v).any fun c => c.bulk && (if decide (c.writer < 42) && decide (c.reader < 42) then (im.partOf (2 ^ c.writer ||| 2 ^ c.reader)).isNone
      else decide (42 ≤ c.writer) && decide (42 ≤ c.reader))),
    im.fail 0x20 v (((im.descs v).map tableOf).any fun t => !(ps.getD t.part {}).valid ||
      decide (t.hotTiles ||| (ps.getD t.part {}).sites ≠ (ps.getD t.part {}).sites)),
    im.fail 0x31 v ((im.sched v).any fun x => match ops[x.op]? with
      | some o => match im.partOf (2 ^ x.tile ||| o.tiles) with
        | some p => x.waitBar && (bars.getD x.barrier {}).part ≠ p
        | none => true
      | none => true),
    im.fail 0x51 v (bb.length ≠ 512 || (entries bb 0 16).any fun e => decide (1 < leAt e 0 1) || leAt e 2 6 ≠ 0 || decide (3 < leAt e 1 1) || hiBits e 8 8 42 || (leAt e 0 1 = 1 &&
      (leAt e 8 8 = 0 || !(ps.getD (leAt e 1 1) {}).valid ||
       decide (leAt e 8 8 ||| (ps.getD (leAt e 1 1) {}).sites ≠ (ps.getD (leAt e 1 1) {}).sites))))]

/-! ## Activity (R282, R447) -/

/-- Reason 23. -/
def activityErr (_ : Env) (im : Img) (v : Nat) : Option Nat :=
  let b := im.body 0x50 v
  let (slot, n) := (leAt b 0 2, leAt b 2 2)
  im.fail 0x50 v (b.length ≠ 16 + 48 * n || leAt b 4 12 ≠ 0 || decide (slot < 250) || decide (4000 < slot) || decide (n * slot < im.budget) ||
    (im.activity v).words.any fun w => (List.range 4).any fun u => bitsOf w (2 * u) 2 = 3 && bitsOf w (8 + 2 * u) 2 = 3)

/-! ## All checks -/

/-- The checks of step 6 in ascending reason code (R523). -/
def checkList : List (Nat × (Env → Img → Nat → Option Nat)) :=
  [(11, siteErr), (12, linkErr), (13, pairsErr), (14, bulkErr), (15, ingressErr), (16, loadErr), (17, timingErr), (18, layoutErr), (19, descErr)] ++
  [(20, targetErr), (21, variantErr), (22, partErr), (23, activityErr), (25, mapErr)]

/-- Step 6 of R291: every check over the common sections and then every variant (R523). -/
def semanticErr (e : Env) (im : Img) : Option LoadErr :=
  firstOf (checkList.map fun c => (firstOf ((255 :: List.range im.nvar).map fun v => c.2 e im v)).map fun k => (c.1, k))

end Sys2Proof.Machine
end

