-- ==== Sys2Proof/Machine/Clock.lean ====
section
/-! DEFINITION. Clocks (R408 to R429): effective steps, plans, field ceilings, droop and monitor stretching, the reference clock, the emergency step of
a half. -/

namespace Sys2Proof.Machine

/-- The clocks' bookkeeping replaced. -/
def State.setClk (s : State) (x : Clk) : State := { s with clk := x }

/-! ## Stretching (R417, R419, R420) -/

/-- Whether a compute die's periods are to be stretched: a detector is tripped, or a lowered ceiling awaits its tick (R417, R419). -/
def State.stretches (s : State) (t : Nat) : Bool :=
  decide (s.get F.CLK_DIE_DROOP t ≠ 0) || s.clk.drops.any fun d => decide (d.1 % 32 = t)

/-- Stretching begun or ended as its causes say. -/
def State.restretch (s : State) (t : Nat) : State :=
  if s.stretches t then
    if tabGet 0 s.clk.stretch t = 0 then
      (s.setClk { s.clk with stretch := tabPut 0 s.clk.stretch t (s.now * 110880 + 1) }).set F.CLK_DIE_STRETCHING 1 t
    else s
  else
    let s1 := s.accrue t
    (s1.setClk { s1.clk with stretch := tabPut 0 s1.clk.stretch t 0 }).set F.CLK_DIE_STRETCHING 0 t

/-! ## Effective steps (R412) -/

/-- A compute die's ceiling in force: its field ceiling, a lowering not counted before its tick (R417). -/
def State.ceiling (s : State) (t : Nat) : Nat :=
  s.get F.CLK_DIE_CEIL_FIELD t + (s.clk.drops.filter fun d => decide (d.1 = t)).length

/-- A compute die at its effective step (R412): the lowest of plan, ceiling and throttle step. -/
def State.stepDie (s : State) (t : Nat) : State :=
  let p := s.get F.CLK_DIE_PLAN t
  let e := min p (min (s.ceiling t) (s.get F.CLK_DIE_THROTTLE t))
  ((s.accrue t).set F.CLK_DIE_EFF e t).set F.CLK_DIE_CAPPED (b2n (decide (e < p))) t

/-- A cache die at a step: capped where that lies below the plan. -/
def State.setCache (s : State) (t e : Nat) : State :=
  (s.set F.CLK_CACHE_EFF e t).set F.CLK_CACHE_CAPPED (b2n (decide (e < s.get F.CLK_STAT_CACHE_STEP))) t

/-- A cache die at its effective step (R412): the lower of plan and ceiling. -/
def State.stepCache (s : State) (t : Nat) : State := s.setCache t (min (s.get F.CLK_STAT_CACHE_STEP) (s.get F.CLK_CACHE_CEIL_FIELD t))

/-- A plan in force on every die (R412, R414 step 4). -/
def State.usePlan (s : State) (cmp cache : Nat) : State :=
  let s1 := (s.set F.CLK_STAT_CMP_STEP cmp).set F.CLK_STAT_CACHE_STEP cache
  (List.range 24).foldl (fun t k => ((t.set F.CLK_DIE_PLAN cmp k).stepDie k).stepCache k) s1

/-- The core voltage of a compute step and the SRAM voltage of a cache step in mV (R451). -/
def coreMv (k : Nat) : Nat := [600, 630, 660, 690, 720, 750, 790, 830].getD k 0
def sramMv (k : Nat) : Nat := [700, 720, 750, 800].getD k 0

/-- The rails of every quadrant at the voltages of a plan (R414 step 5, R451). -/
def State.setRails (s : State) (cmp cache : Nat) : State := s.setClk { s.clk with rails := List.replicate 4 (coreMv cmp, sramMv cache) }

/-- The rails raised where a plan needs more than they give (R414 step 2). -/
def State.raiseRails (s : State) (cmp cache : Nat) : State :=
  s.setClk { s.clk with rails := s.clk.rails.map fun r => (max r.1 (coreMv cmp), max r.2 (sramMv cache)) }

/-- The plan after a device reset (R413): the chart's STEP, 7 on the built-in chart, and cache step 3. -/
def State.resetPlan (s : State) : State :=
  ((((s.setRails s.cht.chart.step 3).usePlan s.cht.chart.step 3).set F.CLK_PLAN_CMP_STEP s.cht.chart.step).set F.CLK_PLAN_CACHE_STEP 3)

/-- The effect of a write to CLK_PLAN (R413): a plan armed, or refused as late. -/
def State.wClkPlan (s : State) (v : Nat) : State :=
  if bit v 8 then
    let at_ := s.get F.CLK_PLAN_AT_AT
    if s.get F.TRN_NUM + 2 ≤ at_ then
      (s.setClk { s.clk with plan := some (at_, s.get F.CLK_PLAN_CMP_STEP, s.get F.CLK_PLAN_CACHE_STEP), loaded := false }).set F.CLK_STAT_PLAN_PENDING 1
    else s.set F.CLK_STAT_PLAN_ERR 1
  else s

/-- Task 4 of a quiet window (R262, R414 step 3): the dividers of a plan for the next tick are loaded. -/
def State.loadDividers (s : State) : State :=
  match s.clk.plan with
  | some (a, _, _) => if a = s.get F.TRN_NUM + 1 then s.setClk { s.clk with loaded := true } else s
  | none => s

/-- What a tick does to the clocks (R414 steps 2, 4 and 5, R417): the rails raised by the tick before that of a plan, a plan whose transit has come and
its rails lowered, and the ceilings lowered two ticks ago. -/
def State.clockTick (s : State) : State :=
  let n := s.get F.TRN_NUM
  let s1 := match s.clk.plan with
    | some (a, c, h) =>
      if a ≤ n then (((s.setClk { s.clk with plan := none, loaded := false }).set F.CLK_STAT_PLAN_PENDING 0).usePlan c h).setRails c h
      else if a = n + 1 then s.raiseRails c h else s
    | none => s
  (s1.clk.drops.filter fun d => decide (d.2 ≤ n)).foldl (fun t d =>
    let t1 := t.accrue (d.1 % 32)
    ((t1.setClk { t1.clk with drops := t1.clk.drops.filter fun x => decide (x ≠ d) }).restretch (d.1 % 32)).stepDie (d.1 % 32)) s1

/-! ## Margin monitors and ceilings (R417) -/

/-- The action on a region whose monitor failed three times. -/
def State.marginFail (s : State) (region : Nat) : State :=
  let s1 :=
    if region < 24 then
      let c := s.get F.CLK_DIE_CEIL_FIELD region
      let s1 := s.set F.CLK_DIE_CEIL_FIELD (c - 1) region
      (s1.setClk { s1.clk with drops := s1.clk.drops ++ [(if c = 0 then region + 32 else region, s.get F.TRN_NUM + 2)] }).restretch region
    else if region < 48 then
      let t := region - 24
      (s.set F.CLK_CACHE_CEIL_FIELD (s.get F.CLK_CACHE_CEIL_FIELD t - 1) t).setCache t (s.get F.CLK_CACHE_EFF t - 1)
    else s
  let s2 := if region < 48 && s1.almUp then s1.saveLife else s1
  s2.raise 233

/-- MONITOR_SAMPLE (R417): one sample of a region (0 to 23 compute dies, 24 to 47 cache dies, 48 to 59 MBDs). -/
def execMonitorSample (region : Nat) (fail : Bool) (s : State) : Res :=
  live s fun s =>
    if 60 ≤ region then s
    else
      let old := tabGet [] s.clk.mon region
      let win := (old ++ [fail]).drop (old.length + 1 - 100)
      let s1 := if !fail then s
        else if region < 24 then s.bump F.CLK_MON_FAIL region
        else if region < 48 then s.bump F.CLK_CACHE_MON_FAIL (region - 24) else s.bump F.CLK_MBD_MON_FAIL (region - 48)
      if fail && decide (3 ≤ (win.filter id).length) then
        (s1.setClk { s1.clk with mon := tabPut [] s1.clk.mon region [] }).marginFail region
      else s1.setClk { s1.clk with mon := tabPut [] s1.clk.mon region win }

/-- Every field ceiling at its trim ceiling again (R417). A stretch under way lasts to its tick. -/
def State.restoreCeilings (s : State) : State :=
  let s1 := s.setClk { s.clk with drops := s.clk.drops.map fun d => (d.1 % 32 + 32, d.2) }
  (List.range 24).foldl (fun t k =>
    let t1 := (t.set F.CLK_DIE_CEIL_FIELD (t.get F.CLK_DIE_CEIL_TRIM k) k).set F.CLK_CACHE_CEIL_FIELD (t.get F.CLK_CACHE_CEIL_TRIM k) k
    (t1.stepDie k).stepCache k) s1

/-! ## Droop detectors (R419) -/

/-- DROOP_TRIP (R419): the detector of a cluster trips. -/
def execDroopTrip (tile k : Nat) (s : State) : Res :=
  live s fun s =>
    let d := s.get F.CLK_DIE_DROOP tile
    if 24 ≤ tile || decide (4 ≤ k) || bit d k then s
    else ((s.bump F.CLK_DROOP_EVT tile).set F.CLK_DIE_DROOP (d + 2 ^ k) tile).restretch tile

/-- DROOP_CLEAR (R419). -/
def execDroopClear (tile k : Nat) (s : State) : Res :=
  live s fun s =>
    let d := s.get F.CLK_DIE_DROOP tile
    if 24 ≤ tile || !bit d k then s
    else
      let s1 := s.accrue tile
      (s1.set F.CLK_DIE_DROOP (d - 2 ^ k) tile).restretch tile

/-! ## The reference clock (R410) -/

/-- TREF_LOSS (R410): holdover begins; the clock source is raised. -/
def execTrefLoss (s : State) : Res :=
  live s fun s =>
    let s1 := (s.setClk { s.clk with trefAt := none }).set F.CLK_STAT_TREF_OK 0
    if s.isSet F.CLK_STAT_HOLDOVER then s1 else (s1.set F.CLK_STAT_HOLDOVER 1).raise 232

/-- TREF_RETURN (R410): TREF lies within limits again. -/
def execTrefReturn (s : State) : Res :=
  live s fun s => if s.isSet F.CLK_STAT_TREF_OK then s else (s.setClk { s.clk with trefAt := some s.now }).set F.CLK_STAT_TREF_OK 1

/-- TREF_HOLDOVER_END (R410): 10 ms after TREF's return. -/
def execTrefHoldoverEnd (s : State) : Res :=
  live s fun s =>
    match s.clk.trefAt with
    | some t => (((s.atLeast (t + 10000000)).setClk { s.clk with trefAt := none })).set F.CLK_STAT_HOLDOVER 0
    | none => s

/-! ## The emergency step (R425 to R428, R438) -/

/-- The cap and the slow bits of a half. -/
def capFld (h : Nat) : Fld := if h = 0 then F.CLK_SEAM_W_CAP else F.CLK_SEAM_E_CAP
def slowFld (h : Nat) : Fld := if h = 0 then F.CLK_SEAM_W_SLOW else F.CLK_SEAM_E_SLOW

/-- A time of a half in the thermal bookkeeping. -/
def State.setHalf (s : State) (k v : Nat) : State := { s with thm := { s.thm with half := tabPut 0 s.thm.half k v } }

/-- SEAM_SLOW_SWITCH (R427 step 4): 100 ns after the throttle asked, the half's electronics run at 0.75 GHz. -/
def execSeamSlowSwitch (half : Nat) (s : State) : Res :=
  live s fun s =>
    let b := tabGet 0 s.thm.half half
    if 2 ≤ half || b = 0 || s.isSet (slowFld half) then s
    else ((s.atLeast (b - 1 + 100)).set (slowFld half) 1).bump F.CLK_SEAM_ENTRIES

/-- SEAM_RELEASE (R427 step 5, R438): every site of the half at 80 °C or less for 10 ms, and 10 ms after the entry. -/
def execSeamRelease (half : Nat) (s : State) : Res :=
  live s fun s =>
    let b := tabGet 0 s.thm.half half
    let c := tabGet 0 s.thm.cool half
    if 2 ≤ half || b = 0 || c = 0 || !s.isSet (slowFld half) then s
    else
      let s1 := s.atLeast (max (b - 1) (c - 1) + 10000000)
      ((s1.set (slowFld half) 0).setHalf half 0).setHalf (2 + half) (s1.now + 1)

/-- SEAM_CAP_CLEAR (R427 step 6): 100 ns after the release. -/
def execSeamCapClear (half : Nat) (s : State) : Res :=
  live s fun s =>
    let b := tabGet 0 s.thm.half (2 + half)
    if 2 ≤ half || b = 0 then s
    else ((s.atLeast (b - 1 + 100)).set (capFld half) 0).setHalf (2 + half) 0

end Sys2Proof.Machine
end

