-- ==== Sys2Proof/Machine/Swaps.lean ====
section
/-! DEFINITION. Meanings of the commands of fading feeds and swaps (R128 to R136). -/

namespace Sys2Proof.Machine

/-- FADE_SAMPLE (R128 to R130, R134, R136): the input tap that feeds a feed read against the factory reference in 0.01 dB, 10 µs after the sample before, with the
splitter taps of the feed, by waveguide, and the taps of the two dump arms where they are due. A fade that is at −2.0 dB at once has reached −1.0 dB too.
A feed in WARN stays so until a swap ends: R130 gives no way back (DESIGN CHOICE, log entry 174). -/
def execFadeSample (feed : Nat) (tap : Int) (splits : List (Nat × Int)) (dumps : List Int) (s : State) : Res :=
  live s fun s =>
    let slot := s.get F.TWK_FEED_SLOT feed
    let st := s.get F.TWK_FEED_STATE feed
    if 6 ≤ feed || st = 5 then s
    else
      let u := s.sampleTap slot tap
      let fade := u.fadeOf slot
      let slope := u.slopeOf slot
      let u1 := u.setLight { u.light with fades := tabPut [] u.light.fades slot (u.fadesOf slot) }
      let u2 := (splits.map (fun p => (Tap.splitter feed p.1, p.2)) ++ dumps.zipIdx.map fun p => (Tap.dump p.2, p.1)).foldl State.readTap u1
      let s0 := ((u2.set F.TWK_ELS_TAP (ofSigned 16 (tap - u.refOf (.input slot))) slot).set F.TWK_FEED_FADE (ofSigned 16 fade) feed).set F.TWK_FEED_SLOPE
        (ofSigned 16 slope) feed
      let s1 := if fade ≤ -100 && st = 0 then (s0.setFeed feed 1).raise 226 else s0
      if 300 ≤ u.fallOf slot || (fade ≤ -200 && decide (slope < -500)) then s1.fastSwap feed
      else if fade ≤ -350 && s1.spares.isEmpty && (s1.swapOf feed).isNone then s1.noSpare feed true
      else if fade ≤ -200 then s1.slowSwap feed s1.now
      else s1

/-- SWAP_CROSSBAR_MOVE (R131 step 3): 40 ns into the pause the spare is on the feed and the old input on its dump arm. -/
def execSwapCrossbarMove (feed : Nat) (s : State) : Res :=
  live s fun s =>
    match s.swapOf feed with
    | some w =>
      if w.fast || w.step ≠ 2 then s
      else
        let s1 := ((s.atLeast (w.since + 40)).swapInputs w).mapSwap feed fun w => { w with step := 3 }
        if 4 ≤ feed then (trunkOmus feed).foldl (fun t p => t.omuDark p.1 p.2) s1 else s1
    | none => s

/-- The taps of a feed's check (R131 step 4): an orbit's 64 splitter outputs (R40) and the through port of the first site on each waveguide, the one behind
the Meridian (R36; DEDUCED, log entry 176); a trunk's one. -/
def checkTaps (f : Nat) : List Tap :=
  if f < 4 then (List.range 64).flatMap fun w => [.splitter f w, .through f w (route.getD 0 0)] else [.splitter f 0]

/-- Whether every tap of a feed's check has been read and lies within 1 dB of its reference (R131 step 4). -/
def State.tapsGood (s : State) (f : Nat) (taps : List (Tap × Int)) : Bool :=
  (checkTaps f).all fun p => match tapOf taps p with
    | some x => within1dB (x - s.refOf p)
    | none => false

/-- Taps' readings kept (R128). -/
def State.readTaps (s : State) (taps : List (Tap × Int)) : State := taps.foldl State.readTap s

/-- SWAP_TAP_CHECK (R131 step 4): the feed's taps within 1 dB. A check takes 1.5 µs; one that fails is repeated once, 2 µs after it; then the old input is
put back, and 2 µs later the feed's taps are read, against their state before the swap: no rule says what follows a difference (log entry 145). -/
def execSwapTapCheck (feed : Nat) (taps : List (Tap × Int)) (s : State) : Res :=
  live s fun s =>
    match s.swapOf feed with
    | some w =>
      if w.fast then s
      else if w.step = 3 then
        let s1 := (s.atLeast (w.since + (if w.again then 5540 else 2040))).readTaps taps
        if s.tapsGood feed taps then s1.mapSwap feed fun w => { w with step := 4 }
        else if !w.again then s1.mapSwap feed fun w => { w with again := true }
        else (s1.swapInputs w).mapSwap feed fun w => { w with step := 5 }
      else if w.step = 5 then ((s.atLeast (w.since + 9040)).readTaps taps).mapSwap feed fun w => { w with step := 6 }
      else s
    | none => s

/-- SWAP_PAUSE_END (R131 step 5, R132): the pause ends, 1.5 µs after the check that passed or, where the old input was put back, after the check of its
taps. There the spare is FAILED and the old input goes on feeding, faded: its feed shows WARN, as at −1.0 dB (the spec names no state, log entry 145). The
other spare, or R134, follows from the next quiet window. -/
def execSwapPauseEnd (feed : Nat) (s : State) : Res :=
  live s fun s =>
    match s.swapOf feed with
    | some w =>
      if w.step = 4 && !w.fast then
        let s0 := s.atLeast (w.since + (if w.again then 7040 else 3540))
        let s1 := (s0.endSwap w).resumeFeed feed true
        { s1 with trn := { s1.trn with pauseEnd := s1.now } }
      else if w.step = 6 then
        let s0 := s.atLeast (w.since + 10540)
        let s1 := (s0.failSwap w).setFeed feed 1
        let s2 := s1.resumeFeed feed true
        let s3 := { s2 with trn := { s2.trn with pauseEnd := s2.now } }
        if s3.spares.isEmpty then s3.setLight { s3.light with bare := keyPut s3.light.bare feed } else s3.slowSwap feed 0
      else s
    | none => s

/-- FAST_SWAP_CROSSBAR_MOVE (R133 step 2): 2 µs after the cause. -/
def execFastSwapCrossbarMove (feed : Nat) (s : State) : Res :=
  live s fun s =>
    match s.swapOf feed with
    | some w => if w.fast && w.step = 1 then ((s.atLeast (w.since + 2000)).swapInputs w).mapSwap feed fun w => { w with step := 3 } else s
    | none => s

/-- FAST_SWAP_TAP_CHECK (R133 step 3): 17 µs after the cause; a failed check is repeated once; then the fast swap starts again with the other
spare, or the feed has none (R134). -/
def execFastSwapTapCheck (feed : Nat) (taps : List (Tap × Int)) (s : State) : Res :=
  live s fun s =>
    match s.swapOf feed with
    | some w =>
      if w.fast && w.step = 3 then
        let s1 := (s.atLeast (w.since + (if w.again then 19000 else 17000))).readTaps taps
        if s.tapsGood feed taps then s1.mapSwap feed fun w => { w with step := 4 }
        else if !w.again then s1.mapSwap feed fun w => { w with again := true }
        else
          ((s1.swapInputs w).failSwap w).fastSwap feed
      else s
    | none => s

/-- FAST_SWAP_RESUME (R133 step 4): 20 µs after the cause, 2 µs later after a repeated check, sending on the orbit resumes; a trunk's OMUs run
their pilot first. -/
def execFastSwapResume (feed : Nat) (s : State) : Res :=
  live s fun s =>
    match s.swapOf feed with
    | some w => if w.fast && w.step = 4 then ((s.atLeast (w.since + (if w.again then 22000 else 20000))).endSwap w).resumeFeed feed true else s
    | none => s

/-- The feeds that had no spare left after a swap that failed act by their priority from this window on (R131, R134). -/
def State.actBare (s : State) : State :=
  s.light.bare.foldl (fun t f => if (t.swapOf f).isSome then t else t.noSpare f false) (s.setLight { s.light with bare := [] })

/-- While the Croupier is down slow swaps wait (R481). The pause of the pending slow swaps that crossed 30 µs or more before a quiet window begins (R131 step 2, R134, R135): those with a spare of
their own, and a donor's module put on a feed that had none. `opened` is the window's nominal opening. -/
def State.startPauses (s : State) (opened : Nat) : State :=
  let s := s.actBare
  let due := s.light.swaps.filter fun w => !w.fast && w.step = 1 && decide (w.since + 30000 ≤ opened)
  (if s.get F.MGT_STAT_CROUPIER = 0 then due else []).foldl (fun t w =>
    let t1 := ((t.mapSwap w.feed fun w => { w with step := 2, since := t.now }).stopFeed w.feed).setFeed w.feed 3
    let t2 := match w.donor with
      | some o => t1.dropOrbit o
      | none => t1
    if 4 ≤ w.feed then (trunkOmus w.feed).foldl (fun u p =>
      if u.get F.OMU_STAT_STATE p.1 p.2 = 2 then u else u.omuDark p.1 p.2) t2 else t2) s

/-- The effects of a write to TWK_CTRL (R129, R136): a commissioning reference asked for, a slow swap ordered where a spare is available. -/
def State.wTwkCtrl (s : State) (v : Nat) : State :=
  let s1 := if bit v 1 then s.setLight { s.light with commission := true } else s
  let f := s1.get F.TWK_CTRL_SWAP_FEED
  if bit v 2 && decide (f < 6) && !s1.spares.isEmpty then s1.slowSwap f s1.now else s1

/-- The sites strictly between a channel's ends, in the order of its path (R36, R40). -/
def sitesBetween (a b : Nat) : List Nat := ((List.range 43).map fun i => route.getD ((sitePos a + 1 + i) % 44) 0).takeWhile fun k => k ≠ b

/-- The stages of a channel's path that a LOCATE reading shows, in order (R124, R128): the stage as TWK_LOC has it (6 for a drop port, which it shows as 4), the site
of a through port, the reading in 0.01 dB against the reference. Behind the writer's ring the power is lost at that ring. -/
def State.locateStages (s : State) (c : Chan) (r : LocateRead) : List (Nat × Nat × Int) :=
  let at_ (st k : Nat) (t : Tap) : Option (Nat × Nat × Int) := (tapOf r.taps t).map fun x => (st, k, x - s.refOf t)
  let ports := (sitesBetween c.writer c.reader).map fun k => at_ 3 k (.through c.orbit c.wg k)
  [(0, 0, r.els)] ++ ([at_ 1 0 (.input (s.get F.TWK_FEED_SLOT c.orbit)), at_ 2 0 (.splitter c.orbit c.wg), at_ 4 0 (.through c.orbit c.wg c.writer)] ++ ports).filterMap id ++
    [(if r.ring then 4 else 6, 0, r.drop)]

/-- The first stage that loses more than the limit, with the loss in 0.01 dB (R124); 5 where none does. -/
def firstLossy : Int → List (Nat × Nat × Int) → Nat × Nat × Nat
  | _, [] => (5, 0, 0)
  | was, (st, k, x) :: l => if (Config.lossyAt : Int) < was - x then (st, k, (was - x).toNat) else firstLossy x l

/-- A LOCATE reading (R124): the first lossy stage of a channel's path recorded. A channel whose loss lies at a ring, the drop port or an intermediate through
port goes at the end of the window. Only a lossy ring is FAILED; a held ring whose channel goes for another stage is IDLE until a chart switch prepares it
again (R125). -/
def State.locateOne (s : State) (r : LocateRead) : State :=
  match s.sky.chans[r.chan]? with
  | none => s
  | some c =>
    let n := r.chan
    let (stage, at_, loss) := firstLossy 0 (s.locateStages c r)
    let drop := stage = 3 || stage = 4 || stage = 6
    let s1 := s.setLight { s.light with locate := keyDrop s.light.locate n, doomed := if drop then keyPut s.light.doomed n else s.light.doomed }
    let s2 := ((((s1.set F.TWK_LOC_SITE c.writer).set F.TWK_LOC_PEER c.reader).set F.TWK_LOC_ORBIT c.orbit).set F.TWK_LOC_WG c.wg).set F.TWK_LOC_LAMBDA c.lambda
    let s3 := (((s2.set F.TWK_LOC_STAGE (if stage = 6 then 4 else stage)).set F.TWK_LOC_STAGE_SITE at_).set F.TWK_LOC_LOSS loss).set F.TWK_LOC_DROPPED (b2n drop)
    let s4 := s3.set F.TWK_LOC_NEW 1
    let held := [(c.writer, c.orbit * 96 + c.wring), (c.reader, 384 + c.orbit * 96 + c.rring)].filter fun p => s4.get F.TWK_RING_STATE p.1 p.2 = 5
    held.foldl (fun t p => if drop then t.setRing p.1 p.2 (if stage = 4 then 6 else 0) else t.relockRing p.1 p.2) s4

/-- The channels that LOCATE has found lossy are DROPPED at the end of the quiet window (R124). -/
def State.endLocate (s : State) : State :=
  s.light.doomed.foldl State.dropChan (s.setLight { s.light with doomed := [] })

/-- The LOCATE readings of a quiet window (R124, R135), none while the Croupier is down (R481): those of an orbit that is swapped in the same window wait. -/
def State.locateAll (s : State) (rs : List LocateRead) : State :=
  if s.get F.MGT_STAT_CROUPIER ≠ 0 then s
  else (rs.filter fun r => s.light.locate.contains r.chan && (match s.sky.chans[r.chan]? with
    | some c => s.orbitOn c.orbit
    | none => false)).foldl State.locateOne s

/-! ## The commissioning reference (R42, R129) -/

/-- Where the loss just before a site on a waveguide is recorded (R42), and its nominal value in 0.01 dB: the crossing that the site lies behind, else the
site itself (DEDUCED, log entry 168). -/
def stageBefore (o wg k : Nat) : Nat × Nat × Nat :=
  let g := o * 64 + wg
  if sitePos k = 0 then (3, g * 2, 120) else if sitePos k = 22 then (3, g * 2 + 1, 120) else (2, g * 64 + k, 5)

/-- The key of a recorded loss. -/
def lossKey (kind place : Nat) : Nat := kind * 2 ^ 20 + place

/-- The loss that a capture gives the stage before a site: the factory's, and the change of the drop between the through ports of the site before it and of
the site itself (R42). The site behind a crossing shares that drop with it: it counts as the crossing's. -/
def stageLoss (taps : List (Tap × Int)) (o wg k : Nat) : Option (Nat × Nat) :=
  let before := route.getD ((sitePos k + 43) % 44) 0
  match tapOf taps (.through o wg before), tapOf taps (.through o wg k) with
  | some y, some x =>
    let (kind, place, nominal) := stageBefore o wg k
    some (lossKey kind place, (((Config.loss kind place).getD nominal : Nat) + y - x : Int).toNat)
  | _, _ => none

/-- The losses that a capture gives (R42); a stage without its two taps keeps what was recorded. -/
def State.deriveLosses (s : State) (taps : List (Tap × Int)) : List (Nat × Nat) :=
  let new := taps.filterMap fun p => match p.1 with
    | .through o wg k => stageLoss taps o wg k
    | _ => none
  (s.light.losses.filter fun p => !new.any fun q => decide (q.1 = p.1)) ++ new

/-- A commissioning reference (R129), which waits while the Croupier is down (R481): each module takes its turn at full output on a dump arm, after which the switch network and the modes are what they
were; `taps` is what every tap then shows against the factory reference. It is accepted when all eight input taps lie within 1.5 dB, and the losses of sites and crossings are derived from it; else a note. -/
def State.takeReference (s : State) (taps : List (Tap × Int)) : State :=
  if !s.light.commission || decide (s.get F.MGT_STAT_CROUPIER ≠ 0) then s
  else
    let s0 := (List.range 8).foldl (fun (t : State) n =>
      let m := tabGet 0 t.light.modes n
      if m = 2 then t else (t.order n 2).order n m) s
    let s1 := s0.setLight { s0.light with commission := false }
    let ok := (List.range 8).all fun n => match tapOf taps (.input n) with
      | some x => decide (-150 ≤ x) && decide (x ≤ 150)
      | none => false
    if ok then s1.setLight { s1.light with refs := taps, losses := s1.deriveLosses taps } else s1.raise 226

end Sys2Proof.Machine
end

