-- ==== Sys2Proof/Machine/Omu.lean ====
section
/-! DEFINITION. Meanings of the OMUs' commands: passes, the light sentinel, pilots, the gain trim (chapters "Optical matrix units" and
"Precision, error budget and calibration of optical arithmetic"), and the stacking guard (R447, R448). -/

namespace Sys2Proof.Machine

/-- The descriptor at a ring index (R155). -/
def State.ringDesc (s : State) (t k : Nat) : List Byte := s.rdN (cacheAt t (s.get F.OMU_PQ_BASE t + 64 * (k % 256))) 64

/-- A choice of another OMU for each of several lists of candidates, the first of each that leaves the rest one. -/
def distinct : List (List Nat) → List Nat → Option (List Nat)
  | [], _ => some []
  | us :: rest, taken => (us.filter fun u => !taken.contains u).findSome? fun u => (distinct rest (u :: taken)).map fun l => u :: l

/-- The descriptors of the run that starts at HEAD (R153): one, or a group of two to four that agree and name distinct OMUs in their masks; `none` while
the ring does not hold the whole run yet. Of a run that forms no group, one of more than four among them, the first is taken alone and what follows is
looked at again as a run of its own (DESIGN CHOICE, log entry 112); the members of a group that found too few OMUs stay single. -/
def State.groupAt (s : State) (t : Nat) : Option (List (List Byte)) :=
  let h := s.get F.OMU_PQ_HEAD t
  let n := subMod 8 (s.get F.OMU_PQ_TAIL t) h
  let ds := (List.range (min n 4)).map fun i => s.ringDesc t (h + i)
  let run := ds.takeWhile dGroup
  match ds with
  | [] => none
  | d :: _ =>
    if !dGroup d || tabGet 0 s.omus.apart t ≠ 0 then some [d]
    else if run.length < ds.length then
      let g := ds.take (run.length + 1)
      let same (e : List Byte) : Bool :=
        !descBad e && decide (dOff e 12 = dOff d 12) && decide (dOff e 16 = dOff d 16) && decide (dNvec e = dNvec d) &&
        decide (dZero e = dZero d) && decide (dFine e = dFine d)
      some (if g.all same && (distinct (g.map fun e => bitList 4 (dMask e)) []).isSome then g else [d])
    else if n < 4 then none else some [d]

/-- OMUs for the members of a group, each another one, by preference (R153, R159); `none` while some member has none free. -/
def State.omusFor (s : State) (t : Nat) (ds : List (List Byte)) : Option (List Nat) := distinct (ds.map fun d => s.omuRank t d []) []

/-- HEAD past `n` descriptors; GEMMs write more into the ring (R155). -/
def State.takeDesc (s : State) (t n : Nat) : State :=
  let s1 := s.setOmus { s.omus with apart := tabPut 0 s.omus.apart t (tabGet 0 s.omus.apart t - n) }
  (s1.set F.OMU_PQ_HEAD ((s.get F.OMU_PQ_HEAD t + n) % 256) t).feedRing t

/-- When the members of a group can all stream (R153): the latest of the times at which one that runs could, its load included. -/
def State.groupFeed (s : State) (t : Nat) (l : List (Nat × List Byte)) : Nat :=
  (l.filter fun p => (s.loadFault t p.1 p.2).isNone).foldl (fun n p =>
    let load := s.omuLoads t p.1 p.2
    max n (s.omuNext t p.1 load + (if load then 256 else 0))) 0

/-- The pass or the group at HEAD started on its OMUs, or held by the guard (R159, R448). -/
def State.startGroup (s : State) (t : Nat) (ds : List (List Byte)) (us : List Nat) : State :=
  let h := s.get F.OMU_PQ_HEAD t
  let held := (us.zip ds).filter fun p => s.guarded t p.1 p.2
  if !held.isEmpty then s.hold t (held.map fun p => p.1)
  else
    let s1 := s.setOmus { s.omus with guard := keyDrop s.omus.guard t }
    ((us.zip ds).zipIdx.foldl (fun t1 p => t1.beginPass t p.1.1 ((h + p.2) % 256) p.1.2 0 false (s.groupFeed t (us.zip ds)) h) s1).takeDesc t ds.length

/-- One descriptor, or one group, taken off the ring (R153 to R160, R416). WAIT on any member of a group makes the whole group wait for the passes before
it, since its members start together (DESIGN CHOICE, log entry 206). -/
def State.schedule (s : State) (t : Nat) : State :=
  if s.isSet F.OMU_TILE_CTRL_HALT t then s
  else match s.groupAt t with
    | none => s
    | some g =>
      let d := g.headD []
      if g.any dWait && s.cmp.passes.any (fun p => decide (p.tile = t)) then s
      else if descBad d then
        let s1 := (s.bump F.OMU_BAD_DESC t).takeDesc t 1
        if cplOk d then s1.passEnds t d 7 else s1
      else if dNvec d = 0 then (s.takeDesc t 1).passEnds t d 0
      else
        let up (e : List Byte) : List Nat := (bitList 4 (dMask e)).filter fun u => s.omuServes t u
        let whole := (distinct (g.map up) []).isSome
        let g1 := if whole then g else [d]
        let s := if whole then s else s.setOmus { s.omus with apart := tabPut 0 s.omus.apart t (max g.length (tabGet 0 s.omus.apart t)) }
        if (up d).isEmpty then (s.takeDesc t 1).passElse t (s.get F.OMU_PQ_HEAD t) d 2 0 false
        else match s.omusFor t g1 with
          | none => s
          | some us => if s.admits t g1 then s.startGroup t g1 us else s

/-- PASS_START (R149 to R160): the scheduler takes the next pass or group of the tile's ring, unless the guard holds it. -/
def execPassStart (tile : Nat) (s : State) : Res :=
  live s fun s => if tile < 24 && !s.omus.guard.contains tile then s.schedule tile else s

/-- The next slot boundary, counted from the start of the run phase, 1.5 µs after the tick (R261, R447). -/
def State.nextSlot (s : State) : Nat :=
  let z := s.trn.tick + 1500
  if s.slotNs = 0 then s.now else z + (s.now - z) / s.slotNs * s.slotNs + s.slotNs

/-- GUARD_SLOT_RECHECK (R448): at the next slot boundary the starts that the guard holds are tried again, reruns first. -/
def execGuardSlotRecheck (tile : Nat) (s : State) : Res :=
  live s fun s =>
    let head := s.omus.guard.contains tile
    if head || s.cmp.passes.any (fun p => decide (p.tile = tile) && p.waits && p.held) then
      let s1 := (s.atLeast s.nextSlot).freeHeld tile
      let s2 := (s1.setOmus { s1.omus with guard := keyDrop s1.omus.guard tile }).rerunTile tile
      if head then s2.schedule tile else s2
    else s

/-- Which of the codes that a pass has written are saturated, in place of what was known of the codes there before (R143, R205). -/
def State.noteEnds (s : State) (p : Pass) : State :=
  let old := s.omus.clipped.filter fun a => !p.outs.any fun o => decide (o.addr ≤ a ∧ a < o.addr + o.bytes.length)
  s.setOmus { s.omus with clipped := old ++ p.ends }

/-- A pass's end (R146, R157): outputs and record written, counters moved, the OMU READY when it runs nothing else; passes that wait are tried again (R159,
R416). VEC takes all the vectors here (DESIGN CHOICE, log entry 179), CLASS keeps the pass's class (DESIGN CHOICE, log entry 181). -/
def State.endPass (s : State) (t : Nat) (p : Pass) : State :=
  let s1 := if p.omu < 4 then s.atLeast (p.streamed + 42 + 200) else s
  let s2 := (p.outs.foldl (fun t1 o => t1.writeHere o) s1).noteEnds p
  let fin := if p.omu < 4 then s2.now - 200 else s2.now
  let s3 := s2.passDone t p.desc (passRecord p.status (if p.omu < 4 then p.omu else 0) p.loaded p.redo p.sat p.bad (dTag p.desc) fin)
  let s4 := s3.setPasses (s3.cmp.passes.erase p)
  if p.omu < 4 then
    let s5 := ((s4.bump F.OMU_VEC t p.omu (dNvec p.desc)).bump F.OMU_PASS t p.omu).bump F.OMU_SAT t p.omu p.sat
    let s6 := if s5.cmp.passes.any fun q => q.runsOn t p.omu then s5
      else ((s5.set F.OMU_STAT_STATE 1 t p.omu).set F.OMU_STAT_LEFT 0 t p.omu).tryPilot t p.omu
    s6.rerunTile t
  else s4.bump F.OMU_FALLBACK t

/-- PASS_COMPLETE (R142, R143, R146, R157, R158): the oldest pass of an OMU ends; OMU 4 stands for the compute die. -/
def execPassComplete (tile omu : Nat) (s : State) : Res :=
  live s fun s =>
    match s.cmp.passes.find? fun p => decide (p.tile = tile) && decide (p.omu = omu) && !p.waits with
    | some p => s.endPass tile p
    | none => s

/-- SENTINEL_TRIP (R160, R161, R174). -/
def execSentinelTrip (tile omu : Nat) (s : State) : Res :=
  live s fun s =>
    let st := s.get F.OMU_STAT_STATE tile omu
    let full := st = 0 && s.omus.pilots.any fun p => decide (p.1 = 4 * tile + omu)
    if tile < 24 && omu < 4 && (st = 1 || st = 2 || st = 3 || full) then
      ((s.bump F.OMU_SENTINEL tile omu).omuDark tile omu)
    else s

/-- PILOT_SLOT (R164, R174): an OMU's slot arrives in a transit of its phase, or in one that follows a pilot it missed. A pilot in progress or light that is
gone makes the scheduled pilot wait; a full pilot that was given up for temperature is tried again here. -/
def execPilotSlot (tile omu : Nat) (s : State) : Res :=
  live s fun s =>
    let k := 4 * tile + omu
    let every := s.get F.OMU_PILOT_CFG_EVERY tile
    let due := decide (every ≠ 0) && decide (s.get F.TRN_NUM % every = s.get F.OMU_PILOT_PHASE tile omu)
    let st := s.get F.OMU_STAT_STATE tile omu
    let again := s.omus.retry.contains k
    if tile < 24 && omu < 4 && (due || again) && (decide (1 ≤ st) && decide (st ≤ 4) || (decide (st = 0) && again)) then
      let at_ := ((section_ ({} : Pilots) s.cht.chart.pilots s.variant).omus.getD k (0, 0)).2
      let s := s.atLeast (s.trn.tick + 1500 + at_)
      if !s.isSet F.OMU_STAT_TEMP_OK tile omu then (s.bump F.OMU_PILOT_SKIP tile).setOmus { s.omus with retry := keyPut s.omus.retry k }
      else if st = 0 then s.startFull tile omu
      else s.duePilot tile omu
    else s

/-- Tables with those of a list put in, from a key on. -/
def putTables (m : List (Nat × List Nat)) (key : Nat) (l : List (List Nat)) : List (Nat × List Nat) :=
  l.zipIdx.foldl (fun m p => tabPut [] m (key + p.2) p.1) m

/-- The first row that a pilot refines (R171): pilot j, the j-th after those that PILOTS counts, takes four rows; a full pilot takes all 64. -/
def State.pilotRow (s : State) (k : Nat) (full : Bool) : Nat := if full then 0 else 4 * (s.get F.OMU_CAL_COUNT_PILOTS k % 16)

/-- The tables that a pilot refitted committed, with the trims of the offset DACs, the trunk tap that the gain trim refers to and the row offset table (R151,
R171, R172, R175, R177). -/
def State.commitTables (s : State) (k : Nat) (full : Bool) (r : PilotReport) : State :=
  s.setOmus { s.omus with
    dacs := tabPut [] s.omus.dacs k (r.dacs.take 64)
    taps := tabPut 0 s.omus.taps k r.tap
    offtabs := tabPut [] s.omus.offtabs k ((List.range 64).map fun i => r.offtab.getD i 0)
    inputs := putTables s.omus.inputs (64 * k) (r.inputs.take 64)
    drivers := putTables s.omus.drivers (4096 * k + 64 * s.pilotRow k full) (r.drivers.take (if full then 4096 else 256)) }

/-- Whether a verification lies within its limits (R172); RESID's units. -/
def pilotOk (r : PilotReport) : Bool :=
  decide (r.fast ≤ 340) && decide (r.fine ≤ 260) && decide (r.gain ≤ 150) && decide (r.offset ≤ 40)

/-- The results of a completed pilot committed and recorded (R171, R172, R175, R177, R185). TEMP is the reading rounded down to 0.5 °C, and R173 compares
with that (DESIGN CHOICE, log entry 153). -/
def State.commitPilot (s : State) (t u : Nat) (full : Bool) (r : PilotReport) : State :=
  let k := 4 * t + u
  let site := toSigned 12 (s.get F.THM_TILE_T_SITE t)
  let temp := (site / 2).toNat
  let s := s.commitTables k full r
  let s1 := ((s.bump F.OMU_CAL_COUNT_PILOTS k).set F.OMU_CAL_TIME_LAST s.now k).set F.OMU_CAL_RESID_FAST r.fast k
  let s2 := if full then s1.bump F.OMU_CAL_COUNT_FULL k else s1
  let s3 := (((s2.set F.OMU_CAL_RESID_FINE r.fine k).set F.OMU_CAL_RESID_GAIN r.gain k).set F.OMU_CAL_RESID_OFFSET r.offset k)
  let s4 := ((s3.set F.OMU_CAL_RESID_TEMP temp k).set F.OMU_CAL_RESID_VALID 1 k).set F.OMU_CAL_DT_DT (ofSigned 16 (25 * (site - 2 * (temp : Int)))) k
  let s5 := s4.putOfftab k
  let s6 := ((s5.set F.OMU_PILOT_LAST (s5.get F.TRN_NUM) t u).set F.OMU_STAT_STALE 0 t u).set F.OMU_GAIN_TRIM 0 t u
  let s7 := { s6 with mgt := { s6.mgt with pilots := tabPut (0, 0) s6.mgt.pilots k (s6.now, s6.mgt.boots) } }
  s7.setOmus { s7.omus with 
    failing := keyDrop s7.omus.failing k, fails := tabPut 0 s7.omus.fails k 0, retry := keyDrop s7.omus.retry k
    drifted := keyDrop s7.omus.drifted k, siteAt := tabPut none s7.omus.siteAt t (some site) }

/-- A pilot whose verification failed (R172, R175): the tables in force stay, it is counted, its source raised, tried again; a pilot asked for meanwhile
follows (R174). A second full pilot in a row leaves the OMU in OFF. -/
def State.failPilot (s : State) (t u : Nat) (full : Bool) : State :=
  let k := 4 * t + u
  let s1 := s.bump F.OMU_CAL_COUNT_VERIFY_FAIL k
  let s2 := s1.setOmus { s1.omus with failing := keyPut s1.omus.failing k }
  if full then
    let n := tabGet 0 s2.omus.fails k + 1
    let s3 := s2.setOmus { s2.omus with fails := tabPut 0 s2.omus.fails k n }
    if 2 ≤ n then ((s3.setOmus { s3.omus with uncal := keyPut s3.omus.uncal k }).set F.OMU_STAT_STATE 0 t u).raise (84 + k)
    else ((s3.set F.OMU_STAT_STATE 0 t u).raise (84 + k)).omuLight t u
  else
    let s3 := (s2.setOmus { s2.omus with retry := keyPut s2.omus.retry k }).raise (84 + k)
    let s4 := (s3.set F.OMU_STAT_STATE 1 t u).tryPilot t u
    if s4.get F.OMU_STAT_STATE t u = 1 then s4.rerun t u else s4

/-- PILOT_COMPLETE (R163, R171, R172, R175, R177): 40 µs after its start, or 370 µs for a full pilot, a pilot ends with what its verification
measured; a further pilot asked for meanwhile follows (R164), else the passes that wait for it rerun (R160). The pilot that a trunk swap asks for has then run (R132). -/
def execPilotComplete (tile omu : Nat) (r : PilotReport) (s : State) : Res :=
  live s fun s =>
    let k := 4 * tile + omu
    match s.omus.pilots.find? fun p => decide (p.1 = k) with
    | none => s
    | some (_, start, full) =>
      let s1 := (s.atLeast (start + (if full then 370000 else 40000))).dropPilot tile omu
      let s2 := (s1.setOmus { s1.omus with owed := keyDrop s1.omus.owed k }).set F.OMU_LOADED_VALID 0 tile omu
      if pilotOk r then
        let s3 := ((s2.commitPilot tile omu full r).set F.OMU_STAT_STATE 1 tile omu).tryPilot tile omu
        if s3.get F.OMU_STAT_STATE tile omu = 1 then s3.rerun tile omu else s3
      else s2.failPilot tile omu full

/-- PILOT_STALE (R164): PILOT_EVERY transits have passed without a completed pilot. -/
def execPilotStale (tile omu : Nat) (s : State) : Res :=
  live s fun s =>
    let every := s.get F.OMU_PILOT_CFG_EVERY tile
    if tile < 24 && omu < 4 && decide (every ≠ 0) && decide (every ≤ s.pilotAge tile omu) && !s.isSet F.OMU_STAT_STALE tile omu then
      s.set F.OMU_STAT_STALE 1 tile omu
    else s

/-- GAIN_TRIM_UPDATE (R151): every 1 ms the trim follows the ratio of the trunk's tap to its value at the last pilot, within ±2.5 dB, in
steps of 0.005 dB; `tap` is the tap over that 1 ms in such steps. A trunk whose step has settled within that 1 ms has its light back (R160). -/
def execGainTrimUpdate (tile omu : Nat) (tap : Int) (s : State) : Res :=
  live s fun s =>
    if tile < 24 && omu < 4 then
      let s1 := s.set F.OMU_GAIN_TRIM (ofSigned 10 (max (-500) (min 500 (tap - tabGet 0 s.omus.taps (4 * tile + omu))))) tile omu
      if s1.get F.OMU_STAT_STATE tile omu = 0 || s1.get F.OMU_STAT_STATE tile omu = 4 then s1.omuLight tile omu else s1
    else s

/-- Whether a level-3 pass runs on an OMU (R447, R448). -/
def State.runsHot (s : State) (t u : Nat) : Bool :=
  s.cmp.passes.any fun p => p.runsOn t u && passLevel s.slotNs p.desc = 3 && decide (s.now < p.streamed)

/-- The level of a cluster's share of the current limit (R447). -/
def clusterLevel (pct : Nat) : Nat := if pct < 10 then 0 else if pct < 40 then 1 else if pct < 75 then 2 else 3

/-- CLUSTER_LEVEL_REPORT (R447, R448): the shares of a tile's four clusters in percent; a cluster that rises to level 3 above a running
level-3 pass is counted in GUARD_LATE. -/
def execClusterLevelReport (tile : Nat) (shares : List Nat) (s : State) : Res :=
  live s fun s =>
    if tile < 24 then
      (List.range 4).foldl (fun t u =>
        let was := tabGet 0 t.omus.levels (4 * tile + u)
        let lv := clusterLevel (shares.getD u 0)
        let t1 := t.setOmus { t.omus with levels := tabPut 0 t.omus.levels (4 * tile + u) lv }
        if lv = 3 && decide (was < 3) && t.runsHot tile u then t1.bump F.THM_GUARD_LATE tile else t1) s
    else s

/-- The effects of a write to OMU_TILE_CTRL: extra pilots (R164, R165). -/
def State.wTileCtrl (s : State) (t v : Nat) : State :=
  ((List.range 4).filter fun u => bit v (1 + u)).foldl (fun t1 u => t1.wantPilot t u) s

end Sys2Proof.Machine
end

