-- ==== Sys2Proof/Machine/Thermal.lean ====
section
/-! DEFINITION. Temperature, throttling and power (R430 to R457). Temperatures are in 0.25 °C, as the registers of R455 hold them; a mean is rounded
down to that unit, but for the estimate of a cache die, which is exact (log entry 120). -/

namespace Sys2Proof.Machine

/-- The thermal bookkeeping replaced. -/
def State.setThm (s : State) (x : Therm) : State := { s with thm := x }

/-- A die's temperature as last read. -/
def State.temp (s : State) (k : Nat) : Int := tabGet 0 s.thm.temps k

/-- A temperature recorded. -/
def State.setTemp (s : State) (k : Nat) (v : Int) : State := s.setThm { s.thm with temps := tabPut 0 s.thm.temps k v }

/-! ## Sensors (R430, R431) -/

/-- A number put into a rising list. -/
def insertInt (x : Int) : List Int → List Int
  | [] => [x]
  | y :: ys => if x ≤ y then x :: y :: ys else y :: insertInt x ys

/-- Twice the median of a list. -/
def medianTwice (l : List Int) : Int :=
  let r := l.foldr insertInt []
  r.getD ((r.length - 1) / 2) 0 + r.getD (r.length / 2) 0

/-- The highest of a list. -/
def highest (l : List Int) : Int := l.foldl max (l.headD 0)

/-- The mean of a list, rounded down. -/
def meanOf (l : List Int) : Int := if l.isEmpty then 0 else l.sum.fdiv l.length

/-- The mean of a list in 1/720720, which is exact for up to 16 readings (R443). -/
def exactMean (l : List Int) : Int := if l.isEmpty then 0 else (l.sum * 720720).fdiv l.length

/-- The tile whose SENSOR_FAIL counts a die's sensors. -/
def dieTile (die : Nat) : Option Nat :=
  if die < 24 then some die else if die < 48 then some (die - 24) else if die < 72 then some (die - 48) else none

/-- The number of a die's sensor. -/
def sensorKey (die i : Nat) : Nat := die * 256 + i % 256

/-- A sensor left out until the next device reset (R431). -/
def State.failSensor (s : State) (die i : Nat) : State :=
  let k := sensorKey die i
  let s1 := s.setThm { s.thm with failed := keyPut s.thm.failed k, far := tabPut 0 s.thm.far k 0 }
  let s2 := match dieTile die with
    | some t => s1.bump F.THM_SENSOR_FAIL t
    | none => s1
  s2.raise 234

/-- One sensor of a die judged (R431): out of −20 to 150 °C, or more than 10 K from the median for 100 ms. -/
def State.judge (s : State) (die i : Nat) (r med2 : Int) : State :=
  let k := sensorKey die i
  let since := tabGet 0 s.thm.far k
  if s.thm.failed.contains k then s
  else if r < -80 || 600 < r then s.failSensor die i
  else if 80 < (2 * r - med2).natAbs then
    if since = 0 then s.setThm { s.thm with far := tabPut 0 s.thm.far k (s.now + 1) }
    else if since - 1 + 100000000 ≤ s.now then s.failSensor die i else s
  else s.setThm { s.thm with far := tabPut 0 s.thm.far k 0 }

/-- Sensors of a die (R430); those of an HBM stack's own dies are as many as its MBD reads (R430 gives no number). -/
def State.sensorCount (s : State) (die : Nat) : Nat :=
  if die < 24 then 16 else if die < 48 then 4 else if die < 72 then 8 else if die < 104 then 4
  else if die < 116 then tabGet 0 s.thm.hbmN (die - 104) else if die < 120 then 2 else 1

/-- Whether a die has lost more than half of its sensors (R431). -/
def State.sensorsLost (s : State) (die : Nat) : Bool :=
  decide (s.sensorCount die < 2 * (s.thm.failed.filter fun k => decide (k / 256 = die)).length)

/-- Every reading of a die judged (R431). -/
def State.judgeAll (s : State) (die : Nat) (rs : List Int) : State :=
  let m := medianTwice rs
  rs.zipIdx.foldl (fun (t : State) p => t.judge die p.2 p.1 m) s

/-- The readings of a die's sensors that have not failed once these readings are judged (R431). -/
def State.goodReads (s : State) (die : Nat) (rs : List Int) : List Int :=
  let t := s.judgeAll die rs
  (rs.zipIdx.filter fun p => !t.thm.failed.contains (sensorKey die p.2)).map fun p => p.1

/-- The exact mean of a die's readings kept (R443). -/
def State.setMean (s : State) (k : Nat) (good : List Int) : State := s.setThm { s.thm with means := tabPut 0 s.thm.means k (exactMean good) }

/-- A die's readings taken in: sensors judged, the temperatures used computed over those that have not failed (R430, R431). -/
def State.readDie (s : State) (d : Nat × List Int) : State :=
  let (die, rs) := d
  let s1 := s.judgeAll die rs
  let good := s.goodReads die rs
  if good.isEmpty then s1
  else if die < 24 then ((s1.setTemp die (highest good)).setTemp (128 + die) (meanOf good)).setMean die good
  else if 48 ≤ die && decide (die < 92) then ((s1.setTemp die (meanOf good)).setTemp (112 + die) (highest good)).setMean die good
  else s1.setTemp die (highest good)

/-- The temperature of a site, and its highest (R430). -/
def State.siteT (s : State) (k : Nat) : Int := s.temp (48 + k)
def State.siteMax (s : State) (k : Nat) : Int := s.temp (160 + k)

/-- A tile site's heaters against its temperature since the site's last pilot (R431), at 41 mW for each kelvin: more than 3 K apart for 100 ms is counted
once. Before its first pilot nothing is compared. -/
def State.heatCheck (s : State) (p : Nat × Int) : State :=
  let t := p.1
  let apart := match tabGet none s.omus.siteAt t with
    | some t0 => decide (492 < (4 * p.2 + 41 * (s.siteT t - t0)).natAbs)
    | none => false
  let since := tabGet 0 s.thm.heatFar t
  if 24 ≤ t then s
  else if !apart then s.setThm { s.thm with heatFar := tabPut 0 s.thm.heatFar t 0, heatSaid := keyDrop s.thm.heatSaid t }
  else if since = 0 then s.setThm { s.thm with heatFar := tabPut 0 s.thm.heatFar t (s.now + 1) }
  else if since - 1 + 100000000 ≤ s.now && !s.thm.heatSaid.contains t then
    ((s.setThm { s.thm with heatSaid := keyPut s.thm.heatSaid t }).bump F.THM_SENSOR_FAIL t).raise 234
  else s

/-! ## Throttling (R433 to R438, R445) -/

/-- The throttle source, once for each episode (R433). -/
def State.episode (s : State) (k : Nat) : State :=
  if s.thm.hot.contains k then s else (s.setThm { s.thm with hot := keyPut s.thm.hot k }).raise 235

/-- An episode ended. -/
def State.endEpisode (s : State) (k : Nat) : State := s.setThm { s.thm with hot := keyDrop s.thm.hot k }

/-- 0.25 °C in the unit of `Therm.est`. -/
def estUnit : Int := 1250 * 720720

/-- T_est of R443, exact: half the sum of the means, and 1.6 K/W (6.4 of 0.25 °C for each W) for the cache die's power in mW. -/
def State.estOf (s : State) (t mw : Nat) : Int :=
  (tabGet 0 s.thm.means t + tabGet 0 s.thm.means (48 + t)) * 625 + 8 * mw * 720720

/-- The verdict on a cache die (R443, R445): the thresholds are compared with the exact T_est; CACHE_EST shows it rounded down. A sample without a reading
of the die's supply current leaves T_est. -/
def State.judgeCache (s : State) (t : Nat) (mw : Option Nat) : State :=
  let s1 := match mw with
    | some p => (s.setThm { s.thm with est := tabPut 0 s.thm.est t (s.estOf t p) }).set F.THM_TILE_T_CACHE_EST (ofSigned 12 ((s.estOf t p).fdiv estUnit)) t
    | none => s
  let est := tabGet 0 s1.thm.est t
  let mx := s1.temp (24 + t)
  let v := if decide (400 ≤ mx) || decide (400 * estUnit ≤ est) || decide (2 ≤ s1.get F.THM_TILE_CANARY t) || s1.sensorsLost (24 + t) then 2
    else if decide (mx ≤ 388) && decide (est ≤ 388 * estUnit) && tabGet 0 s1.thm.reads t = 0 then 0 else 1
  let s2 := if v = 2 && s1.get F.THM_TILE_VERDICT t ≠ 2 then s1.bump F.THM_CACHE_HOT t else s1
  s2.set F.THM_TILE_VERDICT v t

/-- A tile's limit step changed, and with it the throttle step and the die's clock (R412, R434). -/
def State.setLimit (s : State) (t v : Nat) : State :=
  let s1 := ((s.set F.THM_TILE_LIMIT v t).set F.CLK_DIE_THROTTLE v t).stepDie t
  s1.setThm { s1.thm with changed := tabPut 0 s1.thm.changed t (s1.now + 1) }

/-- The inputs of a tile's throttle controller that demand a lower limit (R436, R437): Tj, site, cache, power. -/
def State.demands (s : State) (t : Nat) : Bool × Bool × Bool × Bool :=
  (decide (380 ≤ s.temp t) || s.sensorsLost t, decide (320 ≤ s.siteMax t) || s.sensorsLost (48 + t), decide (s.get F.THM_TILE_VERDICT t = 2),
   s.isSet F.THM_STAT_POWER_CAP)

/-- The release conditions of a tile's throttle controller (R436). -/
def State.releases (s : State) (t : Nat) : Bool :=
  decide (s.temp t ≤ 368) && decide (s.siteMax t ≤ 308) && decide (s.get F.THM_TILE_VERDICT t = 0) && !s.isSet F.THM_STAT_POWER_CAP &&
  !s.sensorsLost t && !s.sensorsLost (48 + t)

/-- One sample of a tile's throttle controller (R436). -/
def State.throttle (s : State) (t : Nat) : State :=
  let (a, b, c, d) := s.demands t
  let s0 := if a || b || c then s.episode t else s
  let s1 := if s0.releases t then
      (s0.endEpisode t).setThm { (s0.endEpisode t).thm with okSince := if tabGet 0 s0.thm.okSince t = 0 then tabPut 0 s0.thm.okSince t (s0.now + 1) else s0.thm.okSince }
    else s0.setThm { s0.thm with okSince := tabPut 0 s0.thm.okSince t 0 }
  let last := tabGet 0 s1.thm.changed t
  let dwell := last = 0 || decide (last - 1 + 1000000 ≤ s1.now)
  let lim := s1.get F.THM_TILE_LIMIT t
  let ok := tabGet 0 s1.thm.okSince t
  if a || b || c || d then
    if dwell && 0 < lim then
      (((((s1.setLimit t (lim - 1)).bump F.THM_STEPS_DOWN t).set F.THM_TILE_BY_TJ (b2n a) t).set F.THM_TILE_BY_SITE (b2n b) t).set
        F.THM_TILE_BY_CACHE (b2n c) t).set F.THM_TILE_BY_POWER (b2n d) t
    else s1
  else if ok ≠ 0 && decide (ok - 1 + 1000000 ≤ s1.now) && dwell && decide (lim < 7) then s1.setLimit t (lim + 1)
  else s1

/-- The sites of a half that are present. -/
def State.halfSites (s : State) (h : Nat) : List Nat := s.sites.filter fun k => siteEast k = decide (h = 1)

/-- The emergency throttle of a half (R425, R427 step 1, R438). A site without a compute die that has lost more than half of its sensors counts as standing at
84 °C, the only throttle threshold it has (R431, R433). -/
def State.emergency (s : State) (h : Nat) : State :=
  let ks := s.halfSites h
  let lost (k : Nat) : Bool := decide (24 ≤ k) && s.sensorsLost (48 + k)
  let hot := ks.any fun k => decide (336 ≤ s.siteMax k) || lost k
  let cool := ks.all fun k => decide (s.siteMax k ≤ 320) && !lost k
  let s1 := if cool then
      (if tabGet 0 s.thm.cool h = 0 then s.setThm { s.thm with cool := tabPut 0 s.thm.cool h (s.now + 1) } else s)
    else s.setThm { s.thm with cool := tabPut 0 s.thm.cool h 0 }
  if hot then
    let s2 := s1.episode (24 + h)
    if tabGet 0 s2.thm.half h = 0 then ((s2.set (capFld h) 1).setHalf h (s2.now + 1)).setHalf (2 + h) 0 else s2
  else if cool then s1.endEpisode (24 + h) else s1

/-! ## The Firmament window (R439, R440) -/

/-- The temperature window of a tile's OMUs (R150, R174): TEMP_OK within 40 to 80 °C; a pilot in progress outside it is given up. -/
def State.omuWindow (s : State) (t : Nat) : State :=
  let ok := decide (160 ≤ s.siteT t) && decide (s.siteT t ≤ 320)
  (List.range 4).foldl (fun u k =>
    let u1 := u.set F.OMU_STAT_TEMP_OK (b2n ok) t k
    if ok then u1 else u1.coldPilot t k) s

/-- How far a tile's site has moved since each OMU's pilot (R173): more than 1.5 K asks for an extra pilot, once until a pilot has completed; one asked for
earlier starts where its OMU has become free. -/
def State.drift (s : State) (t : Nat) : State :=
  (List.range 4).foldl (fun u o =>
    let k := 4 * t + o
    if u.isSet F.OMU_CAL_RESID_VALID k then
      let d : Int := u.siteT t - 2 * (u.get F.OMU_CAL_RESID_TEMP k : Int)
      let u1 := u.set F.OMU_CAL_DT_DT (ofSigned 16 (25 * d)) k
      if 6 < d.natAbs && !u1.omus.drifted.contains k then
        ((u1.setOmus { u1.omus with drifted := keyPut u1.omus.drifted k }).bump F.OMU_CAL_DT_DT_PILOTS k).wantPilot t o
      else u1.tryPilot t o
    else u) s

/-- A site's window (R440): below 35 or above 85 °C it is out; one raise for each episode. -/
def State.window (s : State) (k : Nat) : State :=
  let out := decide (s.siteT k < 140) || decide (340 < s.siteT k)
  let s1 := if k < 24 then s.set F.THM_TILE_OUT_WINDOW (b2n out) k else s
  if out then
    if s1.thm.hot.contains (64 + k) then s1 else (s1.setThm { s1.thm with hot := keyPut s1.thm.hot (64 + k) }).raise 236
  else s1.endEpisode (64 + k)

/-- The most a site's warmer gives, in mW (R439). -/
def warmMax (site : Nat) : Nat := if site < 24 then 15000 else if site < 36 then 10000 else 4000

/-- SITE_MIN in 0.25 °C: below 40 °C it acts as 40 °C and above 60 °C as 60 °C (R439, R455). -/
def State.siteMin (s : State) : Int := 4 * (min 60 (max 40 (s.get F.THM_CTRL_SITE_MIN)) : Nat)

/-- What a site's warmer is to give after a sample, in mW (R439, R441): full power in a prewarm until the site has reached 40 °C, nothing while its tile's
controller has a demand, and else at most 10 mW more or less than before (1 W/ms at a sample each 10 µs): upwards while the site lies below SITE_MIN, and
towards what its regulator asks for while it does not. -/
def State.warmAim (s : State) (asks : List (Nat × Nat)) (k : Nat) : Nat :=
  let now := tabGet 0 s.thm.warmers k
  let (a, b, c, d) := s.demands k
  if s.get F.FLT_DOM0_STATE (24 + k) = 3 then 0
  else if s.isSet F.THM_STAT_PREWARM && !s.thm.warmed.contains k then warmMax k
  else if k < 24 && (a || b || c || d) then 0
  else
    let aim := if s.siteT k < s.siteMin then warmMax k else match asks.find? fun p => decide (p.1 = k) with
      | some p => min (warmMax k) (100 * p.2)
      | none => now
    if now < aim then min aim (now + 10) else max aim (now - 10)

/-- What the heater current cap leaves to the warmers, in mW, with ring heaters served first (R439, R483): `ma` is their current on the 3.3 V rail. -/
def State.warmRest (s : State) (ma : Nat) : Nat :=
  let cap := if s.isSet F.GRD_STAT_LOADED then max 1000 (s.get F.GRD_LIMITS_HTR_CAP) else 1600
  (100 * cap - ma) * 33 / 10

/-- The warmers after a sample (R439): where the cap binds, they share what it leaves in proportion to their demand. -/
def State.warm (s : State) (r : SensorReport) : State :=
  let aims := s.sites.map fun k => (k, s.warmAim r.warm k)
  let sum := (aims.map fun p => p.2).sum
  let rest := s.warmRest r.rings
  aims.foldl (fun t p =>
    let v := if sum ≤ rest then p.2 else p.2 * rest / sum
    let t1 := t.setThm { t.thm with warmers := tabPut 0 t.thm.warmers p.1 v }
    if p.1 < 24 then t1.set F.THM_TILE_WARMER (v / 100) p.1 else t1) s

/-- The prewarm (R441): a site's warmer stops at 40 °C and from then on holds its site (R439); the prewarm ends when every present site has reached that. -/
def State.prewarm (s : State) : State :=
  if s.isSet F.THM_STAT_PREWARM then
    let done := s.sites.filter fun k => decide (160 ≤ s.siteT k) && !s.thm.warmed.contains k
    let s1 := s.setThm { s.thm with warmed := done.foldl keyPut s.thm.warmed, warmers := s.thm.warmers.filter fun p => !done.contains p.1 }
    if s1.sites.all fun k => s1.thm.warmed.contains k || s1.get F.FLT_DOM0_STATE (24 + k) = 3 then
      (s1.setThm { s1.thm with prewarm := none }).set F.THM_STAT_PREWARM 0
    else s1
  else s

/-! ## Memory stacks (R442) -/

/-- The HBM access cap of a stack's MBD, one sample; the refresh rate. -/
def State.capStack (s : State) (m : Nat) : State :=
  let mt := s.temp (92 + m)
  let ht := s.temp (104 + m)
  let cap := s.get F.THM_MBD_CAP m
  let s0 := ((s.set F.THM_MBD_MBD_T (ofSigned 12 mt) m).set F.THM_MBD_HBM_T (ofSigned 12 ht) m).set F.THM_MBD_REFRESH_2X
    (if 340 ≤ ht then 1 else if ht ≤ 328 then 0 else s.get F.THM_MBD_REFRESH_2X m) m
  let last := tabGet 0 s0.thm.capAt m
  let ok := tabGet 0 s0.thm.capOk m
  if decide (380 ≤ mt) || decide (380 ≤ ht) || s0.sensorsLost (92 + m) || s0.sensorsLost (104 + m) then
    let s1 := (s0.episode (32 + m)).setThm { (s0.episode (32 + m)).thm with capOk := tabPut 0 s0.thm.capOk m 0 }
    if cap < 3 && (last = 0 || decide (last - 1 + 1000000 ≤ s1.now)) then
      ((s1.set F.THM_MBD_CAP (cap + 1) m).bump F.THM_CAP_STEPS m).setThm { s1.thm with capAt := tabPut 0 s1.thm.capAt m (s1.now + 1) }
    else s1
  else if mt ≤ 368 && ht ≤ 368 then
    let s1 := s0.endEpisode (32 + m)
    if ok = 0 then s1.setThm { s1.thm with capOk := tabPut 0 s1.thm.capOk m (s1.now + 1) }
    else if ok - 1 + 1000000 ≤ s1.now && 0 < cap then
      (s1.set F.THM_MBD_CAP (cap - 1) m).setThm { s1.thm with
        capOk := tabPut 0 s1.thm.capOk m (s1.now + 1), capAt := tabPut 0 s1.thm.capAt m (s1.now + 1) }
    else s1
  else s0.setThm { s0.thm with capOk := tabPut 0 s0.thm.capOk m 0 }

/-! ## Trips (R433, R446, R483) -/

/-- A trip point in 0.25 °C: the guard field, at least 60 °C; its highest value before a guard record is loaded. -/
def State.tripAt (s : State) (f : Fld) (top : Nat) : Int :=
  if s.isSet F.GRD_STAT_LOADED then 4 * (max 60 (s.get f) : Nat) else 4 * (top : Nat)

/-- The thermal trip of a die (R446), numbered as in R499: the FATAL entry's dump records the die and its temperature. -/
def State.trip (s : State) (die : Nat) (temp : Int) : State :=
  let t := (s.set F.THM_STAT_TRIPPED 1).raise 238
  { t with flt := { t.flt with dumps := t.flt.dumps.map fun d => if d.kind = 2 && d.src = 238 then { d with die := some (die, temp) } else d } }

/-- The first die that stands at its trip point, and its temperature there; a site trips at its highest sensor. -/
def State.trippedAt (s : State) : Option (Nat × Int) :=
  let at_ (ks : List Nat) (lim : Int) : List Nat := ks.filter fun k => decide (lim ≤ s.temp k)
  let l := at_ (List.range 24) (s.tripAt F.GRD_TRIP_CMP 110) ++ at_ ((List.range 24).map fun t => 24 + t) (s.tripAt F.GRD_TRIP_CACHE 115) ++
    at_ ((List.range 44).map fun k => 160 + k) (s.tripAt F.GRD_TRIP_SITE 90) ++ at_ ((List.range 12).map fun m => 92 + m) (s.tripAt F.GRD_TRIP_MBD 110) ++
    at_ ((List.range 12).map fun m => 104 + m) (s.tripAt F.GRD_TRIP_HBM 105) ++ at_ [116, 117, 118, 119, 202, 203] (s.tripAt F.GRD_TRIP_EDGE 110)
  l.head?.map fun k => (if 160 ≤ k then k - 112 else k, s.temp k)

/-- Whether any die stands at its trip point. -/
def State.tripped (s : State) : Bool := s.trippedAt.isSome

/-! ## The sample -/

/-- The bin of a temperature in the lifetime record (R499): bin 0 below 0 °C, then 5 °C each, bin 31 from 150 °C. -/
def binOf (t : Int) : Nat := if t < 0 then 0 else min 31 (t.toNat / 20 + 1)

/-- A sample's temperatures counted over the part's life (R499). -/
def State.bins (s : State) : State := (List.range 120).foldl (fun t d => t.lifeAdd (0x40 + 128 * d + 4 * binOf (t.temp d)) 1) s

/-- The temperature registers of a tile (R456). -/
def State.showTile (s : State) (t : Nat) : State :=
  (((s.set F.THM_TILE_T_TJ (ofSigned 12 (s.temp t)) t).set F.THM_TILE_T_SITE (ofSigned 12 (s.siteT t)) t).set F.THM_TILE_T_SITE_MAX
    (ofSigned 12 (s.siteMax t)) t).set F.THM_TILE_T_CACHE_MAX (ofSigned 12 (s.temp (24 + t))) t

/-- The temperature registers of R455: hub W, hub E, the I/O chiplets, the Almanac. -/
def State.showEdge (s : State) : State :=
  [202, 203, 116, 117, 118, 119, 122].zipIdx.foldl (fun (t : State) p => t.set F.THM_EDGE_TEMP (ofSigned 12 (t.temp p.1)) p.2) s

/-- The Almanac's window (R450, R462, R493): ALM_OK; outside it what the Almanac keeps stands as it was; a command waits outside it and runs on inside, a boot that
waited for the temperature begins. -/
def State.almWindow (s : State) : State :=
  let ok := decide (0 ≤ s.temp 122) && decide (s.temp 122 ≤ 340)
  let s1 := s.set F.THM_STAT_ALM_OK (b2n ok)
  let s2 := if s1.almUp then s1 else s1.set F.THM_STAT_ALM_HELD s1.mgt.pend.length
  let s3 := if s2.mgt.cmd.isSome then s2.set F.ALM_STAT_STATE (if ok then 1 else 2) else s2
  ({ s3 with boot := { s3.boot with almOk := ok, frozen := if ok then none else some (s3.boot.frozen.getD s.kept) } }).startBoot

/-- Tiles that are present and not retired. -/
def State.tilesUp (s : State) : List Nat := (List.range 24).filter fun t => s.present t && !s.retired t

/-- One tile's part of a sample. -/
def State.tileSample (s : State) (r : SensorReport) (t : Nat) : State :=
  let mw := (r.caches.find? fun p => decide (p.1 = t)).map fun p => p.2
  ((((s.showTile t).judgeCache t mw).omuWindow t).drift t).throttle t

/-- SENSOR_SAMPLE (R430, R431, R433, R436 to R443, R445, R446, R450, R499): the 10 µs sample of every sensor, and what follows from it. -/
def execSensorSample (r : SensorReport) (s : State) : Res :=
  live s fun s =>
    let s1 := (r.dies.filter fun d => decide (d.1 < 104) || (decide (116 ≤ d.1) && decide (d.1 < 120)) || d.1 = 122).foldl State.readDie s
    let s2 := r.heat.foldl State.heatCheck (s1.tilesUp.foldl (fun t k => t.tileSample r k) s1)
    let s3 := (s2.sites.filter fun k => !s2.retired k).foldl State.window s2
    let s4 := ((s3.emergency 0).emergency 1).prewarm.warm r
    let s5 := ((List.range 12).filter fun m => s4.present (24 + m) && !s4.retired (24 + m)).foldl State.capStack s4
    let s6 := s5.showEdge.almWindow.bins
    let s7 := match s6.trippedAt with
      | some (die, temp) => s6.trip die temp
      | none => s6
    if s7.fatal then s7 else s7.tryRings

/-- HBM_TEMP_READ (R430, R431, R433, R442, R446): the stack's own sensors, read by its MBD every 1 ms; those that fail are left out. -/
def execHbmTempRead (m : Nat) (readings : List Int) (s : State) : Res :=
  live s fun s =>
    if 12 ≤ m || readings.isEmpty then s
    else
      let s0 := (s.setThm { s.thm with hbmN := tabPut 0 s.thm.hbmN m readings.length }).readDie (104 + m, readings)
      let s1 := s0.capStack m
      if decide (s1.tripAt F.GRD_TRIP_HBM 105 ≤ s1.temp (104 + m)) then s1.trip (104 + m) (s1.temp (104 + m)) else s1

/-- CANARY_READ (R444 to R446): arrays with flips and cells flipped at the 100 µs read; 16 arrays trip. -/
def execCanaryRead (tile arrays cells : Nat) (s : State) : Res :=
  live s fun s =>
    if 24 ≤ tile then s
    else
      let n := satTo 16 arrays
      let s1 := (s.set F.THM_TILE_CANARY n tile).bump F.THM_CANARY_FLIPS tile 0 cells
      let left := tabGet 0 s1.thm.reads tile
      let s2 := s1.setThm { s1.thm with reads := tabPut 0 s1.thm.reads tile (if 0 < n then 10 else left - 1) }
      if n = 16 then s2.trip (24 + tile) (s2.temp (24 + tile)) else s2

/-- LIMIT_EXCEED (R435, R464): the core current above its limit for 50 µs; the limit falls one step without waiting for the dwell. -/
def execLimitExceed (tile : Nat) (s : State) : Res :=
  live s fun s =>
    if 24 ≤ tile then s
    else
      let s1 := s.bump F.THM_LIMIT_EXCEED tile
      let lim := s1.get F.THM_TILE_LIMIT tile
      let s2 := if 0 < lim then
          (((((s1.setLimit tile (lim - 1)).bump F.THM_STEPS_DOWN tile).set F.THM_TILE_BY_TJ 0 tile).set F.THM_TILE_BY_SITE 0 tile).set
            F.THM_TILE_BY_CACHE 0 tile).set F.THM_TILE_BY_POWER 0 tile
        else s1
      s2.raise (44 + tile)

/-- A board rail's nominal voltage in mV and its tolerance in percent, in the order of THM_RAIL (R451, R455; log entry 210); none for the three rails of
HBM, whose voltages and tolerances the HBM4 standard gives. -/
def railNominal (k : Nat) : Option (Nat × Nat) :=
  match k with
  | 0 | 1 | 2 | 3 => some (1050, 3) | 4 | 5 => some (900, 3) | 6 => some (1200, 3) | 7 => some (3300, 5)
  | 8 | 9 | 13 => some (800, 3) | _ => none

/-- Whether a rail lies outside its tolerance (R451): by its measured voltage, or for a rail of HBM as its reading says. -/
def outOfTol (k mv : Nat) (hbm : Bool) : Bool :=
  match railNominal k with
  | some (n, p) => decide (p * n < 100 * ((mv : Int) - n).natAbs)
  | none => hbm

/-- The power of the board rails in 0.1 mW: mV times 0.1 A each (R453). -/
def railPower (rails : List (Nat × Nat × Bool)) : Nat := rails.foldl (fun n r => n + r.1 * r.2.1) 0

/-- A guarded quantity that exceeds its guard noted, or one that does not forgotten; and whether it has exceeded it for `d` (R484). -/
def State.exceeds (s : State) (k : Nat) (high : Bool) (d : Nat) : State × Bool :=
  let since := tabGet 0 s.thm.excess k
  if !high then (s.setThm { s.thm with excess := tabPut 0 s.thm.excess k 0 }, false)
  else if since = 0 then (s.setThm { s.thm with excess := tabPut 0 s.thm.excess k (s.now + 1) }, false)
  else (s, decide (since - 1 + d ≤ s.now))

/-- The guards on the heater current and on the package power at a sample (R484): 5 % over HTR_CAP for 1 ms or 10 % over PWR_CEIL for 100 ms is a
violation. -/
def State.guardPower (s : State) (rails : List (Nat × Nat × Bool)) : State :=
  let on := s.isSet F.GRD_STAT_LOADED
  let w := s.thm.watts
  let a := s.exceeds 0 (on && decide (105 * max 1000 (s.get F.GRD_LIMITS_HTR_CAP) < 100 * (rails.getD 7 (0, 0, false)).2.1)) 1000000
  let b := a.1.exceeds 1 (on && decide (110 * s.get F.GRD_LIMITS_PWR_CEIL * 10000 * w.length < 100 * w.sum)) 100000000
  if a.2 || b.2 then b.1.raise 239 else b.1

/-- POWER_SAMPLE (R451, R453, R455, R484, R499): the rails' voltages and currents in the order of R451, and whether each lies in its tolerance; the average of the
last 10 ms against the ceiling and the guards. -/
def execPowerSample (rails : List (Nat × Nat × Bool)) (s : State) : Res :=
  live s fun s =>
    let rs := rails.take 14
    let s1 := rs.zipIdx.foldl (fun (t : State) p =>
      ((t.set F.THM_RAIL_MV p.1.1 p.2).set F.THM_RAIL_CURRENT p.1.2.1 p.2).set F.THM_RAIL_OUT_TOL (b2n (outOfTol p.2 p.1.1 p.1.2.2)) p.2) s
    let w := railPower rs
    let ws := (s1.thm.watts ++ [w]).drop (s1.thm.watts.length + 1 - 1000)
    let sum := ws.sum
    let s2 := ((s1.setThm { s1.thm with watts := ws }).lifeAdd (0x3C40 + 4 * min 31 (w / 1000000)) 1).set F.THM_PWR_NOW_W (sum / ws.length / 10000)
    let s3 := s2.mark F.THM_PWR_PEAK_W (s2.get F.THM_PWR_NOW_W)
    let top := 10000 * if s3.isSet F.GRD_STAT_LOADED then s3.get F.THM_PWR_CEIL_W else 2400
    (if top * ws.length < sum then
      let s4 := s3.setThm { s3.thm with low := none }
      if s4.isSet F.THM_STAT_POWER_CAP then s4 else ((s4.set F.THM_STAT_POWER_CAP 1).bump F.THM_PWR_CAPS).raise 237
    else if sum * 100 ≤ 95 * top * ws.length then
      match s3.thm.low with
      | none => s3.setThm { s3.thm with low := some s3.now }
      | some t => if t + 10000000 ≤ s3.now then s3.set F.THM_STAT_POWER_CAP 0 else s3
    else s3.setThm { s3.thm with low := none }).guardPower rs

/-- GUARD_CHECK (R484): the check made every 1 ms, of the Comet egress since the last one and of the guard registers against their shadow copy; a violation is
FATAL. The heater current and the package power are checked at each POWER_SAMPLE. -/
def execGuardCheck (r : GuardReport) (s : State) : Res :=
  live s fun s =>
    let n := s.cmt.egress
    let s1 := { s with cmt := { s.cmt with egress := 0 } }
    if s.isSet F.GRD_STAT_LOADED && (decide (105 * s.get F.GRD_LIMITS_EGRESS * 1000000 < 100 * 8 * n) || r.shadow) then s1.raise 239 else s1

end Sys2Proof.Machine
end

