-- ==== Sys2Proof/Machine/Loader.lean ====
section
/-! DEFINITION. Charts in their slots and in force: the slot copies, a load's checks and end (R290, R291), staging content (R296), the built-in
chart and the chart at start-up (R294), a chart's coming into force (R295 step 6, R297). -/

namespace Sys2Proof.Machine

/-! ## Slots (R227, R290) -/

/-- The base of a slot's copy on stack `m`. -/
def slotBase (m slot : Nat) : Nat := m * stackSize + 0x0FFC000000 + slot * 2 ^ 32

/-- Whether a memory stack serves reads now: present, not retired, neither its MBD nor its site in reset. -/
def State.memUp (s : State) (m : Nat) : Bool :=
  s.present (24 + m) && !s.retired (24 + m) && s.get F.FLT_DOM0_STATE (68 + m) = 0 && s.get F.FLT_DOM0_STATE (48 + m) = 0

/-- The stack a slot is read from: the one wanted, else the other of M0 and M6 (R290, R296). -/
def State.slotStack (s : State) (want : Nat) : Nat := if s.memUp want then want else 6 - want

/-- The loss recorded for a stage (R42): the last commissioning's, for a site or a crossing, else the factory's. -/
def State.recordedLoss (s : State) (kind place : Nat) : Option Nat :=
  ((s.light.losses.find? fun p => decide (p.1 = lossKey kind place)).map fun p => p.2) <|> Config.loss kind place

/-- What the loader knows of the part (R291 step 6). -/
def State.chartEnv (s : State) : Env :=
  { present := s.present, retired := s.retired, ceiling := fun t => s.get F.CLK_DIE_CEIL_FIELD t
    defined := fun t => s.cht.defined.contains t, loss := s.recordedLoss }

/-- Steps 3 to 6 of R291. -/
def State.checkChart (s : State) (bytes : List Byte) (len : Nat) : Except LoadErr Chart :=
  match readImage bytes len with
  | .error e => .error e
  | .ok im => match s.signErr im with
    | some e => .error e
    | none => match semanticErr s.chartEnv im with
      | some e => .error e
      | none => .ok im.chart

/-! ## The slots' registers (R300) -/

/-- What a slot's registers show of its chart (R300). -/
def State.showSlot (s : State) (slot : Nat) (c : Chart) : State :=
  ((s.set F.CHT_SLOT_SIGNED (b2n c.signed) slot).set F.CHT_SLOT_VARIANTS c.variants.length slot).set F.CHT_SLOT_STAGE_TRANSITS c.stage slot

/-- A slot that holds no chart that was checked shows none (R300): the CHART_ID of the header copied into it, 0 where no header was (DESIGN CHOICE, log
entry 191). -/
def State.blankSlot (s : State) (slot id : Nat) : State :=
  let s1 := ((s.set F.CHT_SLOT_SIGNED 0 slot).set F.CHT_SLOT_VARIANTS 0 slot).set F.CHT_SLOT_STAGE_TRANSITS 0 slot
  s1.set F.CHT_ID id slot

/-- The registers of every VALID slot shown again at start-up: its chart is in HBM still (R477; DESIGN CHOICE, log entry 191). -/
def State.showSlots (s : State) : State :=
  (List.range 2).foldl (fun t k => if t.get F.CHT_SLOT_STATE k = 2 then t.showSlot k (tabGet {} t.cht.slots k) else t) s

/-- A slot found VALID: its registers and its parsed chart. -/
def State.slotValid (s : State) (slot : Nat) (im : Img) : State :=
  let s1 := ((s.set F.CHT_SLOT_STATE 2 slot).set F.CHT_SLOT_ERR 0 slot).set F.CHT_SLOT_ERR_SECT 0 slot
  let s2 := (s1.showSlot slot im.chart).set F.CHT_ID im.id slot
  { s2 with cht := { s2.cht with slots := tabPut {} s2.cht.slots slot im.chart } }

/-- A slot found FAILED: its reason and section (R291, R293), the CHART_ID copied, with a CHART record (R332). -/
def State.slotFailed (s : State) (slot : Nat) (e : LoadErr) (id : Nat := 0) : State :=
  let s1 := (((s.blankSlot slot id).set F.CHT_SLOT_STATE 4 slot).set F.CHT_SLOT_ERR e.1 slot).set F.CHT_SLOT_ERR_SECT e.2 slot
  let s2 := { s1 with cht := { s1.cht with slots := tabPut {} s1.cht.slots slot {} } }
  s2.recordAny 3 (packBits [(0, 1, slot), (1, 3, 4), (4, 5, e.1), (9, 3, s2.get F.CHT_SWITCH_LAST_ERR)])

/-- Step 7 of R291, or a failure. -/
def State.loadEnd (s : State) (slot : Nat) (bytes : List Byte) (len : Nat) : Except LoadErr Unit × State :=
  match readImage bytes len with
  | .error e => (.error e, s.slotFailed slot e (leAt bytes 24 8))
  | .ok im => match s.checkChart bytes len with
    | .error e => (.error e, s.slotFailed slot e im.id)
    | .ok _ => (.ok (), s.slotValid slot im)

/-- CHART_COPY_DONE (R291 steps 2 to 7): the image is in the slot and its copy; it is checked and the card's work is over. `image` is what the
host returned, `ok` says whether every read of it did, `ecc` the errors found in the part's own memory. -/
def execChartCopyDone (image : List Byte) (ok : Bool) (ecc : List EccHit) (s : State) : Res :=
  live s fun s =>
    match s.cht.load with
    | none => s
    | some l =>
      let s0 := (s.eccIn l.src l.len 0 ecc).skyRead 42 l.seq l.src l.len
      let s1 := { s0 with cht := { s0.cht with load := none } }
      let data := if s1.hostGone l.src || !ok then none else s1.cardFetch l.seq l.src l.len image false
      match data with
      | none => ((s1.slotFailed l.slot (24, 0)).meets l.seq { status := 9, detail := 24 }).finish l.seq
      | some p =>
        if (List.range l.len).any p.bad then ((s1.slotFailed l.slot (24, 0)).meets l.seq { status := 9, detail := 24 }).finish l.seq
        else
          let s2 := ([0, 6].filter s1.memUp).foldl (fun t m => t.store (slotBase m l.slot) p.bytes (fun _ => false) []) s1
          let r := (s2.setValue l.seq (leAt p.bytes 24 8)).loadEnd l.slot p.bytes l.len
          match r.1 with
          | .ok _ => (r.2.set F.CHT_LOADED_TIME r.2.now l.slot).finish l.seq
          | .error e => (r.2.meets l.seq { status := 9, detail := e.1, count := e.2 }).finish l.seq

/-- CHART_LOAD (R290, R291 step 2): the standby slot shows LOADING and the copy begins. -/
def execChartLoad (seq : Nat) (s : State) : Res :=
  live s fun s => s.startRun seq 0x0D fun e t =>
    let slot := t.standbySlot
    let (src, len) := (leAt e.card 16 8, leAt e.card 24 8)
    let t1 := (((t.blankSlot slot 0).set F.CHT_SLOT_STATE 1 slot).set F.CHT_SLOT_ERR 0 slot).set F.CHT_SLOT_ERR_SECT 0 slot
    let t2 := { t1 with cht := { t1.cht with load := some ⟨seq, slot, src, len⟩ } }
    (t2.setValue seq 0).askHost src len

/-! ## The map of a chart -/

/-- Whether two channels are the same to R100. -/
def ChanSpec.same (a : ChanSpec) (b : Chan) : Bool :=
  a.orbit = b.orbit && a.wg = b.wg && a.lambda = b.lambda && a.writer = b.writer && a.reader = b.reader

/-- The rings of a channel as (site, ring): its writer ring and its reader ring (R136). -/
def ChanSpec.rings (c : ChanSpec) : List (Nat × Nat) := [(c.writer, c.orbit * 96 + c.wring), (c.reader, 384 + c.orbit * 96 + c.rring)]

/-- The rings of a channel of the map in force. -/
def Chan.rings (c : Chan) : List (Nat × Nat) := [(c.writer, c.orbit * 96 + c.wring), (c.reader, 384 + c.orbit * 96 + c.rring)]

/-- A channel of a map that comes into force (R29, R119, R125): DARK with an absent end, DROPPED with a failed ring, ACTIVE with both rings
confirmed, else IDCHECK. -/
def State.newChan (s : State) (c : ChanSpec) : Chan :=
  let st (p : Nat × Nat) : Nat := s.get F.TWK_RING_STATE p.1 p.2
  { orbit := c.orbit, wg := c.wg, lambda := c.lambda, writer := c.writer, reader := c.reader, allpairs := c.allpairs
    wring := c.wring, rring := c.rring
    state := if !s.present c.writer || !s.present c.reader then 4
             else if c.rings.any fun p => st p = 6 then 3
             else if c.rings.all fun p => st p = 4 then 1 else 2 }

/-- The channels of a chart's variant (R276, R278). -/
def Chart.specs (c : Chart) (v : Nat) : List ChanSpec := section_ [] c.maps v

/-- The numbers in a new map of channels of the map in force; those that it does not have fall out (R100). -/
def State.remap (s : State) (specs : List ChanSpec) (l : List Nat) : List Nat :=
  l.filterMap fun n => (s.sky.chans[n]?).bind fun c => specs.findIdx? fun x => x.same c

/-- Rings that no channel uses any more released, still locked where they were (R125). -/
def State.idleRings (s : State) (ps : List (Nat × Nat)) : State :=
  (ps.filter fun p => s.get F.TWK_RING_STATE p.1 p.2 ≠ 6).foldl (fun t p => t.set F.TWK_RING_STATE (b2n (s.ringLocked p.1 p.2)) p.1 p.2) s

/-- A map installed (R99 step 3, R125): rings that only the old one used are released, and those of DARK channels are reserved untuned (R29). What LOCATE has found lossy in this window
goes at its end in the new map too (R124). A channel that enters DROPPED raises the all-pairs loss where its pair has no other (R125, R126). -/
def State.installMap (s : State) (specs : List ChanSpec) : State :=
  let lit (c : ChanSpec) : Bool := s.present c.writer && s.present c.reader
  let used := (specs.filter lit).flatMap ChanSpec.rings
  let dark := (specs.filter fun c => !lit c).flatMap ChanSpec.rings
  let s1 := dark.foldl (fun t p => t.set F.TWK_RING_STATE 0 p.1 p.2) (s.idleRings ((s.sky.chans.flatMap Chan.rings).filter fun p => !used.contains p))
  let s2 := s1.setLight { s1.light with locate := s.remap specs s.light.locate, doomed := s.remap specs s.light.doomed }
  let t := { s2 with sky := { s2.sky with chans := specs.map s2.newChan } }
  let lost := s2.directPairs.any (fun p => !t.hasDirect p.1 p.2) || t.sky.chans.any fun c => c.state = 3 && !t.hasDirect c.writer c.reader
  ((List.range 44).foldl (fun t k => (t.setStn k { t.stn k with robin := [] }).lockEnd k) (if lost then t.raise 225 else t)).relight

/-! ## In force -/

/-- The content that staging writes into the tiles (R295 step 5, R460 step 7): weight blocks, pass rings, pilot phases, and the places of the row offset
tables, to which each OMU writes the table of its last pilot (R177; for a switch DEDUCED, log entry 183); loaded OMU blocks lapse (R149). -/
def State.stageContent (s : State) (c : Chart) (slot v : Nat) : State :=
  let s1 := (section_ [] c.weights v).foldl (fun t w =>
    let src := slotBase (t.slotStack (if siteEast w.tile then 6 else 0)) slot + w.pos
    t.commitWrite (cacheAt w.tile w.offset) (t.rdN src (w.count * 4160)) fun i => t.poisoned ((src + i) / 64)) s
  let ls := section_ (List.replicate 24 ({} : Layout)) c.layouts v
  let ps := section_ ({} : Pilots) c.pilots v
  (List.range 24).foldl (fun t k =>
    let l := ls.getD k {}
    let t1 := (t.set F.OMU_PQ_BASE l.pqBase k).set F.OMU_PILOT_CFG_EVERY ps.every k
    (List.range 4).foldl (fun u j =>
      (((u.set F.OMU_PILOT_PHASE (ps.omus.getD (4 * k + j) ((4 * k + j) % 64, 0)).1 k j).set F.OMU_CAL_OFFTAB_BASE (l.offtab + 128 * j) (4 * k + j)).set
        F.OMU_LOADED_VALID 0 k j).putOfftab (4 * k + j)) t1) s1

/-- A shard of a table that a chart brings back to two copies (R289): REBUILDING from the copy that was kept. -/
def rebuilt (old new : Shard) : Shard :=
  if new.state = 1 && old.state ≠ 1 then
    if old.engine = new.mirror && old.base = new.mbase then
      { new with state := 3, engine := new.mirror, base := new.mbase, mirror := new.engine, mbase := new.base }
    else if old.engine = new.engine && old.base = new.base then { new with state := 3 }
    else new
  else new

/-- The table directory at a chart's coming into force (R237, R297): the chart's tables, and the defined ones whose ids it does not name. -/
def State.chartTables (s : State) (ts : List Table) : State :=
  let named (id : Nat) : Bool := ts.any fun t => decide (t.id = id)
  let keep := s.mems.tables.filter fun t => s.cht.defined.contains t.id && !named t.id
  let dir := ts.foldl (fun l t =>
    let u := match s.table t.id with
      | some o => { t with version := o.version + 1, shards := t.shards.zipIdx.map fun p => match o.shards[p.2]? with
          | some q => rebuilt q p.1
          | none => p.1 }
      | none => { t with version := 1 }
    (l.filter fun x => decide (x.id < u.id)) ++ [u] ++ l.filter fun x => decide (u.id < x.id)) keep
  let s1 := ts.foldl (fun t u => t.unready u.id) (s.setTables dir)
  { s1 with cht := { s1.cht with defined := s1.cht.defined.filter fun id => !named id } }

/-- A chart comes into force (R295 step 6): its timing, partitions, tables, constellation; `slot` none is the built-in chart. -/
def State.inForce (s : State) (c : Chart) (slot : Option Nat) (v : Nat) : State :=
  let old := s.cht.chart
  let s1 := { s with cht := { s.cht with chart := c, epoch := s.cht.epoch + 1 } }
  let s2 := ((s1.set F.CHT_ACTIVE_SLOT (slot.getD 0)).set F.CHT_ACTIVE_VARIANT v).set F.CHT_ACTIVE_DEFAULT (b2n slot.isNone)
  let s3 := ((((((s2.set F.TRN_CFG_PERIOD_US c.period).set F.TRN_CFG_QUIET_US c.quiet).set F.TRN_CFG_SETTLE_US c.settle).set F.TRN_CFG_ROLE c.role).set
    F.TRN_CFG_SOURCE c.source).set F.TRN_CFG_STEP c.step)
  let s4 := (List.range 42).foldl (fun t k => t.set F.SKY_STN_STATUS_PART (c.sitePart k) k) s3
  let s5 := s4.chartTables (section_ [] c.tables v)
  let s6 := (s5.keepPlaces s).cometChart old.constell
  let s7 := { s6 with cmt := { s6.cmt with yields := false, acting := false } }
  if old.role = c.role && old.source = c.source && old.constell = c.constell then s7
  else s7.set F.TRN_STAT_SYNC (if c.role = 2 then 1 else 0)

/-- The waveguide and grid channel of the built-in map for a pair of sites (R294): waveguides 0 to 42 each carry 22 pairs that share no site, and
the two directions of a pair, whose paths close the loop, share a grid slot (R40, R41). The spec gives no assignment; where the numbering of
waveguides and of grid channels begins is free (log entry 77). -/
def builtinSlot (a b : Nat) : Nat × Nat :=
  let (lo, hi) := (min a b, max a b)
  let colour := if hi = 43 then 2 * lo else lo + hi
  let d := (hi - lo) % 43
  let nth := if hi = 43 then 0 else if d % 2 = 0 then d / 2 else (43 - d) / 2
  ((colour + Config.builtinShift.1) % 43, (nth + Config.builtinShift.2) % 32)

/-- The built-in chart (R294); the spec names no decks for its partition: every deck. Each channel uses the ring of its waveguide's number (R41). -/
def State.builtin (s : State) : Chart :=
  let sites := s.sites
  let chans := sites.flatMap fun a => (sites.filter fun b => decide (b ≠ a)).map fun b =>
    let r := builtinSlot a b
    ({ orbit := 0, wg := r.1, lambda := r.2, writer := a, reader := b, allpairs := true, wring := r.1, rring := r.1 } : ChanSpec)
  { builtin := true, variants := [{}]
    parts := [{ valid := true, sites := bitMask (sites.filter fun k => decide (k < 42)), decks := 2 ^ 64 - 1 }]
    maps := [(255, chans)] }

/-- A slot's chart made the one in force at start-up, with the variant that covers the retired set, or the built-in one (R294, R460 step 7), also
where no variant of a chart that passed its check covers the set (DESIGN CHOICE, log entry 207). -/
def State.startChart (s : State) : State :=
  let begin_ (t : State) (c : Chart) (slot : Option Nat) (v : Nat) : State :=
    let t1 := (t.inForce c slot v).installMap (c.specs v)
    (t1.stageContent c (slot.getD 0) v).showSlots.resetPlan
  if s.boot.cold || s.isSet F.CHT_ACTIVE_DEFAULT then begin_ s s.builtin none 0
  else
    let slot := s.get F.CHT_ACTIVE_SLOT
    let a := slotBase (s.slotStack 0) slot
    let len := leNat (s.rdN (a + 16) 8)
    let bytes := s.rdN a (min len (2 ^ 32))
    if len < 64 || 2 ^ 32 < len || s.anyPoison a len then begin_ ((s.slotFailed slot (24, 0)).raise 231) s.builtin none 0
    else
      let r := s.loadEnd slot bytes len
      match r.1 with
      | .error _ => begin_ (r.2.raise 231) s.builtin none 0
      | .ok _ =>
        let c := tabGet {} r.2.cht.slots slot
        match c.cover r.2.retTiles r.2.retMem with
        | some v => begin_ (r.2.set F.CHT_SLOT_STATE 3 slot) c (some slot) v
        | none => begin_ (r.2.raise 231) s.builtin none 0

end Sys2Proof.Machine
end

