-- ==== Sys2Proof/Machine/Switch.lean ====
section
/-! DEFINITION. Chart switches: their checks, their steps, their failures (R288, R295 to R298), the drain of the Sky and the map switch (R99, R125). -/

namespace Sys2Proof.Machine

/-- The switch under way replaced. -/
def State.setSw (s : State) (w : Option Switch) : State := { s with cht := { s.cht with sw := w } }

/-- The CHART record of a slot (R332). -/
def State.chartRecord (s : State) (slot : Nat) : State :=
  s.recordAny 3 (packBits [(0, 1, slot), (1, 3, s.get F.CHT_SLOT_STATE slot), (4, 5, s.get F.CHT_SLOT_ERR slot), (9, 3, s.get F.CHT_SWITCH_LAST_ERR)])

/-- The stations that show `st` given back to service after a drain (R99, R525). -/
def State.resumeStations (s : State) (st : Nat) : State :=
  (s.sites.filter fun k => s.get F.SKY_STN_STATUS_STATE k = st).foldl (fun t k =>
    ((t.set F.SKY_STN_STATUS_STATE (t.serviceShows k) k).readmit k).pump k) s

/-- A switch that ends without its chart in force (R298): the card completes with SWITCH_REJECT; dealing resumes at the next tick. -/
def State.switchFail (s : State) (w : Switch) (err : Nat) : State :=
  let s1 := ((s.setSw none).set F.CHT_SWITCH_STATE 0).set F.CHT_SWITCH_LAST_ERR err
  let s2 := s1.chartRecord w.slot
  match w.seq with
  | some q => ((s2.setValue q 0).meets q { status := 0x0A, detail := err }).finish q
  | none => s2

/-- The rings a switch prepares (R29, R100, R125, R295 step 2): those of new channels, and those of dropped channels that have not failed. A ring that
keeps its channel is not prepared, and no ring of a channel that will be DARK is. -/
def State.prepRings (s : State) (specs : List ChanSpec) : List (Nat × Nat × Nat) :=
  (specs.filter fun c => s.present c.writer && s.present c.reader).flatMap fun c =>
    let kept (p : Nat × Nat) : Bool := s.sky.chans.any fun x => c.same x && x.state ≠ 3 && x.rings.contains p
    (c.rings.filter fun p => !kept p && s.get F.TWK_RING_STATE p.1 p.2 ≠ 6).map fun p => (p.1, p.2, c.lambda)

/-- The rings tuned for a switch that has failed released again, those of DARK channels untuned (R29, R298). -/
def State.unprepare (s : State) (w : Switch) : State :=
  let ps := (s.prepRings ((tabGet {} s.cht.slots w.slot).specs w.variant)).map fun p => (p.1, p.2.1)
  (ps.filter fun p => s.ringDark p.1 p.2).foldl (fun t p => t.set F.TWK_RING_STATE 0 p.1 p.2) (s.idleRings (ps.filter fun p => (s.chansOf p.1 p.2).isEmpty))

/-- Step 2 of R295 begins: the added rings are tuned. -/
def State.prepare (s : State) (w : Switch) (auto : Bool) : State :=
  let c := tabGet {} s.cht.slots w.slot
  let s1 := (((s.setSw (some w)).set F.CHT_SWITCH_STATE 1).set F.CHT_SWITCH_POSTPONED 0).set F.CHT_SWITCH_LAST_ERR 0
  let s2 := s1.set F.CHT_SWITCH_AUTO (b2n auto)
  (s2.prepRings (c.specs w.variant)).foldl (fun t p =>
    if t.get F.TWK_RING_STATE p.1 p.2.1 = 4 && t.get F.TWK_RING_LAMBDA p.1 p.2.1 = p.2.2 then t
    else (t.set F.TWK_RING_LAMBDA p.2.2 p.1 p.2.1).set F.TWK_RING_STATE 2 p.1 p.2.1) s2

/-- STAGE_TRANSITS of the slot of a switch (R296). -/
def State.stageN (s : State) (w : Switch) : Nat := s.get F.CHT_SLOT_STAGE_TRANSITS w.slot

/-- The tick at which a switch with AT begins to hold (R295 step 3). -/
def State.holdTick (s : State) (w : Switch) : Nat := w.atT - s.stageN w - 1

/-- Whether the STEP of a slot's valid chart lies above the field ceiling of a tile in service that the schedule of any variant uses (R418). -/
def State.tooFast (s : State) (slot : Nat) : Bool :=
  let c := tabGet {} s.cht.slots slot
  (s.get F.CHT_SLOT_STATE slot = 2 || s.get F.CHT_SLOT_STATE slot = 3) && c.sched.any fun p => p.2.any fun x => decide (x.tile < 24) && s.present x.tile && !s.retired x.tile && decide (s.get F.CLK_DIE_CEIL_FIELD x.tile < c.step)

/-- The checks of R295 step 1 in their order: the LAST_ERR code of the first that fails. A chart that R418 rejects counts as
not valid (DESIGN CHOICE, log entry 202: LAST_ERR has no code for TIMING). -/
def State.switchErr (s : State) (slot : Nat) (v : Option Nat) (at_ : Nat) : Option Nat :=
  let c := tabGet {} s.cht.slots slot
  let st := s.get F.CHT_SLOT_STATE slot
  if (st ≠ 2 && st ≠ 3) || s.tooFast slot then some 1
  else match v with
    | none => some 2
    | some v =>
      let w := c.variants.getD v {}
      if c.variants.length ≤ v || s.retTiles ||| w.retTiles ≠ w.retTiles || s.retMem ||| w.retMem ≠ w.retMem then some 2
      else
        let old := s.sky.chans.map fun c => ({ orbit := c.orbit, wg := c.wg, lambda := c.lambda, writer := c.writer, reader := c.reader,
                                               allpairs := c.allpairs, wring := c.wring, rring := c.rring } : ChanSpec)
        let ts := section_ [] c.tables v
        let named (id : Nat) : Bool := ts.any fun t => decide (t.id = id)
        let kept := s.mems.tables.filter fun t => s.cht.defined.contains t.id && !named t.id
        if !bridges old (c.specs v) then some 3
        else if kept.any fun t => t.ranges.any fun r => (ts.any fun u => u.ranges.any (clash r)) || (c.constell.getD {}).logRanges.any (clash r) then some 4
        else if at_ ≠ 0 && decide (at_ ≤ s.get F.TRN_NUM + s.get F.CHT_SLOT_STAGE_TRANSITS slot + 1) then some 5
        else none

/-- CHART_SWITCH (R295 steps 1 and 2). -/
def execChartSwitch (seq : Nat) (s : State) : Res :=
  live s fun s => s.startRun seq 0x0E fun e t =>
    let (slot, v, at_) := (leAt e.card 16 1, leAt e.card 17 1, leAt e.card 24 8)
    let v := if v = 0xFF then (tabGet {} t.cht.slots slot).cover t.retTiles t.retMem else some v
    let w : Switch := { seq := some seq, slot := slot, variant := v.getD 0, atT := at_ }
    match t.switchErr slot v at_ with
    | some err => ((if t.tooFast slot then t.set F.CHT_SLOT_ERR 17 slot else t).set F.CHT_SWITCH_AUTO 0).switchFail w err
    | none => (t.set F.CHT_SLOT_ERR 0 slot).prepare w false

/-- Whether a switch is owed to a retirement that came during another one (R288). -/
def State.setOwed (s : State) (b : Bool) : State := { s with cht := { s.cht with owed := b } }

/-- The switch a retirement starts by itself (R288), or the chart variant source raised where no variant covers the retired set. While another switch is
under way it is owed (DEDUCED, log entry 190). -/
def State.autoSwitch (s : State) : State :=
  let c := s.cht.chart
  match c.cover s.retTiles s.retMem with
  | none => s.raise 231
  | some v =>
    if v = s.variant || c.builtin then s
    else if s.cht.sw.isSome then s.setOwed true
    else (s.setOwed false).prepare { seq := none, slot := s.get F.CHT_ACTIVE_SLOT, variant := v, atT := 0 } true

/-- A switch owed to a retirement begun, once the other one has ended (R288). -/
def State.oweNoMore (s : State) : State := if s.cht.owed then (s.setOwed false).autoSwitch else s

/-- SWITCH_PREPARE_DONE (R295 step 2, R125): the added rings are confirmed, those of `bad` have failed. -/
def execSwitchPrepareDone (bad : List (Nat × Nat)) (s : State) : Res :=
  live s fun s =>
    match s.cht.sw with
    | none => s
    | some w =>
      if s.get F.CHT_SWITCH_STATE ≠ 1 || w.ready then s
      else
        let rings := s.prepRings ((tabGet {} s.cht.slots w.slot).specs w.variant)
        let s1 := rings.foldl (fun t p =>
          if bad.contains (p.1, p.2.1) then t.set F.TWK_RING_STATE 6 p.1 p.2.1
          else (t.set F.TWK_RING_STATE 4 p.1 p.2.1).set F.TWK_RING_ALIASES 0 p.1 p.2.1) s
        (List.range 44).foldl State.lockEnd (s1.setSw (some { w with ready := true }))

/-- A switch's chart comes into force (R295 step 6): the old slot becomes standby; the card completes in this transit's settle. -/
def State.switchDone (s : State) (w : Switch) : State :=
  let c := tabGet {} s.cht.slots w.slot
  let old := s.get F.CHT_ACTIVE_SLOT
  let s1 := if s.isSet F.CHT_ACTIVE_DEFAULT || old = w.slot then s else s.set F.CHT_SLOT_STATE 2 old
  let s2 := ((s1.set F.CHT_SLOT_STATE 3 w.slot).inForce c (some w.slot) w.variant)
  let s3 := (((s2.setSw none).set F.CHT_SWITCH_STATE 0).add F.CHT_SWITCH_SWITCHES 1).set F.TRN_STAT_STAGING 0
  let s4 := s3.chartRecord w.slot
  let s5 := match w.seq with
    | some q => (s4.setValue q (s4.get F.TRN_NUM)).finish q
    | none => s4
  let v := s5.cht.chart.variants.getD s5.variant {}
  if s5.retTiles ||| v.retTiles = v.retTiles && s5.retMem ||| v.retMem = v.retMem then s5.setOwed false else (s5.setOwed false).autoSwitch

/-- What a tick does to the switch under way (R295 steps 3, 5, 6; R298), after the number has moved; the flag says that dealing stops. -/
def State.switchTick (s : State) : State :=
  match s.cht.sw with
  | none => (s.set F.TRN_STAT_STAGING 0).oweNoMore
  | some w =>
    let n := s.get F.TRN_NUM
    match s.get F.CHT_SWITCH_STATE with
    | 1 =>
      let hold := (s.set F.CHT_SWITCH_STATE 2).set F.TRN_STAT_STAGING 1
      if w.atT = 0 then (if w.ready then hold else s.set F.TRN_STAT_STAGING 0)
      else if n < s.holdTick w then s.set F.TRN_STAT_STAGING 0
      else if w.ready && n = s.holdTick w then hold
      else ((s.unprepare w).switchFail w 5).set F.TRN_STAT_STAGING 0
    | 4 =>
      if w.left = 0 then s.switchDone w
      else
        let s1 := if w.content then s else s.stageContent (tabGet {} s.cht.slots w.slot) w.slot w.variant
        s1.setSw (some { w with left := w.left - 1, content := true })
    | _ => s.set F.TRN_STAT_STAGING 1

/-- A switch put off to the next quiet window (R99, R298): the eighth time in a row, or any with AT, it fails. -/
def State.postpone (s : State) (w : Switch) : State :=
  let s1 := (s.set F.CHT_SWITCH_POSTPONED (s.get F.CHT_SWITCH_POSTPONED + 1)).add F.CHT_SWITCH_POSTPONE_TOTAL 1
  if 8 ≤ s1.get F.CHT_SWITCH_POSTPONED || w.atT ≠ 0 then (s1.unprepare w).switchFail w 6 else s1.set F.CHT_SWITCH_STATE 2

/-- Whether a slow swap pauses its feed in this quiet window (R131). -/
def State.swapPauses (s : State) : Bool := s.light.swaps.any fun w => !w.fast && decide (2 ≤ w.step)

/-- Step 1 of R99 in the quiet window of a switch: stations stop taking packets and ack at once. In the window of a swap the switch is put off (R135). -/
def State.drainStart (s : State) : State :=
  match s.cht.sw with
  | none => s
  | some w =>
    if s.get F.CHT_SWITCH_STATE ≠ 2 then s
    else if s.swapPauses then s.postpone w
    else
      let s1 := s.set F.CHT_SWITCH_STATE 3
      let s2 := (s1.sites.filter fun k => s1.takes k).foldl (fun t k => t.set F.SKY_STN_STATUS_STATE 3 k) s1
      (s2.sky.spaces.filter fun p => decide (0 < p.2.unacked)).foldl (fun t p => t.sendAck (p.1 % 64) (p.1 / 64)) s2

/-- A site's bit of the drain line (R72): nothing in its queues and buffers, and no packet it sent is unacknowledged, one that its source has given up
among them until its restart has cleared it (R86, R89, R99; DEDUCED, log entry 172). -/
def State.drained1 (s : State) (k : Nat) : Bool :=
  (s.stn k).empty && (List.range 44).all fun d => (s.space k d).store.isEmpty && (s.space k d).waits.isEmpty

/-- The drain line (R72): the bits of all present sites. -/
def State.drainLine (s : State) : Bool := s.sites.all s.drained1

/-- The stations that show DRAINING show QUIET (R99 step 2, R525). -/
def State.showQuiet (s : State) : State :=
  (s.sites.filter fun k => s.get F.SKY_STN_STATUS_STATE k = 3).foldl (fun t k => t.set F.SKY_STN_STATUS_STATE 4 k) s

/-- DRAIN_COMPLETE (R99 steps 2 and 3): the drain line is 1; stations show QUIET and switch to the new map. Where the switch has been put off they show
QUIET to the end of the window (R525). -/
def execDrainComplete (s : State) : Res :=
  live s fun s =>
    if s.trn.putOff then
      if s.get F.TRN_STAT_PHASE = 4 && s.drainLine then ({ s with trn := { s.trn with emptied := true } }).showQuiet else s
    else match s.cht.sw with
    | none => s
    | some w =>
      if s.get F.CHT_SWITCH_STATE ≠ 3 || w.mapped || s.get F.TRN_STAT_PHASE ≠ 4 || !s.drainLine then s
      else
        let s1 := s.showQuiet
        let s2 := s1.atLeast (s1.now + 1)
        let s3 := (s2.installMap ((tabGet {} s2.cht.slots w.slot).specs w.variant)).setSw (some { w with mapped := true, left := s2.stageN w })
        { s3 with trn := { s3.trn with drain := some s3.now } }

/-- MAP_SWITCH_RESUME (R99 step 4): 100 ns after the map switch stations take packets again. -/
def execMapSwitchResume (s : State) : Res :=
  live s fun s =>
    match s.trn.drain, s.cht.sw with
    | some t, some w =>
      if !w.mapped then s
      else
        let s1 := s.atLeast (t + 100)
        let s2 := ({ s1 with trn := { s1.trn with drain := none } }).set F.CHT_SWITCH_STATE 4
        s2.resumeStations 4
    | _, _ => s

/-- DRAIN_POSTPONE (R99, R298): the switch no longer fits the window; the eighth in a row, or any with AT, fails it. The stations go back to service
at the end of the window. -/
def execDrainPostpone (s : State) : Res :=
  live s fun s =>
    match s.cht.sw with
    | none => s
    | some w =>
      if s.get F.CHT_SWITCH_STATE ≠ 3 || w.mapped then s
      else { s with trn := { s.trn with putOff := true } }.postpone w

end Sys2Proof.Machine
end

