-- ==== Sys2Proof/Machine/DomOps.lean ====
section
/-! DEFINITION. The shared operations of reset domains: what a reset clears and cuts off (R76, R88, R89, R467 to R471), retirement and
reinstatement (R242, R474). -/

namespace Sys2Proof.Machine

/-! ## Clearing and cutting -/

/-- Every dealt card that is active on a tile cut off (R469). -/
def State.cutTile (s : State) (t : Nat) : State :=
  ((s.entsIn 2).filter fun q => (s.ent q).pipe.isSome && !(s.ent q).finished && bit (s.cardTiles (s.ent q).card) t).foldl State.cutCard s

/-- Barrier contexts with arrivals pending that a site takes part in, released with ABORTED (R71). -/
def State.abortBars (s : State) (k : Nat) : State :=
  (List.range 32).foldl (fun t ctx =>
    let d := (section_ [] t.cht.chart.barriers t.variant).getD ctx ({} : BarDef)
    if d.valid && bit d.sites k then t.barAbort ctx else t) s

/-- The engine jobs of an MBD, under way or waiting in its mailbox, end with ABORTED (R248). -/
def State.abortJobs (s : State) (m : Nat) : State :=
  let x := s.stn (24 + m)
  let l := x.mailbox.filter fun q => decide (q.2.1 = 1)
  let s1 := s.setStn (24 + m) { x with mailbox := x.mailbox.filter fun q => decide (q.2.1 ≠ 1) }
  let s2 := s1.setJobs (s1.cmp.jobs.map fun (j : Job) => if j.mbd = m then { j with status := 6, waits := [] } else j)
  l.foldl (fun t q =>
    let id := t.cmp.next
    let n := leAt q.2.2 36 2
    let j : Job := { id := id, mbd := m, src := q.1, notify := n % 64, box := n / 64 % 64, tag := leAt q.2.2 40 8, status := 6 }
    { t with cmp := { t.cmp with jobs := t.cmp.jobs ++ [j], next := id + 1 } }) s2

/-- What a die in reset loses beside its registers (R162, R235, R248, R400, R469): a tile its cards and passes, an MBD its jobs and Sweep reads, a chiplet its
transmit stores. A forward that had not
left leaves its shard DEGRADED (R242). `lightToo`: its Firmament site resets with it. -/
def State.dieLost (s : State) (k : Nat) (lightToo : Bool) : State :=
  let x := s.stn k
  let s1 := x.backlog.foldl (fun t q => if q.fwd = none then t else (t.degradeAt q.addr).forwardDone k q) (s.setStn k { x with backlog := [] })
  if k < 24 then ((s1.cutTile k).dropRuns k).omuReset k lightToo
  else if k < 36 then
    let s2 := { s1 with mems := { s1.mems with sweeping := s1.mems.sweeping.filter fun p => decide (regionOf (p.1 * 64) ≠ Region.hbm (k - 24)) } }
    s2.abortJobs (k - 24)
  else if k < 40 then s1.chipletLost k
  else s1

/-- A station's own state lost in its reset: queues, relay buffers, the reorder store, what it was serialising (R467, R471). The flags it has
published stand on the Trump wires, which only a device reset resets (R68). -/
def State.stationLost (s : State) (k : Nat) : State :=
  let x := s.stn k
  let s1 := s.setStn k { x with q0 := [], q1 := [], q2 := [], q3 := [], r0 := [], r1 := [], acc0 := true, acc1 := true, robin := [], stall := [] }
  let s2 := (List.range 44).foldl (fun t y => if (t.space y k).held.isEmpty then t else t.setSpace y k { t.space y k with held := [] }) s1
  { s2 with sky := { s2.sky with chans := s2.sky.chans.map fun c => if c.writer = k then { c with busy := false } else c } }

/-- Step 1 of the restart that a station's new GEN begins (R88, R89): ejection closed, every space to and from the site closed. -/
def State.beginRestart (s : State) (k : Nat) : State :=
  let gen := s.get F.FLT_DOM0_GEN (84 + k)
  let s1 := (s.set F.SKY_STN_STATUS_GEN gen k).set F.SKY_DLV_EJECT_CLOSED 1 k
  let s2 := ((List.range 44).filter fun y => decide (y ≠ k)).foldl (fun t y => t.closePair k y) s1
  let old := s2.sky.restarts.filter fun r => !(r.scopeOne && decide (r.a = k))
  { s2 with sky := { s2.sky with restarts := old ++ [⟨true, k, k, gen, s2.now, []⟩] } }

/-- The channels to and from a site suspended until its rings are confirmed again (R122, R127): its rings wait in IDCHECK with their codes (R137). -/
def State.suspendSite (s : State) (k : Nat) : State :=
  let s1 := ((List.range 1024).filter fun i => let st := s.get F.TWK_RING_STATE k i
    st = 4 || st = 5).foldl (fun t i => t.set F.TWK_RING_STATE 3 k i) s
  let mine (n : Nat) : Bool := decide (n / 1024 = k)
  let s2 := s1.setLight { s1.light with
    relocks := s1.light.relocks.filter (fun r => !mine r.ring), reading := s1.light.reading.filter fun n => !mine n, again := s1.light.again.filter fun n => !mine n }
  s2.watchPairs fun t => { t with sky := { t.sky with chans := t.sky.chans.map fun c =>
    if c.state = 1 && (decide (c.writer = k) || decide (c.reader = k)) then { c with state := 2 } else c } }

/-! ## Retirement (R242, R474) -/

/-- A shard that loses stack `m` (R242): it goes on with the copy that lives; a rebuild from a lost copy is given up. -/
def Shard.lose (sh : Shard) (m : Nat) : Shard :=
  let twin := decide (sh.mirror ≠ 0xFF)
  if twin && sh.state = 3 && sh.engine = m then { sh with state := 2, mirror := 0xFF, mbase := 0, lost := 2 }
  else if twin && (sh.state = 1 || sh.state = 3) && (decide (sh.engine = m) || decide (sh.mirror = m)) then
    { sh with state := 2, lost := if sh.engine = m then 1 else 2 }
  else sh

/-- A shard whose stack `m` is back (R242, "Reinstatement"): REBUILDING from the copy that lives. -/
def Shard.regain (sh : Shard) (m : Nat) : Shard :=
  if sh.state = 2 && decide (sh.mirror ≠ 0xFF) then
    if sh.mirror = m && sh.lost = 2 then { sh with state := 3, lost := 0 }
    else if sh.engine = m && sh.lost = 1 then
      { sh with state := 3, engine := sh.mirror, base := sh.mbase, mirror := m, mbase := sh.base, lost := 0 }
    else sh
  else sh

/-- Every shard of the directory changed. -/
def State.mapShards (s : State) (f : Shard → Shard) : State :=
  s.setTables (s.mems.tables.map fun t => { t with shards := t.shards.map f })

/-- FLT_RETIRED's bit of a site (R479). -/
def State.markRetired (s : State) (k : Nat) (on : Bool) : State :=
  let put (f : Fld) (i : Nat) (t : State) : State :=
    let v := t.get f
    t.set f (if bit v i = on then v else if on then v + 2 ^ i else v - 2 ^ i)
  if k < 24 then put F.FLT_RETIRED_TILE k s
  else if k < 36 then put F.FLT_RETIRED_MEM (k - 24) s
  else if k < 40 then put F.FLT_RETIRED_XIO (k - 36) s
  else s

/-- The RETIRE record and source 247 (R332, R474). -/
def State.tellRetired (s : State) (kind index : Nat) : State :=
  let c := packBits [(0, 2, kind), (2, 8, index)]
  (match domSite index, kind with
   | some k, 0 => s.record 4 k c
   | _, 1 => s.record 4 index c
   | _, 2 => s.record 4 (24 + index) c
   | _, 3 => s.record 4 (36 + index) c
   | _, _ => s.recordAny 4 c).raise 247

/-- Domains set to RETIRED, absent ones apart. -/
def State.setRetired (s : State) (ds : List Nat) : State :=
  ds.foldl (fun t d => if t.get F.FLT_DOM0_STATE d = 4 then t else t.set F.FLT_DOM0_STATE 3 d) s

/-- The forwards that wait for a memory site's ack let go (R242): its shards have lost that copy. -/
def State.freeForwards (s : State) (k : Nat) : State :=
  (s.sky.spaces.filter fun p => decide (p.1 % 64 = k)).foldl (fun t p =>
    (p.2.store ++ p.2.waits).foldl (fun u e => u.forwardDone (p.1 / 64) e.req) t) s

/-- A retired site's station loses what it held (R95): its packets and reads, and the reads that others await from it, end with ABORTED for their agents, so
that no fence waits for them (DESIGN CHOICE, log entry 173). -/
def State.retireStation (s : State) (k : Nat) : State :=
  ((((s.restartAt k true k k (s.get F.SKY_STN_STATUS_GEN k) false).set F.SKY_DLV_RESTAT_DONE (s.get F.SKY_DLV_RESTAT_DONE k) k).stationLost k).endAllFences k).cutReadsOf k

/-- A site retired with every domain of it (R474): its stack's shards degraded, its ports down, the covering variant switched in. -/
def State.retireSite (s : State) (k : Nat) : State :=
  if !s.present k || s.get F.SKY_STN_STATUS_STATE k = 6 then s
  else
    let s0 := (((s.setRetired (siteDoms k)).markRetired k true).set F.SKY_STN_STATUS_STATE 6 k).set F.SKY_DLV_DIE_DIE_DOWN 1 k
    let s1 := (if 24 ≤ k && k < 36 then s0.mapShards fun sh => sh.lose (k - 24) else s0).retireStation k
    let s2 := if k < 24 then (s1.omuRetire k).tellRetired 1 k
      else if k < 36 then (s1.freeForwards k).tellRetired 2 (k - 24)
      else if k < 40 then (s1.chipletLost k).tellRetired 3 (k - 36)
      else s1.tellRetired 0 (24 + k)
    if k < 36 && s2.inService then s2.autoSwitch else s2

/-- A front end retired (R355, R474): the standby's leaves the Dealer alone, the Dealer's hands its role to the standby. -/
def State.retireFront (s : State) (h : Nat) : State :=
  let fe := s.get F.FLT_RETIRED_FE
  let s1 := ((s.set F.FLT_RETIRED_FE (if bit fe h then fe else fe + 2 ^ h)).set F.FLT_DOM0_STATE 3 (frontDom h)).tellRetired 0 (frontDom h)
  if s1.get F.TAL_STAT_DEALER_HUB = h then s1 else s1.loseDummy

/-- The Croupier retired: the part enters Fold (R474). -/
def State.retireCroupier (s : State) : State :=
  (((s.set F.FLT_DOM0_STATE 3 130).set F.MGT_STAT_CROUPIER 2).tellRetired 0 130).enterFold 243

/-- A domain retired. -/
def State.retireDom (s : State) (d : Nat) : State :=
  match domSite d with
  | some k => s.retireSite k
  | none => if d = 130 then s.retireCroupier else if d = 128 || d = 129 then s.retireFront (d - 128) else s

/-- A counted reset of a domain: the third within 60 s retires it (R474). -/
def State.escalate (s : State) (d : Nat) : State :=
  let n := s.get F.FLT_DOM0_WINDOW d + 1
  let s1 := (s.set F.FLT_DOM0_WINDOW (satTo 3 n) d)
  let s2 := { s1 with flt := { s1.flt with window := s1.flt.window ++ [(d, s1.now)] } }
  if 3 ≤ n then s2.retireDom d else s2

/-! ## Coming back -/

/-- Whether the rings of the part are lit: the light is on, or its start has reached step 8 (R112, R525). -/
def State.ringsLit (s : State) : Bool := s.get F.TWK_STAT_LIGHT = 2 || s.get F.TWK_STAT_LIGHT = 3 || s.light.step = 8

/-- A site's electronics out of reset (R127, R470 steps 3 and 4, R525): its rings relock from their codes. -/
def State.siteBack (s : State) (k : Nat) : State :=
  let s1 := (s.set F.FLT_DOM0_STATE 0 (24 + k)).set F.FLT_DOM0_STATE 0 (84 + k)
  if s1.ringsLit then ((s1.set F.SKY_STN_STATUS_STATE (s1.serviceShows k) k).relockSite k).lightOn else s1.set F.SKY_STN_STATUS_STATE 0 k

/-- A station out of reset (R467, R525). -/
def State.stationBack (s : State) (k : Nat) : State :=
  let s1 := s.set F.FLT_DOM0_STATE 0 (84 + k)
  if s1.ringsLit then
    (((s1.lockEnd k).set F.SKY_STN_STATUS_STATE (s1.serviceShows k) k).readmit k).pump k
  else s1.set F.SKY_STN_STATUS_STATE 0 k

/-- A die out of reset: in service where its site is, else fenced off (R467, R470). -/
def State.dieBack (s : State) (d k : Nat) : State :=
  let s1 := (s.set F.FLT_DOM0_STATE 2 d).liftFence k
  if 36 ≤ k && decide (k < 40) then
    ((List.range 8).map fun j => 8 * (k - 36) + j).foldl (fun t p => if t.portNamed p then t.train p else t) s1
  else (s1.readmit k).pump k

/-- A retired site brought back with every domain of it (R474): its spaces restart (R89; log entry 173), its rings relock, its stack is rebuilt, the covering
variant is switched in. -/
def State.reinstateSite (s : State) (k : Nat) : State :=
  let s1 := (siteDoms k).foldl (fun t d => if t.get F.FLT_DOM0_STATE d = 3 then (t.set F.FLT_DOM0_STATE 0 d).set F.FLT_DOM0_WINDOW 0 d else t) s
  let s2 := { s1 with flt := { s1.flt with window := s1.flt.window.filter fun p => domSite p.1 ≠ some k } }
  let s3 := ((s2.markRetired k false).beginRestart k).siteBack k
  let s4 := match dieDom k with
    | some d => s3.dieBack d k
    | none => s3
  let s5 := if 24 ≤ k && decide (k < 36) then s4.mapShards fun sh => sh.regain (k - 24) else if k < 24 then s4.omuRevive k else s4
  if k < 36 && s5.inService then s5.autoSwitch else s5

/-- REINSTATE of a domain index (R474, R479): only a retired domain comes back. -/
def State.reinstate (s : State) (d : Nat) : State :=
  if s.get F.FLT_DOM0_STATE d ≠ 3 then s
  else match domSite d with
    | some k => s.reinstateSite k
    | none =>
      let s1 := (s.set F.FLT_DOM0_STATE 0 d).set F.FLT_DOM0_WINDOW 0 d
      let s2 := { s1 with flt := { s1.flt with window := s1.flt.window.filter fun p => p.1 ≠ d } }
      if d = 130 then s2.set F.MGT_STAT_CROUPIER 0
      else
        let s3 := s2.set F.FLT_RETIRED_FE (s2.get F.FLT_RETIRED_FE - 2 ^ (d - 128))
        { s3 with tally := { s3.tally with noDummy := false } }

end Sys2Proof.Machine
end

