-- ==== Sys2Proof/Machine/Transits.lean ====
section
/-! DEFINITION. Meanings of the transit's commands: ticks, phases, the quiet window, the Pole and its followers (R259 to R272, R402 to R404). -/

namespace Sys2Proof.Machine

/-- The transit's bookkeeping replaced. -/
def State.setTrn (s : State) (x : Transit) : State := { s with trn := x }

/-! ## The Pole and its followers -/

/-- Whether the part follows a Pole: its role, or a Pole that heard its successor (R268, R404). -/
def State.follows (s : State) : Bool := s.get F.TRN_CFG_ROLE = 2 || (s.get F.TRN_CFG_ROLE = 1 && s.cmt.yields)

/-- Whether the part sends Pole frames: the Pole, once it has listened, or an acting successor (R268, R404). -/
def State.poles (s : State) : Bool :=
  (s.get F.TRN_CFG_ROLE = 1 && !s.cmt.listening && !s.cmt.yields) || s.cmt.acting

/-- TIME, TRANSIT and FLAGS as bytes, most significant first (R269). -/
def tsyncBody (time transit flags : Nat) : List Byte := natBe 8 time ++ natBe 8 transit ++ [BitVec.ofNat 8 flags]

/-- The 160 bits of a TSYNC frame (R269). -/
def tsyncBits (time transit flags : Nat) : Nat :=
  let b := tsyncBody time transit flags
  beNat ([0xD5] ++ b ++ natBe 2 (crc16 b))

/-- A TIMING frame to a peer on its ordered path (R402): TIME, TRANSIT, FLAGS, and the departure time. -/
def State.sendTiming (s : State) (peer time transit flags depart : Nat) : State :=
  match (s.sess peer).ord with
  | some p => s.sendOn peer p { kind := 3, len := 32, payload := natLe 32 (packBits [(0, 64, time), (64, 64, transit), (128, 8, flags), (136, 64, depart)]) }
  | none => s

/-- The frames of a tick (R268, R298, R402, R404). -/
def State.sendTick (s : State) (switch : Bool) : State :=
  if !s.poles then s
  else
    let flags := b2n s.cmt.acting + 2 * b2n switch
    let n := s.get F.TRN_NUM
    let s1 := if s.get F.TRN_CFG_ROLE = 1 || s.cmt.acting then s.emit (.tsync (tsyncBits s.now n flags)) else s
    (s1.con.peers.filter fun p => p.member).foldl (fun t p => t.sendTiming p.part t.now n flags t.now) s1

/-- The time base set to `time`, the times of the transit under way carried over to it: what was some time ago stays that long ago (R270). -/
def State.rebase (s : State) (time : Nat) : State :=
  let mv (n : Nat) : Nat := n + time - s.now
  { s with
    now := time
    clk := { s.clk with stretch := s.clk.stretch.map fun p => (p.1, p.2 + time * 110880 - s.now * 110880) }
    trn := { s.trn with
      tick := mv s.trn.tick, runEnd := mv s.trn.runEnd, settled := mv s.trn.settled, quietAt := mv s.trn.quietAt
      pauseEnd := mv s.trn.pauseEnd, lockAt := mv s.trn.lockAt, drain := s.trn.drain.map mv, ends := s.trn.ends.map fun p => (p.1, mv p.2) } }

/-- A frame of a Pole or a successor taken (R270, R272, R404): `time` is the Pole's time base at its tick edge corrected by the path's delay,
`succ` says whether a successor sent it. -/
def State.poleFrame (s : State) (time transit : Nat) (succ : Bool) : State :=
  if s.cmt.acting && succ then s
  else
    let s0 := if s.cmt.acting then ({ s with cmt := { s.cmt with acting := false } }).set F.TRN_STAT_SYNC 1 else s
    let locked := s0.get F.TRN_STAT_SYNC = 2
    if locked && !s0.trn.succ && succ then s0
    else
      let off : Int := (s0.now : Int) - (time : Int)
      let s1 := s0.set F.TRN_TSYNC_OFFSET (ofSigned 16 off)
      let good := if transit = s1.trn.lastT + 1 then s1.trn.good + 1 else 1
      let s2 := s1.setTrn { s1.trn with good := good, lastT := transit, hold := 0 }
      let s3 := s2.rebase time
      if locked then s3.setTrn { s3.trn with poleAt := time, succ := succ }
      else if 4 ≤ good then (s3.setTrn { s3.trn with poleAt := time, succ := succ, lockAt := time }).set F.TRN_STAT_SYNC 2
      else s2

/-- A frame of a successor heard by a Pole that listens (R404). -/
def State.hear (s : State) (flags : Nat) : State :=
  if s.cmt.listening && bit flags 0 then { s with cmt := { s.cmt with heard := true } } else s

/-- TSYNC_FRAME (R269, R270, R403, R404): a frame on TSYNC_IN; a bad CRC is counted. A follower of TSYNC takes it and repeats it on TSYNC_OUT; one locked
over Comet for 1 s measures its edge; a listening Pole notes a successor's. -/
def execTsyncFrame (f : TsyncFrame) (s : State) : Res :=
  live s fun s =>
    if !s.inService || !s.follows then
      (if crc16 (tsyncBody f.time f.transit f.flags) = f.crc then s.hear f.flags else s)
    else
      let s0 := s.emit (.tsync (beNat ([0xD5] ++ tsyncBody f.time f.transit f.flags ++ natBe 2 f.crc)))
      if crc16 (tsyncBody f.time f.transit f.flags) ≠ f.crc then s0.add F.TRN_STAT_FRAME_ERR 1
      else if s0.get F.TRN_CFG_SOURCE = 0 then s0.poleFrame (f.time + s0.get F.TRN_TSYNC_DELAY_NS) f.transit (bit f.flags 0)
      else if s0.get F.TRN_STAT_SYNC = 2 && decide (s0.trn.lockAt + 1000000000 ≤ s0.now) then s0.set F.CMT_TIMING_TSYNC_NS (ofSigned 16 ((s0.now : Int) - (f.time : Int)))
      else s0

/-- One exchange finished (R402): the delay computed, the minimum of the last 16 applied, their spread reported. -/
def State.exchange (s : State) (d : Int) : State :=
  let l := (s.cmt.delays ++ [d]).drop ((s.cmt.delays.length + 1) - 16)
  let lo := l.foldl min d
  let hi := l.foldl max d
  let s1 := { s with cmt := { s.cmt with delays := l, asked := none } }
  (s1.set F.CMT_TIMING_PATH_NS lo.toNat).set F.CMT_TIMING_JITTER_NS (hi - lo).toNat

/-- TIMING (R272, R402): at a follower the Pole's tick or its answer to an exchange; at the Pole a follower's exchange, answered with its arrival
time. An answer carries TIME and TRANSIT 0. -/
def execTiming (port : Nat) (f : Frame) (fcsOk : Bool) (s : State) : Res :=
  live s fun s => s.recvFrame port 3 0 f fcsOk fun peer t =>
    let (time, transit, flags, at_) := (leAt f.payload 0 8, leAt f.payload 8 8, leAt f.payload 16 1, leAt f.payload 17 8)
    if t.follows || t.cmt.acting then
      if time = 0 && transit = 0 then
        match t.cmt.there, t.cmt.asked with
        | some d, some t3 => t.exchange ((d + ((at_ : Int) - (t3 : Int))) / 2)
        | _, _ => t
      else
        let t1 := { t with cmt := { t.cmt with there := some ((t.now : Int) - (at_ : Int)) } }
        if t1.inService && (t1.get F.TRN_CFG_SOURCE = 1 || t1.cmt.acting) then
          t1.poleFrame (time + t1.get F.CMT_TIMING_PATH_NS + t1.get F.TRN_TSYNC_DELAY_NS) transit (bit flags 0)
        else t1
    else if t.poles then t.sendTiming peer 0 0 0 t.now
    else t.hear flags

/-- TIMING_EXCHANGE (R402): every 1 ms a follower sends the Pole its departure time. -/
def execTimingExchange (s : State) : Res :=
  live s fun s =>
    if s.follows && (s.peerDef s.con.pole).isSome then
      let s1 := { s with cmt := { s.cmt with asked := some s.now } }
      s1.sendTiming s1.con.pole s1.now (s1.get F.TRN_NUM) 0 s1.now
    else s

/-- TSYNC_TIMEOUT (R272): no valid frame within 1 µs of the expected tick. -/
def execTsyncTimeout (s : State) : Res :=
  live s fun s =>
    if s.follows && s.get F.TRN_STAT_SYNC = 2 then
      let s1 := (s.atLeast (s.trn.poleAt + s.periodNs + 1000)).set F.TRN_STAT_SYNC 3
      s1.setTrn { s1.trn with good := 0, hold := 0 }
    else s

/-- HOLDOVER_EXPIRY (R272): 16 transits without frames; an acting successor, which ticks from its own time base, is not lost (R404). -/
def execHoldoverExpiry (s : State) : Res :=
  live s fun s =>
    if s.get F.TRN_STAT_SYNC = 3 && decide (16 ≤ s.trn.hold) && !s.cmt.acting then (s.set F.TRN_STAT_SYNC 4).raise 230 else s

/-- SUCCESSOR_TAKEOVER (R404): the successor has been in HOLDOVER for 4 transits. -/
def execSuccessorTakeover (s : State) : Res :=
  live s fun s =>
    let c := s.con
    if s.get F.TRN_STAT_SYNC = 3 && decide (4 ≤ s.trn.hold) && decide (c.successor = c.partId) && decide (c.pole ≠ c.partId) then
      { s with cmt := { s.cmt with acting := true } }
    else s

/-- POLE_LISTEN_DONE (R404): two periods after its start a Pole that heard no SUCCESSOR frame sends; one that did follows. `heard` says so of frames that no
command brought. -/
def execPoleListenDone (heard : Bool) (s : State) : Res :=
  live s fun s =>
    if s.cmt.listening then
      let yields := heard || s.cmt.heard
      let s0 := s.atLeast (s.cmt.listenAt + 2 * s.periodNs)
      let s1 := { s0 with cmt := { s0.cmt with listening := false, heard := false, yields := yields } }
      if yields then s1.set F.TRN_STAT_SYNC 1 else s1
    else s

/-! ## Ticks -/

/-- A transit's lateness (R266, R267): counted, kept, and noted where it is not 0; the source is raised while three of the last 64 were late. -/
def State.lateness (s : State) (late : Nat) : State :=
  let is := decide (0 < late)
  let l := (s.trn.lates ++ [is]).drop ((s.trn.lates.length + 1) - 64)
  let n := (l.filter fun b => b).length
  let s1 := ((s.setTrn { s.trn with lates := l }).set F.TRN_STAT_LATE (b2n is)).set F.TRN_STAT_LATE64 n
  if is then
    let s2 := ((s1.add F.TRN_LATE 1).mark F.TRN_LATE_MAX_NS late).recordAny 6 (late % 2 ^ 32)
    if 3 ≤ n then s2.raise 229 else s2
  else s1

/-- Whether anything keeps the quiet window from ending: a swap pause in progress, a drain not yet put off (R99, R266). -/
def State.windowHeld (s : State) : Bool :=
  s.light.swaps.any (fun w => !w.fast && decide (2 ≤ w.step)) || s.get F.CHT_SWITCH_STATE = 3 || s.trn.drain.isSome

/-- The end of a quiet window in which a switch was put off: traffic resumes under the old map (R99). -/
def State.endPutOff (s : State) : State :=
  if s.trn.putOff then (({ s with trn := { s.trn with putOff := false, emptied := false } }).resumeStations 3).resumeStations 4 else s

/-- The tick's own work (R99, R124, R237, R261, R295, R354, R364, R414): the number, flips, clocks, the switch, a fresh schedule. In a takeover the tiles
discard the work of the failed transit. -/
def State.newTransit (s : State) (num tick : Nat) : State :=
  let cut := if s.tally.takeover.isSome then (List.range 24).foldl State.dropRuns s else s
  let s0 := cut.endPutOff.endLocate.backSome
  let s1 := (s0.set F.TRN_NUM num).set F.TRN_STAT_PHASE 0
  let s2 := s1.setTrn { s1.trn with tick := tick, runOver := [], fenced := [], ends := [], started := [], ended := [] }
  let s3 := { s2 with sky := { s2.sky with released := [], broken := [] } }
  s3.flipAll.swapPrimaries.clockTick.switchTick

/-- TRANSIT_TICK (R260, R261, R266, R270, R271): the next transit starts. -/
def execTransitTick (s : State) : Res :=
  live s fun s =>
    let first := s.get F.TRN_STAT_PHASE = 5
    if !s.inService || s.boot.halt || !(first || s.get F.TRN_STAT_PHASE = 4) || s.windowHeld then s
    else
      let floor := if first then s.now else max (max s.now (s.trn.quietAt + 500)) s.trn.pauseEnd
      let epoch := s.cht.epoch
      if s.follows && s.get F.TRN_STAT_SYNC = 2 then
        if s.trn.lastT = s.get F.TRN_NUM then s
        else
          let s1 := s.atLeast (max floor s.trn.poleAt)
          let s2 := s1.lateness (if first then 0 else s1.now - s1.trn.poleAt)
          s2.newTransit s2.trn.lastT s2.trn.poleAt
      else
        let due := s.trn.tick + s.periodNs
        let s1 := s.atLeast (if first then floor else max floor due)
        let s2 := s1.lateness (if first then 0 else s1.now - due)
        let s3 := s2.setTrn { s2.trn with hold := if s2.get F.TRN_STAT_SYNC = 3 then s2.trn.hold + 1 else s2.trn.hold }
        let s4 := s3.newTransit ((s3.get F.TRN_NUM + 1) % 2 ^ 64) s3.now
        s4.sendTick (decide (s4.cht.epoch ≠ epoch))

/-! ## Phases -/

/-- The nominal end of the run phase, E after the tick (R261). -/
def State.nominalE (s : State) : Nat := s.trn.tick + (s.periodNs - s.quietNs - s.settleNs)

/-- RUN_PHASE_START (R261): 1.5 µs after the tick. -/
def execRunPhaseStart (s : State) : Res :=
  live s fun s =>
    if s.get F.TRN_STAT_PHASE ≠ 1 then s
    else
      let s1 := (List.range 24).foldl State.accrue (s.atLeast (s.trn.tick + 1500))
      (s1.setTrn { s1.trn with stretch := [] }).set F.TRN_STAT_PHASE 2

/-- A region's slack and stretch in a transit (R265): the lowest slack, an overrun where it is negative, the time stretched periods added. -/
def State.slack (s : State) (t : Nat) : State :=
  let s1 := s.accrue t
  let s2 := s1.add F.TRN_SLACK_STRETCH_NS (tabGet 0 s1.trn.stretch t / 110880) t
  if !s2.trn.ends.any fun p => decide (p.1 = t) then s2
  else
    let allowed := s2.trn.tick + 1500 + s2.budgetNs
    let end_ := tabGet 0 s2.trn.ends t
    if s2.isSet F.TRN_CTRL_FREEZE then s2
    else if allowed < end_ then (s2.add F.TRN_SLACK_OVERRUNS 1 t).set F.TRN_SLACK_MIN_NS 0 t
    else if allowed - end_ < s2.get F.TRN_SLACK_MIN_NS t then s2.set F.TRN_SLACK_MIN_NS (allowed - end_) t else s2

/-- RUN_PHASE_END (R98, R261, R265, R266, R285, R398): a site's run phase ends, not before E, nor while an entry of its tile runs or is still to start:
its implicit fence, its slack, its gateway blocks. -/
def execRunPhaseEnd (site : Nat) (s : State) : Res :=
  live s fun s =>
    if s.get F.TRN_STAT_PHASE ≠ 2 || !s.present site || s.trn.runOver.contains site || s.working site then s
    else
      let s1 := s.atLeast s.nominalE
      let s2 := if site < 24 then s1.slack site else s1
      let s3 := (s2.cmt.gws.filter fun g => decide (g.site = site)).foldl State.gwSend s2
      let s4 := s3.setTrn { s3.trn with runOver := keyPut s3.trn.runOver site, runEnd := s3.now }
      s4.issueFence site .dealer .all none true

/-- SETTLE_START (R98, R261, R351, R392): once every present station's implicit fence has completed and Comet holds no unacknowledged frame of the
run phase. -/
def execSettleStart (s : State) : Res :=
  live s fun s =>
    if s.get F.TRN_STAT_PHASE ≠ 2 || !(s.sites.all fun k => s.trn.fenced.contains k) || !s.cometQuiet s.trn.runEnd then s
    else
      let s1 := (s.atLeast s.nominalE).settle
      s1.setTrn { s1.trn with settled := s1.now }

/-! ## The quiet window -/

/-- Whether the window that opens has room for a task of `n` ns before the next tick falls (R266): the nominal tick, or the shortest window's end. -/
def State.fits (s : State) (n : Nat) : Bool := decide (s.trn.quietAt + n ≤ max (s.trn.tick + s.periodNs) (s.trn.quietAt + 500))

/-- Row repairs of a window (R236, R266): none in one shorter than the 2 µs a repair may take, so they wait for the next; else at most one for each stack, entered in the Almanac's repair list (its bytes a DESIGN CHOICE, log entry 156), its row clean of errors from here; a stack whose banks have no spare row for it
counts the failure, and its row stays in use. -/
def State.repairRows (s : State) (spent : List Nat) : State :=
  if !s.fits 2000 then s
  else (List.range 12).foldl (fun t m =>
    match t.mems.repair.find? fun p => decide (p.1 = m) with
    | none => t
    | some p =>
      let t1 := { t with mems := { t.mems with repair := t.mems.repair.erase p } }
      if spent.contains m || t1.get F.MBD_REPAIR_FREE m = 0 then ((t1.bump F.MBD_REPAIR_FAIL m).set F.MBD_REPAIR_EXHAUSTED 1 m).raise (68 + m)
      else
        let used := t1.get F.MBD_REPAIR_USED m
        let t2 := { t1 with mems := { t1.mems with
          repaired := t1.mems.repaired ++ [p]
          ceSeen := t1.mems.ceSeen.filter fun q => !(decide (regionOf (q.1 * 64) = Region.hbm m) && decide (Config.hbmRow q.1 = p.2)) } }
        ((((t2.lifeAdd (0x408C + 16 * m) 1).almWrite) (0x09000000 + 8192 * m + 8 * used) (natLe 8 p.2)).set F.MBD_REPAIR_USED (used + 1) m).set F.MBD_REPAIR_FREE (t1.get F.MBD_REPAIR_FREE m - 1) m) s

/-- The host window as written takes effect (R306). -/
def State.applyHwin (s : State) : State :=
  if s.isSet F.DLR_STAT_HWIN_PENDING then
    ({ s with host := { s.host with base := s.get F.DLR_HWIN_BASE * 2 ^ 30, gib := s.get F.DLR_HWIN_SIZE_GIB } }).set F.DLR_STAT_HWIN_PENDING 0
  else s

/-- Whether a shadow pool of a stack may be installed (R357): inside the data area, on no table copy. -/
def State.poolOk (s : State) (m base size : Nat) : Bool :=
  size = 0 || (decide (base + size ≤ 72) && !reservedOff m (base * 2 ^ 30) && !reservedOff m ((base + size) * 2 ^ 30 - 1) &&
    (s.mems.tables.all fun t => t.ranges.all fun r => !clash (m * stackSize + base * 2 ^ 30, size * 2 ^ 30) r))

/-- Pool writes take effect (R357). -/
def State.installPools (s : State) : State :=
  let s1 := s.hands.poolPend.foldl (fun (t : State) m =>
    let (b, n) := (t.get F.HND_POOL_BASE_GIB m, t.get F.HND_POOL_SIZE_GIB m)
    if t.poolOk m b n then { t with hands := { t.hands with pools := tabPut (0, 0) t.hands.pools m (b, n) } }
    else t.set F.HND_STAT_POOL_ERR 1) s
  { s1 with hands := { s1.hands with poolPend := [] } }

/-- A written EtherType takes effect (R407). -/
def State.applyEtype (s : State) : State :=
  if s.cmt.etypePend then { s with cmt := { s.cmt with etype := s.get F.CMT_ETYPE, etypePend := false } } else s

/-- QUIET_WINDOW_OPEN (R262, R266, R353): when settle ends, S after it began and with the copy acknowledged, the window's tasks run in their order. A commissioning capture waits for a
window of its full length (DESIGN CHOICE, log entry 189). -/
def execQuietWindowOpen (q : QuietReport) (s : State) : Res :=
  live s fun s =>
    if s.get F.TRN_STAT_PHASE ≠ 3 || s.tally.copyWait then s
    else
      let s1 := (s.atLeast (s.trn.settled + s.settleNs)).set F.TRN_STAT_PHASE 4
      let s2 := s1.setTrn { s1.trn with quietAt := s1.now }
      let s3 := (s2.startPauses (s2.trn.tick + s2.periodNs - s2.quietNs)).drainStart
      let s4 := ((s3.loadDividers).locateAll q.locate).repairRows q.spent
      let s5 := if s4.fits s4.quietNs then s4.takeReference q.taps else s4
      s5.installWins.applyHwin.installPools.applyEtype.applyEgress

end Sys2Proof.Machine
end

