-- ==== Sys2Proof/Machine/BootOps.lean ====
section
/-! DEFINITION. The shared operations of starts and stops: what power-on loads, what a power loss leaves, what each boot step does (R452, R454, R458 to
R463, R477, R508, R518 to R521). -/

namespace Sys2Proof.Machine

/-! ## Power -/

/-- Values loaded into fields of a list, each given by its register's BAR0 offset and its lowest bit. -/
def State.loadFlds (s : State) (ok : Fld → Bool) (l : List (Nat × Nat × Nat)) : State :=
  l.foldl (fun t x => match regAt x.1 with
    | some (r, i, j) => match r.flds.find? fun f => decide (f.lsb = x.2.1) && ok f with
      | some f => t.set f x.2.2 i j
      | none => t
    | none => t) s

/-- What a power loss leaves of a command of the Almanac that was running (R452, R491, R493): of a PROGRAM an image that is not valid, of a GUARD_UPDATE the copy it
wrote over erased, of a SAVE_LIFE a record begun in its slot, its header alone written. An erasing command cut off has erased nothing (DESIGN CHOICE, log entry 214). -/
def State.cutWrite (s : State) : State :=
  match s.mgt.cmd with
  | some (c, cr) =>
    if s.get F.ALM_STAT_STATE ≠ 1 then s
    else if c = 2 && decide ((s.almDo 2 cr 0).2 = 0) then s.setValid s.idle 0
    else if c = 5 && decide ((s.almDo 5 cr 0).2 = 0) then s.almEraseN (guardAt s.guardOlder) 1
    else if c = 6 then
      let s1 := { s with mgt := { s.mgt with lifeSeq := s.mgt.lifeSeq + 1 } }
      let t := s1.recPut lifeKind s1.mgt.lifeSeq (s1.recHead lifeKind.magic lifeKind.len s1.lifeBody)
      { t with mgt := { t.mgt with lifeSeq := s.mgt.lifeSeq } }
    else s
  | none => s

/-- The part stopped (R452 step 4, R454, R477): only what lies in the Almanac is left; change-log entries not yet written are lost, and so is what changed while its
temperature lay outside the window (R450). -/
def State.powerOff (s0 : State) (p : Power) : State :=
  let s := s0.cutWrite
  let m := s.mgt
  let k := s.boot.frozen.getD s.kept
  { State.reset with
    pending := s.pending
    power := p
    out := s.out
    free := s.free
    pins := { pgIn := s.pins.pgIn, perst := s.pins.perst, bootStrap := s.pins.bootStrap }
    regs := k.regs.filter fun q => (fldAt q.1).any fun f => almFlds.contains f
    light := { refs := k.refs, losses := k.losses }
    mems := { repaired := k.repaired }
    mgt := { alm := m.alm, erased := m.erased, copy := m.copy, lifeSeq := m.lifeSeq, dumpSeq := m.dumpSeq, boots := m.boots, ceilings := k.ceilings } }

/-- The default severity of a source (R464). -/
def sevDefault (src : Nat) : Nat :=
  if src = 224 || src = 238 || src = 239 || src = 240 then 4
  else if (44 ≤ src && src < 68) || (80 ≤ src && src < 84) || (180 ≤ src && src < 224) ||
      [225, 227, 228, 230, 231, 232, 236, 243, 247].contains src then 2
  else if src < 248 then 1 else 0

/-- Fields the part's layout gives at power-on (R46, R73, R74, R76, R137, R464, R479). -/
def State.layout (s : State) : State :=
  let s1 := (List.range 44).foldl (fun t k =>
    let a := ((t.set F.SKY_STN_STATUS_SITE k k).set F.SKY_STN_STATUS_POS (sitePos k) k).set F.TWK_SITE_STAT_POPULATED (ringCount k) k
    ((a.set F.SKY_STN_CAPS_TX_ORB (capOrbit k) k).set F.SKY_STN_CAPS_RX_ORB (capOrbit k) k).set F.SKY_STN_CAPS_TX_TOT (capTotal k) k |>.set
      F.SKY_STN_CAPS_RX_TOT (capTotal k) k) s
  let s2 := ([(0, 420, 2400), (1, 470, 0), (2, 520, 0), (3, 600, 800)] : List (Nat × Nat × Nat)).foldl (fun t c =>
    (t.set F.SKY_DIST_COST_LAT c.2.1 c.1).set F.SKY_DIST_COST_BW c.2.2 c.1) s1
  let s3 := (List.range 44).foldl (fun t a => [0, 1].foldl (fun t w =>
    t.set F.SKY_DIST_ROW (packBits ((List.range 32).map fun i => (2 * i, 2, distClass a (32 * w + i)))) a w) t) s2
  (List.range 248).foldl (fun t i => (t.set F.FLT_SRC_SEV (sevDefault i) i).set F.FLT_SRC_FIXED (b2n (decide (sevDefault i = 4))) i) s3

/-- The reset domains of absent sites (R29, R479). -/
def State.absents (s : State) : State :=
  ((List.range 44).filter fun k => !s.present k).foldl (fun t k => (siteDoms k).foldl (fun t d => t.set F.FLT_DOM0_STATE 4 d) t) s

/-- The sites of every shipped part (R26, R29): all tiles, stacks, chiplets and hubs. -/
def State.shipped (s : State) : State :=
  (((s.set F.MGT_SITE_PRESENT_TILE 0xFFFFFF).set F.MGT_SITE_PRESENT_MEM 0xFFF).set F.MGT_SITE_PRESENT_XIO 0xF).set F.MGT_SITE_PRESENT_HUB 3

/-- A cold power-on past its rail check (R259, R458, R495, R499, R518): the time base starts at 0, whatever idle steps counted while the part was off; what the
Almanac and the layout give, the PUF array as it powered up, the straps where PERST_N is already released, then the boot. -/
def State.powerUp (s : State) (intlk : Bool) (r : PowerReport) : State :=
  let s0 := { s with now := 0 }
  let s1 := (if s.mgt.boots = 0 then s0.loadFlds buildFlds.contains r.build else s0).loadLife
  let s2 := (s1.shipped.layout.absents.set F.TWK_STAT_INTLK (b2n intlk)).set F.CLK_STAT_TREF_OK 1
  let s3 := (s2.set F.THM_STAT_ALM_OK (b2n s2.boot.almOk)).set F.FLT_BOOT_BOOTS s2.mgt.boots
  let s4 := (if s3.pins.perst then s3 else s3.set F.FLT_STAT_BOOT_MODE s3.pins.bootStrap).lifeAdd 0x4528 1
  ({ s4 with power := .on, boot := { s4.boot with cold := true }, mgt := { s4.mgt with puf := slice r.puf 0 8192 } }).startBoot

/-! ## The steps (R460) -/

/-- The steps that must have completed before one completes (R460). -/
def bootNeeds (n : Nat) : List Nat :=
  match n with
  | 1 => [] | 2 => [1] | 3 => [2] | 4 => [3] | 5 => [4] | 6 => [3] | 7 => [5, 6] | 8 => [7] | _ => [99]

/-- Whether a boot step runs (R460); step 1 holds while the Almanac's temperature lies outside its window (R462). -/
def State.stepRuns (s : State) (n : Nat) : Bool :=
  decide (1 ≤ s.get F.FLT_BOOT_STEP) && !s.inService && s.get F.FLT_STAT_STATE = 0 && !s.boot.done.contains n &&
  ((bootNeeds n).all fun k => s.boot.done.contains k) && (decide (n ≠ 1) || s.boot.almOk)

/-- A step noted as completed, and the step that the boot has reached. -/
def State.stepTo (s : State) (n next : Nat) : State :=
  ({ s with boot := { s.boot with done := s.boot.done ++ [n] } }).set F.FLT_BOOT_STEP next

/-- Step 1: the image that verifies, the one chosen for this start first (R458, R460, R493); with BOOT_MODE 0b11 the boot holds here. -/
def State.bootImage (s : State) (r : BootReport) : State :=
  let mode := s.get F.FLT_STAT_BOOT_MODE
  let pick := s.get F.ALM_STAT_NEXT
  let first := if mode = 1 then 1 - pick else pick
  let ok (i : Nat) : Bool := if i = 0 then r.imgA else r.imgB
  let take (t : State) (i : Nat) : State := ((t.set F.FLT_BOOT_IMAGE i).set F.ALM_STAT_ACTIVE i).stepTo 1 2
  if mode = 3 then s
  else if ok first then take s first
  else if ok (1 - first) then (take s (1 - first)).set F.FLT_BOOT_FALLBACK 1 |>.raise 246
  else s.bootFail 1

/-- Whether a copy holds as a record: its check word, its layout, and a signature by the guard key or by the owner key of either copy (R482, R491, R494; DEDUCED,
log entry 65). -/
def guardGood (owners : List (List Byte)) (r : List Byte) : Bool :=
  guardShape r && guardCrcOk r && sigOk (guardKey :: owners) (slice r 512 16240) (slice r 0 512)

/-- The guard record in force loaded (R482, R491): of the copies that hold, the one with the higher RECORD_VERSION; none where neither holds. -/
def State.bootGuard (s : State) : Option State :=
  let a := s.guardCopy 0
  let b := s.guardCopy 1
  let use (k : Nat) (r : List Byte) : Option State :=
    let t := s.loadGuard r
    some { t with mgt := { t.mgt with copy := k } }
  let good := guardGood ([ownerKey a, ownerKey b].filter fun k => k.any fun x => x ≠ 0)
  if good a && (!good b || decide (leAt b 4 4 ≤ leAt a 4 4)) then use 0 a
  else if good b then use 1 b else none

/-- Each check word that failed counted in the Almanac's source (R491): of the guard record's copies, of the trims' and helper data's as reported, and of lifetime and
calibration-history records newer than the current ones. -/
def State.countBad (s : State) (r : BootReport) : State :=
  let bad := ([0, 1].filter fun k => !guardCrcOk (s.guardCopy k)).length + r.badCopies + s.badRecs lifeKind + s.badRecs calKind
  (List.range bad).foldl (fun t _ => t.raise 245) s

/-- The field ceilings of a part never started before: those recorded at final test (R24, R429). -/
def State.firstCeilings (s : State) : State :=
  if s.mgt.ceilings then s
  else (List.range 24).foldl (fun t k =>
    (t.set F.CLK_DIE_CEIL_FIELD (t.get F.CLK_DIE_CEIL_TRIM k) k).set F.CLK_CACHE_CEIL_FIELD (t.get F.CLK_CACHE_CEIL_TRIM k) k)
    { s with mgt := { s.mgt with ceilings := true } }

/-- The identity derived (R495, R496, R519): the key that the PUF array's bytes give, compared with the one that the identity statement holds. The array keeps its bytes
over a warm reset, so an array that powered up partly charged fails until the next power-up. -/
def State.deriveKey (s : State) : State :=
  let k := Config.deviceKey s.mgt.puf
  (s.set F.MGT_IDSTATE_STATE (if k.1 = s.almBytes (Config.identAt + Config.identKeyAt) 32 then 1 else 2)).set F.MGT_IDSTATE_FLIPS k.2

/-- Step 2: the guard record, the trims, the counts of the records, the Croupier's image (R480), the identity, the Dealer's hub; BAR0 answers and the event FIFO
fills from here (R352, R460, R477, R496). -/
def State.bootFirmware (s : State) (r : BootReport) : State :=
  let u := s.countBad r
  if u.get F.FLT_STAT_STATE ≠ 0 || decide (u.get F.FLT_BOOT_STEP ≠ s.get F.FLT_BOOT_STEP) then u
  else match u.bootGuard with
  | none => u.bootFail 2
  | some t =>
    let t1 := ((t.loadFlds (fun f => decide (f.kind = .trim)) r.trims).firstCeilings.loadCal).deriveKey
    let t2 := (t1.set F.MGT_STAT_CROUPIER 0).set F.TAL_STAT_DEALER_HUB (b2n (bit (t1.get F.FLT_RETIRED_FE) 0))
    let t3 := { t2 with
      tally := { t2.tally with noDummy := t2.tally.noDummy || decide (t2.get F.FLT_RETIRED_FE ≠ 0) }
      mgt := { t2.mgt with firmware := t2.almBytes (imageBase (t2.get F.ALM_STAT_ACTIVE)) Config.imageLen } }
    if t3.get F.FLT_STAT_BOOT_MODE = 2 then (t3.stepTo 2 2).enterPatience 14 else (t3.stepTo 2 3).lateRecords

/-- Step 3: regulators, which come up to the voltages of the planned steps (R413, R451) where they do not hold theirs (R459), PLLs and bond chains (R460, R464); a cold start then prewarms and has the built-in map to lock its rings for (R112, R294,
R441). -/
def State.bootRails (s : State) (r : BootReport) : State :=
  if !r.railsOk then s.bootFail 3
  else
    let s0 := if s.clk.rails = [] then s.setRails s.cht.chart.step 3 else s
    let s1 := if r.bondOpen then s0.raise 240 else s0
    let s2 := s1.stepTo 3 4
    if s2.boot.cold then
      let chans := ((s2.builtin.specs 0).map s2.newChan).map fun c => if c.state = 1 then { c with state := 2 } else c
      let s3 := { s2 with sky := { s2.sky with chans := chans } }
      (s3.setThm { s3.thm with prewarm := some s3.now, warmed := [] }).set F.THM_STAT_PREWARM 1
    else s2

/-- Step 4: the light is on (R112, R113); every OMU runs its full pilot (R175). -/
def State.bootLight (s : State) : State :=
  let lit := s.get F.TWK_STAT_LIGHT = 2 || s.get F.TWK_STAT_LIGHT = 3
  if !lit then s
  else
    let s1 := s.stepTo 4 5
    (List.range 24).foldl (fun t k => if t.present k && !t.retired k then (List.range 4).foldl (fun t u => t.omuLight k u) t else t) s1

/-- Step 5: every full pilot has ended (R175). -/
def State.bootPilots (s : State) : State :=
  if s.omus.pilots.any fun p => p.2.2 then s else s.stepTo 5 (if s.boot.done.contains 6 then 7 else 6)

/-- Step 6: the stacks are trained; a cold start zeroes HBM and cache dies, a warm one the cache dies (R460, R461, R477). -/
def State.bootMemory (s : State) (r : BootReport) : State :=
  let failed (m : Nat) : Bool := r.bad.contains (68 + m) || s.retired (24 + m)
  if failed 0 && failed 6 then s.bootFail 5
  else
    let s1 := s.stepTo 6 (if s.boot.done.contains 5 then 7 else s.get F.FLT_BOOT_STEP)
    let hbm (a : Nat) : Bool := match regionOf a with
      | .hbm _ => true
      | _ => false
    if s1.boot.cold then { s1 with mem := [], poison := [] }
    else { s1 with mem := s1.mem.filter (fun c => hbm c.1), poison := s1.poison.filter fun g => hbm (g * 64) }

/-- Rings of the map in force that have not been tuned yet are swept (R125, R525). -/
def State.tuneMap (s : State) : State :=
  let rings := s.sky.chans.flatMap fun c => if c.state = 2 then
      [(c.writer, c.orbit * 96 + c.wring, c.lambda), (c.reader, 384 + c.orbit * 96 + c.rring, c.lambda)] else []
  rings.foldl (fun t p =>
    let st := t.get F.TWK_RING_STATE p.1 p.2.1
    if st = 0 || st = 1 then (((t.set F.TWK_RING_LAMBDA p.2.2 p.1 p.2.1).lockBegin p.1).setRing p.1 p.2.1 2) else t) s

/-- Step 7: the chart in force, its maps, its cache content; stations open for traffic (R88, R294, R460). -/
def State.bootChart (s : State) : State :=
  let s1 := s.startChart.tuneMap.stepTo 7 8
  s1.sites.foldl (fun t k => t.set F.SKY_DLV_EJECT_CLOSED 0 k) s1

/-- Step 8: the part is in service and drives TSYNC_OUT (R508, R515); after a warm start the Tally waits for the driver (R368, R404, R460, R462). -/
def State.bootService (s : State) : State :=
  let s1 := (((s.stepTo 8 9).set F.FLT_BOOT_FAILS 0).set F.FLT_BOOT_BOOT_MS ((s.now - s.boot.start) / 1000000)).set F.TRN_STAT_PHASE 5
  let s2 := if s1.boot.cold then s1 else s1.set F.TAL_STAT_RECOVERY 1
  let s3 := s2.set F.TAL_STAT_STANDBY_OK (b2n !s2.tally.noDummy)
  { s3 with pins := { s3.pins with tsyncOn := true }
            cmt := { s3.cmt with listening := decide (s3.get F.TRN_CFG_ROLE = 1) && !s3.boot.cold, listenAt := s3.now } }

/-- Domains that failed their part of a step are retired for the start (R461). -/
def State.bootBad (s : State) (r : BootReport) : State :=
  let s1 := r.bad.foldl (fun t d => match domSite d with
    | some k => t.retireSite k
    | none => t) s
  if r.dummyOk || s1.tally.noDummy then s1 else s1.loseDummy

/-- A boot step's completion (R460, R461). -/
def State.bootStep (s : State) (n : Nat) (r : BootReport) : State :=
  if !r.hubOk then s.bootFail 6
  else
    let u := if n = 1 then s else s.bootBad r
    if u.get F.FLT_STAT_STATE ≠ 0 || decide (u.get F.FLT_BOOT_STEP ≠ s.get F.FLT_BOOT_STEP) then u
    else match n with
    | 1 => u.bootImage r | 2 => u.bootFirmware r | 3 => u.bootRails r | 4 => u.bootLight | 5 => u.bootPilots
    | 6 => u.bootMemory r | 7 => u.bootChart | _ => u.bootService

end Sys2Proof.Machine
end

