-- ==== Sys2Proof/Machine/Boot.lean ====
section
/-! DEFINITION. Meanings of the power, reset and boot commands (R452, R454, R458 to R463, R475, R476, R508, R518 to R521), and the effects of FLT_CTRL
(R479). -/

namespace Sys2Proof.Machine

/-! ## Power -/

/-- COLD_POWER_ON (R452 steps 2 and 3, R458): PG_IN rises; where every rail passes its check the cold power-on runs, else the part stays in
reset. `intlk` says whether the interlock loop is closed, `loads` what the Almanac's build record and the PUF array hold. -/
def execColdPowerOn (railsOk intlk : Bool) (loads : PowerReport) (s : State) : Res :=
  always s fun s =>
    if s.pins.pgIn then s
    else
      let s1 := { s with pins := { s.pins with pgIn := true } }
      if railsOk then s1.powerUp intlk loads else { s1 with power := .held }

/-- PG_IN_DEASSERT (R452 step 4, R521): every ELS_EN line and open-drain output released; the part stops. -/
def execPgInDeassert (s : State) : Res :=
  always s fun s =>
    let t := if s.on then s.powerOff .waiting else { s with power := .waiting }
    { t with pins := { t.pins with pgIn := false } }

/-- RAIL_LOSS (R454): as PG_IN falling; left only when PG_IN falls and rises again. There are 12 groups of main rails (R451). -/
def execRailLoss (rail : Nat) (s : State) : Res :=
  always s fun s => if s.on && decide (rail < 14) then s.powerOff .stopped else s

/-! ## Resets -/

/-- PERST_N_ASSERT (R458, R466, R521): a warm device reset; before boot step 8 the boot restarts as one. -/
def execPerstNAssert (s : State) : Res :=
  always s fun s =>
    let s1 := { s with pins := { s.pins with perst := true } }
    if s.on && !s.fatal && !s.pins.perst then s1.outerReset else s1

/-- PERST_N_RELEASE (R458, R518): BOOT_MODE is sampled; a start that holds at step 1 goes on. -/
def execPerstNRelease (bootMode : Nat) (s : State) : Res :=
  always s fun s =>
    let s1 := { s with pins := { s.pins with perst := false, bootStrap := bootMode % 4 } }
    if s.on && !s.fatal && s.pins.perst then (s1.set F.FLT_STAT_BOOT_MODE bootMode).startBoot else s1

/-- DEVICE_RESET_REQUEST (R356, R458, R459 step 2, R475): the part asks for a reset itself; the dump is written first, unless Fold has
had its dump written already; a dump of Fold not yet written serves. -/
def execDeviceResetRequest (source : Nat) (s : State) : Res :=
  live s fun s =>
    if s.patience then s
    else if s.get F.FLT_STAT_STATE = 1 then (if s.flt.dumps.isEmpty then s.outerReset else s.askReset)
    else s.requestReset source 3

/-! ## Boot -/

/-- BOOT_STEP_DONE (R112, R294, R441, R460, R461): a step's parts report; its effects, and the steps that waited on it begin. -/
def execBootStepDone (step : Nat) (r : BootReport) (s : State) : Res :=
  live s fun s => if s.stepRuns step then s.bootStep step r else s

/-- BOOT_WATCHDOG_EXPIRY (R460, R461): 60 s after a cold trigger, 15 s after a warm one; suspended while the light start waits, and while the boot
holds for JTAG. -/
def execBootWatchdogExpiry (s : State) : Res :=
  live s fun s =>
    let step := s.get F.FLT_BOOT_STEP
    if step = 0 || step = 9 || s.boot.suspend || decide (s.get F.FLT_STAT_STATE ≠ 0) || (step = 1 && s.get F.FLT_STAT_BOOT_MODE = 3) then s
    else (s.atLeast (s.boot.start + (if s.boot.cold then 60000000000 else 15000000000))).bootFail 7

/-- PREWARM_TIMEOUT (R441, R461): 30 s into the prewarm a site that has not reached 40 °C is retired for the start. -/
def execPrewarmTimeout (site : Nat) (s : State) : Res :=
  live s fun s =>
    match s.thm.prewarm with
    | none => s
    | some t =>
      if 44 ≤ site || !s.present site || s.get F.FLT_DOM0_STATE (24 + site) = 3 || s.thm.warmed.contains site then s
      else (((s.atLeast (t + 30000000000)).retireSite site).prewarm).tryRings

/-! ## The crash dump -/

/-- The FLT_DUMP word of a dump at its trigger (R476, R479). -/
def dumpBits (valid : Nat) (d : Dump) : Nat := packBits [(0, 1, valid), (1, 9, d.src), (10, 3, d.kind), (32, 32, d.transit)]

/-- Where a crash dump goes in HBM (R476): to M0, or to M6 where M0 is retired; nowhere where both are (log entry 212). -/
def State.dumpPlace (s : State) : Option Nat :=
  if !s.retired 24 then some 0x0FF4000000 else if !s.retired 30 then some (6 * stackSize + 0x0FF4000000) else none

/-- CRASH_DUMP_DONE (R459, R476, R477, R481, R501): the oldest dump to be written is in HBM, whose bytes there are free (log entry 157), and its summary in the
Almanac; FATAL writes the summary only, and so does a dump while one is held. A reset that waited follows the last dump. While the Croupier is down nothing
is written, and after 2 s the reset goes on without. -/
def execCrashDumpDone (s : State) : Res :=
  liveHub s fun s =>
    match s.flt.dumps with
    | [] => s
    | d :: ds =>
      if s.get F.MGT_STAT_CROUPIER ≠ 0 then
        match s.flt.asked with
        | some t => if t + 2000000000 ≤ s.now then s.outerReset else s
        | none => s
      else
        let s1 := { s with flt := { s.flt with dumps := ds } }
        let at_ := if d.kind = 2 || s.isSet F.FLT_DUMP_VALID then none else s.dumpPlace
        let s2 := match at_ with
          | none => s1
          | some a => ({ s1 with flt := { s1.flt with place := some a } }).set F.FLT_DUMP_VALID 1 |>.set F.FLT_DUMP_SRC d.src |>.set F.FLT_DUMP_KIND d.kind |>.set
              F.FLT_DUMP_TRANSIT d.transit
        let s3 := if s2.almUp then s2.crashSummary (dumpBits (b2n at_.isSome) d) d.die else s2
        if ds.isEmpty && s3.flt.asked.isSome && !s3.fatal then s3.outerReset else s3

/-! ## FLT_CTRL (R479) -/

/-- The effects of a write to FLT_CTRL: CLEAR_ALL, REINSTATE, PATIENCE_RETRY, RESET. -/
def State.wFltCtrl (s : State) (v : Nat) : State :=
  let s1 := if bit v 18 then
      ((List.range 248).foldl (fun t i => (t.set F.FLT_SRC_STICKY 0 i).set F.FLT_SRC_COUNT 0 i) s).alert
    else s
  let s2 := if bit v 16 then s1.reinstate (bitsOf v 8 8) else s1
  if bit v 17 && s2.patience then ((s2.resetAll []).set F.FLT_BOOT_FAILS 0).startBoot
  else if v % 256 = 0xA5 && !s2.fatal then s2.outerReset
  else s2

end Sys2Proof.Machine
end

