-- ==== Sys2Proof/Machine/Check.lean ====
section
/-! DEFINITION. Meanings of the check-value engines' commands (R252 to R255, R258), Sweep (R234, R235), hot prefixes (R241) and rebuilt shards
(R242). -/

namespace Sys2Proof.Machine

/-! ## Check scans -/

/-- The blocks of a folded scan (R253): offset and length, cut at 4 KiB boundaries of the DPA. -/
def foldBlocks (a n : Nat) : List (Nat × Nat) :=
  if n = 0 then [] else
    (List.range ((a + n - 1) / 4096 - a / 4096 + 1)).map fun k =>
      let lo := max a ((a / 4096 + k) * 4096)
      let hi := min (a + n) ((a / 4096 + k) * 4096 + 4096)
      (lo - a, hi - lo)

/-- The bytes that a scan feeds into its algorithm (R253): in folded mode 10 bytes lead each block, its DPA and its number from SEQ0. -/
def scanMessage (fold : Bool) (seq0 a : Nat) (bs : List Byte) : List Byte :=
  if fold then
    (foldBlocks a bs.length).zipIdx.flatMap fun p =>
      natLe 8 (a + p.1.1) ++ natLe 2 ((seq0 + p.2) % 65536) ++ slice bs p.1.1 p.1.2
  else bs

/-- The first DPA behind the scannable region that holds an address (R254); none outside them. -/
def State.scanEnd (s : State) (a : Nat) : Option Nat :=
  match regionOf a with
  | .hbm _ => some (12 * stackSize)
  | .cache _ => some (0x100000000000 + 24 * cacheSize)
  | .host => if a < 0x800000000000 + s.host.gib * 2 ^ 30 then some (0x800000000000 + s.host.gib * 2 ^ 30) else none
  | _ => none

/-- Whether a range that lies in its region includes an absent or retired stack or tile (R254). -/
def State.scanHole (s : State) (a n : Nat) : Bool :=
  match regionOf a, regionOf (a + n - 1) with
  | .hbm i, .hbm j => (List.range 12).any fun m => decide (i ≤ m) && decide (m ≤ j) && (!s.present (24 + m) || s.retired (24 + m))
  | .cache i, .cache j => (List.range 24).any fun t => decide (i ≤ t) && decide (t ≤ j) && (!s.present t || s.retired t)
  | _, _ => false

/-- What the check at a scan's start finds (R254, R258): 0, LENGTH or RANGE. -/
def State.scanErr (s : State) (algo a n : Nat) : Nat :=
  if algo = 3 then 2
  else if n = 0 then 0
  else match s.scanEnd a with
    | none => 2
    | some e => if e < a + n then 1 else if s.scanHole a n then 2 else 0

/-- A context's result: the algorithm's value (R253, R258). -/
def State.setResult (s : State) (h k : Nat) (v : List Byte) : State :=
  (((s.set F.CHK_RESULT0 (leAt v 0 8) h k).set F.CHK_RESULT1 (leAt v 8 8) h k).set F.CHK_RESULT2 (leAt v 16 8) h k).set F.CHK_RESULT3 (leAt v 24 8) h k

/-- A scan starts from its context's registers (R252, R254): its range is checked; one of no bytes completes at once. -/
def State.startScan (s : State) (h k : Nat) (seq : Option Nat) : State :=
  let x : Scan := { ctx := 8 * h + k, start := s.get F.CHK_START h k, len := s.get F.CHK_LEN h k, algo := s.get F.CHK_CTRL_ALGO h k
                    fold := s.isSet F.CHK_CTRL_FOLD h k, seq0 := s.get F.CHK_CTRL_SEQ0 h k, seq := seq }
  let s1 := ((((s.set F.CHK_STATUS_STATE 1 h k).set F.CHK_STATUS_ERR 0 h k).set F.CHK_STATUS_VALID 0 h k).set F.CHK_STATUS_DONE 0 h k)
  let s2 := ((s1.set F.CHK_POS 0 h k).set F.CHK_POISON_DPA 0 h k).setResult h k []
  let s3 := { s2 with cmp := { s2.cmp with scans := s2.cmp.scans ++ [x] } }
  let err := s3.scanErr x.algo x.start x.len
  if err ≠ 0 then s3.endScan h k err
  else if x.len = 0 then (s3.setResult h k (checkValue x.algo [])).endScan h k 0
  else s3.askHost x.start x.len

/-- The effects of a write to CHK_CTRL (R252, R255, R258): ABORT ends a running scan; GO starts one in an idle context, and is counted in
BUSY_REJ while one runs. -/
def State.wChkCtrl (s : State) (h k v : Nat) : State :=
  let s1 := if bit v 1 then s.abortScan h k else s
  if !bit v 0 then s1
  else if s1.get F.CHK_STATUS_STATE h k = 0 then s1.startScan h k none
  else if s1.get F.CHK_STATUS_STATE h k = 1 then s1.add F.CHK_STAT_BUSY_REJ 1 h
  else s1

/-- CHECK (R252, R317, R318): the card's fields go into its context's registers, and its scan starts. -/
def execCheck (seq : Nat) (s : State) : Res :=
  live s fun s =>
    let c := (s.ent seq).card
    let (h, k) := checkCtx c
    if s.get F.CHK_STATUS_STATE h k = 1 then s
    else s.startRun seq 0x07 fun _ t =>
      let t1 := (t.set F.CHK_START (leAt c 24 8) h k).set F.CHK_LEN (leAt c 32 8) h k
      let t2 := ((t1.set F.CHK_CTRL_ALGO (leAt c 16 1 / 16) h k).set F.CHK_CTRL_FOLD (leAt c 16 1 / 64) h k).set F.CHK_CTRL_SEQ0 (leAt c 18 2) h k
      t2.startScan h k (some seq)

/-- The result of a CHECK card written to its RES_DPA (R318); a refused write is a status of the card. -/
def State.writeResult (s : State) (seq : Nat) (v : List Byte) : State :=
  let a := leAt (s.ent seq).card 40 8
  if a = 0 then s
  else if s.hostGone a then s.meets seq { status := 5, detail := 2 }
  else
    (s.cardOut seq a ⟨v, fun _ => false⟩ 32 (42 + leAt (s.ent seq).card 16 1 % 2)).1

/-- CHECK_SCAN_DONE (R253, R255, R318, R327, R329): a scan has read its range; `host` is what host memory returned for it and `bad` its first poisoned
byte, `ecc` the errors its reads found, `stop` the bytes completed where a read was refused or unreachable. -/
def execCheckScanDone (hub ctx : Nat) (host : List Byte) (bad : Option Nat) (ecc : List EccHit) (stop : Option Nat) (s : State) : Res :=
  live s fun s =>
    match s.scanOf hub ctx with
    | none => s
    | some x =>
      let s1 := s.eccIn x.start x.len 0 ecc
      match stop with
      | some n =>
        let n := min n x.len
        match (if regionOf x.start = .host then bad.filter fun i => decide (i < n) else none) with
        | some i => ((s1.set F.CHK_POS n hub ctx).set F.CHK_POISON_DPA (x.start + i) hub ctx).endScan hub ctx 4
        | none => s1.stopScan hub ctx x n
      | none =>
        let s2 := s1.set F.CHK_POS x.len hub ctx
        let there := regionOf x.start = .host
        let first := if there then bad.map fun i => x.start + i
          else ((granules x.start x.len).find? s2.poisoned).map fun g => max x.start (g * 64)
        match first with
        | some a => (s2.set F.CHK_POISON_DPA a hub ctx).endScan hub ctx 3
        | none =>
          let bs := if there then slice host 0 x.len else s2.readBytes x.start x.len
          let v := checkValue x.algo (scanMessage x.fold x.seq0 x.start bs)
          let s3 := s2.setResult hub ctx v
          (match x.seq with
           | some q => s3.writeResult q v
           | none => s3).endScan hub ctx 0

/-! ## Sweep -/

/-- A location's Sweep write-back that nothing overtook has been made. -/
def State.sweptBack (s : State) (loc : Nat) : State :=
  { s with mems := { s.mems with sweeping := s.mems.sweeping.filter fun p => decide (p.2 ≠ loc) } }

/-- What Sweep finds in a granule (R229, R232, R234, R242): a correctable error is written back, an uncorrectable one repaired from its other copy or
stored poisoned. -/
def State.sweepHit (s : State) (loc g : Nat) (ecc : List EccHit) : State :=
  match ecc.find? fun h => decide (h.granule = g) with
  | none => s
  | some h =>
    let s1 := s.eccHit 1 ecc h
    if isCe h && !s.poisoned g then { s1 with mems := { s1.mems with sweeping := s1.mems.sweeping ++ [(g, loc)] } } else s1

/-- The granules of a stack and the lines of a cache die (R225). -/
def stackGranules : Nat := 1207959552
def cacheLines : Nat := 4194304

/-- SWEEP_READ (R234, R235): Sweep of a stack (locations 0 to 11) or of a cache die (12 to 35) reads its next granule or line; `ecc` is what it finds
there and, where the granule has another copy that it then reads, in that copy. -/
def execSweepRead (loc : Nat) (ecc : List EccHit) (s : State) : Res :=
  live s fun s =>
    if !s.boot.done.contains 6 || decide (36 ≤ loc) then s
    else if loc < 12 then
      if !s.mbdUp loc then s
      else
        let p := s.get F.MBD_SWEEP_POS loc
        let s1 := (s.sweptBack loc).sweepHit loc (loc * stackGranules + p) ecc
        if p + 1 < stackGranules then s1.set F.MBD_SWEEP_POS (p + 1) loc
        else
          let s2 := { s1 with mems := { s1.mems with ceSeen := s1.mems.ceSeen.filter fun x => decide (x.1 / stackGranules ≠ loc) } }
          (s2.set F.MBD_SWEEP_POS 0 loc).add F.MBD_SWEEP_CYCLES 1 loc
    else
      let t := loc - 12
      if !s.present t || s.retired t || decide (s.get F.FLT_DOM0_STATE t ≠ 0) then s
      else
        let p := s.get F.CCH_SWEEP_POS t
        ((s.sweptBack loc).sweepHit loc ((0x100000000000 + t * cacheSize) / 64 + p) ecc).set F.CCH_SWEEP_POS ((p + 1) % cacheLines) t

/-! ## Hot prefixes and rebuilt shards -/

/-- `n` bytes copied within the part's memory with their poison. -/
def State.copyRange (s : State) (a b n : Nat) : State :=
  let keep := s.mem.filter fun c => !(decide (b ≤ c.1) && decide (c.1 < b + n))
  let cells := s.mem.filter fun c => decide (a ≤ c.1) && decide (c.1 < a + n)
  let bad := (granules a n).filter s.poisoned
  let clean := s.poison.filter fun g => !(decide (b ≤ g * 64) && decide (g * 64 + 64 ≤ b + n))
  { s with mem := cells.foldl (fun m c => tabPut 0 m (c.1 - a + b) c.2) keep
           poison := (bad.flatMap fun g => granules (max a (g * 64) - a + b) (min (a + n) (g * 64 + 64) - max a (g * 64))).foldl keyPut clean }

/-- The hot rows of a shard copied into a tile's row cache (R241, R363): from its serving copy, from host memory for a spill shard, with the rows of
committed hands that are not yet written back in their new version, those of the last settle too, in the order of their commits. -/
def State.copyHot (s : State) (t : Table) (sh : Shard) (at_ : Nat) (ext : Ext) : State :=
  let n := min (t.hotRows - sh.firstRow) sh.nrows * t.stride * 16
  let dst := at_ + sh.firstRow * t.stride * 16
  let s1 := if sh.state = 4 then s.writeHere ⟨dst, s.bytesAt ext sh.base n, []⟩ else s.copyRange (sh.copyAt (sh.lost = 1)).2 dst n
  let now := s.hands.slots.filter fun p => p.2.state = 3 && !s.hands.flips.contains p.1
  let soon := s.hands.flips.filterMap fun f => s.hands.slots.find? fun p => decide (p.1 = f)
  let rows := (now ++ soon).flatMap fun p => p.2.rows
  (rows.filter fun r => decide (r.table = t.id) && decide (r.row < t.hotRows) && decide (sh.firstRow ≤ r.row) && decide (r.row < sh.firstRow + sh.nrows)).foldl
    (fun u r =>
      let a := at_ + r.row * t.stride * 16
      u.writeHere ⟨a, r.data, if r.poison then granules a r.data.length else []⟩) s1

/-- HOT_PREFIX_READY (R222, R241): a table's hot prefix stands in a tile's row cache, and its READY flag is set. A prefix that the row cache has no room
for never becomes ready. -/
def execHotPrefixReady (tile : Nat) (hot : HotRows) (s : State) : Res :=
  live s fun s =>
    match s.table hot.table with
    | some t =>
      match s.hotAt tile t with
      | some a =>
        if t.hotRows ≠ 0 && bit t.hotTiles tile && decide (tile < 24) && s.present tile && !s.retired tile then
          let s1 := t.shards.foldl (fun u sh => u.copyHot t sh a hot.ext) s
          { s1 with mems := { s1.mems with ready := keyPut s1.mems.ready (tile * 4096 + hot.table % 4096) } }
        else s
      | none => s
    | none => s

/-- SHARD_REBUILD_DONE (R242, R289): the surviving copy of a shard has been copied into its other copy; the shard is MIRRORED. -/
def execShardRebuildDone (table shard : Nat) (s : State) : Res :=
  live s fun s =>
    match (s.table table).bind fun t => t.shards[shard]?.map fun sh => (t, sh) with
    | none => s
    | some (t, sh) =>
      if sh.state = 3 && decide (sh.mirror ≠ 0xFF) && s.mbdUp sh.engine && s.mbdUp sh.mirror then
        let s1 := s.copyRange sh.base sh.mbase (t.size sh)
        s1.setTables (s1.mems.tables.map fun u => if u.id = table then
          { u with shards := u.shards.zipIdx.map fun p => if p.2 = shard then { p.1 with state := 1, lost := 0 } else p.1 } else u)
      else s

end Sys2Proof.Machine
end

