-- ==== Sys2Proof/Machine/Receive.lean ====
section
/-! DEFINITION. Meanings of PACKET_RECEIVE and SKY_ACK: the checks of R55 in their order, the reorder store (R79 to R81), commits at
every kind of site (R82), refusals (R53, R87, R90) and acks (R83). -/

namespace Sys2Proof.Machine

/-! ## Steps 7 and 8 -/

/-- The agent's request a packet was built from, as its source's retransmission store holds it. -/
def State.requestOf (s : State) (site : Nat) (p : Pkt) : Option SendReq :=
  ((s.space p.src site).store.find? fun e => decide (e.pkt.seq = p.seq)).map fun e => e.req

/-- The outbound window entry of a packet to a Comet DPA: the one it was issued under (R378). -/
def State.winUnder (s : State) (site : Nat) (p : Pkt) : Option (Nat × Win) :=
  (((s.space p.src site).store.find? fun e => decide (e.pkt.seq = p.seq)).bind fun e => e.win).or (s.winFor p.addr)

/-- Whether a packet is an MBD's own forward to a mirror copy (R242). -/
def State.isForward (s : State) (site : Nat) (p : Pkt) : Bool := (s.requestOf site p).any fun r => decide (r.fwd ≠ none)

/-- The read request a response answers: the one whose RTAG and return DPA it carries (R52). -/
def State.answered (s : State) (site : Nat) (p : Pkt) : Option ReadTag :=
  (s.stn site).rtags.find? fun t => decide (t.rtag = p.rtag) && decide (t.ret = p.addr)

/-- Whether a packet's outbound window entry permits its operation and its peer is served here (R377, R380). -/
def State.winPermits (s : State) (site : Nat) (p : Pkt) : Bool :=
  (s.winUnder site p).any fun w => decide (s.serving w.2.peer = some site) && (if p.op = 0 then w.2.write else w.2.read)

/-- The address check of R55 step 8, by kind of site (R28, R52), with the writes that R242 refuses and the atomics of R390. -/
def State.takesAddr (s : State) (site : Nat) (p : Pkt) : Bool :=
  let n := p.len * 16
  if p.op = 2 then
    pageOk p.addr n && ((s.answered site p).isSome && (siteKind site ≠ .guest || Config.guestDecodes site p.addr n))
  else if p.op = 3 then
    siteKind site ≠ .xio || decide (p.addr ≠ 2) || s.atomicServed site (leAt p.payload 0 8 % 2 ^ 52)
  else if siteKind site = .guest then
    pageOk p.addr n && Config.guestDecodes site p.addr n
  else
    (if s.region p.addr = .comet then pageOk p.addr n && s.winPermits site p else s.decodes site p.addr n) &&
      (p.op = 1 || !s.inHotPrefix p.addr n && (!s.inMirror p.addr n || s.isForward site p))

/-- The refusal of R55 steps 7 and 8, with the counter it moves. -/
def State.refusal (s : State) (site : Nat) (p : Pkt) : Option (Nat × Fld) :=
  if site < 42 && decide (p.part ≠ s.part site) then some (2, F.SKY_PART)
  else if p.op ≠ 2 && s.isSet F.SKY_DLV_DIE_DIE_DOWN site then some (3, F.SKY_DIE_DOWN_REJ)
  else if !s.takesAddr site p then some (1, F.SKY_DECODE_REJ)
  else none

/-! ## Step 9 -/

/-- A write committed into HBM or a cache die is forwarded to its mirror copy (R242): the original's ack waits for the forward's. A forward that
its station refuses leaves the shard DEGRADED. `src` 64 is the host's write number `seq`, whose completion on the link waits (R303); 65 a write that nobody waits for. -/
def State.forwardWrite (s : State) (site src seq cls a : Nat) (bs : List Byte) (bad : Nat → Bool) : State :=
  (s.mirrorRuns a bs.length).foldl (fun t r =>
    (chunks r.2.2 r.2.1).foldl (fun t c =>
      let q : SendReq := { dest := 24 + r.2.2 / stackSize, cls := cls, op := 0, len := c.2 / 16, addr := r.2.2 + c.1
                           poison := flitPoison c.2 fun i => bad (r.1 + c.1 + i), payload := slice bs (r.1 + c.1) c.2
                           agent := .memory, fwd := some (src, seq) }
      if (t.sendCheck site q).isSome then t.degradeAt q.addr
      else
        let t1 := if src < 64 then
            t.setSpace src site { t.space src site with fwdHold := (t.space src site).fwdHold ++ [seq] }
          else if src = 64 then t.hostHold seq else t
        (t1.takeIn site q).pump site) t) s

/-- The response to a read request (R52, R524). -/
def State.respond (s : State) (site : Nat) (p : Pkt) (bs : List Byte) (poison : Nat) : State :=
  s.send site { dest := p.src, cls := 1, op := 2, len := p.len, addr := p.aux, rtag := p.rtag, poison := poison, payload := bs
                agent := .memory, part := if 42 ≤ site then some p.part else none }

/-- A write or a read request of the host window handed to the link (R307): it is committed when the link completes it. -/
def State.hostIssue (s : State) (p : Pkt) : State :=
  let a := s.hpa p.addr
  let n := p.len * 16
  let s1 := { s with host := { s.host with accs := s.host.accs ++ [⟨s.host.next, p⟩], next := s.host.next + 1 } }
  if p.op = 0 then
    (poisonRuns p.addr n fun i => bit p.poison (i / 64)).foldl (fun t r =>
      t.emit (.hostWrite (a + r.1) (slice p.payload r.1 r.2.1) r.2.2)) s1
  else s1.emit (.hostRead a n)

/-- What a packet does at its reader (R82): the state, or `none` where hub W waits on the host link. -/
def State.deliver (s : State) (site : Nat) (p : Pkt) (ecc : List EccHit) : Option State :=
  let n := p.len * 16
  let cnt := (s.bump F.SKY_EJ_PKT site).bump F.SKY_EJ_BYTE site 0 p.wire
  if siteKind site = .guest && p.op ≠ 2 then some (cnt.emit (.toGuest site p))
  else match p.op with
    | 0 => match s.region p.addr with
      | .hbm _ | .cache _ =>
        let t := if n = 0 then cnt else cnt.store p.addr p.payload (fun i => bit p.poison i) ecc
        some (if s.isForward site p then t else t.forwardWrite site p.src p.seq p.cls p.addr p.payload fun i => bit p.poison (i / 64))
      | .host => if n = 0 then some cnt else none
      | _ => some (cnt.cometStore p (s.winUnder site p) ((s.requestOf site p).bind fun r => r.work))
    | 1 => match s.region p.addr with
      | .hbm _ | .cache _ =>
        let t := cnt.eccIn p.addr n 0 ecc
        some (t.respond site p (t.readBytes p.addr n) (flitPoison n fun i => t.poisoned ((p.addr + i) / 64)))
      | .host => if n = 0 then some (cnt.respond site p [] 0) else none
      | _ => some (cnt.cometLoad p (s.winUnder site p) ((s.requestOf site p).bind fun r => r.work))
    | 2 => match s.answered site p with
      | none => some cnt
      | some t =>
        if t.dieGen ≠ s.get F.FLT_DOM0_GEN t.dom then
          some ((if site < 42 then s.bump F.SKY_LATE_GEN site else s.add F.FLT_DOM0_LATE 1 t.dom).endRead site t.rtag)
        else
          let own := match s.region p.addr with
            | .hbm m => decide (site = 24 + m)
            | .cache k => decide (site = k)
            | _ => false
          let u := if own && decide (0 < n) then
              (cnt.store p.addr p.payload (fun i => bit p.poison i) ecc).forwardWrite site 65 0 3 p.addr p.payload fun i => bit p.poison (i / 64)
            else cnt
          let v := if siteKind site = .guest then u.emit (.toGuest site p) else u.emit (.readData site p.rtag p.payload p.poison)
          some (v.endRead site t.rtag)
    | _ =>
      let x := cnt.stn site
      some ((cnt.setStn site { x with mailbox := x.mailbox ++ [(p.src, p.addr % 64, p.payload)] }).emit
        (.message site p.src (p.addr % 64) p.payload))

/-- CUM moved over a committed or refused packet, which leaves the reorder store, and the ack it calls for (R81 to R83): at once after a refusal, after 8 commits and while the
station drains. -/
def State.commitDone (s : State) (site : Nat) (p : Pkt) (why : Option Nat) : State :=
  let sp := s.space p.src site
  let s1 := s.setSpace p.src site { sp with
    rxCum := p.seq
    held := sp.held.filter fun q => decide (q.seq ≠ p.seq)
    unacked := sp.unacked + 1
    oldest := sp.oldest.or (some s.now)
    reject := match why with
      | some r => some (p.seq, r)
      | none => sp.reject }
  if why.isSome || decide (8 ≤ sp.unacked + 1) || s.get F.SKY_STN_STATUS_STATE site = 3 then s1.sendAck site p.src else s1

/-- Whether hub W waits on the link for a packet (R307). -/
def State.hostWaits (s : State) (site src seq : Nat) : Bool :=
  site = 42 && s.host.accs.any fun a => decide (a.pkt.src = src) && decide (a.pkt.seq = seq)

/-- Steps 7 to 9 of R55 on the next packet of its space; false where it stays uncommitted: hub W waits on it, or the link is down, while hub W refuses
and delivers nothing (R307). -/
def State.commitNext (s : State) (site : Nat) (p : Pkt) (ecc : List EccHit) : State × Bool :=
  if (site = 42 && !s.linkUp) || s.hostWaits site p.src p.seq then (s, false)
  else match s.refusal site p with
    | some (why, f) => ((s.bump f site).commitDone site p (some why), true)
    | none => match s.deliver site p ecc with
      | some t => (t.commitDone site p none, true)
      | none => (s.hostIssue p, false)

/-- Held packets of a space committed in order while the next one is held (R81); one that hub W cannot commit yet stays held. -/
def State.commitRest (s : State) (site src : Nat) (ecc : List EccHit) : Nat → State
  | 0 => s
  | fuel + 1 =>
    let sp := s.space src site
    match sp.held.find? fun p => decide (p.seq = (sp.rxCum + 1) % 2 ^ 24) with
    | none => s
    | some p => match s.commitNext site p ecc with
      | (t, true) => t.commitRest site src ecc fuel
      | (t, false) => t

/-! ## Steps 1 to 6 -/

/-- A sequenced packet that passed steps 1 to 5 and the generation check classified and taken (R79, R81). -/
def State.classify (s : State) (site : Nat) (p : Pkt) (ecc : List EccHit) : State :=
  let sp := s.space p.src site
  let d := subMod 24 p.seq sp.rxCum
  if d = 0 || decide (2 ^ 23 < d) then (s.bump F.SKY_DUP site).sendAck site p.src
  else if d = 1 then
    if s.hostWaits site p.src p.seq then s.bump F.SKY_DUP site
    else match s.commitNext site p ecc with
      | (t, true) => t.commitRest site p.src ecc (sp.held.length + 1)
      | (t, false) => t
  else if d ≤ 8192 then
    if sp.held.any fun q => decide (q.seq = p.seq) then s.bump F.SKY_DUP site
    else if reorderLimit site ≤ s.heldNow site then s.bump F.SKY_REORDER_FULL site
    else
      let s1 := s.setSpace p.src site { sp with held := sp.held ++ [p] }
      s1.mark F.SKY_DLV_STAT_HELD_MAX (s1.heldNow site) site
  else s.bump F.SKY_WINDOW site

/-- The relay path (R64): into the buffer of its VC, or dropped at a full one; a station without relay buffers has no room for any. -/
def State.relayIn (s : State) (site : Nat) (p : Pkt) : State :=
  if relays site && decide (0 < (s.stn site).relayFree p.vc) then
    ((((s.bump F.SKY_RIN_PKT site).bump F.SKY_RIN_BYTE site 0 p.wire).enqueue site (4 + p.vc) p).flags site).pump site
  else s.bump F.SKY_RELAY_DROP site

/-- Whether a station's receivers work: neither OFF nor in reset nor retired (R525). -/
def State.receives (s : State) (site : Nat) : Bool :=
  let st := s.get F.SKY_STN_STATUS_STATE site
  st ≠ 0 && st ≠ 5 && st ≠ 6

/-- A packet received by a station off the channel at place `ch` of its map: the checks of R55 in order. -/
def State.receive (s : State) (site ch : Nat) (q : Pkt) (ecc : List EccHit) : State :=
  let p := q.cut
  if 44 ≤ site || !s.receives site || decide ((s.rxChans site).length ≤ ch) then s
  else if p.hcrc ≠ p.hcrcOf then s.bump F.SKY_HDR_CRC site
  else
    let s1 := (s.bump F.SKY_RXCNT_PKT site ch).bump F.SKY_RXCNT_BYTE site ch p.wire
    if 44 ≤ p.dest || 44 ≤ p.src then s1.bump F.SKY_BAD_SITE site
    else if !p.formatOk then s1.bump F.SKY_BAD_FMT site
    else if p.dest ≠ site then s1.relayIn site p
    else if s1.isSet F.SKY_DLV_EJECT_CLOSED site || (s1.space p.src site).rxClosed then s1.bump F.SKY_CLOSED site
    else if p.pcrc ≠ p.pcrcOf then s1.bump F.SKY_PAY_CRC site
    else if p.gen ≠ (s1.space p.src site).rxGen then s1.bump F.SKY_STALE_GEN site
    else if p.op = 4 then s1.takeAck site p
    else s1.classify site p ecc

/-- PACKET_RECEIVE (R55). -/
def execPacketReceive (site ch : Nat) (p : Pkt) (ecc : List EccHit) (s : State) : Res :=
  live s fun s => s.receive site ch p ecc

/-- SKY_ACK (R53, R80, R85, R87): an ack received at the source it is for. -/
def execSkyAck (site ch : Nat) (p : Pkt) (s : State) : Res :=
  live s fun s => if p.cut.op = 4 && decide (p.cut.dest = site) then s.receive site ch p [] else s

end Sys2Proof.Machine
end

