-- ==== Sys2Proof/Machine/Cxl.lean ====
section
/-! DEFINITION. Meanings of the host link's commands: CXL.mem (R228, R303 to R305), the link's state (R307), CXL.cache completions and
snoops (R301). -/

namespace Sys2Proof.Machine

/-- Whether CXL.mem is served: the link is up and the memory is active (R460 step 8). -/
def State.memActive (s : State) : Bool := s.linkUp && s.inService

/-- The stack whose block counts a dropped access (R305), where the address lies in the HDM range (R228). -/
def hdmStack (a : Nat) : Option Nat :=
  match regionOf a with
  | .hbm m => some m
  | _ => none

/-- CXL_MEM_WRITE (R228, R303, R305): up to a line of 64 bytes written, which completes on the link once it is committed and its forwards are acknowledged;
one into a reserved area, a hot prefix, a mirror copy or an unmapped range is dropped and counted, and completes at once. -/
def execCxlMemWrite (addr : Nat) (data : List Byte) (poison : Bool) (ecc : List EccHit) (s : State) : Res :=
  live s fun s =>
    match hdmStack addr with
    | none => s
    | some m =>
      let bs := data.take (64 - addr % 64)
      let n := bs.length
      if !s.memActive || n = 0 then s
      else if decide (s.region addr = .unmapped) || reservedOff m (addr % stackSize) || s.inHotPrefix addr n || s.inMirror addr n then
        (s.bump F.MBD_HDM_DROP m).emit (.cxlDone addr)
      else
        let id := s.host.next
        let t := (s.store addr bs (fun _ => poison) ecc).hostOwes id addr
        (t.forwardWrite (24 + m) 64 id 2 addr bs fun _ => poison).hostFree id

/-- CXL_MEM_READ (R228, R305): the line at the address, with the data-poison indication; all ones, poisoned and counted, of an unmapped
range. -/
def execCxlMemRead (addr : Nat) (ecc : List EccHit) (s : State) : Res :=
  live s fun s =>
    match hdmStack addr with
    | none => s
    | some m =>
      let a := addr / 64 * 64
      if !s.memActive then s
      else if s.region a = .unmapped then (s.bump F.MBD_HDM_DROP m).emit (.cxlData a (List.replicate 64 0xFF) true)
      else
        let t := s.eccIn a 64 0 ecc
        t.emit (.cxlData a (t.readBytes a 64) (t.poisoned (a / 64)))

/-- CXL_LINK_DOWN (R307, R499): what waits on the link does not complete. -/
def execCxlLinkDown (s : State) : Res :=
  liveHub s fun s => ({ (if s.linkUp then s.lifeAdd 0x4518 1 else s) with host := { s.host with accs := [], writes := [] } }).set F.DLR_STAT_LINK_UP 0

/-- The mirror writes and head records that waited for the link (R342, R348, R349). -/
def State.mirrorAgain (s : State) : State :=
  let s1 := s.tally.entries.foldl (fun t x =>
    if x.2.state = 0 || !x.2.acked then t
    else if !x.2.visible then (t.mirrorLine x.1 1 x.2.line1).mirrorLine x.1 0 (x.2.line0 x.1)
    else if (x.2.state = 3 && !x.2.doneVis) || x.2.again || t.tally.failed.any fun y => decide (y.1 = x.1) then t.mirrorLine x.1 0 (x.2.line0 x.1)
    else t) s
  ((List.range 64).filter fun d => decide (s.deckState d ≠ 0)).foldl State.writeHead s1

/-- What hub W's reorder store holds as the next of its space taken up again once the link is back (R81, R307). -/
def State.takeHeld (s : State) : State :=
  (List.range 44).foldl (fun t y => t.commitRest 42 y [] ((t.space y 42).held.length + 1)) s

/-- The width and the rate of the link (R301): x16, x8 or x4, and 128, 64 or 32 GT/s. Which of them it trains to is free (log entry 193). -/
def State.trained (s : State) : State :=
  let p := s.draw 2
  let q := p.2.draw 2
  { q.2 with host := { q.2.host with width := [16, 8, 4].getD p.1 16, rate := [128, 64, 32].getD q.1 128 } }

/-- CXL_LINK_UP (R301, R307, R499: a link that was trained before has retrained): the link answers from the end of boot step 2 on (R460); waiting mirror writes, completions and packets resume. -/
def execCxlLinkUp (s : State) : Res :=
  liveHub s fun s =>
    if s.linkUp || (decide (s.get F.FLT_BOOT_STEP < 3) && !s.patience && !s.fatal) then s
    else
      let t := (if s.host.width = 0 then s else s.lifeAdd 0x451C 1).trained.set F.DLR_STAT_LINK_UP 1
      if t.fatal then t else t.mirrorAgain.postAll.takeHeld

/-- CXL_SNOOP (R301): the part holds no host line and answers with a miss. -/
def execCxlSnoop (addr : Nat) (s : State) : Res :=
  liveHub s fun s => if s.linkUp then s.emit (.snoopMiss addr) else s

/-- HOST_ACCESS_COMPLETE (R307): the link has completed an access to the host window: the write is committed, or the read is answered with the
data the host returned; bit `i` of `poison` marks its `i`-th 64 bytes. -/
def execHostAccessComplete (id : Nat) (data : List Byte) (poison : Nat) (s : State) : Res :=
  live s fun s =>
    match s.host.accs.find? fun a => decide (a.id = id) with
    | none => s
    | some a =>
      let p := a.pkt
      let s1 := { s with host := { s.host with accs := s.host.accs.filter fun x => decide (x.id ≠ id) } }
      let s2 := (s1.bump F.SKY_EJ_PKT 42).bump F.SKY_EJ_BYTE 42 0 p.wire
      let s3 := if p.op = 1 then s2.respond 42 p (slice data 0 (p.len * 16)) (poison % 16) else s2
      (s3.commitDone 42 p none).commitRest 42 p.src [] ((s3.space p.src 42).held.length + 1)

end Sys2Proof.Machine
end

