-- ==== Sys2Proof/Machine/RegView.lean ====
section
/-! DEFINITION. What a register reads as: its fields, and the fields whose value the part computes from the rest of its state at the read
(R76, R102, R137, R165, R184, R224, R256, R258, R299, R309, R310, R337, R371, R372, R407). -/

namespace Sys2Proof.Machine

/-- An entry of SKY_TXMAP or SKY_RXMAP (R76): UNUSED beyond the map. -/
def chanView (c : Option (Nat × Chan)) (peer : Chan → Nat) : List (Nat × Nat) :=
  match c with
  | none => [(0, 0), (2, 0), (8, 0), (13, 0), (19, 0), (22, 0)]
  | some (_, x) => [(0, x.orbit), (2, x.wg), (8, x.lambda), (13, peer x), (19, x.state), (22, b2n x.allpairs)]

/-- A ring's STATE as TWK_RING shows it (R137): ABSENT where the site has no such ring, IDLE while no channel of the chart uses it. -/
def State.ringShown (s : State) (site i : Nat) : Nat :=
  let st := s.get F.TWK_RING_STATE site i
  if !s.hasRing site i then 0
  else if st = 0 || (st = 4 && decide (i < 768) && (s.chansOf site i).isEmpty) then 1
  else st

/-- How many rings of a site show a state that `p` accepts. -/
def State.ringsIn (s : State) (site : Nat) (p : Nat → Bool) : Nat :=
  ((List.range 1024).filter fun i => p (s.ringShown site i)).length

/-- An OMU's state (R165). -/
def State.omuState (s : State) (t u : Nat) : Nat := s.get F.OMU_STAT_STATE t u

/-- The OMUs of a tile whose state `p` accepts, as a mask. -/
def State.omusIn (s : State) (t : Nat) (p : Nat → Bool) : Nat := bitMask ((List.range 4).filter fun u => p (s.omuState t u))

/-- MBD_STAT.STATE (R256): 0 OFF, 1 TRAINING, 2 ACTIVE, 3 RESET, 4 RETIRED. -/
def State.mbdState (s : State) (m : Nat) : Nat :=
  let d := s.get F.FLT_DOM0_STATE (68 + m)
  if d = 3 then 4 else if d = 1 then 3 else if d = 4 then 0
  else if s.boot.done.contains 6 then 2 else if s.boot.done.contains 3 then 1 else 0

/-- MiB of a number of bytes, rounded up. -/
def mib (n : Nat) : Nat := ceilDiv n 1048576

/-- The peer that CMT_PEER_VIEW shows (R407), when it is in the peer table. -/
def State.peerShown (s : State) : Option (Nat × PeerDef) :=
  let p := s.get F.CMT_PEER_SEL_PART
  (s.peerDef p).map fun d => (p, d)

/-- The fields of the Dealer, hand and Tally blocks that are computed at a read, as (lowest bit, value). -/
def State.viewHost (s : State) (base i : Nat) : List (Nat × Nat) :=
  match base with
  | 0x0 => [(1, ((List.range 64).filter fun d => s.deckState d = 1 || s.deckState d = 2).length)]
  | 0x101C => [(22, (s.deckPart i).getD 0), (24, b2n (s.cqHeld i))]
  | 0x10008 => [(0, s.evf.words.length), (13, b2n s.evf.words.isEmpty)]
  | 0x20010 => [(0, s.headSeq)]
  | 0x30000 => [(0, s.inFlight), (22, s.freeSlots.length)]
  | 0x30180 => [(0, (tabGet (0, 0) s.hands.pools i).2 * 1024 - mib (s.shadowUsed i)), (32, s.redirected i)]
  | 0x30200 => let h := tabGet ({} : Hand) s.hands.slots i
    [(0, h.id), (16, h.state), (32, h.reserved)]
  | 0x30208 => let h := tabGet ({} : Hand) s.hands.slots i
    [(0, mib h.used), (32, h.rows.length)]
  | 0x30210 => [(0, (tabGet ({} : Hand) s.hands.slots i).commitT)]
  | 0x30218 => [(0, (tabGet ({} : Hand) s.hands.slots i).left)]
  | _ => []

/-- The fields of the Sky and delivery blocks that are computed at a read. -/
def State.viewSky (s : State) (base i j : Nat) : List (Nat × Nat) :=
  match base with
  | 0x1000100 =>
    let n := ((s.stn i).queue j).length
    [(0, n), (16, if s.isSet F.SKY_STN_CTRL_FREEZE i then s.get F.SKY_QDEPTH_MAX i j else max n (s.get F.SKY_QDEPTH_MAX i j))]
  | 0x1000200 => [(0, if s.isSet F.SKY_STN_CTRL_FREEZE i then s.get F.SKY_STALL_CYCLES i j else (s.get F.SKY_STALL_CYCLES i j + s.stallDue i j) % 2 ^ 64)]
  | 0x1001000 => chanView (s.txChans i)[j]? fun c => c.reader
  | 0x1001800 => chanView (s.rxChans i)[j]? fun c => c.writer
  | 0x1500000 =>
    let held := s.heldNow i
    [(0, held), (12, if s.isSet F.SKY_STN_CTRL_FREEZE i then s.get F.SKY_DLV_STAT_HELD_MAX i else max held (s.get F.SKY_DLV_STAT_HELD_MAX i)),
     (24, (s.stn i).fences.length)]
  | 0x1500100 =>
    if 44 ≤ j || i = j then [(0, 0), (24, 0), (40, 0)]
    else let x := s.space i j
      [(0, x.txNext), (24, x.store.length), (40, x.txCum)]
  | 0x1500108 =>
    if 44 ≤ j || i = j then [(0, 0), (24, 0), (32, 0)]
    else let x := s.space j i
      [(0, x.rxCum), (24, x.rxGen), (32, x.held.length)]
  | _ => []

/-- The fields of the light, OMU, compute, memory and check blocks that are computed at a read. -/
def State.viewDie (s : State) (base i j : Nat) : List (Nat × Nat) :=
  match base with
  | 0x1700000 => [(0, s.ringsIn i fun x => x = 4), (11, s.ringsIn i fun x => x = 2 || x = 3), (22, s.ringsIn i fun x => x = 6)]
  | 0x1701000 => [(19, s.ringShown i j)]
  | 0x1800004 =>
    [(0, s.omusIn i fun x => x = 1 || x = 2), (4, s.omusIn i fun x => x = 5 || x = 6),
     (8, b2n (s.isSet F.OMU_TILE_CTRL_HALT i && !s.cmp.passes.any fun p => decide (p.tile = i) && !p.waits))]
  | 0x1800100 => match (s.cmp.passes.filter fun p => p.runsOn i j).getLast? with
    | some p => [(16, dNvec p.desc - p.fed s.now)]
    | none => [(16, 0)]
  | 0x1900004 =>
    [(0, ((List.range 96).filter fun k => s.isSet F.OMU_STAT_STALE (k / 4) (k % 4)).length), (7, s.omus.failing.length), (14, s.omus.uncal.length)]
  | 0x1A00000 =>
    let rs := s.cmp.runs.filter fun r => decide (r.tile = i)
    [(0, s.get F.CLK_DIE_EFF i), (3, s.get F.CLK_DIE_CEIL_TRIM i), (6, b2n (rs.any fun r => decide (r.op.opcode = 0x0B))), (7, b2n !rs.isEmpty)]
  | 0x1B00000 =>
    let waiting := ((s.stn (24 + i)).mailbox.filter fun q => decide (q.2.1 = 1)).length
    [(0, s.mbdState i), (3, b2n (s.boot.done.contains 6 && s.mbdUp i)), (8, waiting + (s.cmp.jobs.filter fun q => decide (q.mbd = i)).length)]
  | 0x1C00000 => [(4, bitMask ((List.range 8).filter fun k => s.get F.CHK_STATUS_STATE i k = 1))]
  | 0x1D00010 => [(0, s.now)]
  | _ => []

/-- The fields of the Comet block that are computed at a read (R407). -/
def State.viewCmt (s : State) (base i : Nat) : List (Nat × Nat) :=
  let w := tabGet {} s.cmt.wins i
  let installed (l : List (Nat × Nat)) : List (Nat × Nat) := if s.isSet F.CMT_STAT_WIN_PENDING then [] else l
  match base with
  | 0x1E01000 => installed [(0, b2n w.valid), (1, b2n w.read), (2, b2n w.write), (3, b2n w.atomic), (4, b2n w.bulk), (5, b2n w.gateway), (16, w.peer)]
  | 0x1E01008 => installed [(16, w.base / 65536)]
  | 0x1E01010 => installed [(0, w.size)]
  | 0x1E01018 => installed [(16, w.remote / 65536)]
  | 0x1E00004 => [(22, (s.cmt.sess.filter fun p => p.2.lost).length)]
  | 0x1E00080 => match s.peerShown with
    | none => []
    | some (p, d) => let x := s.sess p
      [(0, 1), (1, b2n x.up), (2, b2n d.far), (3, (s.upPaths p).length), (7, match x.ord with
        | some k => (s.pathAt p k).1
        | none => 0), (16, x.epoch.getD 0)]
  | 0x1E00088 => match s.peerShown with
    | none => []
    | some (p, _) => [(0, (s.sess p).txNext), (32, (s.sess p).txCum)]
  | 0x1E00090 => match s.peerShown with
    | none => []
    | some (p, _) => [(0, (s.sess p).cum 0), (32, ((s.sess p).tx.filter fun e => !e.acked).length)]
  | 0x2000108 => [(0, if s.isSet F.CLK_CTRL_FREEZE then s.get F.CLK_STRETCH_CYC i else (s.get F.CLK_STRETCH_CYC i + s.stretchDue i) % 2 ^ 64)]
  | 0x4041000 => [(0, bitsOf s.vectorsPending (32 * i) 32)]
  | _ => []

/-- Every computed field of a register; `viewCmt` holds those behind the Comet block too. -/
def State.views (s : State) (base i j : Nat) : List (Nat × Nat) :=
  if base < 0x1000000 then s.viewHost base i
  else if base < 0x1600000 then s.viewSky base i j
  else if base < 0x1E00000 then s.viewDie base i j
  else s.viewCmt base i

/-- What a register reads as; WO fields read 0 (R9), reserved bits read 0 (R8). -/
def State.regValue (s : State) (r : Reg) (i j : Nat) : Nat :=
  let vs := s.views r.base i j
  packBits (r.flds.map fun f =>
    (f.lsb, f.w, if f.acc = .wo then 0 else match vs.find? fun v => decide (v.1 = f.lsb) with
      | some v => v.2
      | none => s.get f i j))

/-- Whether a reset domain's clock stands: it is in reset or retired (R423). -/
def State.domStopped (s : State) (d : Nat) : Bool := s.get F.FLT_DOM0_STATE d = 1 || s.get F.FLT_DOM0_STATE d = 3

/-- Whether a register is one of the windows that hub W keeps in FATAL and in Patience mode: FLT_, ALM_, the event FIFO (R463, R466). -/
def Reg.kept (r : Reg) : Bool :=
  (decide (0x2200000 ≤ r.base) && decide (r.base < 0x2300000)) || (decide (0x2400000 ≤ r.base) && decide (r.base < 0x2500000)) ||
  (decide (0x10000 ≤ r.base) && decide (r.base < 0x11000))

/-- Whether the clock of a register's domain stands (R423): in FATAL, before the PLLs lock at the end of boot step 3, and while the domain is in
reset or retired. A station's registers stand with its Firmament site too; a check-value engine lies in its hub's front end (R467). -/
def State.stopped (s : State) (r : Reg) (i : Nat) : Bool :=
  !r.kept && (s.fatal || decide (s.get F.FLT_BOOT_STEP < 4) ||
    (match r.dom with
     | .stn => s.domStopped (84 + i) || s.domStopped (24 + i)
     | .site => s.domStopped (24 + i)
     | .tile => s.domStopped i
     | .mbd => s.domStopped (68 + i)
     | .front => s.domStopped (128 + i)
     | .port => s.domStopped (80 + i / 8)
     | .dev => decide (0x1C00000 ≤ r.base) && decide (r.base < 0x1D00000) && s.domStopped (128 + i)))

/-- The 32-bit word at a BAR0 offset as an access would see it, nothing else done: all ones where the clock stands, 0 where nothing is mapped. -/
def State.peek (s : State) (off : Nat) : Nat :=
  match regAt off with
  | some (r, i, j) => if s.stopped r i then 0xFFFFFFFF else s.regValue r i j % 2 ^ 32
  | none => match (if off < 4 then none else regAt (off - 4)) with
    | some (r, i, j) => if !r.wide then 0 else if s.stopped r i then 0xFFFFFFFF else s.regValue r i j / 2 ^ 32
    | none => 0

end Sys2Proof.Machine
end

