-- ==== Sys2Proof/Machine/RegOps.lean ====
section
/-! DEFINITION. An access to BAR0 (R7 to R11, R423, R486 to R488): reads and writes of registers, whole and in halves, and what a write of
a register does beside its fields. -/

namespace Sys2Proof.Machine

/-- The register an offset falls in, its indices, and whether the offset is that of its high half. -/
def spotAt (off : Nat) : Option (Reg × Nat × Nat × Bool) :=
  match regAt off with
  | some (r, i, j) => some (r, i, j, false)
  | none => if off < 4 then none else match regAt (off - 4) with
    | some (r, i, j) => if r.wide then some (r, i, j, true) else none
    | none => none

/-- A half latched or held (R7): the value plus 1, so that an unlisted key is none. -/
def State.setLatch (s : State) (off : Nat) (src : Iface) (v : Nat) : State :=
  { s with halves := { s.halves with latched := tabPut 0 s.halves.latched (off * 4 + Iface.code src) v } }

def State.setHeld (s : State) (off : Nat) (src : Iface) (v : Nat) : State :=
  { s with halves := { s.halves with held := tabPut 0 s.halves.held (off * 4 + Iface.code src) v } }

/-! ## Reads -/

/-- A whole register read: EVF_DATA pops (R334). -/
def State.readReg (s : State) (r : Reg) (i j : Nat) (flip : Nat) : Nat × State :=
  if r.base = 0x10000 then s.popEvf flip else (s.regValue r i j, s)

/-- A 32-bit read (R7, R8, R423). -/
def State.read32 (s : State) (src : Iface) (off : Nat) (flip : Nat) : Nat × State :=
  match spotAt off with
  | none => (0, s.add F.MGT_UNMAPPED 1)
  | some (r, i, j, high) =>
    if s.stopped r i then (0xFFFFFFFF, s.add F.CLK_STAT_STOPPED_ACC 1)
    else if high then
      match tabGet 0 s.halves.latched ((off - 4) * 4 + Iface.code src) with
      | 0 => (s.regValue r i j / 2 ^ 32, s)
      | v + 1 => (v, s.setLatch (off - 4) src 0)
    else
      let p := s.readReg r i j flip
      if r.wide then (p.1 % 2 ^ 32, p.2.setLatch off src (p.1 / 2 ^ 32 + 1)) else p

/-- A 64-bit read: of a 64-bit register at once; elsewhere two 32-bit reads, the low one first. -/
def State.read64 (s : State) (src : Iface) (off : Nat) (flip : Nat) : Nat × State :=
  match spotAt off, spotAt (off + 4) with
  | none, none => (0, s.add F.MGT_UNMAPPED 1)
  | some (r, i, j, false), some (_, _, _, true) =>
    if s.stopped r i then (2 ^ 64 - 1, s.add F.CLK_STAT_STOPPED_ACC 1) else s.readReg r i j flip
  | _, _ =>
    let a := s.read32 src off flip
    let b := a.2.read32 src (off + 4) flip
    (a.1 + b.1 * 2 ^ 32, b.2)

/-- A read over BAR0. -/
def State.busRead (s : State) (src : Iface) (off : Nat) (wide : Bool) (flip : Nat) : Nat × State :=
  if wide then s.read64 src off flip else s.read32 src off flip

/-! ## Fields of a write -/

/-- A value with the bits of `m` taken from `x`. -/
def mixBits (cur x m : Nat) : Nat := cur - (cur &&& m) + (x &&& m)

/-- A field's value after a write of `v` to the bits of `mask` of its register (R9, R10). -/
def Fld.written (f : Fld) (cur v mask : Nat) : Nat :=
  let m := bitsOf mask f.lsb f.w
  let x := bitsOf v f.lsb f.w
  match f.acc with
  | .rw => mixBits cur x m
  | .w1c => cur - (cur &&& (x &&& m))
  | .w1s => cur ||| (x &&& m)
  | .lo => if mixBits cur x m < cur then mixBits cur x m else cur
  | .ro | .wo => cur

/-- Whether a write tries to raise one of a register's LO fields (R485). -/
def State.raises (s : State) (r : Reg) (i j v mask : Nat) : Bool :=
  r.flds.any fun f => decide (f.acc = .lo) && decide (s.get f i j < mixBits (s.get f i j) (bitsOf v f.lsb f.w) (bitsOf mask f.lsb f.w))

/-! ## Writes that are ignored -/

/-- A firmware attempt that R485 forbids, counted. -/
def State.blocked (s : State) (src : Iface) : State := if src = .croupier then s.add F.GRD_STAT_BLOCKED 1 else s

/-- A write to a deck's ring registers (R311): ignored and counted unless the deck is DISABLED; of CFG, ENABLE is taken in every state. -/
def State.screenDeck (s : State) (r : Reg) (i j v mask : Nat) : Nat × State :=
  if s.deckState i = 0 then
    (if r.base = 0x1018 && bit v 0 && !s.inService then mask &&& 0xFFFFFFFE else mask, s)
  else if r.base = 0x1018 then
    (mask &&& 1, if r.flds.any fun f => decide (0 < f.lsb) && decide (f.written (s.get f i j) v mask ≠ s.get f i j) then s.add F.DLR_DECK_IGN 1 i else s)
  else (0, s.add F.DLR_DECK_IGN 1 i)

/-- Which bits of a write are taken, and what is counted for those that are not (R311, R350, R357, R378, R464, R479, R485). Stall cycles and stretched
periods up to a write of FREEZE or CLEAR count under the FREEZE that held (R76). -/
def State.screen (s : State) (src : Iface) (r : Reg) (i j v mask : Nat) : Nat × State :=
  match r.base with
  | 0x1000 | 0x1008 | 0x1010 | 0x1018 => s.screenDeck r i j v mask
  | 0x20008 => if (List.range 64).all fun d => decide (s.deckState d = 0) then (mask, s) else (0, s.add F.TAL_STAT_IGN 1)
  | 0x30100 => if s.freeSlots.length = 32 && s.inFlight = 0 then (mask, s) else (0, s.add F.HND_STAT_IGN 1)
  | 0x1E01000 | 0x1E01008 | 0x1E01010 | 0x1E01018 =>
    if src = .host then (mask, s) else (0, (s.add F.CMT_STAT_WIN_IGN 1).blocked src)
  | 0x2201000 =>
    let new := F.FLT_SRC_SEV.written (s.get F.FLT_SRC_SEV i) v mask
    if 248 ≤ i || s.isSet F.FLT_SRC_FIXED i then
      (mask - (mask &&& 7), if i < 248 && decide (new ≠ s.get F.FLT_SRC_SEV i) then s.blocked src else s)
    else if 5 ≤ new then (mask - (mask &&& 7), s) else (mask, s)
  | 0x1000000 => (mask, s.stallCount i)
  | 0x2000000 => (mask, (List.range 24).foldl State.accrue s)
  | _ => (mask, if s.raises r i j v mask then s.blocked src else s)

/-! ## What a write does beside its fields -/

/-- Whether a counter of block `z` (of station `i` for `.stn`) has its home at `key`. -/
def countsAt (z : Frz) (i key : Nat) : Bool :=
  match regAt (key / 64), fldAt key with
  | some (_, k, _), some f => decide (f.cls ≠ .plain) &&
    ((decide (f.frz = z) && (decide (z ≠ .stn) || decide (k = i))) || (decide (z = .stn) && decide (f.frz = .mem) && decide (k + 24 = i)))
  | _, _ => false

/-- Whether a reset of station `k` clears the value at `key` (R76, R102, R137, R165, R224, R256, R257): its own registers, and the counters and watermarks of the
blocks of its site, which follow R76's reset rule whatever domain their other registers belong to. -/
def stationClears (k key : Nat) : Bool :=
  clears .stn k key || (countsAt .stn k key && match fldAt key with
    | some f => decide (f.kind = .val)
    | none => false)

/-- The registers that a station's reset clears at their Reset column again (R12, R76). -/
def State.clearStation (s : State) (k : Nat) : State := { s with regs := s.regs.filter fun p => !stationClears k p.1 }

/-- Every counter and watermark of a block cleared at one instant (R76, R102, R137, R165, R224, R256, R299, R407). -/
def State.clearCounters (s : State) (z : Frz) (i : Nat) : State := { s with regs := s.regs.filter fun p => !countsAt z i p.1 }

/-- A station's watermarks after a clear: what its queues and its reorder store hold counts at once (R76, R102). -/
def State.markStation (s : State) (k : Nat) : State :=
  ((List.range 6).foldl (fun t q => t.markDepth k q) s).mark F.SKY_DLV_STAT_HELD_MAX (s.heldNow k) k

/-- ENABLE 1 written to a DISABLED deck (R311, R350): the completions owed by a recovered Tally stay owed. -/
def State.enableDeck (s : State) (d : Nat) : State :=
  let ok (n : Nat) : Bool := decide (6 ≤ n) && decide (n ≤ 16)
  if !(ok (s.get F.DLR_DECK_CFG_SQ_LOG2 d) && ok (s.get F.DLR_DECK_CFG_CQ_LOG2 d)) || decide (s.get F.TAL_MIRROR_BASE = 0) then s.deckError d 1
  else
    let owed := (s.tally.entries.filter fun x => decide (x.2.deck = d) && decide (x.2.state ≠ 0) && !x.2.freed).length
    let s1 := ((((s.set F.DLR_DECK_STAT_SQ_HEAD 0 d).set F.DLR_DECK_CQ_CQ_TAIL 0 d).set F.DLR_DECK_CQ_PHASE 1 d).set F.DLR_DECK_STAT_ERR 0 d)
    let s2 := ((s1.set F.DLR_DECK_STAT_STATE 1 d).set F.DLR_DECK_OUT_OUTSTANDING owed d).setDeck d { accSeq := (s.deck d).accSeq, pend := (s.deck d).pend }
    s2.postDeck d (s2.tally.entries.length + 1)

/-- A write that leaves ENABLE of a deck's CFG as it now stands (R311). -/
def State.deckCfg (s : State) (d v mask : Nat) : State :=
  if !bit mask 0 then s
  else if bit v 0 then (if s.deckState d = 0 then s.enableDeck d else s)
  else if s.deckState d = 1 || s.deckState d = 3 then (s.set F.DLR_DECK_STAT_STATE 2 d).drained d
  else s

/-- The Tally window captured (R371): all 0 for a sequence outside TAL_HEAD_SEQ to TAL_NEXT_SEQ − 1. -/
def State.captureWin (s : State) : State :=
  let q := s.get F.TAL_WIN_SEL
  let e := s.ent q
  let (a, b, c) := if s.headSeq ≤ q && decide (q < s.get F.TAL_NEXT_SEQ) && decide (e.state ≠ 0) then (e.bytes q e.state, e.image q, e.card)
    else ([], [], [])
  let put (t : State) (f : Fld) (n : Nat) (x : List Byte) : State := (wordsOf n x).zipIdx.foldl (fun u p => u.set f p.1 p.2) t
  put (put (put s F.TAL_WIN_ENTRY 4 a) F.TAL_WIN_CPL 4 b) F.TAL_WIN_CARD 8 c

/-- What a write does in the host-side blocks. -/
def State.actHost (s : State) (base i v mask : Nat) : State :=
  match base with
  | 0x20 | 0x28 => s.set F.DLR_STAT_HWIN_PENDING 1
  | 0x1018 => s.deckCfg i v mask
  | 0x1000C => if bit v 0 then s.flushEvf else s
  | 0x20000 => if bit v 0 && decide (s.get F.TAL_STAT_RECOVERY = 1) then s.set F.TAL_STAT_RECOVERY 2 else s
  | 0x20020 => s.captureWin
  | 0x30100 => { s with hands := { s.hands with poolPend := keyPut s.hands.poolPend i } }
  | _ => s

/-- What a write does in the Sky, light, OMU, check-value and transit blocks. -/
def State.actDie (s : State) (base i j v : Nat) : State :=
  match base with
  | 0x1000000 => if bit v 1 then (s.clearCounters .stn i).markStation i else s
  | 0x1500008 => s.wDlvRestart i v
  | 0x1500010 => if bit v 0 then s else s.openEject i
  | 0x1600000 => s.wTwkCtrl v
  | 0x1800000 => s.wTileCtrl i v
  | 0x1C00110 => s.wChkCtrl i j v
  | 0x1C00114 => if bit v 6 && decide (s.get F.CHK_STATUS_STATE i j = 2) then s.set F.CHK_STATUS_STATE 0 i j else s
  | 0x1D00000 => if bit v 1 then s.clearCounters .trn 0 else s
  | _ => s

/-- What a write does in the Comet, clock, thermal, fault, guard and Almanac blocks. -/
def State.actHub (s : State) (src : Iface) (base i v mask : Nat) : State :=
  match base with
  | 0x1E00000 => if bit v 1 then s.clearCounters .cmt 0 else s
  | 0x1E00008 => { s with cmt := { s.cmt with etypePend := true } }
  | 0x1E00020 => s.wAlogQ (s.rawReg 0x1E00020)
  | 0x1E00100 => s.wRetrain i v
  | 0x1E01000 => if mask = 0 then s
    else ({ s with cmt := { s.cmt with staged := keyPut s.cmt.staged i } }).set F.CMT_STAT_WIN_PENDING 1
  | 0x2000000 =>
    let s1 := if bit v 1 then s.clearCounters .clk 0 else s
    if bit v 2 then s1.restoreCeilings else s1
  | 0x2000008 => s.wClkPlan v
  | 0x2100000 => if bit v 1 then s.clearCounters .thm 0 else s
  | 0x2200004 => s.wFltCtrl v
  | 0x2201000 => if bit v 4 then (s.set F.FLT_SRC_COUNT 0 i).alert else s
  | 0x2300010 => s.set F.THM_PWR_CEIL_W (s.get F.GRD_LIMITS_PWR_CEIL)
  | 0x2400004 => s.wAlmCmd v (decide (src = .croupier))
  | 0x404000C => s.unmasked i
  | _ => s

/-- What a write does beside its fields: `v` holds only bits that the write carries and that are taken. -/
def State.act (s : State) (src : Iface) (base i j v mask : Nat) : State :=
  if base < 0x1000000 then s.actHost base i v mask
  else if base < 0x1E00000 then s.actDie base i j v
  else s.actHub src base i v mask

/-! ## Writes -/

/-- The fields of a register after a write (R9, R11). -/
def State.putFields (s : State) (r : Reg) (i j v mask : Nat) : State :=
  r.flds.foldl (fun t f => t.set f (f.written (s.get f i j) v mask) i j) s

/-- One write applied whole (R9, R11, R450, R487, R488): `mask` the bits it carries, `off`, `wide` and `logged` what the change log records. -/
def State.commitReg (s : State) (src : Iface) (r : Reg) (i j v mask off : Nat) (wide : Bool) (logged : Nat) : State :=
  let cfg := r.cfg && (decide (r.base ≠ 0x2201000) || bit mask 0)
  if cfg && s.logFull then s.add F.ALM_HELD_DROP 1
  else
    let p := s.screen src r i j v mask
    let s1 := p.2.putFields r i j v p.1
    let took := r.flds.any fun f => decide (s1.get f i j ≠ s.get f i j)
    let s2 := if cfg then s1.logChange src off wide took logged else s1
    if p.1 = 0 then s2 else s2.act src r.base i j (v &&& p.1) p.1

/-- A write to a register whose clock stands (R423, R450, R488): dropped and counted; one to a configuration-class register makes an entry that was not taken. -/
def State.dropWrite (s : State) (src : Iface) (r : Reg) (off : Nat) (wide : Bool) (logged : Nat) : State :=
  let s1 := s.add F.CLK_STAT_STOPPED_ACC 1
  if !r.cfg then s1
  else if s1.logFull then s1.add F.ALM_HELD_DROP 1
  else s1.logChange src off wide false logged

/-- A 32-bit write (R7, R8, R423): a low half is held, a high half commits with the held low half or alone. -/
def State.write32 (s : State) (src : Iface) (off v : Nat) : State :=
  match spotAt off with
  | none => s.add F.MGT_UNMAPPED 1
  | some (r, i, j, high) =>
    if s.stopped r i then (if r.wide && !high then s.add F.CLK_STAT_STOPPED_ACC 1 else s.dropWrite src r off false (v % 2 ^ 32))
    else if !r.wide then s.commitReg src r i j (v % 2 ^ 32) 0xFFFFFFFF off false (v % 2 ^ 32)
    else if !high then s.setHeld off src (v % 2 ^ 32 + 1)
    else
      match tabGet 0 s.halves.held ((off - 4) * 4 + Iface.code src) with
      | 0 => s.commitReg src r i j (v % 2 ^ 32 * 2 ^ 32) 0xFFFFFFFF00000000 off false (v % 2 ^ 32)
      | lo + 1 =>
        let w := lo + v % 2 ^ 32 * 2 ^ 32
        (s.setHeld (off - 4) src 0).commitReg src r i j w (2 ^ 64 - 1) (off - 4) true w

/-- A 64-bit write: of a 64-bit register at once, in place of a low half it held; elsewhere two 32-bit writes, the low one first. -/
def State.write64 (s : State) (src : Iface) (off v : Nat) : State :=
  match spotAt off, spotAt (off + 4) with
  | none, none => s.add F.MGT_UNMAPPED 1
  | some (r, i, j, false), some (_, _, _, true) =>
    if s.stopped r i then s.dropWrite src r off true (v % 2 ^ 64)
    else (s.setHeld off src 0).commitReg src r i j (v % 2 ^ 64) (2 ^ 64 - 1) off true (v % 2 ^ 64)
  | _, _ => (s.write32 src off (v % 2 ^ 32)).write32 src (off + 4) (v / 2 ^ 32)

/-- A write over BAR0. -/
def State.busWrite (s : State) (src : Iface) (off : Nat) (wide : Bool) (v : Nat) : State :=
  if wide then s.write64 src off v else s.write32 src off v

/-- A command that writes a register. -/
def barWrite (src : Iface) (off : Nat) (wide : Bool) (v : Nat) (s : State) : Res :=
  liveHub s fun s => if s.barUp then s.busWrite src off wide v else s

/-- A command that reads a register: the value goes out. -/
def barRead (src : Iface) (off : Nat) (wide : Bool) (flip : Nat) (s : State) : Res :=
  liveHub s fun s =>
    if s.barUp then
      let p := s.busRead src off wide flip
      p.2.emit (.value src off p.1)
    else s

end Sys2Proof.Machine
end

