-- ==== Sys2Proof/Machine/RegCmds.lean ====
section
/-! DEFINITION. The commands that are accesses to one register or to any (R7 to R11, R486 to R488, R497), and a telemetry capture (R328). -/

namespace Sys2Proof.Machine

/-! ## Any register -/

/-- READ_LOW_HALF (R7): a 32-bit read; of a low half it latches the high half. -/
def execReadLowHalf (src : Iface) (off : ReadAt) (s : State) : Res := barRead src off.off false off.flip s

/-- WRITE_LOW_HALF (R7): a 32-bit write; a low half is held. -/
def execWriteLowHalf (src : Iface) (off v : Nat) (s : State) : Res := barWrite src off false v s

/-- WRITE_HIGH_HALF (R7, R487): a 32-bit write; a high half commits the pair, or itself alone. -/
def execWriteHighHalf (src : Iface) (off v : Nat) (s : State) : Res := barWrite src off false v s

/-- REGISTER_WRITE (R7 to R11, R487, R488): a 32-bit or a 64-bit write at a BAR0 offset. -/
def execRegisterWrite (src : Iface) (off : Nat) (wide : Bool) (v : Nat) (s : State) : Res := barWrite src off wide v s

/-- UNMAPPED_ACCESS (R8): an access where no register lies reads 0, writes nothing, and is counted. -/
def execUnmappedAccess (src : Iface) (off : Nat) (write : Bool) (s : State) : Res :=
  liveHub s fun s =>
    if s.barUp && (spotAt off).isNone then
      let s1 := s.add F.MGT_UNMAPPED 1
      if write then s1 else s1.emit (.value src off 0)
    else s

/-- STOPPED_ACCESS (R423, R488): an access to a register whose clock stands reads all ones, writes nothing, and is counted. A write's entry in the change log holds a
free value, which this command does not carry (log entry 216). -/
def execStoppedAccess (src : Iface) (off : Nat) (write : Bool) (s : State) : Res :=
  liveHub s fun s =>
    match spotAt off with
    | none => s
    | some (r, i, _, high) =>
      if !s.barUp || !s.stopped r i then s
      else if !write then (s.add F.CLK_STAT_STOPPED_ACC 1).emit (.value src off 0xFFFFFFFF)
      else if !r.cfg || (r.wide && !high) then s.add F.CLK_STAT_STOPPED_ACC 1
      else let d := s.draw 32
           d.2.dropWrite src r off false d.1

/-! ## Registers with a row of their own: a write of one at its offset -/

/-- A register command with an index that the register has. -/
def barWriteIf (ok : Bool) (src : Iface) (off : Nat) (wide : Bool) (v : Nat) (s : State) : Res :=
  if ok then barWrite src off wide v s else .next s.fresh

/-- RESET (R458, R479): FLT_CTRL written. -/
def execReset (src : Iface) (v : Nat) (s : State) : Res := barWrite src 0x2200004 false v s

/-- PATIENCE_RETRY (R463, R479): FLT_CTRL written. -/
def execPatienceRetry (src : Iface) (v : Nat) (s : State) : Res := barWrite src 0x2200004 false v s

/-- REINSTATE (R474, R479): FLT_CTRL written. -/
def execReinstate (src : Iface) (v : Nat) (s : State) : Res := barWrite src 0x2200004 false v s

/-- CLEAR_ALL (R479): FLT_CTRL written. -/
def execClearAll (src : Iface) (v : Nat) (s : State) : Res := barWrite src 0x2200004 false v s

/-- STN_CLEAR (R76, R102, R137): a station's SKY_STN_CTRL written. -/
def execStnClear (src : Iface) (site v : Nat) (s : State) : Res :=
  barWriteIf (decide (site < 44)) src (0x1000000 + site * 0x10000) false v s

/-- SKY_DLV_RESTART (R89, R102): a station's SKY_DLV_RESTART written. -/
def execSkyDlvRestart (src : Iface) (site v : Nat) (s : State) : Res :=
  barWriteIf (decide (site < 44)) src (0x1500008 + site * 0x1000) false v s

/-- TRN_CLEAR (R299): TRN_CTRL written. -/
def execTrnClear (src : Iface) (v : Nat) (s : State) : Res := barWrite src 0x1D00000 false v s

/-- CMT_CLEAR (R407): CMT_CTRL written. -/
def execCmtClear (src : Iface) (v : Nat) (s : State) : Res := barWrite src 0x1E00000 false v s

/-- CLK_CLEAR (R76, R429): CLK_CTRL written. -/
def execClkClear (src : Iface) (v : Nat) (s : State) : Res := barWrite src 0x2000000 false v s

/-- CEIL_RESTORE (R417): CLK_CTRL written. -/
def execCeilRestore (src : Iface) (v : Nat) (s : State) : Res := barWrite src 0x2000000 false v s

/-- ARM (R413): CLK_PLAN written. -/
def execArm (src : Iface) (v : Nat) (s : State) : Res := barWrite src 0x2000008 false v s

/-- THM_CLEAR (R76, R455): THM_CTRL written. -/
def execThmClear (src : Iface) (v : Nat) (s : State) : Res := barWrite src 0x2100000 false v s

/-- SWAP_GO (R136): TWK_CTRL written. -/
def execSwapGo (src : Iface) (v : Nat) (s : State) : Res := barWrite src 0x1600000 false v s

/-- COMMISSION (R129, R136): TWK_CTRL written. -/
def execCommission (src : Iface) (v : Nat) (s : State) : Res := barWrite src 0x1600000 false v s

/-- OMU_PQ_TAIL (R165): a tile's OMU_PQ_TAIL written. -/
def execOmuPqTail (src : Iface) (tile v : Nat) (s : State) : Res :=
  barWriteIf (decide (tile < 24)) src (0x1800010 + tile * 0x1000) false v s

/-- PILOT_NOW (R164, R165): a tile's OMU_TILE_CTRL written. -/
def execPilotNow (src : Iface) (tile v : Nat) (s : State) : Res :=
  barWriteIf (decide (tile < 24)) src (0x1800000 + tile * 0x1000) false v s

/-- CHK_GO (R252, R258): a context's CHK_CTRL written. -/
def execChkGo (src : Iface) (hub ctx v : Nat) (s : State) : Res :=
  barWriteIf (decide (hub < 2) && decide (ctx < 8)) src (0x1C00110 + hub * 0x1000 + ctx * 0x80) false v s

/-- CHK_ABORT (R258): a context's CHK_CTRL written. -/
def execChkAbort (src : Iface) (hub ctx v : Nat) (s : State) : Res :=
  barWriteIf (decide (hub < 2) && decide (ctx < 8)) src (0x1C00110 + hub * 0x1000 + ctx * 0x80) false v s

/-- DECK_ENABLE (R311): a deck's CFG written. -/
def execDeckEnable (src : Iface) (d v : Nat) (s : State) : Res := barWriteIf (decide (d < 64)) src (0x1018 + d * 0x40) false v s

/-- DECK_DISABLE (R311): a deck's CFG written. -/
def execDeckDisable (src : Iface) (d v : Nat) (s : State) : Res := barWriteIf (decide (d < 64)) src (0x1018 + d * 0x40) false v s

/-- EVF_DATA_READ (R334, R335): a 64-bit read of EVF_DATA. -/
def execEvfDataRead (src : Iface) (flip : Nat) (s : State) : Res := barRead src 0x10000 true flip s

/-- FLUSH (R336): EVF_CTRL written. -/
def execFlush (src : Iface) (v : Nat) (s : State) : Res := barWrite src 0x1000C false v s

/-- RECOVER (R368, R371): TAL_CTRL written. -/
def execRecover (src : Iface) (v : Nat) (s : State) : Res := barWrite src 0x20000 false v s

/-- TAL_WIN_SEL (R371): the register written whole; the window is captured. -/
def execTalWinSel (src : Iface) (v : Nat) (s : State) : Res := barWrite src 0x20020 true v s

/-- RETRAIN (R399, R407): a port's register written. -/
def execRetrain (src : Iface) (port v : Nat) (s : State) : Res := barWriteIf (decide (port < 32)) src (0x1E00100 + port * 0x20) true v s

/-- ALOG_QUERY (R407): CMT_ALOG_Q written. -/
def execAlogQuery (src : Iface) (v : Nat) (s : State) : Res := barWrite src 0x1E00020 true v s

/-! ## The Almanac's commands: ALM_CMD written (R493) -/

/-- READ. -/
def execRead (src : Iface) (s : State) : Res := barWrite src 0x2400004 false 1 s

/-- PROGRAM. -/
def execProgram (src : Iface) (s : State) : Res := barWrite src 0x2400004 false 2 s

/-- VERIFY_FW. -/
def execVerifyFw (src : Iface) (s : State) : Res := barWrite src 0x2400004 false 3 s

/-- ACTIVATE_FW. -/
def execActivateFw (src : Iface) (s : State) : Res := barWrite src 0x2400004 false 4 s

/-- GUARD_UPDATE. -/
def execGuardUpdate (src : Iface) (s : State) : Res := barWrite src 0x2400004 false 5 s

/-- SAVE_LIFE. -/
def execSaveLife (src : Iface) (s : State) : Res := barWrite src 0x2400004 false 6 s

/-- CLEAR_LOG. -/
def execClearLog (src : Iface) (s : State) : Res := barWrite src 0x2400004 false 7 s

/-- CLEAR_DUMP. -/
def execClearDump (src : Iface) (s : State) : Res := barWrite src 0x2400004 false 8 s

/-- ERASE_IMAGE. -/
def execEraseImage (src : Iface) (s : State) : Res := barWrite src 0x2400004 false 9 s

/-! ## Over MCTP (R497) -/

/-- Whether a REG_READ or REG_WRITE request is a legal one: its interface, a width of 4 or 8, an aligned offset in BAR0. -/
def mctpOk (src : Iface) (off width : Nat) : Bool :=
  Iface.mctp src && (decide (width = 4) || decide (width = 8)) && decide (off % width = 0) && decide (off < 0x4000000)

/-- REG_READ (R7, R497). -/
def execRegRead (src : Iface) (off : ReadAt) (width : Nat) (s : State) : Res :=
  liveHub s fun s =>
    if !Iface.mctp src || !s.barUp then s
    else if !mctpOk src off.off width then s.emit (.mctp src 3 [])
    else
      let p := s.busRead src off.off (decide (width = 8)) off.flip
      p.2.emit (.mctp src 0 (natLe width p.1))

/-- REG_WRITE (R7, R378, R497): a write of the outbound window table is answered REFUSED. -/
def execRegWrite (src : Iface) (off width v : Nat) (s : State) : Res :=
  liveHub s fun s =>
    if !Iface.mctp src || !s.barUp then s
    else if !mctpOk src off width then s.emit (.mctp src 3 [])
    else
      let win := decide (0x1E01000 ≤ off) && decide (off < 0x1E03000)
      (s.busWrite src off (decide (width = 8)) v).emit (.mctp src (if win then 5 else 0) [])

/-! ## Telemetry -/

/-- Where the window of a block of a site lies in BAR0 (R302, R328). -/
def telBase (site b : Nat) : Nat :=
  match b with
  | 0 => 0x1000000 + site * 0x10000
  | 1 => 0x1500000 + site * 0x1000
  | 2 => 0x1700000 + site * 0x2000
  | 3 => 0x1800000 + site * 0x1000
  | 4 => 0x1A00000 + site * 0x1000
  | _ => 0x1B00000 + (site - 24) * 0x1000

/-- One capture record (R328). -/
def State.telRecord (s : State) (sites blocks j : Nat) : List Byte :=
  natLe 8 s.now ++ natLe 8 (s.get F.TRN_NUM) ++ natLe 1 j ++ List.replicate 47 0 ++
  (telBlocks sites blocks).flatMap fun p =>
    natLe 1 p.1 ++ natLe 1 p.2 ++ natLe 2 0 ++ natLe 4 (telWindow p.2) ++ natLe 8 0 ++
    (List.range (telWindow p.2 / 4)).flatMap fun k => natLe 4 (s.peek (telBase p.1 p.2 + 4 * k))

/-- TELEMETRY_CAPTURE (R325, R327 to R329): capture `j` of a card, taken at its time or at the end of the run phase; the last one ends the card. -/
def execTelemetryCapture (seq j : Nat) (s : State) : Res :=
  live s fun s =>
    let e := s.ent seq
    let c := e.card
    let n := leAt c 28 1
    if !(e.state = 2 && e.opcode = 0x10 && e.started && !e.finished && decide (j < n)) then s
    else
      let s1 := s.atLeast (min (s.trn.tick + 1500 + leAt c 44 4 + j * leAt c 48 4) s.nominalE)
      let rec_ := s1.telRecord (leAt c 32 8) (leAt c 40 1) j
      let a := leAt c 16 8 + j * rec_.length
      let s2 :=
        if s1.hostGone a then s1.meets seq { status := 5, detail := 2 }
        else
          let r := s1.cardOut seq a ⟨rec_, fun _ => false⟩ rec_.length
          r.1.setValue seq (e.value + r.2)
      if j + 1 = n then s2.finish seq else s2

end Sys2Proof.Machine
end

