-- ==== Sys2Proof/Machine/Resets.lean ====
section
/-! DEFINITION. Meanings of the reset domains' commands (R400, R424, R464, R467 to R474, R481): a domain's reset and its end, a hung tile,
the escalation window. -/

namespace Sys2Proof.Machine

/-- A domain's source raised, then its reset carried out, unless the raise has stopped the part or begun a device reset (R464, R466, R467). -/
def State.resetAfter (s : State) (src : Nat) (f : State → State) : State :=
  let t := s.raise src
  if t.fatal || decide (t.get F.FLT_BOOT_STEP ≠ s.get F.FLT_BOOT_STEP) || t.patience then t else f t

/-- Whether an error resets a domain: it is in service, or fenced off with its site in reset or its rings not confirmed (R467, R470). -/
def State.resettable (s : State) (d : Nat) : Bool := s.get F.FLT_DOM0_STATE d = 0 || s.get F.FLT_DOM0_STATE d = 2

/-- A die in reset (R88, R90, R467): its tag and its generation move, its station refuses its traffic, its registers clear, its barriers abort. -/
def State.dieReset (s : State) (d k : Nat) (r : RegDom) (i : Nat) : State :=
  let s1 := (s.domReset d).set F.FLT_DOM0_STATE 1 d
  let s2 := (s1.set F.SKY_DLV_DIE_DIE_GEN (s1.get F.FLT_DOM0_GEN d) k).set F.SKY_DLV_DIE_DIE_DOWN 1 k
  ((s2.clearRegs r i).abortBars k).dieLost k false

/-- A tile stack in reset (R467): its cache SRAM and its retransmission store are kept. -/
def State.tileReset (s : State) (t : Nat) : State := s.dieReset t t .tile t

/-- TILE_STACK_RESET (R189, R467 to R469, R474): a logic error of a core or of the cache die. -/
def execTileStackReset (t : Nat) (s : State) : Res :=
  live s fun s =>
    if 24 ≤ t || !s.resettable t then s
    else s.resetAfter (44 + t) fun u => (u.tileReset t).escalate t

/-- FIRMAMENT_SITE_RESET (R88, R127, R162, R467, R470 steps 1 and 2): site and station reset, the space restart begins, the stack above is
fenced off, the site's channels are suspended. -/
def execFirmamentSiteReset (k : Nat) (s : State) : Res :=
  live s fun s =>
    if 44 ≤ k || decide (s.get F.FLT_DOM0_STATE (24 + k) ≠ 0) then s
    else s.resetAfter (180 + k) fun u =>
      let u1 := ((u.domReset (24 + k)).domReset (84 + k)).set F.FLT_DOM0_STATE 1 (24 + k) |>.set F.FLT_DOM0_STATE 1 (84 + k)
      let u2 := (((u1.clearStation k).clearRegs .site k).set F.SKY_STN_STATUS_STATE 5 k).suspendSite k
      let u3 := match dieDom k with
        | some d => (if u2.get F.FLT_DOM0_STATE d = 0 then u2.set F.FLT_DOM0_STATE 2 d else u2).set F.SKY_DLV_DIE_DIE_DOWN 1 k
        | none => u2
      ((((u3.abortBars k).dieLost k true).stationLost k).beginRestart k).escalate (24 + k)

/-- STATION_RESET (R88, R467, R471): the station alone; its spaces restart. -/
def execStationReset (k : Nat) (s : State) : Res :=
  live s fun s =>
    if 44 ≤ k || decide (s.get F.FLT_DOM0_STATE (84 + k) ≠ 0) then s
    else
      let s1 := (((s.domReset (84 + k)).set F.FLT_DOM0_STATE 1 (84 + k)).clearStation k).set F.SKY_STN_STATUS_STATE 5 k
      (((s1.abortBars k).stationLost k).beginRestart k).escalate (84 + k)

/-- MBD_RESET (R248, R467): a memory logic error; the stack keeps its contents in self-refresh. -/
def execMbdReset (m : Nat) (s : State) : Res :=
  live s fun s =>
    if 12 ≤ m || !s.resettable (68 + m) then s
    else s.resetAfter (68 + m) fun u => (u.dieReset (68 + m) (24 + m) .mbd m).escalate (68 + m)

/-- IO_CHIPLET_RESET (R400, R467, R477): every path through the chiplet's ports fails; the cards whose frames it held are replayed. The registers of its ports clear. -/
def execIoChipletReset (c : Nat) (s : State) : Res :=
  live s fun s =>
    if 4 ≤ c || !s.resettable (80 + c) then s
    else s.resetAfter (80 + c) fun u => (u.dieReset (80 + c) (36 + c) .port c).escalate (80 + c)

/-- FRONT_END_RESET (R255, R354 to R356, R467): a front end that finds an uncorrectable error of its own stops; the standby's leaves the
Dealer until it is resynchronised; one that fails while it takes over makes the part reset itself. -/
def execFrontEndReset (h : Nat) (s : State) : Res :=
  live s fun s =>
    if 2 ≤ h || decide (s.get F.FLT_DOM0_STATE (frontDom h) ≠ 0) then s
    else s.resetAfter (241 + h) fun u =>
      let u1 := (u.frontReset h).escalate (frontDom h)
      if u1.get F.TAL_STAT_DEALER_HUB = h then
        if u1.tally.takeover.isSome then u1.requestReset (241 + h) 4 else u1
      else { u1.set F.TAL_STAT_STANDBY_OK 0 with tally := { u1.tally with resync := false, copyWait := false } }

/-- CROUPIER_WATCHDOG (R467, R481): 100 ms without a kick. -/
def execCroupierWatchdog (s : State) : Res :=
  live s fun s =>
    if s.get F.FLT_DOM0_STATE 130 ≠ 0 then s
    else s.resetAfter 243 fun u =>
      let u1 := (u.domReset 130).set F.FLT_DOM0_STATE 1 130
      ((u1.set F.MGT_STAT_CROUPIER 1).add F.MGT_STAT_WDOG 1).escalate 130

/-- DOMAIN_RESET_END (R355, R400, R424, R467, R470, R525): a domain leaves reset; the crossings between it and its neighbours are
empty and open again. -/
def execDomainResetEnd (d : Nat) (s : State) : Res :=
  live s fun s =>
    if s.get F.FLT_DOM0_STATE d ≠ 1 then s
    else match domSite d with
      | some k => if dieDom k = some d then s.dieBack d k else if d = 24 + k then s.siteBack k
        else if s.get F.FLT_DOM0_STATE (24 + k) = 1 then s else s.stationBack k
      | none => if d = 130 then (s.set F.FLT_DOM0_STATE 0 130).set F.MGT_STAT_CROUPIER 0
        else if d = 128 || d = 129 then s.set F.FLT_DOM0_STATE 0 d else s

/-! ## Hung tiles (R472, R473) -/

/-- Whether a tile's schedule has not ended in the run phase. -/
def State.unended (s : State) (t : Nat) : Bool :=
  s.cmp.runs.any (fun r => decide (r.tile = t)) || s.sched.zipIdx.any fun p => decide (p.1.tile = t) && !s.trn.ended.contains p.2

/-- The dealt cards whose slots use a tile. -/
def State.cardsOn (s : State) (t : Nat) : List Nat :=
  (s.entsIn 2).filter fun q => (s.ent q).pipe.isSome && !(s.ent q).finished && bit (s.cardTiles (s.ent q).card) t

/-- The run phase of a hung tile taken as over: its implicit fence waits for the packets its station has outstanding, not for reads of the
die (R472 step 2). -/
def State.hangOver (s : State) (t : Nat) : State :=
  let s1 := s.setTrn { s.trn with runOver := keyPut s.trn.runOver t, runEnd := s.now }
  let s2 := s1.issueFence t .dealer .all none true
  let x := s2.stn t
  let f (c : Fence) : Fence := if c.id = s1.sky.nextId then { c with reads := [] } else c
  s2.setStn t { x with fences := x.fences.map f, fwait := x.fwait.map f }

/-- The cards of a hung tile as suspects of its hunt (R472, R473). -/
def State.suspectAll (s : State) (t : Nat) (qs : List Nat) : State :=
  let s1 := qs.foldl (fun u q => u.mapEnt q fun e => { e with suspect := true }) s
  let h := s1.get F.FLT_HANG_HUNT
  let s2 := if qs.isEmpty || bit h t then s1 else s1.set F.FLT_HANG_HUNT (h + 2 ^ t)
  s2.set F.FLT_HANG_SUSPECTS (satTo 255 s2.suspects)

/-- TILE_HANG (R472, R473): a tile whose schedule has not ended 2P after E is reset. A suspect that ran alone is convicted, and that reset does not
count toward escalation; else every card on the tile becomes a suspect and is replayed. -/
def execTileHang (t : Nat) (s : State) : Res :=
  live s fun s =>
    if 24 ≤ t || decide (s.get F.TRN_STAT_PHASE ≠ 2) || s.trn.runOver.contains t || decide (s.get F.FLT_DOM0_STATE t ≠ 0) || !s.present t || !s.unended t then s
    else
      let s1 := (s.atLeast (s.nominalE + 2 * s.periodNs)).add F.FLT_HANG_HANGS 1
      s1.resetAfter (44 + t) fun u =>
        let qs := u.cardsOn t
        match qs with
        | [q] =>
          if bit (u.get F.FLT_HANG_HUNT) t && (u.ent q).suspect then
            ((((u.meets q { status := 7 }).finish q).add F.FLT_HANG_GUILTY 1).tileReset t).hangOver t
          else ((((u.suspectAll t qs).tileReset t).hangOver t).escalate t)
        | _ => ((((u.suspectAll t qs).tileReset t).hangOver t).escalate t)

/-! ## Escalation, bond chains -/

/-- ESCALATION_WINDOW_EXPIRY (R474): 60 s after a counted reset it leaves the window. -/
def execEscalationWindowExpiry (d : Nat) (s : State) : Res :=
  live s fun s =>
    match s.flt.window.find? fun p => decide (p.1 = d) with
    | none => s
    | some p =>
      let s1 := s.atLeast (p.2 + 60000000000)
      let s2 := { s1 with flt := { s1.flt with window := s1.flt.window.erase p } }
      s2.set F.FLT_DOM0_WINDOW (s2.get F.FLT_DOM0_WINDOW d - 1) d

/-- BOND_CHECK (R464): an open bond continuity chain is FATAL. -/
def execBondCheck (fail : Bool) (s : State) : Res := live s fun s => if fail then s.raise 240 else s

end Sys2Proof.Machine
end

