-- ==== Sys2Proof/Machine/Dispatch.lean ====
section
/-! DEFINITION. The meaning of each command: one arm for each constructor, each a direct call. -/

namespace Sys2Proof.Machine

/-- The effect of a command on everything but the queue. -/
def exec (i : Instr) (s : State) : Host.Outcome State Fault Refusal :=
  match i with
  | .guestPacketSubmit g p => Sys2Proof.Machine.execGuestPacketSubmit g p s
  | .packetInject site r => Sys2Proof.Machine.execPacketInject site r s
  | .channelFree site ch => Sys2Proof.Machine.execChannelFree site ch s
  | .deflectionTimeout site q cls => Sys2Proof.Machine.execDeflectionTimeout site q cls s
  | .relaySearch site q cls => Sys2Proof.Machine.execRelaySearch site q cls s
  | .boundMiss site q cls => Sys2Proof.Machine.execBoundMiss site q cls s
  | .packetReceive site ch p ecc => Sys2Proof.Machine.execPacketReceive site ch p ecc s
  | .skyAck site ch p => Sys2Proof.Machine.execSkyAck site ch p s
  | .ackTimerExpiry site src => Sys2Proof.Machine.execAckTimerExpiry site src s
  | .retransmitTimeout site dest seq => Sys2Proof.Machine.execRetransmitTimeout site dest seq s
  | .retxLimit site dest seq => Sys2Proof.Machine.execRetxLimit site dest seq s
  | .skyDlvRestart src site v => Sys2Proof.Machine.execSkyDlvRestart src site v s
  | .spaceRestartReopen => Sys2Proof.Machine.execSpaceRestartReopen s
  | .fenceIssue site a scope work => Sys2Proof.Machine.execFenceIssue site a scope work s
  | .fenceComplete site id => Sys2Proof.Machine.execFenceComplete site id s
  | .acceptFlagPublish site => Sys2Proof.Machine.execAcceptFlagPublish site s
  | .barrierArrive ctx site => Sys2Proof.Machine.execBarrierArrive ctx site s
  | .coldPowerOn railsOk intlk loads => Sys2Proof.Machine.execColdPowerOn railsOk intlk loads s
  | .pgInDeassert => Sys2Proof.Machine.execPgInDeassert s
  | .railLoss rail => Sys2Proof.Machine.execRailLoss rail s
  | .perstNAssert => Sys2Proof.Machine.execPerstNAssert s
  | .perstNRelease bootMode => Sys2Proof.Machine.execPerstNRelease bootMode s
  | .reset src v => Sys2Proof.Machine.execReset src v s
  | .deviceResetRequest source => Sys2Proof.Machine.execDeviceResetRequest source s
  | .bootStepDone step r => Sys2Proof.Machine.execBootStepDone step r s
  | .bootWatchdogExpiry => Sys2Proof.Machine.execBootWatchdogExpiry s
  | .patienceRetry src v => Sys2Proof.Machine.execPatienceRetry src v s
  | .readLowHalf src off => Sys2Proof.Machine.execReadLowHalf src off s
  | .writeLowHalf src off v => Sys2Proof.Machine.execWriteLowHalf src off v s
  | .writeHighHalf src off v => Sys2Proof.Machine.execWriteHighHalf src off v s
  | .registerWrite src off wide v => Sys2Proof.Machine.execRegisterWrite src off wide v s
  | .changeLogFlush => Sys2Proof.Machine.execChangeLogFlush s
  | .unmappedAccess src off write => Sys2Proof.Machine.execUnmappedAccess src off write s
  | .stoppedAccess src off write => Sys2Proof.Machine.execStoppedAccess src off write s
  | .transitTick => Sys2Proof.Machine.execTransitTick s
  | .dealPhase => Sys2Proof.Machine.execDealPhase s
  | .runPhaseStart => Sys2Proof.Machine.execRunPhaseStart s
  | .scheduleEntryStart idx scratch ext => Sys2Proof.Machine.execScheduleEntryStart idx scratch ext s
  | .operatorComplete idx => Sys2Proof.Machine.execOperatorComplete idx s
  | .runPhaseEnd site => Sys2Proof.Machine.execRunPhaseEnd site s
  | .settleStart => Sys2Proof.Machine.execSettleStart s
  | .quietWindowOpen q => Sys2Proof.Machine.execQuietWindowOpen q s
  | .drainComplete => Sys2Proof.Machine.execDrainComplete s
  | .mapSwitchResume => Sys2Proof.Machine.execMapSwitchResume s
  | .drainPostpone => Sys2Proof.Machine.execDrainPostpone s
  | .tsyncFrame f => Sys2Proof.Machine.execTsyncFrame f s
  | .tsyncTimeout => Sys2Proof.Machine.execTsyncTimeout s
  | .holdoverExpiry => Sys2Proof.Machine.execHoldoverExpiry s
  | .successorTakeover => Sys2Proof.Machine.execSuccessorTakeover s
  | .poleListenDone heard => Sys2Proof.Machine.execPoleListenDone heard s
  | .chartCopyDone image ok ecc => Sys2Proof.Machine.execChartCopyDone image ok ecc s
  | .switchPrepareDone bad => Sys2Proof.Machine.execSwitchPrepareDone bad s
  | .stnClear src site v => Sys2Proof.Machine.execStnClear src site v s
  | .trnClear src v => Sys2Proof.Machine.execTrnClear src v s
  | .cmtClear src v => Sys2Proof.Machine.execCmtClear src v s
  | .clkClear src v => Sys2Proof.Machine.execClkClear src v s
  | .thmClear src v => Sys2Proof.Machine.execThmClear src v s
  | .elsIntlkOpen => Sys2Proof.Machine.execElsIntlkOpen s
  | .laserInterlockFault slot => Sys2Proof.Machine.execLaserInterlockFault slot s
  | .lightStart mods feedsOk => Sys2Proof.Machine.execLightStart mods feedsOk s
  | .lightStartRetry mods feedsOk => Sys2Proof.Machine.execLightStartRetry mods feedsOk s
  | .prewarmTimeout site => Sys2Proof.Machine.execPrewarmTimeout site s
  | .moduleWriteDone slot mode tap => Sys2Proof.Machine.execModuleWriteDone slot mode tap s
  | .modulePoll slot r => Sys2Proof.Machine.execModulePoll slot r s
  | .spareCheck rs => Sys2Proof.Machine.execSpareCheck rs s
  | .moduleDetect slot r => Sys2Proof.Machine.execModuleDetect slot r s
  | .fadeSample feed fade slope drop => Sys2Proof.Machine.execFadeSample feed fade slope drop s
  | .swapCrossbarMove feed => Sys2Proof.Machine.execSwapCrossbarMove feed s
  | .swapTapCheck feed taps => Sys2Proof.Machine.execSwapTapCheck feed taps s
  | .swapPauseEnd feed => Sys2Proof.Machine.execSwapPauseEnd feed s
  | .swapGo src v => Sys2Proof.Machine.execSwapGo src v s
  | .fastSwapCrossbarMove feed => Sys2Proof.Machine.execFastSwapCrossbarMove feed s
  | .fastSwapTapCheck feed taps => Sys2Proof.Machine.execFastSwapTapCheck feed taps s
  | .fastSwapResume feed => Sys2Proof.Machine.execFastSwapResume feed s
  | .commission src v => Sys2Proof.Machine.execCommission src v s
  | .ringSweepDone site ring pick peaks => Sys2Proof.Machine.execRingSweepDone site ring pick peaks s
  | .toneDecodeDone site ring r => Sys2Proof.Machine.execToneDecodeDone site ring r s
  | .twinkleVisit site engine ring a b => Sys2Proof.Machine.execTwinkleVisit site engine ring a b s
  | .heaterFault site ring short => Sys2Proof.Machine.execHeaterFault site ring short s
  | .relockTimeout site ring => Sys2Proof.Machine.execRelockTimeout site ring s
  | .idRecheck site ring r => Sys2Proof.Machine.execIdRecheck site ring r s
  | .omuPqTail src tile v => Sys2Proof.Machine.execOmuPqTail src tile v s
  | .passStart tile => Sys2Proof.Machine.execPassStart tile s
  | .guardSlotRecheck tile => Sys2Proof.Machine.execGuardSlotRecheck tile s
  | .passComplete tile omu => Sys2Proof.Machine.execPassComplete tile omu s
  | .sentinelTrip tile omu => Sys2Proof.Machine.execSentinelTrip tile omu s
  | .pilotSlot tile omu => Sys2Proof.Machine.execPilotSlot tile omu s
  | .pilotNow src tile v => Sys2Proof.Machine.execPilotNow src tile v s
  | .pilotComplete tile omu r => Sys2Proof.Machine.execPilotComplete tile omu r s
  | .pilotStale tile omu => Sys2Proof.Machine.execPilotStale tile omu s
  | .gainTrimUpdate tile omu trim => Sys2Proof.Machine.execGainTrimUpdate tile omu trim s
  | .sweepRead loc ecc => Sys2Proof.Machine.execSweepRead loc ecc s
  | .hotPrefixReady tile hot => Sys2Proof.Machine.execHotPrefixReady tile hot s
  | .shardRebuildDone table shard => Sys2Proof.Machine.execShardRebuildDone table shard s
  | .engineJob m ecc ext => Sys2Proof.Machine.execEngineJob m ecc ext s
  | .engineJobComplete m job => Sys2Proof.Machine.execEngineJobComplete m job s
  | .jobCompletionReceive tile => Sys2Proof.Machine.execJobCompletionReceive tile s
  | .chkGo src hub ctx v => Sys2Proof.Machine.execChkGo src hub ctx v s
  | .chkAbort src hub ctx v => Sys2Proof.Machine.execChkAbort src hub ctx v s
  | .checkScanDone hub ctx host bad ecc stop => Sys2Proof.Machine.execCheckScanDone hub ctx host bad ecc stop s
  | .cxlMemWrite addr data poison ecc => Sys2Proof.Machine.execCxlMemWrite addr data poison ecc s
  | .cxlMemRead addr ecc => Sys2Proof.Machine.execCxlMemRead addr ecc s
  | .cxlLinkDown => Sys2Proof.Machine.execCxlLinkDown s
  | .cxlLinkUp => Sys2Proof.Machine.execCxlLinkUp s
  | .deckEnable src d v => Sys2Proof.Machine.execDeckEnable src d v s
  | .deckDisable src d v => Sys2Proof.Machine.execDeckDisable src d v s
  | .sqTail d v => Sys2Proof.Machine.execSqTail d v s
  | .cqHead d v => Sys2Proof.Machine.execCqHead d v s
  | .cardFetch d cards end_ => Sys2Proof.Machine.execCardFetch d cards end_ s
  | .dummyAck seq => Sys2Proof.Machine.execDummyAck seq s
  | .dummyAckTimeout seq => Sys2Proof.Machine.execDummyAckTimeout seq s
  | .mirrorWriteDone seq done ok => Sys2Proof.Machine.execMirrorWriteDone seq done ok s
  | .nop seq => Sys2Proof.Machine.execNop seq s
  | .infer seq => Sys2Proof.Machine.execInfer seq s
  | .gather seq => Sys2Proof.Machine.execGather seq s
  | .score seq => Sys2Proof.Machine.execScore seq s
  | .topk seq => Sys2Proof.Machine.execTopk seq s
  | .copy seq => Sys2Proof.Machine.execCopy seq s
  | .fill seq => Sys2Proof.Machine.execFill seq s
  | .check seq => Sys2Proof.Machine.execCheck seq s
  | .handBegin seq => Sys2Proof.Machine.execHandBegin seq s
  | .handWrite seq => Sys2Proof.Machine.execHandWrite seq s
  | .handCommit seq => Sys2Proof.Machine.execHandCommit seq s
  | .handAbort seq => Sys2Proof.Machine.execHandAbort seq s
  | .fence seq => Sys2Proof.Machine.execFence seq s
  | .chartLoad seq => Sys2Proof.Machine.execChartLoad seq s
  | .chartSwitch seq => Sys2Proof.Machine.execChartSwitch seq s
  | .tableDefine seq => Sys2Proof.Machine.execTableDefine seq s
  | .telemetrySnapshot seq => Sys2Proof.Machine.execTelemetrySnapshot seq s
  | .telemetryCapture seq j => Sys2Proof.Machine.execTelemetryCapture seq j s
  | .cometBulk seq host bad ecc => Sys2Proof.Machine.execCometBulk seq host bad ecc s
  | .moverDone seq host bad ecc => Sys2Proof.Machine.execMoverDone seq host bad ecc s
  | .irqTimerExpiry d => Sys2Proof.Machine.execIrqTimerExpiry d s
  | .evfDataRead src flip => Sys2Proof.Machine.execEvfDataRead src flip s
  | .flush src v => Sys2Proof.Machine.execFlush src v s
  | .stateCopyAck => Sys2Proof.Machine.execStateCopyAck s
  | .heartbeat => Sys2Proof.Machine.execHeartbeat s
  | .takeover cause => Sys2Proof.Machine.execTakeover cause s
  | .takeoverReplay mirror rings imageOk => Sys2Proof.Machine.execTakeoverReplay mirror rings imageOk s
  | .takeoverTimeout => Sys2Proof.Machine.execTakeoverTimeout s
  | .standbyResync => Sys2Proof.Machine.execStandbyResync s
  | .standbyResyncDone => Sys2Proof.Machine.execStandbyResyncDone s
  | .writeBackDone h => Sys2Proof.Machine.execWriteBackDone h s
  | .recover src v => Sys2Proof.Machine.execRecover src v s
  | .recoveryDone recs readable => Sys2Proof.Machine.execRecoveryDone recs readable s
  | .talWinSel src v => Sys2Proof.Machine.execTalWinSel src v s
  | .cometWrite port f fcsOk ecc => Sys2Proof.Machine.execCometWrite port f fcsOk ecc s
  | .cometRead port f fcsOk ecc => Sys2Proof.Machine.execCometRead port f fcsOk ecc s
  | .readResp port f fcsOk => Sys2Proof.Machine.execReadResp port f fcsOk s
  | .atomic port f fcsOk ecc => Sys2Proof.Machine.execAtomic port f fcsOk ecc s
  | .atomicResp port f fcsOk => Sys2Proof.Machine.execAtomicResp port f fcsOk s
  | .bulkWrite port f fcsOk ecc => Sys2Proof.Machine.execBulkWrite port f fcsOk ecc s
  | .bulkRead port f fcsOk ecc => Sys2Proof.Machine.execBulkRead port f fcsOk ecc s
  | .refuse port f fcsOk => Sys2Proof.Machine.execRefuse port f fcsOk s
  | .ack port f fcsOk => Sys2Proof.Machine.execAck port f fcsOk s
  | .hello port f fcsOk => Sys2Proof.Machine.execHello port f fcsOk s
  | .timing port f fcsOk => Sys2Proof.Machine.execTiming port f fcsOk s
  | .barrier port f fcsOk => Sys2Proof.Machine.execBarrier port f fcsOk s
  | .atomicRequest site => Sys2Proof.Machine.execAtomicRequest site s
  | .writePackTimeout peer => Sys2Proof.Machine.execWritePackTimeout peer s
  | .cometRto peer space seq => Sys2Proof.Machine.execCometRto peer space seq s
  | .helloRetry peer => Sys2Proof.Machine.execHelloRetry peer s
  | .peerLost peer => Sys2Proof.Machine.execPeerLost peer s
  | .gatewayFlush win site => Sys2Proof.Machine.execGatewayFlush win site s
  | .timingExchange => Sys2Proof.Machine.execTimingExchange s
  | .portDown port => Sys2Proof.Machine.execPortDown port s
  | .retrainAttempt port ok lanes => Sys2Proof.Machine.execRetrainAttempt port ok lanes s
  | .retrain src port v => Sys2Proof.Machine.execRetrain src port v s
  | .alogQuery src v => Sys2Proof.Machine.execAlogQuery src v s
  | .alogQueryDone => Sys2Proof.Machine.execAlogQueryDone s
  | .trefLoss => Sys2Proof.Machine.execTrefLoss s
  | .trefHoldoverEnd => Sys2Proof.Machine.execTrefHoldoverEnd s
  | .arm src v => Sys2Proof.Machine.execArm src v s
  | .monitorSample region fail => Sys2Proof.Machine.execMonitorSample region fail s
  | .ceilRestore src v => Sys2Proof.Machine.execCeilRestore src v s
  | .droopTrip tile k => Sys2Proof.Machine.execDroopTrip tile k s
  | .droopClear tile k => Sys2Proof.Machine.execDroopClear tile k s
  | .seamSlowSwitch half => Sys2Proof.Machine.execSeamSlowSwitch half s
  | .seamRelease half => Sys2Proof.Machine.execSeamRelease half s
  | .seamCapClear half => Sys2Proof.Machine.execSeamCapClear half s
  | .sensorSample r => Sys2Proof.Machine.execSensorSample r s
  | .hbmTempRead m readings => Sys2Proof.Machine.execHbmTempRead m readings s
  | .canaryRead tile arrays cells => Sys2Proof.Machine.execCanaryRead tile arrays cells s
  | .limitExceed tile => Sys2Proof.Machine.execLimitExceed tile s
  | .powerSample rails => Sys2Proof.Machine.execPowerSample rails s
  | .clusterLevelReport tile shares => Sys2Proof.Machine.execClusterLevelReport tile shares s
  | .crashDumpDone => Sys2Proof.Machine.execCrashDumpDone s
  | .tileStackReset t => Sys2Proof.Machine.execTileStackReset t s
  | .firmamentSiteReset k => Sys2Proof.Machine.execFirmamentSiteReset k s
  | .stationReset k => Sys2Proof.Machine.execStationReset k s
  | .mbdReset m => Sys2Proof.Machine.execMbdReset m s
  | .ioChipletReset c => Sys2Proof.Machine.execIoChipletReset c s
  | .frontEndReset h => Sys2Proof.Machine.execFrontEndReset h s
  | .croupierWatchdog => Sys2Proof.Machine.execCroupierWatchdog s
  | .domainResetEnd d => Sys2Proof.Machine.execDomainResetEnd d s
  | .tileHang t => Sys2Proof.Machine.execTileHang t s
  | .reinstate src v => Sys2Proof.Machine.execReinstate src v s
  | .clearAll src v => Sys2Proof.Machine.execClearAll src v s
  | .guardCheck r => Sys2Proof.Machine.execGuardCheck r s
  | .read src => Sys2Proof.Machine.execRead src s
  | .program src => Sys2Proof.Machine.execProgram src s
  | .verifyFw src => Sys2Proof.Machine.execVerifyFw src s
  | .activateFw src => Sys2Proof.Machine.execActivateFw src s
  | .guardUpdate src => Sys2Proof.Machine.execGuardUpdate src s
  | .saveLife src => Sys2Proof.Machine.execSaveLife src s
  | .clearLog src => Sys2Proof.Machine.execClearLog src s
  | .clearDump src => Sys2Proof.Machine.execClearDump src s
  | .eraseImage src => Sys2Proof.Machine.execEraseImage src s
  | .almCmdDone verdict => Sys2Proof.Machine.execAlmCmdDone verdict s
  | .lifetimeRecord => Sys2Proof.Machine.execLifetimeRecord s
  | .getIdentity src off len => Sys2Proof.Machine.execGetIdentity src off len s
  | .quoteStart src nonce => Sys2Proof.Machine.execQuoteStart src nonce s
  | .quoteSigned sig => Sys2Proof.Machine.execQuoteSigned sig s
  | .quoteRead src off len => Sys2Proof.Machine.execQuoteRead src off len s
  | .regRead src off width => Sys2Proof.Machine.execRegRead src off width s
  | .regWrite src off width v => Sys2Proof.Machine.execRegWrite src off width v s
  | .setEndpointId src op eid => Sys2Proof.Machine.execSetEndpointId src op eid s
  | .getEndpointId src => Sys2Proof.Machine.execGetEndpointId src s
  | .getMctpVersionSupport src type => Sys2Proof.Machine.execGetMctpVersionSupport src type s
  | .getMessageTypeSupport src => Sys2Proof.Machine.execGetMessageTypeSupport src s
  | .bondCheck fail => Sys2Proof.Machine.execBondCheck fail s
  | .elsIntlkClose => Sys2Proof.Machine.execElsIntlkClose s
  | .trefReturn => Sys2Proof.Machine.execTrefReturn s
  | .cxlSnoop addr => Sys2Proof.Machine.execCxlSnoop addr s
  | .hostAccessComplete id data poison => Sys2Proof.Machine.execHostAccessComplete id data poison s
  | .frameTransmitDone port => Sys2Proof.Machine.execFrameTransmitDone port s
  | .escalationWindowExpiry d => Sys2Proof.Machine.execEscalationWindowExpiry d s

end Sys2Proof.Machine
end

