-- ==== Sys2Proof/Machine/Step.lean ====
section
/-! DEFINITION. One step: the command at the front of the queue runs on the state with the queue's rest. The block's commands
come from outside; on an empty queue only the time base moves, by 1 ns (R13). -/

namespace Sys2Proof.Machine

/-- The state with another queue. -/
def State.withPending (s : State) (l : List Instr) : State := { s with pending := l }

/-- An idle step: the time base counts (R13). -/
def State.idleStep (s : State) : State := { s with now := s.now + 1 }

/-- One step of the part. -/
def step (s : State) : Host.Outcome State Fault Refusal :=
  match s.pending with
  | [] => .next s.idleStep
  | c :: rest => exec c (s.withPending rest)

/-- The state with the command a table word spells in front of the queue: the table gives no row any bits, so a word spells
none. -/
def State.withFetchWord (s : State) (_nbits _w : Nat) : State := s

end Sys2Proof.Machine
end

