-- ==== Sys2Proof/WellFormed.lean ====
section
/-! DEFINITION. Which commands are well formed: every index lies in the range the spec gives it and every number fits the field or register
that carries it. The meanings are total; an operand outside these ranges names nothing the part has. -/

namespace Sys2Proof

/-- The fields of a packet fit the header flit (R51), and its payload fits four data flits (R50). -/
def Pkt.wf (p : Pkt) : Bool :=
  decide (p.dest < 64) && decide (p.src < 64) && decide (p.cls < 4) && decide (p.vc < 2) && decide (p.defl < 4) && decide (p.op < 8) &&
  decide (p.len < 32) && decide (p.part < 4) && decide (p.poison < 16) && decide (p.rsv31 < 2) && decide (p.seq < 2 ^ 24) && decide (p.gen < 256) &&
  decide (p.addr < 2 ^ 52) && decide (p.rtag < 4096) && decide (p.aux < 2 ^ 52) && decide (p.birth < 65536) && decide (p.pcrc < 2 ^ 32) &&
  decide (p.rsv228 < 4096) && decide (p.hcrc < 65536) && decide (p.payload.length ≤ 256)

/-- A request's numbers fit the fields they go into (R51), and its payload fits a packet (R50). -/
def SendReq.wf (r : SendReq) : Bool :=
  decide (r.dest < 64) && decide (r.cls < 4) && decide (r.op < 8) && decide (r.len < 32) && decide (r.addr < 2 ^ 52) && decide (r.aux < 2 ^ 52) &&
  decide (r.rtag < 4096) && decide (r.poison < 16) && decide (r.payload.length ≤ 256)

/-- The fields of a frame fit its header (R382), and its payload the frame (R381). -/
def Frame.wf (f : Frame) : Bool :=
  decide (f.dmac < 2 ^ 48) && decide (f.smac < 2 ^ 48) && decide (f.pcp < 8) && decide (f.vid < 4096) && decide (f.etype < 65536) &&
  decide (f.ver < 16) && decide (f.kind < 16) && decide (f.op < 16) && decide (f.space < 16) && decide (f.srcPart < 4096) &&
  decide (f.dstPart < 4096) && decide (f.len < 8192) && decide (f.seq < 2 ^ 32) && decide (f.ack < 2 ^ 32) && decide (f.addr < 2 ^ 52) &&
  decide (f.rtag < 65536) && decide (f.aop < 4) && decide (f.atype < 8) && decide (f.epoch < 65536) && decide (f.aux < 65536) &&
  decide (f.pcrc < 2 ^ 32) && decide (f.payload.length ≤ 4096)

/-- A fence's scope names a site (R94). -/
def FenceScope.wf : FenceScope → Bool
  | .all => true
  | .one d => decide (d < 44)

/-- The interfaces that carry messages of the MCTP endpoint (R497). -/
def Iface.message : Iface → Bool
  | .smbus | .vdm => true
  | .host | .croupier => false

/-- A command's operands lie in the ranges of the spec. -/
def Instr.wf : Instr → Bool
  | .guestPacketSubmit g p => (decide (g = 40) || decide (g = 41)) && p.wf
  | .packetInject site r => decide (site < 44) && r.wf
  | .channelFree site ch => decide (site < 44) && decide (ch < 384)
  | .deflectionTimeout site q cls => decide (site < 44) && decide (q < 6) && decide (cls < 4)
  | .relaySearch site q cls => decide (site < 44) && decide (q < 6) && decide (cls < 4)
  | .boundMiss site q cls => decide (site < 44) && decide (q < 6) && decide (cls < 4)
  | .packetReceive site ch p _ => decide (site < 44) && decide (ch < 384) && p.wf
  | .skyAck site ch p => decide (site < 44) && decide (ch < 384) && p.wf
  | .ackTimerExpiry site src => decide (site < 44) && decide (src < 44)
  | .retransmitTimeout site dest seq => decide (site < 44) && decide (dest < 44) && decide (seq < 2 ^ 24)
  | .retxLimit site dest seq => decide (site < 44) && decide (dest < 44) && decide (seq < 2 ^ 24)
  | .skyDlvRestart _ site v => decide (site < 44) && decide (v < 2 ^ 32)
  | .spaceRestartReopen => true
  | .fenceIssue site a scope _ => decide (site < 44) && decide (a ≠ .memory) && scope.wf
  | .fenceComplete site _ => decide (site < 44)
  | .acceptFlagPublish site => decide (site < 44)
  | .barrierArrive ctx site => decide (ctx < 32) && decide (site < 44)
  | .coldPowerOn _ _ _ => true
  | .pgInDeassert => true
  | .railLoss rail => decide (rail < 14)
  | .perstNAssert => true
  | .perstNRelease bootMode => decide (bootMode < 4)
  | .reset _ v => decide (v < 2 ^ 32)
  | .deviceResetRequest source => decide (source < 512)
  | .bootStepDone step _ => decide (1 ≤ step) && decide (step ≤ 8)
  | .bootWatchdogExpiry => true
  | .patienceRetry _ v => decide (v < 2 ^ 32)
  | .readLowHalf _ off => decide (off.off % 4 = 0) && decide (off.off < 0x4080000) && decide (off.flip < 2 ^ 64)
  | .writeLowHalf _ off v => decide (off % 8 = 0) && decide (off < 0x4080000) && decide (v < 2 ^ 32)
  | .writeHighHalf _ off v => decide (off % 8 = 4) && decide (off < 0x4080000) && decide (v < 2 ^ 32)
  | .registerWrite _ off wide v => decide (off % (if wide then 8 else 4) = 0) && decide (off < 0x4080000) && decide (v < (if wide then 2 ^ 64 else 2 ^ 32))
  | .changeLogFlush => true
  | .unmappedAccess _ off _ => decide (off % 4 = 0) && decide (off < 0x4080000)
  | .stoppedAccess _ off _ => decide (off % 4 = 0) && decide (off < 0x4080000)
  | .transitTick => true
  | .dealPhase => true
  | .runPhaseStart => true
  | .scheduleEntryStart idx _ _ => decide (idx < 2 ^ 16)
  | .operatorComplete idx => decide (idx < 2 ^ 16)
  | .runPhaseEnd site => decide (site < 44)
  | .settleStart => true
  | .quietWindowOpen _ => true
  | .drainComplete => true
  | .mapSwitchResume => true
  | .drainPostpone => true
  | .tsyncFrame _ => true
  | .tsyncTimeout => true
  | .holdoverExpiry => true
  | .successorTakeover => true
  | .poleListenDone _ => true
  | .chartCopyDone _ _ _ => true
  | .switchPrepareDone _ => true
  | .stnClear _ site v => decide (site < 44) && decide (v < 2 ^ 32)
  | .trnClear _ v => decide (v < 2 ^ 32)
  | .cmtClear _ v => decide (v < 2 ^ 32)
  | .clkClear _ v => decide (v < 2 ^ 32)
  | .thmClear _ v => decide (v < 2 ^ 32)
  | .elsIntlkOpen => true
  | .laserInterlockFault slot => decide (slot < 8)
  | .lightStart _ _ => true
  | .lightStartRetry _ _ => true
  | .prewarmTimeout site => decide (site < 44)
  | .moduleWriteDone slot _ _ => decide (slot < 8)
  | .modulePoll slot _ => decide (slot < 8)
  | .spareCheck _ => true
  | .moduleDetect slot _ => decide (slot < 8)
  | .fadeSample feed _ _ _ => decide (feed < 6)
  | .swapCrossbarMove feed => decide (feed < 6)
  | .swapTapCheck feed _ => decide (feed < 6)
  | .swapPauseEnd feed => decide (feed < 6)
  | .swapGo _ v => decide (v < 2 ^ 32)
  | .fastSwapCrossbarMove feed => decide (feed < 6)
  | .fastSwapTapCheck feed _ => decide (feed < 6)
  | .fastSwapResume feed => decide (feed < 6)
  | .commission _ v => decide (v < 2 ^ 32)
  | .ringSweepDone site ring _ _ => decide (site < 44) && decide (ring < 1024)
  | .toneDecodeDone site ring _ => decide (site < 44) && decide (ring < 1024)
  | .twinkleVisit site engine ring _ _ => decide (site < 44) && decide (engine < 16) && decide (ring < 1024)
  | .heaterFault site ring _ => decide (site < 44) && decide (ring < 1024)
  | .relockTimeout site ring => decide (site < 44) && decide (ring < 1024)
  | .idRecheck site ring _ => decide (site < 44) && decide (ring < 1024)
  | .omuPqTail _ tile v => decide (tile < 24) && decide (v < 2 ^ 32)
  | .passStart tile => decide (tile < 24)
  | .guardSlotRecheck tile => decide (tile < 24)
  | .passComplete tile omu => decide (tile < 24) && decide (omu < 5)
  | .sentinelTrip tile omu => decide (tile < 24) && decide (omu < 4)
  | .pilotSlot tile omu => decide (tile < 24) && decide (omu < 4)
  | .pilotNow _ tile v => decide (tile < 24) && decide (v < 2 ^ 32)
  | .pilotComplete tile omu r => decide (tile < 24) && decide (omu < 4) && (r.inputs.all fun l => l.all fun x => decide (x < 1024)) &&
    (r.drivers.all fun l => decide (l.length = 17) && l.all fun x => decide (x < 1024))
  | .pilotStale tile omu => decide (tile < 24) && decide (omu < 4)
  | .gainTrimUpdate tile omu _ => decide (tile < 24) && decide (omu < 4)
  | .sweepRead _ ecc => ecc.all fun h => h.kind.syms.all fun p => decide (p.1 < 68) && decide (p.2 < 256)
  | .hotPrefixReady tile hot => decide (tile < 24) && decide (hot.table < 65536)
  | .shardRebuildDone table shard => decide (table < 65536) && decide (shard < 65536)
  | .engineJob m _ _ => decide (m < 12)
  | .engineJobComplete m _ => decide (m < 12)
  | .jobCompletionReceive tile => decide (tile < 24)
  | .chkGo _ hub ctx v => decide (hub < 2) && decide (ctx < 8) && decide (v < 2 ^ 32)
  | .chkAbort _ hub ctx v => decide (hub < 2) && decide (ctx < 8) && decide (v < 2 ^ 32)
  | .checkScanDone hub ctx _ _ _ _ => decide (hub < 2) && decide (ctx < 8)
  | .cxlMemWrite addr data _ _ => decide (addr % 64 = 0) && decide (data.length = 64)
  | .cxlMemRead addr _ => decide (addr % 64 = 0)
  | .cxlLinkDown => true
  | .cxlLinkUp => true
  | .deckEnable _ d v => decide (d < 64) && decide (v < 2 ^ 32)
  | .deckDisable _ d v => decide (d < 64) && decide (v < 2 ^ 32)
  | .sqTail d v => decide (d < 64) && decide (v < 65536)
  | .cqHead d v => decide (d < 64) && decide (v < 65536)
  | .cardFetch d _ _ => decide (d < 64)
  | .dummyAck seq => decide (seq < 2 ^ 48)
  | .dummyAckTimeout seq => decide (seq < 2 ^ 48)
  | .mirrorWriteDone seq _ _ => decide (seq < 2 ^ 48)
  | .nop seq => decide (seq < 2 ^ 48)
  | .infer seq => decide (seq < 2 ^ 48)
  | .gather seq => decide (seq < 2 ^ 48)
  | .score seq => decide (seq < 2 ^ 48)
  | .topk seq => decide (seq < 2 ^ 48)
  | .copy seq => decide (seq < 2 ^ 48)
  | .fill seq => decide (seq < 2 ^ 48)
  | .check seq => decide (seq < 2 ^ 48)
  | .handBegin seq => decide (seq < 2 ^ 48)
  | .handWrite seq => decide (seq < 2 ^ 48)
  | .handCommit seq => decide (seq < 2 ^ 48)
  | .handAbort seq => decide (seq < 2 ^ 48)
  | .fence seq => decide (seq < 2 ^ 48)
  | .chartLoad seq => decide (seq < 2 ^ 48)
  | .chartSwitch seq => decide (seq < 2 ^ 48)
  | .tableDefine seq => decide (seq < 2 ^ 48)
  | .telemetrySnapshot seq => decide (seq < 2 ^ 48)
  | .telemetryCapture seq j => decide (seq < 2 ^ 48) && decide (j < 16)
  | .cometBulk seq _ _ _ => decide (seq < 2 ^ 48)
  | .moverDone seq _ _ _ => decide (seq < 2 ^ 48)
  | .irqTimerExpiry d => decide (d < 64)
  | .evfDataRead _ flip => decide (flip < 2 ^ 64)
  | .flush _ v => decide (v < 2 ^ 32)
  | .stateCopyAck => true
  | .heartbeat => true
  | .takeover cause => decide (cause < 3)
  | .takeoverTimeout => true
  | .standbyResync => true
  | .standbyResyncDone => true
  | .writeBackDone h => decide (h < 32)
  | .recover _ v => decide (v < 2 ^ 32)
  | .recoveryDone _ _ => true
  | .talWinSel _ v => decide (v < 2 ^ 64)
  | .cometWrite port f _ _ => decide (port < 32) && f.wf
  | .cometRead port f _ _ => decide (port < 32) && f.wf
  | .readResp port f _ => decide (port < 32) && f.wf
  | .atomic port f _ _ => decide (port < 32) && f.wf
  | .atomicResp port f _ => decide (port < 32) && f.wf
  | .bulkWrite port f _ _ => decide (port < 32) && f.wf
  | .bulkRead port f _ _ => decide (port < 32) && f.wf
  | .refuse port f _ => decide (port < 32) && f.wf
  | .ack port f _ => decide (port < 32) && f.wf
  | .hello port f _ => decide (port < 32) && f.wf
  | .timing port f _ => decide (port < 32) && f.wf
  | .barrier port f _ => decide (port < 32) && f.wf
  | .atomicRequest site => decide (site < 44)
  | .writePackTimeout peer => decide (peer < 4096)
  | .cometRto peer space seq => decide (peer < 4096) && decide (space ≤ 8) && decide (seq < 2 ^ 32)
  | .helloRetry peer => decide (peer < 4096)
  | .peerLost peer => decide (peer < 4096)
  | .gatewayFlush win site => decide (win < 256) && decide (site < 44)
  | .timingExchange => true
  | .portDown port => decide (port < 32)
  | .retrainAttempt port _ lanes => decide (port < 32) && decide (lanes < 256)
  | .retrain _ port v => decide (port < 32) && decide (v < 2 ^ 64)
  | .alogQuery _ v => decide (v < 2 ^ 64)
  | .alogQueryDone => true
  | .trefLoss => true
  | .trefHoldoverEnd => true
  | .arm _ v => decide (v < 2 ^ 32)
  | .monitorSample region _ => decide (region < 60)
  | .ceilRestore _ v => decide (v < 2 ^ 32)
  | .droopTrip tile k => decide (tile < 24) && decide (k < 4)
  | .droopClear tile k => decide (tile < 24) && decide (k < 4)
  | .seamSlowSwitch half => decide (half < 2)
  | .seamRelease half => decide (half < 2)
  | .seamCapClear half => decide (half < 2)
  | .sensorSample _ => true
  | .hbmTempRead m _ => decide (m < 12)
  | .canaryRead tile _ _ => decide (tile < 24)
  | .limitExceed tile => decide (tile < 24)
  | .powerSample _ => true
  | .clusterLevelReport tile shares => decide (tile < 24) && decide (shares.length = 4)
  | .crashDumpDone => true
  | .tileStackReset t => decide (t < 24)
  | .firmamentSiteReset k => decide (k < 44)
  | .stationReset k => decide (k < 44)
  | .mbdReset m => decide (m < 12)
  | .ioChipletReset c => decide (c < 4)
  | .frontEndReset h => decide (h < 2)
  | .croupierWatchdog => true
  | .domainResetEnd d => decide (d < 132)
  | .tileHang t => decide (t < 24)
  | .reinstate _ v => decide (v < 2 ^ 32)
  | .clearAll _ v => decide (v < 2 ^ 32)
  | .guardCheck _ => true
  | .read _ => true
  | .program _ => true
  | .verifyFw _ => true
  | .activateFw _ => true
  | .guardUpdate _ => true
  | .saveLife _ => true
  | .clearLog _ => true
  | .clearDump _ => true
  | .eraseImage _ => true
  | .almCmdDone verdict => decide (verdict < 8)
  | .lifetimeRecord => true
  | .getIdentity src off len => Iface.message src && decide (off < 2 ^ 32) && decide (len < 65536)
  | .quoteStart src nonce => Iface.message src && decide (nonce.length = 32)
  | .quoteSigned _ => true
  | .quoteRead src off len => Iface.message src && decide (off < 2 ^ 32) && decide (len < 65536)
  | .regRead src off width => Iface.message src && decide (off.off < 2 ^ 32) && decide (off.flip < 2 ^ 64) && (decide (width = 4) || decide (width = 8))
  | .regWrite src off width v => Iface.message src && decide (off < 2 ^ 32) && (decide (width = 4) || decide (width = 8)) && decide (v < 2 ^ (8 * width))
  | .setEndpointId src _ eid => Iface.message src && decide (eid < 256)
  | .getEndpointId src => Iface.message src
  | .getMctpVersionSupport src type => Iface.message src && decide (type < 256)
  | .getMessageTypeSupport src => Iface.message src
  | .bondCheck _ => true
  | .elsIntlkClose => true
  | .trefReturn => true
  | .cxlSnoop _ => true
  | .hostAccessComplete _ _ _ => true
  | .frameTransmitDone port => decide (port < 32)
  | .escalationWindowExpiry d => decide (d < 132)
  | .takeoverReplay _ _ _ => true

end Sys2Proof
end

