-- ==== Sys2Proof/Safety.lean ====
section
/-! DEFINITION. What the statements say in common: a command answered, a field counted, what stays as it was. -/

namespace Sys2Proof.Machine

/-- The command `c` is answered with a next state, of which `P` holds. -/
def Gives (c : Instr) (s : State) (P : State → Prop) : Prop := ∃ t, exec c s = .next t ∧ P t

/-- Every byte of memory reads as before, and every granule carries poison as before. -/
def SameMemory (s t : State) : Prop := ∀ a, t.rd a = s.rd a ∧ t.poisoned a = s.poisoned a

/-- Every register field whose home is not in `ks` reads as before. -/
def Keeps (ks : List Nat) (s t : State) : Prop := ∀ (f : Fld) (i j : Nat), f.key i j ∉ ks → t.get f i j = s.get f i j

/-- Every register field outside BAR0 offsets `lo` to `hi − 1` reads as before. -/
def KeepsOutside (lo hi : Nat) (s t : State) : Prop :=
  ∀ (f : Fld) (i j : Nat), f.key i j < lo * 64 ∨ hi * 64 ≤ f.key i j → t.get f i j = s.get f i j

/-- What a counter reads after `n` more events: held while frozen, wrapping or saturating as its field says (R76). -/
def State.counted (s : State) (f : Fld) (n : Nat) (i : Nat := 0) (j : Nat := 0) : Nat :=
  if s.frozen f i then s.get f i j
  else if f.cls = .wrap then (s.get f i j + n) % 2 ^ f.w
  else satTo (2 ^ f.w - 1) (s.get f i j + n)

/-- The counter `f` has counted `n` events. -/
def CountsBy (f : Fld) (n i j : Nat) (s t : State) : Prop := t.get f i j = s.counted f n i j

/-- Every register field reads as before but those whose homes are in `ks` and those in the BAR0 blocks `bs` (first offset, first offset after). -/
def KeepsBut (bs : List (Nat × Nat)) (ks : List Nat) (s t : State) : Prop :=
  ∀ (f : Fld) (i j : Nat), f.key i j ∉ ks → (∀ b ∈ bs, f.key i j < b.1 * 64 ∨ b.2 * 64 ≤ f.key i j) → t.get f i j = s.get f i j

/-- BAR0 blocks (R302): the event FIFO, the stations and delivery units, the light control, the fault collector, the Almanac. -/
def evfBlock : Nat × Nat := (0x10000, 0x11000)
def skyBlock : Nat × Nat := (0x1000000, 0x1600000)
def lightBlock : Nat × Nat := (0x1600000, 0x1800000)
def fltBlock : Nat × Nat := (0x2200000, 0x2300000)
def almBlock : Nat × Nat := (0x2400000, 0x2500000)

/-- What the change log leaves of an entry made, in registers (R450, R488). -/
def logKeys : List Nat := [F.ALM_CLOG_SEQ.key 0 0, F.THM_STAT_ALM_HELD.key 0 0]

/-- The part runs with its clocks: on, not in FATAL, its PLLs locked (R423, R460). -/
def State.clocked (s : State) : Prop := s.on = true ∧ s.fatal = false ∧ 4 ≤ s.get F.FLT_BOOT_STEP

/-- A fault source whose severity is at most DEGRADE: a raise of it stops nothing (R464). -/
def State.calm (s : State) (src : Nat) : Prop := src < 248 ∧ s.get F.FLT_SRC_SEV src ≤ 2

/-- Only the sources whose severity is fixed at FATAL (R464) have a severity above DEGRADE: what any other source raises stops nothing. -/
def State.mild (s : State) : Prop := ∀ src, src < 248 → src ∉ [224, 238, 239, 240] → s.get F.FLT_SRC_SEV src ≤ 2

/-- What a sample shows of a die whose sensors that have not failed read `good` (R430, R455, R456): its highest reading, or a site's mean and its highest, in
the register of a tile, of a stack's MBD or of the edge, where the unit is present and in service. -/
def DieShown (s t : State) (d : Nat) (good : List Int) : Prop :=
  let hi := ofSigned 12 (highest good) % 2 ^ 12
  (d < 48 ∨ 92 ≤ d ∧ d < 104 ∨ 116 ≤ d ∧ d < 120 ∨ d = 122 → t.temp d = highest good) ∧
  (48 ≤ d → d < 92 → t.siteT (d - 48) = meanOf good ∧ t.siteMax (d - 48) = highest good) ∧
  (d < 24 → s.present d = true → s.retired d = false → t.get F.THM_TILE_T_TJ d = hi) ∧
  (24 ≤ d → d < 48 → s.present (d - 24) = true → s.retired (d - 24) = false → t.get F.THM_TILE_T_CACHE_MAX (d - 24) = hi) ∧
  (48 ≤ d → d < 72 → s.present (d - 48) = true → s.retired (d - 48) = false →
    t.get F.THM_TILE_T_SITE (d - 48) = ofSigned 12 (meanOf good) % 2 ^ 12 ∧ t.get F.THM_TILE_T_SITE_MAX (d - 48) = hi) ∧
  (92 ≤ d → d < 104 → s.present (24 + (d - 92)) = true → s.retired (24 + (d - 92)) = false → t.get F.THM_MBD_MBD_T (d - 92) = hi) ∧
  (90 ≤ d → d < 92 → t.get F.THM_EDGE_TEMP (d - 90) = hi) ∧
  (116 ≤ d → d < 120 → t.get F.THM_EDGE_TEMP (d - 114) = hi) ∧
  (d = 122 → t.get F.THM_EDGE_TEMP 6 = hi)

/-- A source raised once (R464): STICKY set, COUNT one higher, LAST_SRC where its severity is not 0. -/
def Raised (src : Nat) (s t : State) : Prop :=
  t.get F.FLT_SRC_STICKY src = 1 ∧ CountsBy F.FLT_SRC_COUNT 1 src 0 s t ∧ (1 ≤ s.get F.FLT_SRC_SEV src → t.get F.FLT_STAT_LAST_SRC = src)

/-- The commands that hub W serves while the part is in FATAL (R466): the power and reset contacts, the interlock loop, the host link, MCTP, the
Almanac, the dump, and accesses to registers. Every other command is one of a unit whose clock stands. -/
def servedInFatal : Instr → Bool
  | .coldPowerOn _ _ _ | .pgInDeassert | .railLoss _ | .perstNAssert | .perstNRelease _ => true
  | .elsIntlkOpen | .elsIntlkClose | .cxlLinkDown | .cxlLinkUp | .cxlSnoop _ => true
  | .almCmdDone _ | .changeLogFlush | .crashDumpDone => true
  | .getIdentity _ _ _ | .quoteStart _ _ | .quoteSigned _ | .quoteRead _ _ _ => true
  | .setEndpointId _ _ _ | .getEndpointId _ | .getMctpVersionSupport _ _ | .getMessageTypeSupport _ => true
  | .regRead _ _ _ | .regWrite _ _ _ _ | .unmappedAccess _ _ _ | .stoppedAccess _ _ _ => true
  | .readLowHalf _ _ | .writeLowHalf _ _ _ | .writeHighHalf _ _ _ | .registerWrite _ _ _ _ => true
  | .reset _ _ | .patienceRetry _ _ | .reinstate _ _ | .clearAll _ _ => true
  | .stnClear _ _ _ | .trnClear _ _ | .cmtClear _ _ | .clkClear _ _ | .thmClear _ _ | .skyDlvRestart _ _ _ => true
  | .swapGo _ _ | .commission _ _ | .omuPqTail _ _ _ | .pilotNow _ _ _ | .chkGo _ _ _ _ | .chkAbort _ _ _ _ => true
  | .deckEnable _ _ _ | .deckDisable _ _ _ | .evfDataRead _ _ | .flush _ _ | .recover _ _ | .talWinSel _ _ => true
  | .retrain _ _ _ | .alogQuery _ _ | .arm _ _ | .ceilRestore _ _ => true
  | .read _ | .program _ | .verifyFw _ | .activateFw _ | .guardUpdate _ | .saveLife _ | .clearLog _ | .clearDump _ | .eraseImage _ => true
  | _ => false

/-- A Comet frame that its port takes in: the link is up and the frame is addressed to it, passes every check of R384, and comes from a peer in session. -/
def State.framePort (s : State) (port kind op : Nat) (f : Frame) : Prop :=
  s.portUp port = true ∧ f.dmac = (s.get F.CMT_ID_MAC_BASE + port) % 2 ^ 48 ∧ f.etype = s.cmt.etype ∧ f.ver = 1 ∧ f.codesOk = true ∧ f.dstPart = s.con.partId ∧
  (s.peerDef f.srcPart).isSome = true ∧ f.pcrc = f.pcrcOf ∧ (f.kind = 2 ∨ (s.sess f.srcPart).epoch = some f.epoch) ∧ f.kind = kind ∧ f.op = op

/-- The command of a frame on a port by its class: DATA operations 0 to 7 (R382), then ACK, HELLO, TIMING and BARRIER. -/
def frameCmd (port : Nat) (f : Frame) (fcsOk : Bool) (k : Nat) : Instr :=
  match k with
  | 0 => .cometWrite port f fcsOk []
  | 1 => .cometRead port f fcsOk []
  | 2 => .readResp port f fcsOk
  | 3 => .atomic port f fcsOk []
  | 4 => .atomicResp port f fcsOk
  | 5 => .bulkWrite port f fcsOk []
  | 6 => .bulkRead port f fcsOk []
  | 7 => .refuse port f fcsOk
  | 8 => .ack port f fcsOk
  | 9 => .hello port f fcsOk
  | 10 => .timing port f fcsOk
  | _ => .barrier port f fcsOk

/-- The frames of a session that wait for their number or their acknowledgement (R385). -/
def Sess.sending (x : Sess) : List CTx := x.tx ++ x.wait

/-- The commands that act whatever the power: the power contacts and PERST_N (R452, R454, R458). -/
def actsUnpowered : Instr → Bool
  | .coldPowerOn _ _ _ | .pgInDeassert | .railLoss _ | .perstNAssert | .perstNRelease _ => true
  | _ => false

/-- The commands that take the power away or bring it (R452, R454): what alone leads out of FATAL (R466). -/
def powerCycles : Instr → Bool
  | .coldPowerOn _ _ _ | .pgInDeassert | .railLoss _ => true
  | _ => false

/-- A part that has never been powered: no power, memory unwritten, every register field at its Reset column, nothing in the Sky, in the Tally, or
in the event FIFO. -/
def State.unpowered (s : State) : Prop :=
  s.on = false ∧ (∀ a, s.rd a = 0 ∧ s.poisoned a = false) ∧ s.sky = State.reset.sky ∧ s.tally = State.reset.tally ∧ s.evf = State.reset.evf ∧
  ∀ (f : Fld) (i j : Nat), s.get f i j = f.rst

end Sys2Proof.Machine
end

