-- ==== Sys2Proof/Certificates/Slice0/Obligations.lean ====
section
/-! DEFINITION. The statements for the provers, from the numbered rules of the spec. -/

open Sys2Proof Sys2Proof.Machine

/-! ## The block as a whole -/

/-- Every step takes the command at the front of the queue and is that command's effect on the state with the queue's rest. -/
def Obligations.StepRunsFront : Prop :=
  ∀ (s : State) (c : Instr) (rest : List Instr), s.pending = c :: rest → step s = exec c (s.withPending rest)

/-- On an empty queue a step moves the time base by 1 ns and changes nothing else (the model's choice, log entry 4). -/
def Obligations.IdleStepCounts : Prop :=
  ∀ s : State, s.pending = [] → step s = .next { s with now := s.now + 1 }

/-- Every command is answered with a next state: none faults and none is refused. -/
def Obligations.EveryCommandAnswers : Prop :=
  ∀ (c : Instr) (s : State), ∃ t, exec c s = .next t

/-- R12, and the model's choices of log entries 1 and 5: after reset every register field reads its Reset column, no byte of memory has been written, no
command waits, and the part is not yet on.

The part after reset is such a part. -/
def Obligations.ResetValues : Prop :=
  ((∀ (f : Fld) (i j : Nat), State.reset.get f i j = f.rst) ∧ (∀ a, State.reset.rd a = 0 ∧ State.reset.poisoned a = false) ∧
     State.reset.pending = [] ∧ State.reset.on = false ∧ State.reset.now = 0 ∧
     (∀ a b, (State.reset.space a b).txNext = 0 ∧ (State.reset.space a b).rxCum = 0xFFFFFF)) ∧
  (State.reset.unpowered)

/-- Without power (R452, R454, R508) no command but those of the power contacts and of PERST_N has an effect.

In FATAL (R446, R466) the clocks of every unit but hub W stand: a command of any other unit changes nothing.
That a command for a unit without power, or stopped in FATAL, changes nothing is the model's choice (log entry 7); R446, R452 and R466 say only that the unit is off or that its clocks stand. -/
def Obligations.StandingUnitsIgnoreCommands : Prop :=
  (∀ (c : Instr) (s : State), s.on = false → actsUnpowered c = false → exec c s = .next s.fresh) ∧
  (∀ (c : Instr) (s : State), s.fatal = true → servedInFatal c = false → exec c s = .next s.fresh)

/-- R466: FATAL is left only by a power cycle. From every state that is in FATAL, a step whose command is not one of the power contacts' answers a state
in FATAL, in which the part is still on; what waits in the queue is left to later steps. -/
def Obligations.FatalIsFinal : Prop :=
  ∀ (s t : State) (c : Instr) (rest : List Instr), s.on = true → s.fatal = true → s.pending = c :: rest → powerCycles c = false →
    step s = .next t → t.on = true ∧ t.fatal = true ∧ t.pending = rest

/-- A part that has never been powered (R452, R508) stays as reset leaves it under every command but a power-on whose rails pass their check: without power,
nothing written, nothing queued, every register at its Reset column.
That commands for a part without power change nothing is the model's choice (log entry 7). -/
def Obligations.UnpoweredStays : Prop :=
  ∀ (s t : State) (c : Instr) (rest : List Instr), s.unpowered → s.pending = c :: rest → (∀ intlk loads, c ≠ .coldPowerOn true intlk loads) →
    step s = .next t → t.unpowered

/-! ## Registers -/

/-- R7: a read of the low half of a 64-bit register latches the high half, and the next read of the high half by the same interface returns what was
latched, whatever has happened to the registers in between; the read changes nothing but the latch. (EVF_DATA's reads pop: its own statement.)

R7: a write of the low half of a 64-bit register is held and changes nothing else; each interface holds its own.

R7, R487: a write of the high half commits the low half that the same interface holds as one 64-bit write, and does not hold it any more; with none
held it commits the high half alone. A 64-bit write is one write too, in place of a low half that the interface holds (log entry 12). -/
def Obligations.HalfAccesses : Prop :=
  (∀ (s : State) (src : Iface) (off i j flip : Nat) (r : Reg), s.on = true → s.barUp = true → regAt off = some (r, i, j) → r.wide = true → r.base ≠ 0x10000 →
       s.stopped r i = false →
       Gives (.readLowHalf src ⟨off, flip⟩) s fun t =>
         t.out = [.value src off (s.regValue r i j % 2 ^ 32)] ∧ t = { s with halves := t.halves, out := t.out } ∧ t.halves.held = s.halves.held ∧
         ∀ u : State, u.on = true → u.barUp = true → u.halves = t.halves → spotAt (off + 4) = some (r, i, j, true) → u.stopped r i = false →
           Gives (.readLowHalf src ⟨off + 4, flip⟩) u fun w =>
             w.out = [.value src (off + 4) (s.regValue r i j / 2 ^ 32)] ∧ w = { u with halves := w.halves, out := w.out }) ∧
  (∀ (s : State) (src : Iface) (off v i j : Nat) (r : Reg), s.on = true → s.barUp = true → regAt off = some (r, i, j) → r.wide = true →
       s.stopped r i = false →
       Gives (.writeLowHalf src off v) s fun t =>
         t = { s with halves := t.halves, out := [] } ∧ t.halves.latched = s.halves.latched ∧
         tabGet 0 t.halves.held (off * 4 + Iface.code src) = v % 2 ^ 32 + 1 ∧
         ∀ k, k ≠ off * 4 + Iface.code src → tabGet 0 t.halves.held k = tabGet 0 s.halves.held k) ∧
  ((∀ (s : State) (src : Iface) (off v lo i j : Nat) (r : Reg), s.on = true → s.barUp = true → spotAt (off + 4) = some (r, i, j, true) →
       r.wide = true → s.stopped r i = false → lo < 2 ^ 32 → tabGet 0 s.halves.held (off * 4 + Iface.code src) = lo + 1 →
       Gives (.writeHighHalf src (off + 4) v) s fun t =>
         t = (s.fresh.setHeld off src 0).commitReg src r i j (lo + v % 2 ^ 32 * 2 ^ 32) (2 ^ 64 - 1) off true (lo + v % 2 ^ 32 * 2 ^ 32)) ∧
     (∀ (s : State) (src : Iface) (off v i j : Nat) (r : Reg), s.on = true → s.barUp = true → spotAt (off + 4) = some (r, i, j, true) →
       r.wide = true → s.stopped r i = false → tabGet 0 s.halves.held (off * 4 + Iface.code src) = 0 →
       Gives (.writeHighHalf src (off + 4) v) s fun t =>
         t = s.fresh.commitReg src r i j (v % 2 ^ 32 * 2 ^ 32) 0xFFFFFFFF00000000 (off + 4) false (v % 2 ^ 32)) ∧
     (∀ (s : State) (src : Iface) (off v i j x y : Nat) (r q : Reg), s.on = true → s.barUp = true → spotAt off = some (r, i, j, false) →
       spotAt (off + 4) = some (q, x, y, true) → s.stopped r i = false →
       Gives (.registerWrite src off true v) s fun t =>
         t = (s.fresh.setHeld off src 0).commitReg src r i j (v % 2 ^ 64) (2 ^ 64 - 1) off true (v % 2 ^ 64)))

/-- R9, R10: what a write of a whole register leaves in a field: RW takes the written bits, W1C clears and W1S sets where a 1 is written, RO keeps its value, and
LO takes the written value only where it is lower.

R9, R11: a 32-bit write of a register that is not configuration-class and that no rule screens or makes act leaves in each of its fields what that field's
access code says, and every other register field, memory and queue as they were: CMT_PEER_SEL, ALM_ADDR, ALM_LEN, ALM_STAGE, OMU_PQ_TAIL and SKY_DLV_RESTAT.
OMU_PQ_TAIL has a command of its own, which does the same.

R89, R102: SKY_DLV_EJECT.CLOSED written 1 is kept and does nothing more; written 0 it opens the spaces toward the station that no other restart keeps closed. -/
def Obligations.FieldWrites : Prop :=
  (∀ (f : Fld) (cur v : Nat), f.lsb + f.w ≤ 64 → cur < 2 ^ f.w →
       let x := v / 2 ^ f.lsb % 2 ^ f.w
       let n := f.written cur v (2 ^ 64 - 1)
       (f.acc = .rw → n = x) ∧
       (f.acc = .ro → n = cur) ∧
       (f.acc = .lo → n = min cur x) ∧
       (f.acc = .w1c → ∀ k, n.testBit k = (cur.testBit k && !x.testBit k)) ∧
       (f.acc = .w1s → ∀ k, n.testBit k = (cur.testBit k || x.testBit k))) ∧
  (∀ (s : State) (src : Iface) (off v i j : Nat) (r : Reg), s.on = true → s.barUp = true → regAt off = some (r, i, j) → r.wide = false →
       r.cfg = false → s.stopped r i = false →
       r.base ∈ [0x1E0000C, 0x2400008, 0x240000C, 0x2410000, 0x1800010, 0x150000C] →
       Gives (.registerWrite src off false v) s fun t =>
         (∀ f ∈ r.flds, t.get f i j = f.written (s.get f i j) (v % 2 ^ 32) 0xFFFFFFFF % 2 ^ f.w) ∧
         Keeps (r.flds.map fun f => f.key i j) s t ∧ t = { s with regs := t.regs, out := [] }) ∧
  (∀ (s : State) (src : Iface) (off v k j : Nat) (r : Reg), s.on = true → s.barUp = true → regAt off = some (r, k, j) → r.base = 0x1500010 →
       s.stopped r k = false →
       Gives (.registerWrite src off false v) s fun t =>
         t.get F.SKY_DLV_EJECT_CLOSED k = v % 2 ∧ Keeps [F.SKY_DLV_EJECT_CLOSED.key k 0] s t ∧
         (bit v 0 = true → t = { s with regs := t.regs, out := [] }) ∧
         (bit v 0 = false →
           (∀ y, y < 44 → (∀ x ∈ s.sky.restarts, (x.scopeOne = true ∧ x.a = k) ∨ inScope x.scopeOne x.a x.b y k = false) → (t.space y k).rxClosed = false) ∧
           (∀ y z, z ≠ k → y < 64 → z < 64 → t.space y z = s.space y z) ∧ t = { s with regs := t.regs, sky := { s.sky with spaces := t.sky.spaces }, out := [] }))

/-- R8: an access where no register lies reads 0, writes nothing and is counted in MGT_UNMAPPED.

R423, R488: an access to a register whose clock stands reads all ones, writes nothing and is counted in CLK_STAT.STOPPED_ACC; a write to a configuration-class one
makes an entry in the change log that was not taken (for STOPPED_ACCESS, which carries no value, with a free one: log entry 216). -/
def Obligations.AbsentRegisters : Prop :=
  (∀ (s : State) (src : Iface) (off v : Nat) (write : Bool), s.on = true → s.barUp = true → spotAt off = none →
       (Gives (.unmappedAccess src off write) s fun t =>
         CountsBy F.MGT_UNMAPPED 1 0 0 s t ∧ Keeps [F.MGT_UNMAPPED.key 0 0] s t ∧ t = { s with regs := t.regs, out := t.out } ∧
         t.out = if write then [] else [.value src off 0]) ∧
       (Gives (.registerWrite src off false v) s fun t =>
         CountsBy F.MGT_UNMAPPED 1 0 0 s t ∧ Keeps [F.MGT_UNMAPPED.key 0 0] s t ∧ t = { s with regs := t.regs, out := [] })) ∧
  (∀ (s : State) (src : Iface) (off v i j flip : Nat) (r : Reg) (high write : Bool), s.on = true → s.barUp = true → spotAt off = some (r, i, j, high) →
       s.stopped r i = true →
       (write = false ∨ r.cfg = false → Gives (.stoppedAccess src off write) s fun t =>
         CountsBy F.CLK_STAT_STOPPED_ACC 1 0 0 s t ∧ Keeps [F.CLK_STAT_STOPPED_ACC.key 0 0] s t ∧ t = { s with regs := t.regs, out := t.out } ∧
         t.out = if write then [] else [.value src off 0xFFFFFFFF]) ∧
       (Gives (.readLowHalf src ⟨off, flip⟩) s fun t =>
         CountsBy F.CLK_STAT_STOPPED_ACC 1 0 0 s t ∧ t.out = [.value src off 0xFFFFFFFF] ∧ t = { s with regs := t.regs, out := t.out }) ∧
       (r.cfg = false ∨ (r.wide = true ∧ high = false) → Gives (.registerWrite src off false v) s fun t =>
         CountsBy F.CLK_STAT_STOPPED_ACC 1 0 0 s t ∧ Keeps [F.CLK_STAT_STOPPED_ACC.key 0 0] s t ∧ t = { s with regs := t.regs, out := [] }) ∧
       (r.cfg = true → r.wide = false ∨ high = true → off < 2 ^ 26 → s.logFull = false →
         (Gives (.registerWrite src off false v) s fun t =>
           CountsBy F.CLK_STAT_STOPPED_ACC 1 0 0 s t ∧ KeepsBut [] (F.CLK_STAT_STOPPED_ACC.key 0 0 :: logKeys) s t ∧
           (∃ e, t.mgt.pend = s.mgt.pend ++ [e] ∧ bitsOf (leAt e 16 4) 0 26 = off ∧ bitsOf (leAt e 16 4) 30 1 = 0 ∧ leAt e 20 8 = v % 2 ^ 32) ∧
           t = { s with regs := t.regs, mgt := { s.mgt with pend := t.mgt.pend }, out := [] }) ∧
         (write = true → Gives (.stoppedAccess src off write) s fun t =>
           CountsBy F.CLK_STAT_STOPPED_ACC 1 0 0 s t ∧ KeepsBut [] (F.CLK_STAT_STOPPED_ACC.key 0 0 :: logKeys) s t ∧
           (∃ e, t.mgt.pend = s.mgt.pend ++ [e] ∧ bitsOf (leAt e 16 4) 0 26 = off ∧ bitsOf (leAt e 16 4) 30 1 = 0) ∧
           t = { s with regs := t.regs, mgt := { s.mgt with pend := t.mgt.pend }, free := t.free, out := [] })))

/-- R450, R488: a 32-bit write of a configuration-class register that does not act beside its fields (TRN_TSYNC, OMU_CAL_CTRL, GRD_TRIP's neighbour GRD_WP) makes one
change-log entry after the entries held before, with the next SEQ, the time base, the offset and the value written, and a CRC-32C; with 1,024 entries held it is dropped,
counted, and makes none. -/
def Obligations.ConfigurationWritesAreLogged : Prop :=
  ∀ (s : State) (src : Iface) (off v i j : Nat) (r : Reg), s.on = true → s.barUp = true → regAt off = some (r, i, j) → r.wide = false →
    r.cfg = true → r.base ∈ [0x1D00020, 0x1900000, 0x2300020] → s.stopped r i = false →
    (s.logFull = false →
      Gives (.registerWrite src off false v) s fun t =>
        t.get F.ALM_CLOG_SEQ = (s.get F.ALM_CLOG_SEQ + 1) % 2 ^ 32 ∧
        ∃ e : List Byte, t.mgt.pend = s.mgt.pend ++ [e] ∧ e.length = 32 ∧ leAt e 0 8 = s.now % 2 ^ 64 ∧ leAt e 8 4 = (s.get F.ALM_CLOG_SEQ + 1) % 2 ^ 32 ∧
          bitsOf (leAt e 16 4) 0 26 = off ∧ bitsOf (leAt e 16 4) 26 3 = Iface.code src ∧ leAt e 20 8 = v % 2 ^ 32 ∧
          leAt e 28 4 = crc32c (e.take 28) % 2 ^ 32) ∧
    (s.logFull = true →
      Gives (.registerWrite src off false v) s fun t =>
        CountsBy F.ALM_HELD_DROP 1 0 0 s t ∧ Keeps [F.ALM_HELD_DROP.key 0 0] s t ∧ t = { s with regs := t.regs, out := [] })

/-- R76, R299, R407, R429, R455: writing CLEAR 1 puts every counter and watermark of the block back to its Reset column at one instant and leaves every counter of
another block as it was. (The statement is of the clearing itself, and of TRN_CLEAR, whose register is not configuration-class, as a command.)

R76, R407, R429, R450, R455: writing CLEAR 1 to CMT_CTRL, CLK_CTRL or THM_CTRL clears every counter and watermark of that block and leaves every other register as it was, the
written register's fields and the change log's apart. -/
def Obligations.ClearsCounters : Prop :=
  ((∀ (s : State) (z : Frz) (site : Nat) (f : Fld) (i j : Nat),
       (countsAt z site (f.key i j) = true → (s.clearCounters z site).get f i j = f.rst) ∧
       (countsAt z site (f.key i j) = false → (s.clearCounters z site).get f i j = s.get f i j)) ∧
     (∀ (s : State) (src : Iface) (v : Nat), s.on = true → s.barUp = true → s.fatal = false → 4 ≤ s.get F.FLT_BOOT_STEP →
       Gives (.trnClear src v) s fun t =>
         t.get F.TRN_CTRL_FREEZE = v % 2 ∧ t = { s with regs := t.regs, out := [] } ∧
         (bit v 1 = true → t.get F.TRN_LATE = 0 ∧ t.get F.TRN_LATE_MAX_NS = 0) ∧
         (bit v 1 = false → Keeps [F.TRN_CTRL_FREEZE.key 0 0, F.TRN_CTRL_CLEAR.key 0 0] s t)) ∧
     (∀ (s : State) (src : Iface) (site v : Nat), site < 44 → s.on = true → s.barUp = true → s.fatal = false → 4 ≤ s.get F.FLT_BOOT_STEP →
       s.domStopped (84 + site) = false → s.domStopped (24 + site) = false →
       Gives (.stnClear src site v) s fun t =>
         t.get F.SKY_STN_CTRL_FREEZE site = v % 2 ∧ t = { s with regs := t.regs, out := [] } ∧
         (bit v 1 = true → t.get F.SKY_HDR_CRC site = 0 ∧ t.get F.SKY_DUP site = 0) ∧
         (bit v 1 = false → Keeps [F.SKY_STN_CTRL_FREEZE.key site 0, F.SKY_STN_CTRL_CLEAR.key site 0] s t))) ∧
  (∀ (s : State) (src : Iface) (v off : Nat) (z : Frz) (c : Instr),
       (c, z, off) ∈ [(.cmtClear src v, .cmt, 0x1E00000), (.clkClear src v, .clk, 0x2000000), (.thmClear src v, .thm, 0x2100000)] →
       s.clocked → s.logFull = false → v < 2 ^ 32 → bit v 1 = true → (z = .clk → bit v 2 = false) →
       Gives c s fun t =>
         (∀ (f : Fld) (i j : Nat), countsAt z 0 (f.key i j) = true → t.get f i j = f.rst) ∧
         (∀ (f : Fld) (i j : Nat), countsAt z 0 (f.key i j) = false → f.key i j ∉ logKeys → f.key i j < off * 64 ∨ (off + 1) * 64 ≤ f.key i j → t.get f i j = s.get f i j) ∧
         t.mgt.pend.length = s.mgt.pend.length + 1 ∧ (z ≠ .clk → t.clk = s.clk ∧ t.trn = s.trn) ∧
         t = { s with regs := t.regs, clk := { s.clk with stretch := t.clk.stretch }, trn := { s.trn with stretch := t.trn.stretch }, mgt := { s.mgt with pend := t.mgt.pend }, out := [] })

/-! ## Faults, Almanac, management, events -/

/-- R479: CLEAR_ALL, one of the bits of FLT_CTRL, clears STICKY and COUNT of every source and with them ALERT_N and DEGRADED; like every write of a
configuration-class register it makes one change-log entry, or is dropped where 1,024 are held (R450).

R474, R479: REINSTATE of the Croupier or of a front end that is retired puts its domain in service with no reset counted against it; of a domain that is
not retired it does nothing beside its change-log entry. REINSTATE of a retired domain of a site brings the site back with every domain of it, no reset counted against them: its station
and Firmament site at once, OFF before the light and relocking its rings after it, its die where the site's rings are confirmed and fenced off until then; its spaces begin a restart
under its generation (R89; the model's choice, log entry 173), a tile's OMUs start from OFF, a stack's shards are rebuilt (R242), a chiplet's named ports train. -/
def Obligations.FaultControl : Prop :=
  ((∀ (s : State) (src : Iface) (v : Nat), s.barUp = true → s.logFull = false → v < 2 ^ 32 → bit v 18 = true → bit v 16 = false → bit v 17 = false →
       v % 256 ≠ 0xA5 →
       Gives (.clearAll src v) s fun t =>
         (∀ i, i < 248 → t.get F.FLT_SRC_STICKY i = 0 ∧ t.get F.FLT_SRC_COUNT i = 0) ∧
         ((∀ p ∈ s.flt.lastSev, p.1 < 248) → t.get F.FLT_STAT_ALERT = 0 ∧ t.get F.FLT_STAT_DEGRADED = 0) ∧
         t.mgt.pend.length = s.mgt.pend.length + 1 ∧ t.get F.ALM_CLOG_SEQ = (s.get F.ALM_CLOG_SEQ + 1) % 2 ^ 32 ∧
         KeepsBut [(0x2200000, 0x2202000)] logKeys s t ∧ t = { s with regs := t.regs, mgt := t.mgt, out := [] }) ∧
     (∀ (s : State) (src : Iface) (v : Nat), s.barUp = true → s.logFull = true →
       Gives (.clearAll src v) s fun t =>
         CountsBy F.ALM_HELD_DROP 1 0 0 s t ∧ Keeps [F.ALM_HELD_DROP.key 0 0] s t ∧ t = { s with regs := t.regs, out := [] })) ∧
  ((∀ (s : State) (src : Iface) (v d : Nat), s.barUp = true → s.logFull = false → v < 2 ^ 32 → bit v 16 = true → bit v 17 = false → bit v 18 = false →
       v % 256 ≠ 0xA5 → v / 256 % 256 = d → s.get F.FLT_DOM0_STATE d ≠ 3 →
       Gives (.reinstate src v) s fun t =>
         KeepsBut [(0x2200004, 0x2200005)] logKeys s t ∧ t = { s with regs := t.regs, mgt := t.mgt, out := [] }) ∧
     (∀ (s : State) (src : Iface) (v d : Nat), s.barUp = true → s.logFull = false → v < 2 ^ 32 → bit v 16 = true → bit v 17 = false → bit v 18 = false →
       v % 256 ≠ 0xA5 → v / 256 % 256 = d → d ∈ [128, 129, 130] → s.get F.FLT_DOM0_STATE d = 3 →
       Gives (.reinstate src v) s fun t =>
         t.get F.FLT_DOM0_STATE d = 0 ∧ t.get F.FLT_DOM0_WINDOW d = 0 ∧ (∀ p ∈ t.flt.window, p.1 ≠ d) ∧
         (d = 130 → t.get F.MGT_STAT_CROUPIER = 0 ∧
           KeepsBut [(0x2200004, 0x2200005)] (logKeys ++ [F.FLT_DOM0_STATE.key d 0, F.FLT_DOM0_WINDOW.key d 0, F.MGT_STAT_CROUPIER.key 0 0]) s t) ∧
         (d ≠ 130 → t.tally.noDummy = false ∧
           (bit (s.get F.FLT_RETIRED_FE) (d - 128) = true → bit (t.get F.FLT_RETIRED_FE) (d - 128) = false) ∧
           KeepsBut [(0x2200004, 0x2200005)] (logKeys ++ [F.FLT_DOM0_STATE.key d 0, F.FLT_DOM0_WINDOW.key d 0, F.FLT_RETIRED_FE.key 0 0]) s t) ∧
         t = { s with regs := t.regs, mgt := t.mgt, flt := t.flt, tally := t.tally, out := [] }) ∧
     (∀ (s : State) (src : Iface) (v d k : Nat), s.alive = true → s.mild → s.barUp = true → s.logFull = false → v < 2 ^ 32 → bit v 16 = true → bit v 17 = false → bit v 18 = false →
       v % 256 ≠ 0xA5 → v / 256 % 256 = d → domSite d = some k → s.get F.FLT_DOM0_STATE d = 3 →
       Gives (.reinstate src v) s fun t =>
         t.get F.FLT_DOM0_STATE (24 + k) = 0 ∧ t.get F.FLT_DOM0_STATE (84 + k) = 0 ∧
         (∀ e ∈ siteDoms k, s.get F.FLT_DOM0_STATE e = 3 → t.get F.FLT_DOM0_WINDOW e = 0) ∧ (∀ p ∈ t.flt.window, domSite p.1 ≠ some k) ∧ t.retired k = false ∧
         (∀ e, dieDom k = some e →
           t.get F.FLT_DOM0_STATE e ∈ [0, 2] ∧ (s.ringsLit = false → t.get F.FLT_DOM0_STATE e = if s.siteLocked k then 0 else 2) ∧
           (t.get F.FLT_DOM0_STATE e = 0 → t.get F.SKY_DLV_DIE_DIE_DOWN k = 0)) ∧
         t.get F.SKY_STN_STATUS_GEN k = s.get F.FLT_DOM0_GEN (84 + k) ∧ t.get F.SKY_DLV_EJECT_CLOSED k = 1 ∧
         ⟨true, k, k, s.get F.FLT_DOM0_GEN (84 + k), s.now, []⟩ ∈ t.sky.restarts ∧
         (s.ringsLit = false → t.get F.SKY_STN_STATUS_STATE k = 0) ∧ (s.ringsLit = true → t.get F.SKY_STN_STATUS_STATE k ∈ [1, 2, 3, 4]) ∧
         (∀ u, k < 24 → u < 4 → s.get F.OMU_STAT_STATE k u = 6 → t.get F.OMU_STAT_STATE k u = 0) ∧
         (24 ≤ k → k < 36 → t.mems.tables = s.mems.tables.map fun x => { x with shards := x.shards.map fun sh => sh.regain (k - 24) }) ∧
         (∀ p, 36 ≤ k → p / 8 = k - 36 → s.portNamed p = true → t.get F.CMT_PORT_STATE p = 1) ∧
         (s.cmp.passes = [] → t.mem = s.mem ∧ t.poison = s.poison)))

/-- R493, R450: a command of the Almanac's list, written to ALM_CMD while none runs, starts, or is held where the Almanac cannot be written; the entry in the
change log apart, nothing else changes. While one runs or is held it is ignored and counted in ALM_CMDIGN.
That codes 0 and 10 to 15 are no command is the model's reading (log entry 57). -/
def Obligations.AlmanacCommandsStart : Prop :=
  ∀ (s : State) (src : Iface) (n : Nat) (c : Instr),
    (n, c) ∈ [(1, .read src), (2, .program src), (3, .verifyFw src), (4, .activateFw src), (5, .guardUpdate src), (6, .saveLife src), (7, .clearLog src),
      (8, .clearDump src), (9, .eraseImage src)] →
    s.barUp = true → s.logFull = false →
    (s.get F.ALM_STAT_STATE = 0 →
      Gives c s fun t =>
        t.get F.ALM_STAT_STATE = (if s.isSet F.THM_STAT_ALM_OK then 1 else 2) ∧ t.mgt.cmd = some (n, decide (src = .croupier)) ∧
        t.mgt.pend.length = s.mgt.pend.length + 1 ∧ KeepsBut [(0x2400004, 0x2400005)] (logKeys ++ [F.ALM_STAT_STATE.key 0 0]) s t ∧
        t = { s with regs := t.regs, mgt := { s.mgt with pend := t.mgt.pend, cmd := t.mgt.cmd }, out := [] }) ∧
    (s.get F.ALM_STAT_STATE ≠ 0 →
      Gives c s fun t =>
        CountsBy F.ALM_CMDIGN 1 0 0 s t ∧ KeepsBut [(0x2400004, 0x2400005)] (logKeys ++ [F.ALM_CMDIGN.key 0 0]) s t ∧
        t = { s with regs := t.regs, mgt := { s.mgt with pend := t.mgt.pend }, out := [] })

/-- R493: what ends a command of the Almanac, and its LAST. READ shows the bytes in ALM_READ; PROGRAM writes the bytes staged and takes the image's validity away;
VERIFY_FW gives it; ACTIVATE_FW chooses a valid image; the erasing commands leave all ones in their region and nothing else; each protected command answers
WRITE_PROTECTED (2) while GRD_WP forbids it, and an operand outside its region is answered BAD_RANGE (1). Outside the window (R450) the command waits.
The model's choices in it: that every effect comes with the command's end (log entry 57), a PROGRAM outside the inactive image (58), the order of a guard record's checks (59), the places inside the Almanac's regions (62), what a cut-off command leaves (214), and the directory, read free (215). -/
def Obligations.AlmanacCommandsEnd : Prop :=
  ∀ (s : State) (verdict n : Nat) (cr : Bool), s.on = true → s.mgt.cmd = some (n, cr) →
    (s.almUp = false →
      Gives (.almCmdDone verdict) s fun t =>
        t.get F.ALM_STAT_STATE = (if s.isSet F.THM_STAT_ALM_OK then 1 else 2) ∧ Keeps [F.ALM_STAT_STATE.key 0 0] s t ∧ t = { s with regs := t.regs, out := [] }) ∧
    (s.almUp = true → ∃ last, Gives (.almCmdDone verdict) s fun t =>
      t.get F.ALM_STAT_STATE = 0 ∧ t.get F.ALM_STAT_LAST = last ∧ t.mgt.cmd = none ∧ t = { s with regs := t.regs, mgt := t.mgt, out := [] } ∧
      KeepsBut [almBlock] [F.GRD_STAT_BLOCKED.key 0 0] s t ∧ (n ≠ 6 → t.mgt = { s.mgt with alm := t.mgt.alm, erased := t.mgt.erased, cmd := none }) ∧
      (n = 1 →
        let a := s.get F.ALM_ADDR
        let len := s.get F.ALM_LEN
        let ok := len ≤ 4096 ∧ a + len ≤ 2 ^ 28
        (ok → last = 0 ∧ ∀ k, k < len → t.get F.ALM_READ (k / 4) / 2 ^ (8 * (k % 4)) % 256 = (s.almShown (a + k)).toNat) ∧ (¬ok → last = 1) ∧
        (∀ k, t.almByte k = s.almByte k) ∧ KeepsBut [(0x2401000, 0x2402000)] [F.ALM_STAT_STATE.key 0 0, F.ALM_STAT_LAST.key 0 0] s t) ∧
      (n = 2 →
        let a := s.get F.ALM_ADDR
        let len := s.get F.ALM_LEN
        let b := imageBase s.idle
        let ok := len ≤ 65536 ∧ b ≤ a ∧ a + len ≤ b + 0x3000000
        CountsBy F.GRD_STAT_BLOCKED (if cr = true ∧ ¬ok then 1 else 0) 0 0 s t ∧
        (s.isSet F.GRD_WP_FW_UPDATE = false → last = 2 ∧ ∀ k, t.almByte k = s.almByte k) ∧
        (s.isSet F.GRD_WP_FW_UPDATE = true → ¬ok → last = 1 ∧ ∀ k, t.almByte k = s.almByte k) ∧
        (s.isSet F.GRD_WP_FW_UPDATE = true → ok →
          last = 0 ∧ t.imageOk s.idle = false ∧ (∀ k, k < len → t.almByte (a + k) = (s.staged len).getD k 0) ∧
          ∀ k, k < a ∨ a + len ≤ k → t.almByte k = s.almByte k)) ∧
      (n = 3 → (verdict ∈ [3, 5, 6] → last = verdict ∧ t.imageOk s.idle = s.imageOk s.idle) ∧ (verdict = 0 → last = 0 ∧ t.imageOk s.idle = true) ∧
        ∀ k, t.almByte k = s.almByte k) ∧
      (n = 4 → (s.imageOk s.idle = true → last = 0 ∧ t.get F.ALM_STAT_NEXT = s.idle % 2) ∧
        (s.imageOk s.idle = false → last = 1 ∧ t.get F.ALM_STAT_NEXT = s.get F.ALM_STAT_NEXT) ∧ ∀ k, t.almByte k = s.almByte k) ∧
      (n = 5 → last = s.guardCheck (s.staged 16756) ∧ (last ≠ 0 → ∀ k, t.almByte k = s.almByte k) ∧
        (last = 0 → ∀ k, k < 16756 → t.almByte (guardAt s.guardOlder + k) = (s.staged 16756).getD k 0)) ∧
      (n = 6 → last = 0 ∧ t.mgt.lifeSeq = s.mgt.lifeSeq + 1 ∧ t.get F.ALM_LIFE_SEQ = (s.mgt.lifeSeq + 1) % 2 ^ 32) ∧
      (∀ e ∈ [(7, F.GRD_WP_LOG_CLEAR, 0x08800000, 0x0800000), (8, F.GRD_WP_DUMP_CLEAR, 0x09100000, 0x100000),
          (9, F.GRD_WP_FW_UPDATE, imageBase s.idle, 0x3000000)], n = e.1 →
        (s.isSet e.2.1 = false → last = 2 ∧ ∀ k, t.almByte k = s.almByte k) ∧
        (s.isSet e.2.1 = true → last = 0 ∧ (∀ k, e.2.2.1 ≤ k → k < e.2.2.1 + e.2.2.2 → t.almByte k = 0xFF) ∧
          ∀ k, k < e.2.2.1 ∨ e.2.2.1 + e.2.2.2 ≤ k → t.almByte k = s.almByte k)))

/-- R450, R488: while the Almanac can be written, what is pending is written in order and nothing stays held, each entry at the place of the ring its SEQ gives it;
outside the window nothing is written. Only bytes of the change log's region change.

R492, R499: every 10 minutes a lifetime record goes to the next slot of its region, with its magic, its version and the next SEQ; where the Almanac cannot be written
(R450) nothing is written and the record is tried again a minute later. Change log, images, guard records and trims are not touched.
The model's choices in it: the slots inside the Almanac's regions and what an erased byte reads as (log entry 62), when CLOG_SEQ and WRAPS move (64), and which calibration record stands (154). -/
def Obligations.AlmanacRecords : Prop :=
  ((∀ s : State, s.on = true → s.almUp = false → Gives .changeLogFlush s fun t => t = s.fresh) ∧
     (∀ s : State, s.on = true → s.almUp = true →
       Gives .changeLogFlush s fun t =>
         t.mgt.pend = [] ∧ t.get F.THM_STAT_ALM_HELD = 0 ∧
         ((∀ e ∈ s.mgt.pend, e.length = 32) → ∀ a, a < 0x08800000 ∨ 0x09000000 ≤ a → t.almByte a = s.almByte a) ∧
         (∀ e : List Byte, s.mgt.pend = [e] → e.length = 32 → ∀ k, k < 32 → t.almByte (0x08800000 + (leAt e 8 4 - 1) % 262144 * 32 + k) = e.getD k 0) ∧
         KeepsBut [] (F.ALM_CLOG_WRAPS.key 0 0 :: [F.THM_STAT_ALM_HELD.key 0 0]) s t ∧
         t = { s with regs := t.regs, mgt := { s.mgt with alm := t.mgt.alm, erased := t.mgt.erased, pend := [] }, out := [] })) ∧
  (∀ s : State, s.alive = true →
       (s.almUp = true →
         Gives .lifetimeRecord s fun t =>
           t.now = max s.now (s.mgt.lifeAt + 600000000000) ∧ t.mgt.lifeSeq = s.mgt.lifeSeq + 1 ∧ t.mgt.lifeAt = t.now ∧ t.mgt.life = s.mgt.life ∧
           (let a := 0x0A000000 + s.mgt.lifeSeq % 2048 * 0x8000
            t.get F.ALM_LIFE_PTR = a % 2 ^ 28 ∧ t.get F.ALM_LIFE_SEQ = (s.mgt.lifeSeq + 1) % 2 ^ 32 ∧
            t.almBytes a 4 = natLe 4 0x524C5A48 ∧ t.almBytes (a + 4) 2 = natLe 2 1 ∧ t.almBytes (a + 8) 8 = natLe 8 (s.mgt.lifeSeq + 1) ∧
            t.almBytes (a + 64) s.lifeBody.length = s.lifeBody) ∧
           (∀ k, k < 0x08000000 ∨ (0x08800000 ≤ k ∧ k < 0x0A000000) ∨ 0x0E000000 ≤ k → t.almByte k = s.almByte k) ∧
           KeepsBut [] [F.ALM_LIFE_PTR.key 0 0, F.ALM_LIFE_SEQ.key 0 0] s t ∧ t = { s with now := t.now, regs := t.regs, mgt := t.mgt, out := [] }) ∧
       (s.almUp = false →
         Gives .lifetimeRecord s fun t =>
           t = { s with now := t.now, mgt := { s.mgt with lifeAt := t.mgt.lifeAt }, out := [] } ∧ t.now = max s.now (s.mgt.lifeAt + 600000000000) ∧
           t.mgt.lifeAt + 600000000000 = t.now + 60000000000))

/-- R495, R497, R498: the identity requests over MCTP while the Croupier runs and the part's key matches. GET_IDENTITY answers the bytes asked for; QUOTE_START holds the nonce's
quote until it is signed, BUSY (1) while one is being signed; QUOTE_READ is NOT_READY (2) until then, and answers the quote's bytes after; a request
outside the blob is BAD_REQUEST (3). Until boot step 2 has ended the endpoint is silent (R508). With the Croupier down (R481) every one of them is NOT_READY, after an identity mismatch (R496) NO_IDENTITY (4).

The MCTP control messages R497 names, with the formats of the MCTP base specification (the model's reading, log entry 60): an endpoint id assigned is the id answered
afterwards, per interface; the other messages change nothing.

R497: REG_READ and REG_WRITE do what the same access over BAR0 does, and answer; a width other than 4 or 8, an offset not aligned to it or outside BAR0, is BAD_REQUEST (3)
and touches nothing; a write of the outbound window table (R378) is answered REFUSED (5).
The model's choices in it: the order in which an identity request is checked and the limit of QUOTE_READ (log entry 61), and the identity statement's layout, which is free (215). -/
def Obligations.ManagementRequests : Prop :=
  (∀ (s : State) (src : Iface), s.barUp = true → Iface.mctp src = true →
       (s.get F.MGT_STAT_CROUPIER = 0 → s.get F.MGT_IDSTATE_STATE = 1 →
         (∀ off len, len ≤ 1024 → off + len ≤ 16352 →
           Gives (.getIdentity src off len) s fun t => t = { s with out := [.mctp src 0 (s.almBytes (Config.identAt + off) len)] }) ∧
         (∀ off len, 1024 < len ∨ 16352 < off + len → Gives (.getIdentity src off len) s fun t => t = { s with out := [.mctp src 3 []] }) ∧
         (∀ nonce, nonce.length = 32 → (∀ q, s.mgt.quote = some q → q.sig.isSome = true) →
           Gives (.quoteStart src nonce) s fun t =>
             t.out = [.mctp src 0 []] ∧ t = { s with mgt := { s.mgt with quote := t.mgt.quote }, out := t.out } ∧
             ∃ q, t.mgt.quote = some q ∧ q.sig = none ∧ slice q.body 0 4 = natLe 4 0x31515A48 ∧ slice q.body 16 32 = nonce) ∧
         (∀ nonce q, nonce.length = 32 → s.mgt.quote = some q → q.sig = none →
           Gives (.quoteStart src nonce) s fun t => t = { s with out := [.mctp src 1 []] }) ∧
         (∀ off len q g, s.mgt.quote = some q → q.sig = some g → len ≤ 1024 → off + len ≤ (q.body ++ g).length →
           Gives (.quoteRead src off len) s fun t => t = { s with out := [.mctp src 0 (slice (q.body ++ g) off len)] }) ∧
         (∀ off len, (∀ q, s.mgt.quote = some q → q.sig = none) → Gives (.quoteRead src off len) s fun t => t = { s with out := [.mctp src 2 []] })) ∧
       (s.get F.MGT_STAT_CROUPIER ≠ 0 ∨ s.get F.MGT_IDSTATE_STATE = 0 → ∀ off len nonce, ∀ c ∈ [Instr.getIdentity src off len, .quoteStart src nonce, .quoteRead src off len],
         Gives c s fun t => t = { s with out := [.mctp src 2 []] }) ∧
       (s.get F.MGT_STAT_CROUPIER = 0 → s.get F.MGT_IDSTATE_STATE = 2 → ∀ off len nonce, ∀ c ∈ [Instr.getIdentity src off len, .quoteStart src nonce, .quoteRead src off len],
         Gives c s fun t => t = { s with out := [.mctp src 4 []] }) ∧
       (∀ q sig, s.mgt.quote = some q → q.sig = none → sig.length = 17088 →
         Gives (.quoteSigned sig) s fun t => t = { s with mgt := { s.mgt with quote := some { q with sig := some sig } }, out := [] })) ∧
  (∀ (s : State) (src : Iface), s.barUp = true → Iface.mctp src = true →
       (∀ op eid, op ≤ 1 → 0 < eid → eid < 255 →
         Gives (.setEndpointId src op eid) s fun t =>
           t.eid src = eid ∧ (∀ i, Iface.code i ≠ Iface.code src → t.eid i = s.eid i) ∧ (∃ b, t.out = [.mctp src 0 b]) ∧
           t = { s with mgt := { s.mgt with eids := t.mgt.eids }, out := t.out }) ∧
       (∀ op eid, 1 < op ∨ eid = 0 ∨ 255 ≤ eid → Gives (.setEndpointId src op eid) s fun t => t = { s with out := [.mctp src 2 []] }) ∧
       (Gives (.getEndpointId src) s fun t => t = { s with out := [.mctp src 0 (natLe 1 (s.eid src) ++ natLe 2 0)] }) ∧
       (∀ type, type ∈ [0xFF, 0, 0x7E] →
         Gives (.getMctpVersionSupport src type) s fun t =>
           t = { s with out := [.mctp src 0 (natLe 1 (Config.mctpVersion type).length ++ (Config.mctpVersion type).flatMap (natBe 4))] }) ∧
       (∀ type, type ∉ [0xFF, 0, 0x7E] → Gives (.getMctpVersionSupport src type) s fun t => t = { s with out := [.mctp src 0x80 []] }) ∧
       (Gives (.getMessageTypeSupport src) s fun t => t = { s with out := [.mctp src 0 (natLe 1 1 ++ natLe 1 0x7E)] })) ∧
  (∀ (s : State) (src : Iface) (a b : Nat) (nonce : List Byte), s.on = true → s.barUp = false →
    ∀ c ∈ [Instr.getIdentity src a b, .quoteStart src nonce, .quoteRead src a b, .setEndpointId src a b, .getEndpointId src, .getMctpVersionSupport src a,
      .getMessageTypeSupport src], Gives c s fun t => t = s.fresh) ∧
  (∀ (s : State) (src : Iface), s.barUp = true → Iface.mctp src = true →
       (∀ off i j (r : Reg), regAt off = some (r, i, j) → r.wide = false → s.stopped r i = false → off % 4 = 0 → off < 0x4000000 →
         Gives (.regRead src ⟨off, 0⟩ 4) s fun t => t = { s with out := [.mctp src 0 (natLe 4 (s.regValue r i j))] }) ∧
       (∀ off i j (r : Reg), regAt off = some (r, i, j) → r.wide = true → r.base ≠ 0x10000 → s.stopped r i = false → off % 8 = 0 → off < 0x4000000 →
         spotAt (off + 4) = some (r, i, j, true) →
         Gives (.regRead src ⟨off, 0⟩ 8) s fun t => t = { s with out := [.mctp src 0 (natLe 8 (s.regValue r i j))] }) ∧
       (∀ off width v, width = 4 ∨ width = 8 → off % width = 0 → off < 0x4000000 →
         ∃ u, exec (.registerWrite src off (decide (width = 8)) v) s = .next u ∧
           Gives (.regWrite src off width v) s fun t => t = u.emit (.mctp src (if 0x1E01000 ≤ off ∧ off < 0x1E03000 then 5 else 0) [])) ∧
       (∀ off width v, (width ≠ 4 ∧ width ≠ 8) ∨ off % width ≠ 0 ∨ 0x4000000 ≤ off →
         (Gives (.regRead src ⟨off, 0⟩ width) s fun t => t = { s with out := [.mctp src 3 []] }) ∧
         (Gives (.regWrite src off width v) s fun t => t = { s with out := [.mctp src 3 []] })))

/-- R334, R335: a read of EVF_DATA, or of its low half, pops the oldest word; one whose parity fails is delivered as read, marked with POISON, and counted; on an empty
FIFO it pops nothing, sets UNDERRUN and returns the last word again. (Where no flush and no OVERFLOW record waits.)

R336: FLUSH at a record's boundary empties the FIFO and counts its records; behind a record half read it waits, shown in FLUSHING, until its second word is
read. -/
def Obligations.EventFifo : Prop :=
  (∀ (s : State) (src : Iface), s.barUp = true → s.evf.lost = 0 → s.get F.EVF_STAT_FLUSHING = 0 →
       (∀ w ws, s.evf.words = w :: ws →
         (Gives (.evfDataRead src 0) s fun t =>
           t.out = [.value src 0x10000 w] ∧ t = { s with evf := { s.evf with words := ws, last := w }, out := t.out }) ∧
         (∀ flip, evfFails flip = false →
           let v := w ^^^ evfFlips flip
           (Gives (.evfDataRead src flip) s fun t => t.out = [.value src 0x10000 v] ∧ t = { s with evf := { s.evf with words := ws, last := v }, out := t.out }) ∧
           (Gives (.readLowHalf src ⟨0x10000, flip⟩) s fun t =>
             t.out = [.value src 0x10000 (v % 2 ^ 32)] ∧ t = { s with evf := { s.evf with words := ws, last := v }, halves := t.halves, out := t.out })) ∧
         (∀ flip, evfFails flip = true →
           let v := (w ^^^ evfFlips flip) ||| 2 ^ 62
           (Gives (.evfDataRead src flip) s fun t =>
             t.out = [.value src 0x10000 v] ∧ CountsBy F.EVF_STAT_PARITY 1 0 0 s t ∧ Keeps [F.EVF_STAT_PARITY.key 0 0] s t ∧
             t = { s with regs := t.regs, evf := { s.evf with words := ws, last := v }, out := t.out }) ∧
           (Gives (.readLowHalf src ⟨0x10000, flip⟩) s fun t =>
             t.out = [.value src 0x10000 (v % 2 ^ 32)] ∧ CountsBy F.EVF_STAT_PARITY 1 0 0 s t ∧ Keeps [F.EVF_STAT_PARITY.key 0 0] s t ∧
             t = { s with regs := t.regs, evf := { s.evf with words := ws, last := v }, halves := t.halves, out := t.out }))) ∧
       (s.evf.words = [] →
         Gives (.evfDataRead src 0) s fun t =>
           t.out = [.value src 0x10000 s.evf.last] ∧ t.get F.EVF_STAT_UNDERRUN = 1 ∧ Keeps [F.EVF_STAT_UNDERRUN.key 0 0] s t ∧
           t = { s with regs := t.regs, out := t.out })) ∧
  (∀ (s : State) (src : Iface) (v : Nat), s.barUp = true → s.evf.lost = 0 → s.get F.EVF_STAT_FLUSHING = 0 → bit v 0 = true → v < 2 ^ 32 →
       ((∀ w ws, s.evf.words = w :: ws → firstWord w = true) →
         Gives (.flush src v) s fun t =>
           t.evf.words = [] ∧ CountsBy F.EVF_FLUSHED (s.evf.words.filter firstWord).length 0 0 s t ∧ t.get F.EVF_STAT_FLUSHING = 0 ∧ t.get F.EVF_CTRL_FLUSH = 0 ∧
           KeepsBut [] [F.EVF_FLUSHED.key 0 0, F.EVF_CTRL_FLUSH.key 0 0, F.EVF_CTRL_IRQ_EN.key 0 0, F.EVF_STAT_FLUSHING.key 0 0] s t ∧
           t = { s with regs := t.regs, evf := { s.evf with words := [] }, out := [] }) ∧
       (∀ w ws, s.evf.words = w :: ws → firstWord w = false →
         (Gives (.flush src v) s fun t =>
           t.get F.EVF_STAT_FLUSHING = 1 ∧ KeepsBut [] [F.EVF_CTRL_FLUSH.key 0 0, F.EVF_CTRL_IRQ_EN.key 0 0, F.EVF_STAT_FLUSHING.key 0 0] s t ∧
           t = { s with regs := t.regs, out := [] } ∧
           ∀ u : State, u.barUp = true → u.evf = t.evf → u.get F.EVF_STAT_FLUSHING = 1 → (ws = [] ∨ ∃ x xs, ws = x :: xs ∧ firstWord x = true) →
             Gives (.evfDataRead src 0) u fun z => z.evf.words = [] ∧ z.get F.EVF_STAT_FLUSHING = 0 ∧ z.out = [.value src 0x10000 w])))

/-- R333: the event FIFO takes a record whole, its two words behind the others, or drops it and counts it in EVF_DROP. Once a read has made room for two words, one OVERFLOW record (type 7) stands behind what was there, with the
number dropped since the last one. -/
def Obligations.EventRecords : Prop :=
  (∀ (s : State) (type site content : Nat), s.evf.words.length + 2 ≤ 4096 →
    ∃ w0, (s.record type site content).evf = { s.evf with words := s.evf.words ++ [w0, content % 2 ^ 62], pend := (s.record type site content).evf.pend } ∧ w0 % 256 = type % 256 ∧ bit w0 63 = true ∧ (s.record type site content).regs = s.regs) ∧
  (∀ (s : State) (type site content : Nat), 4096 < s.evf.words.length + 2 →
    (s.record type site content).evf = { s.evf with lost := s.evf.lost + 1 } ∧ CountsBy F.EVF_DROP 1 0 0 s (s.record type site content) ∧ Keeps [F.EVF_DROP.key 0 0] s (s.record type site content)) ∧
  (∀ (s : State) (src : Iface) (w : Nat) (ws : List Nat), s.barUp = true → s.evf.words = w :: ws → 0 < s.evf.lost → s.get F.EVF_STAT_FLUSHING = 0 →
    (ws.length + 2 ≤ 4096 →
      Gives (.evfDataRead src 0) s fun t =>
        ∃ w0, t.evf.words = ws ++ [w0, min s.evf.lost 0xFFFFFFFF] ∧ w0 % 256 = 7 ∧ bit w0 63 = true ∧ t.evf.lost = 0 ∧ .value src 0x10000 w ∈ t.out ∧ t = { s with evf := t.evf, out := t.out, free := t.free }) ∧
    (4096 < ws.length + 2 → Gives (.evfDataRead src 0) s fun t => t.evf.words = ws ∧ t.evf.lost = s.evf.lost ∧ t.regs = s.regs))

/-! ## Power, resets, boot, domains -/

/-- R452, R458, R464, R508: PG_IN rising with every rail good powers the part: the straps, the interlock loop and the severities are as the board and the part's layout give them,
absent sites' domains are ABSENT, and the boot begins where PERST_N is released; with a rail out of tolerance the part stays in reset. Memory keeps what it read.

R452 step 4, R454, R477, R521: when PG_IN falls or a main rail is lost every laser is released and the part stops; nothing is left of memory, of the Sky, of the event FIFO
and of the registers but what the Almanac holds, with a PROGRAM cut off an image that is not valid, with a SAVE_LIFE cut off a record that is only begun.
The model's choices in it: that unwritten memory reads 0 (log entry 1), that held change-log entries are lost with the power (45), when BOOT_MODE is sampled (36), and what a cut-off Almanac command leaves (58, 214). -/
def Obligations.PowerOnAndLoss : Prop :=
  ((∀ (s : State) (intlk : Bool) (loads : PowerReport), s.pins.pgIn = false →
       Gives (.coldPowerOn true intlk loads) s fun t =>
         t.on = true ∧ t.pins.pgIn = true ∧ t.boot.cold = true ∧ t.get F.MGT_SITE_PRESENT_HUB = 3 ∧ t.get F.TWK_STAT_INTLK = b2n intlk ∧
         t.get F.CLK_STAT_TREF_OK = 1 ∧
         (∀ src, src < 248 → t.get F.FLT_SRC_SEV src = sevDefault src ∧ t.get F.FLT_SRC_FIXED src = b2n (decide (src ∈ [224, 238, 239, 240]))) ∧
         (∀ k, k < 44 → t.present k = false → ∀ d ∈ siteDoms k, t.get F.FLT_DOM0_STATE d = 4) ∧
         (s.pins.perst = true → t.get F.FLT_BOOT_STEP = s.get F.FLT_BOOT_STEP) ∧
         (s.pins.perst = false → s.boot.almOk = true → s.get F.FLT_BOOT_STEP = 0 → s.get F.FLT_STAT_STATE = 0 →
           t.get F.FLT_BOOT_STEP = 1 ∧ t.get F.FLT_BOOT_WARM = 0 ∧ t.get F.FLT_STAT_BOOT_MODE = s.pins.bootStrap % 4) ∧
         t.mem = s.mem ∧ t.poison = s.poison ∧ t.now = 0 ∧ t.mgt.puf = slice loads.puf 0 8192 ∧ t.pending = s.pending) ∧
     (∀ (s : State) (intlk : Bool) (loads : PowerReport), s.pins.pgIn = false →
       Gives (.coldPowerOn false intlk loads) s fun t =>
         t.on = false ∧ t = { s with power := .held, pins := { s.pins with pgIn := true }, out := [] }) ∧
     (∀ (s : State) (ok intlk : Bool) (loads : PowerReport), s.pins.pgIn = true →
       Gives (.coldPowerOn ok intlk loads) s fun t => t = s.fresh)) ∧
  (∀ (s : State) (c : Instr) (p : Power), s.on = true → (c = .pgInDeassert ∧ p = .waiting) ∨ (∃ rail, rail < 14 ∧ c = .railLoss rail ∧ p = .stopped) →
       Gives c s fun t =>
         t.power = p ∧ t.on = false ∧ t.now = 0 ∧ t.pending = s.pending ∧ (∀ a, t.rd a = 0 ∧ t.poisoned a = false) ∧ t.evf = {} ∧ t.sky = {} ∧ t.pins.thermtrip = false ∧
         (∀ n, n < 8 → t.get F.TWK_ELS_EN n = 0) ∧
         (∀ (f : Fld) (i j : Nat), (∀ g, fldAt (f.key i j) = some g → g ∉ almFlds ∧ g ≠ F.OMU_CAL_COUNT_PILOTS ∧ g ≠ F.OMU_CAL_COUNT_FULL) → t.get f i j = f.rst) ∧
         t.mgt.pend = [] ∧ t.mgt.puf = [] ∧ t.mgt.lifeSeq = s.mgt.lifeSeq ∧
         (s.mgt.cmd = none ∨ s.get F.ALM_STAT_STATE ≠ 1 → t.mgt.alm = s.mgt.alm ∧ t.mgt.erased = s.mgt.erased) ∧
         (s.get F.ALM_STAT_STATE = 1 → ∀ cr, s.mgt.cmd = some (2, cr) → s.boot.frozen = none → s.isSet F.GRD_WP_FW_UPDATE = true → s.get F.ALM_LEN ≤ 65536 →
           imageBase s.idle ≤ s.get F.ALM_ADDR → s.get F.ALM_ADDR + s.get F.ALM_LEN ≤ imageBase s.idle + 0x3000000 →
           t.imageOk s.idle = false ∧ t.mgt.alm = s.mgt.alm ∧ t.mgt.erased = s.mgt.erased) ∧
         (s.get F.ALM_STAT_STATE = 1 → ∀ cr, s.mgt.cmd = some (6, cr) →
           (let a := 0x0A000000 + s.mgt.lifeSeq % 2048 * 0x8000
            t.almBytes a 4 = natLe 4 0x524C5A48 ∧ t.almBytes (a + 8) 8 = natLe 8 (s.mgt.lifeSeq + 1)) ∧
           ∀ a, a < 0x0A000000 ∨ 0x0E000000 ≤ a → t.almByte a = s.almByte a))

/-- R458, R459, R477: PERST_N falling while the part runs is a warm device reset: memory, the time base and the registers that survive a device reset keep their values, every other register
but those of the parts cut off stands at its Reset column, the tags of every domain and station are 0 (R88, R468), the event FIFO and the Sky's spaces are empty; the boot waits for PERST_N. Releasing PERST_N samples BOOT_MODE and begins
the boot.

R458, R463, R479: RESET (0xA5 in FLT_CTRL) begins a warm boot at once, with memory kept; PATIENCE_RETRY leaves Patience mode for one, with the failure counter cleared first; it does
nothing of the kind outside Patience mode.
That the GEN of every domain goes to 0 and RESETS and LAST count a device reset for every domain is the model's reading (log entry 33). -/
def Obligations.DeviceResets : Prop :=
  ((∀ s : State, s.on = true → s.get F.FLT_STAT_STATE = 0 → s.pins.perst = false → s.flt.asked = none → s.boot.counted.length < 3 →
       Gives .perstNAssert s fun t =>
         t.on = true ∧ t.pins.perst = true ∧ t.get F.FLT_BOOT_STEP = 0 ∧ t.mem = s.mem ∧ t.poison = s.poison ∧ t.now = s.now ∧ t.evf = {} ∧ t.halves = {} ∧
         (∀ a b, t.space a b = {}) ∧ t.boot.cold = false ∧ t.pending = s.pending ∧
         (∀ (f : Fld) (i j : Nat), survives (f.key i j) = false →
           (∀ g, fldAt (f.key i j) = some g → g ∉ [F.CHT_SLOT_STATE, F.CHT_SLOT_ERR, F.CHT_SWITCH_LAST_ERR, F.TRN_STAT_PHASE, F.THM_STAT_ALM_OK,
             F.SKY_STN_STATUS_STATE]) → t.get f i j = f.rst) ∧
         (∀ k, k < 128 → t.get F.FLT_DOM0_GEN k = 0) ∧ (∀ k, k < 44 → t.get F.SKY_STN_STATUS_GEN k = 0) ∧
         (∀ (f : Fld) (i j : Nat), survives (f.key i j) = true →
           (∀ g, fldAt (f.key i j) = some g → g ∉ [F.FLT_DOM0_GEN, F.FLT_DOM0_STATE, F.FLT_DOM0_RESETS, F.FLT_DOM1_LAST, F.SKY_STN_STATUS_GEN]) →
           t.get f i j = s.get f i j)) ∧
     (∀ (s : State) (mode : Nat), s.on = true → s.fatal = false → s.pins.perst = true → s.get F.FLT_BOOT_STEP = 0 → s.get F.FLT_STAT_STATE = 0 →
       s.boot.almOk = true → s.boot.cold = true ∨ s.get F.FLT_BOOT_FAILS < 3 →
       Gives (.perstNRelease mode) s fun t =>
         t.get F.FLT_BOOT_STEP = 1 ∧ t.get F.FLT_BOOT_WARM = b2n (!s.boot.cold) ∧ t.get F.FLT_STAT_BOOT_MODE = mode % 4 ∧
         t.get F.FLT_BOOT_FAILS = min 15 (s.get F.FLT_BOOT_FAILS + 1) ∧ t.get F.FLT_BOOT_BOOTS = (s.mgt.boots + 1) % 2 ^ 16 ∧
         Keeps [F.FLT_BOOT_STEP.key 0 0, F.FLT_BOOT_WARM.key 0 0, F.FLT_STAT_BOOT_MODE.key 0 0, F.FLT_BOOT_FAILS.key 0 0, F.FLT_BOOT_BOOTS.key 0 0] s t ∧
         t.pins.perst = false ∧ t = { s with regs := t.regs, pins := t.pins, mgt := { s.mgt with boots := s.mgt.boots + 1 }, boot := { s.boot with start := s.now }, out := [] })) ∧
  ((∀ (s : State) (src : Iface) (v : Nat), s.on = true → s.barUp = true → s.logFull = false → s.get F.FLT_STAT_STATE = 0 → s.flt.asked = none → s.boot.counted.length < 3 →
       s.pins.perst = false → s.boot.almOk = true → s.get F.FLT_BOOT_FAILS < 3 → v = 0xA5 →
       Gives (.reset src v) s fun t =>
         t.get F.FLT_BOOT_STEP = 1 ∧ t.get F.FLT_BOOT_WARM = 1 ∧ t.get F.FLT_BOOT_FAILS = s.get F.FLT_BOOT_FAILS + 1 ∧ t.mem = s.mem ∧ t.poison = s.poison ∧
         t.evf = {} ∧ t.now = s.now ∧ (∀ a b, t.space a b = {}) ∧
         (∀ k, k < 128 → t.get F.FLT_DOM0_GEN k = 0) ∧ ∀ k, k < 44 → t.get F.SKY_STN_STATUS_GEN k = 0) ∧
     (∀ (s : State) (src : Iface) (v : Nat), s.on = true → s.logFull = false → s.patience = true → v = 0x20000 → s.pins.perst = false → s.boot.almOk = true →
       Gives (.patienceRetry src v) s fun t =>
         t.get F.FLT_STAT_STATE = 0 ∧ t.get F.FLT_BOOT_STEP = 1 ∧ t.get F.FLT_BOOT_FAILS = 1 ∧ t.get F.FLT_BOOT_WARM = 1 ∧ t.mem = s.mem ∧ t.boot.counted = []) ∧
     (∀ (s : State) (src : Iface) (v : Nat), s.barUp = true → s.logFull = false → s.patience = false → v = 0x20000 →
       Gives (.patienceRetry src v) s fun t =>
         KeepsBut [(0x2200004, 0x2200005)] logKeys s t ∧ t = { s with regs := t.regs, mgt := t.mgt, out := [] }))

/-- R459, R475, R476, R479: the part's own request for a reset stops fetching, dealing and ticks and waits for the crash dump, which is written first; the dump's end shows it in FLT_DUMP and
lets the reset follow, which then counts. A dump that ends no reset changes FLT_DUMP and the Almanac alone; while a dump is held its registers keep. Dumps are written one after the other, the
oldest first, and a reset waits for the last one. While the Croupier is down nothing is written, and the reset goes on without after 2 s (R481). That a dump goes nowhere where M0 and M6
are both retired is the model's choice (log entry 212).
When a crash summary is written and what fills it where the spec states nothing are the model's choices (log entries 31, 32). -/
def Obligations.DumpsAndRequests : Prop :=
  (∀ (s : State) (src : Nat), s.on = true → s.get F.FLT_STAT_STATE = 0 → s.flt.asked = none →
    Gives (.deviceResetRequest src) s fun t =>
      t.boot.halt = true ∧ t.flt.dumps = s.flt.dumps ++ [{ src := src, kind := 3, transit := s.get F.TRN_NUM }] ∧ t.flt.asked = some s.now ∧
      t.get F.TRN_STAT_PHASE = 5 ∧ Keeps [F.TRN_STAT_PHASE.key 0 0] s t ∧
      t = { s with regs := t.regs, boot := { s.boot with halt := true }, flt := { s.flt with dumps := t.flt.dumps, asked := some s.now }, out := [] }) ∧
  (∀ (s : State) (d : Dump) (ds : List Dump), s.on = true → s.flt.dumps = d :: ds → s.get F.MGT_STAT_CROUPIER = 0 → s.flt.asked = none ∨ ds ≠ [] →
    Gives .crashDumpDone s fun t =>
      t.flt.dumps = ds ∧
      (d.kind ≠ 2 → s.get F.FLT_DUMP_VALID ≠ 1 → s.retired 24 = false ∨ s.retired 30 = false →
        t.get F.FLT_DUMP_VALID = 1 ∧ t.get F.FLT_DUMP_SRC = d.src % 512 ∧ t.get F.FLT_DUMP_KIND = d.kind % 8 ∧ t.get F.FLT_DUMP_TRANSIT = d.transit % 2 ^ 32 ∧
        t.flt.place = some (if s.retired 24 then 6 * stackSize + 0x0FF4000000 else 0x0FF4000000)) ∧
      (d.kind = 2 ∨ s.get F.FLT_DUMP_VALID = 1 → Keeps [] s t ∧ t.flt.place = s.flt.place) ∧
      Keeps [F.FLT_DUMP_VALID.key 0 0, F.FLT_DUMP_SRC.key 0 0, F.FLT_DUMP_KIND.key 0 0, F.FLT_DUMP_TRANSIT.key 0 0] s t ∧
      (∀ a, a < 0x09100000 ∨ 0x09200000 ≤ a → t.almByte a = s.almByte a) ∧
      t = { s with regs := t.regs, mgt := t.mgt, flt := { s.flt with dumps := ds, place := t.flt.place }, out := [] }) ∧
  (∀ (s : State) (d : Dump) (asked : Nat), s.on = true → s.flt.dumps = [d] → s.get F.MGT_STAT_CROUPIER = 0 → s.flt.asked = some asked → s.get F.FLT_STAT_STATE = 0 →
    s.get F.FLT_DUMP_VALID = 0 → d.kind ≠ 2 → s.retired 24 = false → s.boot.counted.length < 2 → s.pins.perst = false → s.boot.almOk = true → s.get F.FLT_BOOT_FAILS < 3 →
    Gives .crashDumpDone s fun t =>
      t.get F.FLT_DUMP_VALID = 1 ∧ t.get F.FLT_DUMP_SRC = d.src % 512 ∧ t.get F.FLT_BOOT_STEP = 1 ∧ t.get F.FLT_BOOT_WARM = 1 ∧ t.boot.halt = false ∧ s.now ∈ t.boot.counted ∧
      t.flt.dumps = [] ∧ t.flt.asked = none ∧ t.mem = s.mem ∧ t.poison = s.poison) ∧
  (∀ (s : State) (asked : Nat), s.on = true → s.flt.dumps ≠ [] → s.get F.MGT_STAT_CROUPIER ≠ 0 → s.flt.asked = some asked → asked + 2000000000 ≤ s.now →
    s.boot.counted.length < 2 → s.pins.perst = false → s.boot.almOk = true → s.get F.FLT_BOOT_FAILS < 3 →
    Gives .crashDumpDone s fun t =>
      t.get F.FLT_BOOT_STEP = 1 ∧ t.get F.FLT_BOOT_WARM = 1 ∧ t.boot.halt = false ∧ s.now ∈ t.boot.counted ∧ t.flt.dumps = [] ∧ t.get F.FLT_DUMP_VALID = s.get F.FLT_DUMP_VALID ∧
      t.mgt.alm = s.mgt.alm ∧ t.mem = s.mem ∧ t.poison = s.poison) ∧
  (∀ s : State, s.on = true → s.flt.dumps = [] ∨ (s.get F.MGT_STAT_CROUPIER ≠ 0 ∧ ∀ asked, s.flt.asked = some asked → s.now < asked + 2000000000) →
    Gives .crashDumpDone s fun t => t = s.fresh)

/-- R458, R460, R461: step 1 takes the image chosen for this start, the other one where the first does not verify. Step 2 loads the guard record that holds (a record that holds has a signature,
whose check is a free function) and the Croupier's image, and derives the identity. Step 3 brings up the rails that do not hold their voltages, and begins a cold start's prewarm with the
built-in map. Step 4 ends once the light is on, and starts the full pilot of every OMU that can run it; step 5 once none is left. Step 6 of a cold start leaves memory zero and free of poison,
of a warm one the cache dies' alone. Step 7 puts the chart in force, the built-in one at a cold start and where the slot's image is shorter than its header (the failure of a slot read back,
log entry 191), and opens the stations. Step 8 puts the
part in service with the failure counter cleared. A boot whose images both fail, or whose watchdog runs out, ends in Patience mode at the third failure (R463) with its reason and
every laser released.
The model's choices in it: a failed boot is repeated as a warm reset (log entry 35), the image step 1 takes (37), which copy of the guard record is taken and when 245 is raised (39), a failing Dummy hub (41), and what the boot source's raise does (211). -/
def Obligations.BootSteps : Prop :=
  (∀ (s : State) (r : BootReport) (pick : Nat), s.alive = true → s.stepRuns 1 = true → r.hubOk = true → s.get F.FLT_STAT_BOOT_MODE ≠ 3 →
    pick = (if s.get F.FLT_STAT_BOOT_MODE = 1 then 1 - s.get F.ALM_STAT_NEXT else s.get F.ALM_STAT_NEXT) → pick ≤ 1 → (if pick = 0 then r.imgA else r.imgB) = true →
    Gives (.bootStepDone 1 r) s fun t =>
      t.get F.FLT_BOOT_STEP = 2 ∧ t.get F.FLT_BOOT_IMAGE = pick ∧ t.get F.ALM_STAT_ACTIVE = pick ∧ 1 ∈ t.boot.done ∧
      Keeps [F.FLT_BOOT_STEP.key 0 0, F.FLT_BOOT_IMAGE.key 0 0, F.ALM_STAT_ACTIVE.key 0 0] s t ∧ t = { s with regs := t.regs, boot := { s.boot with done := t.boot.done }, out := [] }) ∧
  (∀ (s : State) (r : BootReport) (pick : Nat), s.alive = true → s.stepRuns 1 = true → r.hubOk = true → s.get F.FLT_STAT_BOOT_MODE ≠ 3 → s.calm 246 →
    pick = (if s.get F.FLT_STAT_BOOT_MODE = 1 then 1 - s.get F.ALM_STAT_NEXT else s.get F.ALM_STAT_NEXT) → pick ≤ 1 →
    (if pick = 0 then r.imgA else r.imgB) = false → (if pick = 0 then r.imgB else r.imgA) = true →
    Gives (.bootStepDone 1 r) s fun t =>
      t.get F.FLT_BOOT_STEP = 2 ∧ t.get F.FLT_BOOT_IMAGE = 1 - pick ∧ t.get F.ALM_STAT_ACTIVE = 1 - pick ∧ t.get F.FLT_BOOT_FALLBACK = 1 ∧ Raised 246 s t ∧
      1 ∈ t.boot.done ∧ KeepsBut [fltBlock, evfBlock] [F.ALM_STAT_ACTIVE.key 0 0] s t ∧ t.mem = s.mem ∧ t.poison = s.poison) ∧
  (∀ (s : State) (r : BootReport), s.alive = true → s.stepRuns 1 = true → r.hubOk = true → s.get F.FLT_STAT_BOOT_MODE ≠ 3 → r.imgA = false → r.imgB = false →
    3 ≤ s.get F.FLT_BOOT_FAILS → s.get F.FLT_SRC_SEV 246 ≠ 4 →
    Gives (.bootStepDone 1 r) s fun t =>
      t.get F.FLT_STAT_STATE = 3 ∧ t.get F.FLT_BOOT_LAST_REASON = 1 ∧ t.get F.FLT_SRC_STICKY 246 = 1 ∧ (∀ n, n < 8 → t.get F.TWK_ELS_EN n = 0) ∧ t.mem = s.mem) ∧
  (∀ s : State, s.alive = true → s.get F.FLT_STAT_STATE = 0 → 1 ≤ s.get F.FLT_BOOT_STEP → s.get F.FLT_BOOT_STEP < 9 → s.boot.suspend = false →
    (s.get F.FLT_BOOT_STEP = 1 → s.get F.FLT_STAT_BOOT_MODE ≠ 3) → 3 ≤ s.get F.FLT_BOOT_FAILS → s.get F.FLT_SRC_SEV 246 ≠ 4 →
    Gives .bootWatchdogExpiry s fun t =>
      t.get F.FLT_STAT_STATE = 3 ∧ t.get F.FLT_BOOT_LAST_REASON = 7 ∧ t.get F.FLT_SRC_STICKY 246 = 1 ∧ (∀ n, n < 8 → t.get F.TWK_ELS_EN n = 0) ∧ t.mem = s.mem ∧
      t.now = max s.now (s.boot.start + (if s.boot.cold then 60000000000 else 15000000000))) ∧
  (∀ (s : State) (r : BootReport), s.alive = true → s.stepRuns 6 = true → r.hubOk = true → r.dummyOk = true → r.bad = [] → s.boot.cold = true →
    s.retired 24 = false ∨ s.retired 30 = false →
    Gives (.bootStepDone 6 r) s fun t =>
      (∀ a, t.rd a = 0 ∧ t.poisoned a = false) ∧ 6 ∈ t.boot.done ∧ Keeps [F.FLT_BOOT_STEP.key 0 0] s t ∧
      t = { s with regs := t.regs, mem := [], poison := [], boot := { s.boot with done := t.boot.done }, out := [] }) ∧
  (∀ (s : State) (r : BootReport), s.alive = true → s.stepRuns 8 = true → r.hubOk = true → r.dummyOk = true → r.bad = [] →
    Gives (.bootStepDone 8 r) s fun t =>
      t.inService = true ∧ t.get F.FLT_BOOT_FAILS = 0 ∧ t.get F.TRN_STAT_PHASE = 5 ∧ (s.boot.cold = false → t.get F.TAL_STAT_RECOVERY = 1) ∧
      t.get F.TAL_STAT_STANDBY_OK = b2n (!s.tally.noDummy) ∧
      Keeps [F.FLT_BOOT_STEP.key 0 0, F.FLT_BOOT_FAILS.key 0 0, F.FLT_BOOT_BOOT_MS.key 0 0, F.TRN_STAT_PHASE.key 0 0, F.TAL_STAT_RECOVERY.key 0 0, F.TAL_STAT_STANDBY_OK.key 0 0] s t ∧
      t.mem = s.mem) ∧
  (∀ (s : State) (r : BootReport), s.alive = true → s.mild → r.hubOk = true → r.dummyOk = true → r.bad = [] →
    (s.stepRuns 2 = true → s.get F.FLT_STAT_BOOT_MODE ≠ 2 →
      Gives (.bootStepDone 2 r) s fun t =>
        (s.bootGuard = none →
          t.get F.FLT_BOOT_LAST_REASON = 2 ∧ t.get F.FLT_SRC_STICKY 246 = 1 ∧
          (3 ≤ s.get F.FLT_BOOT_FAILS → t.get F.FLT_STAT_STATE = 3 ∧ ∀ n, n < 8 → t.get F.TWK_ELS_EN n = 0)) ∧
        (∀ g, s.bootGuard = some g →
          t.get F.FLT_BOOT_STEP = 3 ∧ 2 ∈ t.boot.done ∧ (∀ f : Fld, 0x2300000 ≤ f.base → f.base < 0x2400000 → f.lsb < 64 → t.get f = g.get f) ∧ t.mgt.copy = g.mgt.copy ∧
          t.mgt.guard = g.mgt.guard ∧ t.get F.MGT_STAT_CROUPIER = 0 ∧ t.get F.TAL_STAT_DEALER_HUB = b2n (bit (s.get F.FLT_RETIRED_FE) 0) ∧
          t.mgt.firmware = s.almBytes (imageBase (s.get F.ALM_STAT_ACTIVE)) Config.imageLen ∧
          t.get F.MGT_IDSTATE_STATE = if (Config.deviceKey s.mgt.puf).1 = s.almBytes (Config.identAt + Config.identKeyAt) 32 then 1 else 2) ∧
        t.mem = s.mem ∧ t.poison = s.poison) ∧
    (s.stepRuns 3 = true → r.railsOk = true → r.bondOpen = false →
      Gives (.bootStepDone 3 r) s fun t =>
        t.get F.FLT_BOOT_STEP = 4 ∧ 3 ∈ t.boot.done ∧
        t.clk.rails = (if s.clk.rails = [] then List.replicate 4 (coreMv s.cht.chart.step, sramMv 3) else s.clk.rails) ∧
        (s.boot.cold = true →
          t.get F.THM_STAT_PREWARM = 1 ∧ t.thm.prewarm = some s.now ∧
          t.sky.chans.map (fun c => (c.orbit, c.wg, c.lambda, c.writer, c.reader)) = (s.builtin.specs 0).map fun c => (c.orbit, c.wg, c.lambda, c.writer, c.reader)) ∧
        (s.boot.cold = false → t.get F.THM_STAT_PREWARM = s.get F.THM_STAT_PREWARM ∧ t.thm = s.thm ∧ t.sky = s.sky) ∧
        Keeps [F.FLT_BOOT_STEP.key 0 0, F.THM_STAT_PREWARM.key 0 0] s t ∧ t.mem = s.mem ∧ t.poison = s.poison) ∧
    (s.stepRuns 3 = true → r.railsOk = false → 3 ≤ s.get F.FLT_BOOT_FAILS → s.get F.FLT_SRC_SEV 246 ≠ 4 →
      Gives (.bootStepDone 3 r) s fun t => t.get F.FLT_STAT_STATE = 3 ∧ t.get F.FLT_BOOT_LAST_REASON = 3 ∧ (∀ n, n < 8 → t.get F.TWK_ELS_EN n = 0) ∧ t.mem = s.mem) ∧
    (s.stepRuns 4 = true →
      (s.get F.TWK_STAT_LIGHT = 2 ∨ s.get F.TWK_STAT_LIGHT = 3 →
        Gives (.bootStepDone 4 r) s fun t =>
          t.get F.FLT_BOOT_STEP = 5 ∧ 4 ∈ t.boot.done ∧
          (∀ k u, k < 24 → u < 4 → s.present k = true → s.retired k = false → s.get F.OMU_STAT_STATE k u = 0 → s.omuLit k u = true → s.isSet F.OMU_STAT_TEMP_OK k u = true →
            s.omus.uncal.contains (4 * k + u) = false → s.omus.retry.contains (4 * k + u) = false → (∀ p ∈ s.omus.pilots, p.1 ≠ 4 * k + u) → (4 * k + u, s.now, true) ∈ t.omus.pilots) ∧
          (s.cmp.passes = [] → t.mem = s.mem ∧ t.poison = s.poison)) ∧
      (s.get F.TWK_STAT_LIGHT ≠ 2 → s.get F.TWK_STAT_LIGHT ≠ 3 → Gives (.bootStepDone 4 r) s fun t => t = s.fresh)) ∧
    (s.stepRuns 5 = true →
      ((∀ p ∈ s.omus.pilots, p.2.2 = false) →
        Gives (.bootStepDone 5 r) s fun t =>
          t.get F.FLT_BOOT_STEP = (if 6 ∈ s.boot.done then 7 else 6) ∧ 5 ∈ t.boot.done ∧ Keeps [F.FLT_BOOT_STEP.key 0 0] s t ∧
          t = { s with regs := t.regs, boot := { s.boot with done := t.boot.done }, out := [] }) ∧
      ((∃ p ∈ s.omus.pilots, p.2.2 = true) → Gives (.bootStepDone 5 r) s fun t => t = s.fresh)) ∧
    (s.stepRuns 6 = true → s.boot.cold = false → s.retired 24 = false ∨ s.retired 30 = false →
      Gives (.bootStepDone 6 r) s fun t =>
        (∀ a m, regionOf a = .hbm m → t.rd a = s.rd a) ∧ (∀ a, (∀ m, regionOf a ≠ .hbm m) → t.rd a = 0) ∧
        (∀ g m, regionOf (g * 64) = .hbm m → t.poisoned g = s.poisoned g) ∧ (∀ g, (∀ m, regionOf (g * 64) ≠ .hbm m) → t.poisoned g = false) ∧ 6 ∈ t.boot.done ∧
        Keeps [F.FLT_BOOT_STEP.key 0 0] s t ∧ t = { s with regs := t.regs, mem := t.mem, poison := t.poison, boot := { s.boot with done := t.boot.done }, out := [] }) ∧
    (s.stepRuns 7 = true → s.boot.cold = true ∨ s.isSet F.CHT_ACTIVE_DEFAULT = true ∨ leNat (s.rdN (slotBase (s.slotStack 0) (s.get F.CHT_ACTIVE_SLOT) + 16) 8) < 64 →
      Gives (.bootStepDone 7 r) s fun t =>
        t.get F.FLT_BOOT_STEP = 8 ∧ 7 ∈ t.boot.done ∧ t.cht.chart = s.builtin ∧ t.get F.CHT_ACTIVE_DEFAULT = 1 ∧ t.get F.CHT_ACTIVE_VARIANT = 0 ∧
        t.get F.CLK_PLAN_CMP_STEP = 7 ∧ (∀ k, k < 44 → s.present k = true → t.get F.SKY_DLV_EJECT_CLOSED k = 0) ∧
        (s.boot.cold = false → s.isSet F.CHT_ACTIVE_DEFAULT = false →
          t.get F.CHT_SLOT_STATE (s.get F.CHT_ACTIVE_SLOT) = 4 ∧ t.get F.CHT_SLOT_ERR (s.get F.CHT_ACTIVE_SLOT) = 24 ∧ Raised 231 s t)))

/-- R464, R466, R484: an open bond chain, a guarded quantity out of its limit (the Comet egress since the last check made every 1 ms, a guard register, the heater current for 1 ms), and the
laser interlock each raise a source whose severity is FATAL:
the part enters FATAL with every laser released; nothing is raised where the check passes.
That the enable requests are cleared with the lines is the model's reading (log entry 166). -/
def Obligations.FatalSources : Prop :=
  (∀ s : State, s.alive = true → Gives (.bondCheck false) s fun t => t = s.fresh) ∧
  (∀ s : State, s.alive = true → s.get F.FLT_SRC_SEV 240 = 4 →
    Gives (.bondCheck true) s fun t =>
      t.fatal = true ∧ (∀ n, n < 8 → t.get F.TWK_ELS_EN n = 0) ∧ t.get F.FLT_STAT_FAULT = 1 ∧ t.pins.thermtrip = s.pins.thermtrip ∧ Raised 240 s t ∧
      KeepsBut [evfBlock, fltBlock, lightBlock] [] s t ∧
      t = { s with regs := t.regs, light := { s.light with asks := [] }, flt := t.flt, evf := t.evf, pins := t.pins, mgt := t.mgt, out := t.out, free := t.free }) ∧
  (∀ (s : State) (r : GuardReport), s.alive = true → s.isSet F.GRD_STAT_LOADED = true → s.get F.FLT_SRC_SEV 239 = 4 →
    105 * s.get F.GRD_LIMITS_EGRESS * 1000000 < 100 * 8 * s.cmt.egress ∨ r.shadow = true →
    Gives (.guardCheck r) s fun t =>
      t.fatal = true ∧ (∀ n, n < 8 → t.get F.TWK_ELS_EN n = 0) ∧ Raised 239 s t ∧
      KeepsBut [evfBlock, fltBlock, lightBlock] [] s t ∧
      t = { s with regs := t.regs, light := { s.light with asks := [] }, cmt := { s.cmt with egress := 0 }, flt := t.flt, evf := t.evf, pins := t.pins, mgt := t.mgt, out := t.out, free := t.free }) ∧
  (∀ (s : State) (r : GuardReport), s.alive = true → 100 * 8 * s.cmt.egress ≤ 105 * s.get F.GRD_LIMITS_EGRESS * 1000000 → r.shadow = false →
    Gives (.guardCheck r) s fun t => t = { s with cmt := { s.cmt with egress := 0 }, out := [] }) ∧
  (∀ (s : State) (rails : List (Nat × Nat × Bool)) (since : Nat), s.alive = true → rails.length = 14 → s.calm 237 → s.get F.FLT_SRC_SEV 239 = 4 → s.isSet F.GRD_STAT_LOADED = true →
    105 * max 1000 (s.get F.GRD_LIMITS_HTR_CAP) < 100 * (rails.getD 7 (0, 0, false)).2.1 → tabGet 0 s.thm.excess 0 = since + 1 → since + 1000000 ≤ s.now →
    Gives (.powerSample rails) s fun t => t.fatal = true ∧ (∀ n, n < 8 → t.get F.TWK_ELS_EN n = 0) ∧ t.get F.FLT_SRC_STICKY 239 = 1 ∧ t.mem = s.mem) ∧
  (∀ s : State, s.on = true →
    Gives .elsIntlkClose s fun t => t.get F.TWK_STAT_INTLK = 1 ∧ Keeps [F.TWK_STAT_INTLK.key 0 0] s t ∧ t = { s with regs := t.regs, out := [] }) ∧
  (∀ (s : State) (slot : Nat), s.alive = true → s.get F.FLT_SRC_SEV 224 = 4 →
    Gives (.laserInterlockFault slot) s fun t => t.fatal = true ∧ (∀ n, n < 8 → t.get F.TWK_ELS_EN n = 0) ∧ Raised 224 s t ∧ t.mem = s.mem)

/-- R106: when ELS_INTLK opens, every ELS_EN line is released; where a line was asserted, the laser interlock fault (source 224) is raised at severity FATAL; with every line released it is no fault: TWK_STAT shows the loop open, and a light
start then stops at its first step with every line released.
That the enable requests are cleared when the loop opens is the model's reading (log entry 166). -/
def Obligations.InterlockOpens : Prop :=
  (∀ s : State, s.on = true → s.get F.FLT_SRC_SEV 224 = 4 → (∃ n, n < 8 ∧ s.get F.TWK_ELS_EN n = 1) →
    Gives .elsIntlkOpen s fun t =>
      t.fatal = true ∧ t.get F.TWK_STAT_INTLK = 0 ∧ (∀ n, n < 8 → t.get F.TWK_ELS_EN n = 0) ∧ Raised 224 s t ∧ KeepsBut [evfBlock, fltBlock, lightBlock] [] s t ∧ t.mem = s.mem) ∧
  (∀ s : State, s.on = true → (∀ n, n < 8 → s.get F.TWK_ELS_EN n ≠ 1) →
    Gives .elsIntlkOpen s fun t =>
      t.get F.TWK_STAT_INTLK = 0 ∧ (∀ n, n < 8 → t.get F.TWK_ELS_EN n = 0) ∧ KeepsBut [] (F.TWK_STAT_INTLK.key 0 0 :: (List.range 8).map fun n => F.TWK_ELS_EN.key n 0) s t ∧
      t = { s with regs := t.regs, light := { s.light with asks := [] }, out := [] }) ∧
  (∀ (s : State) (mods : List ModRead) (ok : Bool), s.alive = true → s.get F.FLT_BOOT_STEP = 4 → s.light.step = 0 → s.get F.MGT_STAT_CROUPIER = 0 → s.get F.FLT_STAT_STATE = 0 → s.get F.TWK_STAT_INTLK = 0 →
    Gives (.lightStart mods ok) s fun t => t.get F.TWK_STAT_LIGHT = 4 ∧ t.get F.TWK_STAT_START_ERR = 4 ∧ (∀ n, n < 8 → t.get F.TWK_ELS_EN n = 0) ∧ t.mem = s.mem)

/-- R467, R468, R474, R88: an error of a tile stack, an MBD or an I/O chiplet, in service or fenced off, raises its source and resets its domain: the domain stands in reset under the next tag, its reset is counted
and timed, its station refuses its traffic and shows the new generation; memory and the other domains stand. The third such reset within 60 s retires it with its site.

R467, R470: a die out of reset is in service again where its site is and every ring in use there is confirmed or failed, with its refusals ended; else it is fenced off. Its tag stands.
A chiplet's ports that the chart in force names train again (R399).
The model's choices in it: the source is raised first, and what that raise stops is not done (log entry 50), what stays of a die's mailboxes and jobs (51), and a die that is fenced off (220). -/
def Obligations.DieResets : Prop :=
  (∀ (s : State) (c : Instr) (d src k : Nat),
    ((∃ i, i < 24 ∧ c = .tileStackReset i ∧ d = i ∧ k = i ∧ src = 44 + i) ∨ (∃ i, i < 12 ∧ c = .mbdReset i ∧ d = 68 + i ∧ k = 24 + i ∧ src = 68 + i) ∨
      (∃ i, i < 4 ∧ c = .ioChipletReset i ∧ d = 80 + i ∧ k = 36 + i ∧ src = 80 + i)) →
    s.alive = true → s.mild → s.patience = false → s.get F.FLT_DOM0_STATE d = 0 ∨ s.get F.FLT_DOM0_STATE d = 2 →
    (s.get F.FLT_DOM0_WINDOW d < 2 →
      Gives c s fun t =>
        t.get F.FLT_DOM0_STATE d = 1 ∧ t.get F.FLT_DOM0_GEN d = (s.get F.FLT_DOM0_GEN d + 1) % 256 ∧ CountsBy F.FLT_DOM0_RESETS 1 d 0 s t ∧
        t.get F.FLT_DOM1_LAST d = s.now % 2 ^ 64 ∧ t.get F.FLT_DOM0_WINDOW d = s.get F.FLT_DOM0_WINDOW d + 1 ∧ (d, s.now) ∈ t.flt.window ∧
        t.get F.SKY_DLV_DIE_DIE_DOWN k = 1 ∧ t.get F.SKY_DLV_DIE_DIE_GEN k = (s.get F.FLT_DOM0_GEN d + 1) % 256 ∧
        t.get F.FLT_SRC_STICKY src = 1 ∧ (∀ e, e ≠ d → t.get F.FLT_DOM0_STATE e = s.get F.FLT_DOM0_STATE e ∧ t.get F.FLT_DOM0_GEN e = s.get F.FLT_DOM0_GEN e) ∧
        t.mem = s.mem ∧ t.poison = s.poison ∧ t.pending = s.pending ∧ t.now = s.now) ∧
    (2 ≤ s.get F.FLT_DOM0_WINDOW d → s.present k = true → s.get F.SKY_STN_STATUS_STATE k ≠ 6 →
      Gives c s fun t =>
        t.get F.FLT_DOM0_STATE d = 3 ∧ t.retired k = true ∧ t.get F.SKY_STN_STATUS_STATE k = 6 ∧ t.get F.SKY_DLV_DIE_DIE_DOWN k = 1 ∧
        t.get F.FLT_SRC_STICKY 247 = 1 ∧ t.mem = s.mem ∧ t.poison = s.poison)) ∧
  (∀ (s : State) (d k : Nat), dieDom k = some d → s.alive = true → s.get F.FLT_DOM0_STATE d = 1 →
    Gives (.domainResetEnd d) s fun t =>
      (s.get F.FLT_DOM0_STATE (24 + k) = 0 → s.siteLocked k = true → t.get F.FLT_DOM0_STATE d = 0 ∧ t.get F.SKY_DLV_DIE_DIE_DOWN k = 0) ∧
      (s.get F.FLT_DOM0_STATE (24 + k) ≠ 0 ∨ s.siteLocked k = false →
        t.get F.FLT_DOM0_STATE d = 2 ∧ t.get F.SKY_DLV_DIE_DIE_DOWN k = s.get F.SKY_DLV_DIE_DIE_DOWN k) ∧
      (∀ e, e < 131 → t.get F.FLT_DOM0_GEN e = s.get F.FLT_DOM0_GEN e ∧ (e ≠ d → t.get F.FLT_DOM0_STATE e = s.get F.FLT_DOM0_STATE e)) ∧
      (k < 36 → t = { s with regs := t.regs, sky := t.sky, out := t.out }) ∧
      (36 ≤ k → (∀ p, p / 8 = k - 36 → s.portNamed p = true → t.get F.CMT_PORT_STATE p = 1 ∧ t.get F.CMT_PORT_LANES p = 0) ∧
        t = { s with regs := t.regs, cmt := t.cmt, mgt := t.mgt, out := [] }))

/-- R88, R467, R470: a station's reset, alone or with its Firmament site, puts it in RESET under the next generation with its ejection closed; nothing of memory is lost. With the site its own
domain resets too, and the stack above is fenced off.

R127, R470, R525: a Firmament site out of reset has its station out of reset too. Before the light it is OFF and nothing else changes; with its rings lit each of them relocks from its held
code, those in use through IDCHECK, and its station shows LOCKING until they are done, or what a drain shows; the fence of the die above is lifted where no ring is left to confirm. A failed
ring and one reserved for a DARK channel are left.

R472, R473: a tile whose schedule has not ended 2P after E is reset and counted, its cards become suspects of a hunt on it, and its run phase is taken as over; that reset counts
toward escalation. A card that is a suspect and ran alone on the tile is convicted: its completion is GUILTY, and the reset does not count.
The model's choices in it: what a die's, a site's or a station's reset drops (log entry 51), when its channels are suspended (52), and the hung tile's fence (54). -/
def Obligations.SitesAndTilesReset : Prop :=
  (∀ (s : State) (k : Nat), k < 44 → s.alive = true → s.mild → s.patience = false →
       (s.get F.FLT_DOM0_STATE (84 + k) = 0 → s.get F.FLT_DOM0_WINDOW (84 + k) < 2 →
         Gives (.stationReset k) s fun t =>
           t.get F.FLT_DOM0_STATE (84 + k) = 1 ∧ t.get F.SKY_STN_STATUS_STATE k = 5 ∧ t.get F.SKY_STN_STATUS_GEN k = (s.get F.FLT_DOM0_GEN (84 + k) + 1) % 256 ∧
           t.get F.SKY_DLV_EJECT_CLOSED k = 1 ∧ (∀ q, (t.stn k).queue q = []) ∧ t.get F.FLT_DOM0_STATE (24 + k) = s.get F.FLT_DOM0_STATE (24 + k) ∧
           t.mem = s.mem ∧ t.poison = s.poison) ∧
       (s.get F.FLT_DOM0_STATE (24 + k) = 0 → s.get F.FLT_DOM0_STATE (84 + k) ≠ 3 → s.get F.FLT_DOM0_WINDOW (24 + k) < 2 →
         Gives (.firmamentSiteReset k) s fun t =>
           t.get F.FLT_DOM0_STATE (24 + k) = 1 ∧ t.get F.FLT_DOM0_STATE (84 + k) = 1 ∧ t.get F.SKY_STN_STATUS_STATE k = 5 ∧
           t.get F.SKY_STN_STATUS_GEN k = (s.get F.FLT_DOM0_GEN (84 + k) + 1) % 256 ∧ t.get F.SKY_DLV_EJECT_CLOSED k = 1 ∧ t.get F.FLT_SRC_STICKY (180 + k) = 1 ∧
           (∀ d, dieDom k = some d → s.get F.FLT_DOM0_STATE d = 0 → t.get F.FLT_DOM0_STATE d = 2 ∧ t.get F.SKY_DLV_DIE_DIE_DOWN k = 1) ∧
           t.mem = s.mem ∧ t.poison = s.poison)) ∧
  (∀ (s : State) (k : Nat), k < 44 → s.alive = true → s.mild → s.get F.FLT_DOM0_STATE (24 + k) = 1 →
       (s.ringsLit = false →
         Gives (.domainResetEnd (24 + k)) s fun t =>
           t.get F.FLT_DOM0_STATE (24 + k) = 0 ∧ t.get F.FLT_DOM0_STATE (84 + k) = 0 ∧ t.get F.SKY_STN_STATUS_STATE k = 0 ∧
           Keeps [F.FLT_DOM0_STATE.key (24 + k) 0, F.FLT_DOM0_STATE.key (84 + k) 0, F.SKY_STN_STATUS_STATE.key k 0] s t ∧ t = { s with regs := t.regs, out := [] }) ∧
       (s.ringsLit = true →
         Gives (.domainResetEnd (24 + k)) s fun t =>
           t.get F.FLT_DOM0_STATE (24 + k) = 0 ∧ t.get F.FLT_DOM0_STATE (84 + k) = 0 ∧
           (s.light.rest = false → ∀ i, i < 1024 →
             (s.hasRing k i = true → s.ringDark k i = false → s.get F.TWK_RING_STATE k i ≠ 6 →
               t.get F.TWK_RING_STATE k i = (if s.ringUsed k i then 3 else 1) ∧ t.get F.TWK_RING_ALIASES k i = 0) ∧
             (s.ringDark k i = true ∨ s.get F.TWK_RING_STATE k i = 6 → t.get F.TWK_RING_STATE k i = s.get F.TWK_RING_STATE k i)) ∧
           (s.drainShows ≠ 0 → t.get F.SKY_STN_STATUS_STATE k = s.drainShows) ∧
           (s.drainShows = 0 → s.light.rest = false → t.get F.SKY_STN_STATUS_STATE k = if t.locked k then 2 else 1) ∧
           (∀ d, dieDom k = some d → s.get F.FLT_DOM0_STATE d = 2 → t.get F.FLT_DOM0_STATE d = if t.siteLocked k then 0 else 2) ∧
           (s.cmp.passes = [] → t.mem = s.mem ∧ t.poison = s.poison))) ∧
  ((∀ (s : State) (k : Nat), k < 24 → s.alive = true → s.mild → s.patience = false → s.get F.TRN_STAT_PHASE = 2 → s.trn.runOver.contains k = false →
       s.get F.FLT_DOM0_STATE k = 0 → s.present k = true → s.unended k = true → s.get F.FLT_DOM0_WINDOW k < 2 → (∀ q, s.cardsOn k = [q] → bit (s.get F.FLT_HANG_HUNT) k = false ∨ (s.ent q).suspect = false) →
       Gives (.tileHang k) s fun t =>
         t.now = max s.now (s.nominalE + 2 * s.periodNs) ∧ t.get F.FLT_DOM0_STATE k = 1 ∧ t.get F.FLT_DOM0_GEN k = (s.get F.FLT_DOM0_GEN k + 1) % 256 ∧
         CountsBy F.FLT_HANG_HANGS 1 0 0 s t ∧ t.get F.FLT_DOM0_WINDOW k = s.get F.FLT_DOM0_WINDOW k + 1 ∧ t.trn.runOver.contains k = true ∧
         (∀ q ∈ s.cardsOn k, (t.ent q).suspect = true) ∧ t.mem = s.mem ∧ t.poison = s.poison) ∧
     (∀ (s : State) (k q : Nat), k < 24 → s.alive = true → s.mild → s.patience = false → s.get F.TRN_STAT_PHASE = 2 → s.trn.runOver.contains k = false →
       s.get F.FLT_DOM0_STATE k = 0 → s.present k = true → s.unended k = true → s.cardsOn k = [q] → bit (s.get F.FLT_HANG_HUNT) k = true → (s.ent q).suspect = true →
       Gives (.tileHang k) s fun t =>
         t.get F.FLT_DOM0_STATE k = 1 ∧ CountsBy F.FLT_HANG_GUILTY 1 0 0 s t ∧ t.get F.FLT_DOM0_WINDOW k = s.get F.FLT_DOM0_WINDOW k ∧ (t.ent q).finished = true ∧
         (∃ r ∈ (t.ent q).runs, r.status = 7) ∧ t.mem = s.mem ∧ t.poison = s.poison) ∧
     (∀ (s : State) (k : Nat), s.alive = true → 24 ≤ k ∨ s.get F.TRN_STAT_PHASE ≠ 2 ∨ s.get F.FLT_DOM0_STATE k ≠ 0 ∨ s.unended k = false ∨ s.trn.runOver.contains k = true ∨ s.present k = false →
       Gives (.tileHang k) s fun t => t = s.fresh))

/-- R467, R481, R354: a front end's reset and the Croupier's, their ends, and the end of an escalation window, each at its domain's registers. The front end that deals keeps the Dealer
role in its reset, which the standby takes from it (R354); where it was itself taking over, the part asks for its own reset, with a dump of kind 4 (R356, R459).

R525: a station out of reset is OFF before the light; with the rings lit it serves again at once, showing LOCKING while rings that its channels use are neither confirmed nor failed, or what
a drain shows.
How an escalation window counts is the model's reading (log entry 49), and so is a takeover that leaves no Dummy (130). -/
def Obligations.HubDomains : Prop :=
  (∀ (s : State) (h : Nat), h < 2 → s.alive = true → s.mild → s.patience = false → s.get F.FLT_DOM0_STATE (128 + h) = 0 → s.get F.FLT_DOM0_WINDOW (128 + h) < 2 →
    s.get F.TAL_STAT_DEALER_HUB ≠ h →
    Gives (.frontEndReset h) s fun t =>
      t.get F.FLT_DOM0_STATE (128 + h) = 1 ∧ t.get F.FLT_DOM0_GEN (128 + h) = (s.get F.FLT_DOM0_GEN (128 + h) + 1) % 256 ∧ t.get F.TAL_STAT_STANDBY_OK = 0 ∧
      t.get F.FLT_SRC_STICKY (241 + h) = 1 ∧ (∀ c, c < 8 → s.scanOf h c = none → t.get F.CHK_STATUS_STATE h c = s.get F.CHK_STATUS_STATE h c) ∧
      t.mem = s.mem ∧ t.poison = s.poison) ∧
  (∀ (s : State) (h : Nat), h < 2 → s.alive = true → s.mild → s.patience = false → s.get F.FLT_DOM0_STATE (128 + h) = 0 → s.get F.FLT_DOM0_WINDOW (128 + h) < 2 →
    s.get F.TAL_STAT_DEALER_HUB = h →
    Gives (.frontEndReset h) s fun t =>
      t.get F.FLT_DOM0_STATE (128 + h) = 1 ∧ t.get F.FLT_DOM0_GEN (128 + h) = (s.get F.FLT_DOM0_GEN (128 + h) + 1) % 256 ∧ t.get F.TAL_STAT_DEALER_HUB = h ∧
      t.get F.TAL_STAT_STANDBY_OK = s.get F.TAL_STAT_STANDBY_OK ∧ t.get F.FLT_SRC_STICKY (241 + h) = 1 ∧ t.tally.takeover = s.tally.takeover ∧ t.mem = s.mem ∧ t.poison = s.poison ∧
      (s.tally.takeover = none → t.boot = s.boot ∧ t.flt.asked = s.flt.asked ∧ t.flt.dumps = s.flt.dumps) ∧
      (s.tally.takeover ≠ none →
        t.boot.halt = true ∧ t.flt.asked = some (s.flt.asked.getD s.now) ∧ t.flt.dumps = s.flt.dumps ++ [{ src := 241 + h, kind := 4, transit := s.get F.TRN_NUM }])) ∧
  (∀ s : State, s.alive = true → s.calm 243 → s.patience = false → s.get F.FLT_DOM0_STATE 130 = 0 → s.get F.FLT_DOM0_WINDOW 130 < 2 →
    Gives .croupierWatchdog s fun t =>
      t.get F.FLT_DOM0_STATE 130 = 1 ∧ t.get F.FLT_DOM0_GEN 130 = (s.get F.FLT_DOM0_GEN 130 + 1) % 256 ∧ t.get F.MGT_STAT_CROUPIER = 1 ∧
      CountsBy F.MGT_STAT_WDOG 1 0 0 s t ∧ Raised 243 s t ∧ KeepsBut [evfBlock, fltBlock] [F.MGT_STAT_CROUPIER.key 0 0, F.MGT_STAT_WDOG.key 0 0] s t ∧
      t = { s with regs := t.regs, flt := t.flt, evf := t.evf, mgt := t.mgt, out := t.out, free := t.free }) ∧
  (∀ s : State, s.alive = true → s.get F.FLT_DOM0_STATE 130 = 1 →
    Gives (.domainResetEnd 130) s fun t =>
      t.get F.FLT_DOM0_STATE 130 = 0 ∧ t.get F.MGT_STAT_CROUPIER = 0 ∧ Keeps [F.FLT_DOM0_STATE.key 130 0, F.MGT_STAT_CROUPIER.key 0 0] s t ∧
      t = { s with regs := t.regs, out := [] }) ∧
  (∀ (s : State) (h : Nat), h < 2 → s.alive = true → s.get F.FLT_DOM0_STATE (128 + h) = 1 →
    Gives (.domainResetEnd (128 + h)) s fun t =>
      t.get F.FLT_DOM0_STATE (128 + h) = 0 ∧ Keeps [F.FLT_DOM0_STATE.key (128 + h) 0] s t ∧ t = { s with regs := t.regs, out := [] }) ∧
  (∀ (s : State) (d : Nat), s.alive = true → s.get F.FLT_DOM0_STATE d ≠ 1 → Gives (.domainResetEnd d) s fun t => t = s.fresh) ∧
  (∀ (s : State) (k : Nat), k < 44 → s.alive = true → s.get F.FLT_DOM0_STATE (84 + k) = 1 → s.get F.FLT_DOM0_STATE (24 + k) ≠ 1 → s.ringsLit = false →
    Gives (.domainResetEnd (84 + k)) s fun t =>
      t.get F.FLT_DOM0_STATE (84 + k) = 0 ∧ t.get F.SKY_STN_STATUS_STATE k = 0 ∧ Keeps [F.FLT_DOM0_STATE.key (84 + k) 0, F.SKY_STN_STATUS_STATE.key k 0] s t ∧
      t = { s with regs := t.regs, out := [] }) ∧
  (∀ (s : State) (k : Nat), k < 44 → s.alive = true → s.get F.FLT_DOM0_STATE (84 + k) = 1 → s.get F.FLT_DOM0_STATE (24 + k) ≠ 1 → s.ringsLit = true →
    Gives (.domainResetEnd (84 + k)) s fun t =>
      t.get F.FLT_DOM0_STATE (84 + k) = 0 ∧
      t.get F.SKY_STN_STATUS_STATE k = (if s.drainShows ≠ 0 then s.drainShows else if (s.stn k).locking && !s.locked k then 1 else 2) ∧
      (∀ e, e < 131 → e ≠ 84 + k → t.get F.FLT_DOM0_STATE e = s.get F.FLT_DOM0_STATE e) ∧ t = { s with regs := t.regs, sky := t.sky, out := t.out }) ∧
  (∀ (s : State) (d at_ : Nat), s.alive = true → s.flt.window.find? (fun p => decide (p.1 = d)) = some (d, at_) →
    Gives (.escalationWindowExpiry d) s fun t =>
      t.now = max s.now (at_ + 60000000000) ∧ t.get F.FLT_DOM0_WINDOW d = (s.get F.FLT_DOM0_WINDOW d - 1) % 4 ∧ t.flt.window = s.flt.window.erase (d, at_) ∧
      Keeps [F.FLT_DOM0_WINDOW.key d 0] s t ∧ t = { s with now := t.now, regs := t.regs, flt := { s.flt with window := t.flt.window }, out := [] })

/-! ## Temperature, power, clocks -/

/-- R430, R431, R446, R450, R455, R456: a sensor sample shows of each die whose readings it brings the highest of those whose sensors have not failed, and of a
site their mean as well, each in its register (`DieShown`); it shows each tile's temperature in its register, tells whether the Almanac lies in its window, and
at a trip point brings the part to FATAL with THERMTRIP_N asserted; memory is not touched.

R442, R446: a stack's own sensors. HBM_T shows the highest reading of those that have not failed (R431): a reading out of -20 to 150 °C takes its sensor out, and one
near the median of its stack does not; from 85 °C on its refresh runs at twice the rate, down to 82 °C; from 95 °C on its access cap rises, at most one
step; at its trip point the part goes to FATAL.

R444 to R446, R435, R453: canary reads, current limits and power samples, each at the registers it shows.
The model's choices in it: rounding of means and lost sensors (log entry 120), trip points before the guard record is loaded (122), the steps of the HBM cap and the power average's samples (123), an HBM stack's sensors and half-lost sites (204), and the rails' tolerance (210). -/
def Obligations.SensorsAndPower : Prop :=
  (∀ (s : State) (r : SensorReport), s.alive = true → s.mild → s.get F.FLT_SRC_SEV 238 = 4 →
       Gives (.sensorSample r) s fun t =>
         (∀ d rs, (d, rs) ∈ r.dies → (r.dies.map fun p => p.1).Nodup → rs.length ≤ 256 → s.goodReads d rs ≠ [] → DieShown s t d (s.goodReads d rs)) ∧
         (∀ k, k < 24 → s.present k = true → s.retired k = false → t.get F.THM_TILE_T_TJ k = ofSigned 12 (t.temp k) % 2 ^ 12) ∧
         t.get F.THM_STAT_ALM_OK = b2n (decide (0 ≤ t.temp 122) && decide (t.temp 122 ≤ 340)) ∧
         (t.tripped = true → t.fatal = true ∧ t.pins.thermtrip = true ∧ t.get F.THM_STAT_TRIPPED = 1) ∧
         (s.light.step ≠ 7 ∨ s.cmp.passes = [] → t.mem = s.mem ∧ t.poison = s.poison) ∧ t.pending = s.pending ∧ t.now = s.now) ∧
  (∀ (s : State) (m : Nat) (rs : List Int), m < 12 → rs ≠ [] → rs.length ≤ 256 → s.alive = true → s.calm 234 →
       let good := s.goodReads (104 + m) rs
       good ≠ [] →
       ((∀ i, s.thm.failed.contains (sensorKey (104 + m) i) = false) → (∀ x ∈ rs, -80 ≤ x ∧ x ≤ 600 ∧ (2 * x - medianTwice rs).natAbs ≤ 80) → good = rs) ∧
       (∀ i x, rs[i]? = some x → x < -80 ∨ 600 < x → (s.judgeAll (104 + m) rs).thm.failed.contains (sensorKey (104 + m) i) = true) ∧
       (highest good < s.tripAt F.GRD_TRIP_HBM 105 → s.calm 235 →
         Gives (.hbmTempRead m rs) s fun t =>
           t.temp (104 + m) = highest good ∧ t.get F.THM_MBD_HBM_T m = ofSigned 12 (highest good) % 2 ^ 12 ∧
           (340 ≤ highest good → t.get F.THM_MBD_REFRESH_2X m = 1) ∧ (highest good ≤ 328 → t.get F.THM_MBD_REFRESH_2X m = 0) ∧
           (380 ≤ highest good → s.get F.THM_MBD_CAP m < 3 → tabGet 0 s.thm.capAt m = 0 →
             t.get F.THM_MBD_CAP m = s.get F.THM_MBD_CAP m + 1 ∧ CountsBy F.THM_CAP_STEPS 1 m 0 s t) ∧
           KeepsBut [evfBlock, fltBlock] [F.THM_MBD_MBD_T.key m 0, F.THM_MBD_HBM_T.key m 0, F.THM_MBD_CAP.key m 0, F.THM_MBD_REFRESH_2X.key m 0, F.THM_CAP_STEPS.key m 0] s t ∧
           t = { s with regs := t.regs, thm := t.thm, flt := t.flt, evf := t.evf, out := t.out, free := t.free }) ∧
       (s.tripAt F.GRD_TRIP_HBM 105 ≤ highest good → s.calm 235 → s.get F.FLT_SRC_SEV 238 = 4 →
         Gives (.hbmTempRead m rs) s fun t =>
           t.fatal = true ∧ t.pins.thermtrip = true ∧ t.get F.THM_STAT_TRIPPED = 1 ∧ (∀ n, n < 8 → t.get F.TWK_ELS_EN n = 0) ∧ t.mem = s.mem ∧ t.poison = s.poison)) ∧
  ((∀ (s : State) (k arrays cells : Nat), k < 24 → s.alive = true → arrays < 16 → 0 < cells →
       Gives (.canaryRead k arrays cells) s fun t =>
         t.get F.THM_TILE_CANARY k = arrays ∧ CountsBy F.THM_CANARY_FLIPS cells k 0 s t ∧ Keeps [F.THM_TILE_CANARY.key k 0, F.THM_CANARY_FLIPS.key k 0] s t ∧
         t = { s with regs := t.regs, thm := t.thm, out := [] }) ∧
     (∀ (s : State) (k arrays cells : Nat), k < 24 → s.alive = true → 16 ≤ arrays → s.get F.FLT_SRC_SEV 238 = 4 →
       Gives (.canaryRead k arrays cells) s fun t => t.fatal = true ∧ t.pins.thermtrip = true ∧ t.get F.THM_STAT_TRIPPED = 1 ∧ t.get F.THM_TILE_CANARY k = 16 ∧ t.mem = s.mem) ∧
     (∀ (s : State) (k : Nat), k < 24 → s.alive = true → s.calm (44 + k) →
       Gives (.limitExceed k) s fun t =>
         CountsBy F.THM_LIMIT_EXCEED 1 k 0 s t ∧ Raised (44 + k) s t ∧
         (0 < s.get F.THM_TILE_LIMIT k → t.get F.THM_TILE_LIMIT k = (s.get F.THM_TILE_LIMIT k - 1) % 8 ∧ t.get F.CLK_DIE_THROTTLE k = (s.get F.THM_TILE_LIMIT k - 1) % 8 ∧
           CountsBy F.THM_STEPS_DOWN 1 k 0 s t ∧ t.get F.CLK_DIE_EFF k = min (s.get F.CLK_DIE_PLAN k) (min (s.ceiling k) (t.get F.CLK_DIE_THROTTLE k)) % 8) ∧
         (s.get F.THM_TILE_LIMIT k = 0 → t.get F.THM_TILE_LIMIT k = 0) ∧
         KeepsBut [evfBlock, fltBlock] [F.THM_LIMIT_EXCEED.key k 0, F.THM_STEPS_DOWN.key k 0, F.THM_TILE_LIMIT.key k 0, F.THM_TILE_BY_TJ.key k 0, F.THM_TILE_BY_SITE.key k 0,
           F.THM_TILE_BY_CACHE.key k 0, F.THM_TILE_BY_POWER.key k 0, F.CLK_DIE_THROTTLE.key k 0, F.CLK_DIE_EFF.key k 0, F.CLK_DIE_CAPPED.key k 0, F.CLK_STRETCH_CYC.key k 0] s t ∧
         t = { s with regs := t.regs, thm := t.thm, clk := t.clk, trn := { s.trn with stretch := t.trn.stretch }, flt := t.flt, evf := t.evf, out := t.out, free := t.free }) ∧
     (∀ (s : State) (rails : List (Nat × Nat × Bool)), s.alive = true → rails.length = 14 → s.calm 237 → s.isSet F.GRD_STAT_LOADED = false ∨ s.thm.excess = [] →
       Gives (.powerSample rails) s fun t =>
         (∀ j, j < 14 → t.get F.THM_RAIL_MV j = (rails.getD j (0, 0, false)).1 % 2 ^ 16 ∧ t.get F.THM_RAIL_CURRENT j = (rails.getD j (0, 0, false)).2.1 % 2 ^ 16 ∧
           t.get F.THM_RAIL_OUT_TOL j = b2n (match railNominal j with
             | some (mv, percent) => decide (percent * mv < 100 * (((rails.getD j (0, 0, false)).1 : Int) - mv).natAbs)
             | none => (rails.getD j (0, 0, false)).2.2)) ∧
         t.thm.watts = (s.thm.watts ++ [(rails.map fun r => r.1 * r.2.1).sum]).drop (s.thm.watts.length + 1 - 1000) ∧
         t.get F.THM_PWR_NOW_W = (t.thm.watts.sum / t.thm.watts.length / 10000) % 2 ^ 16 ∧
         (10000 * (if s.isSet F.GRD_STAT_LOADED then s.get F.THM_PWR_CEIL_W else 2400) * t.thm.watts.length < t.thm.watts.sum →
           t.get F.THM_STAT_POWER_CAP = 1 ∧ (s.get F.THM_STAT_POWER_CAP ≠ 1 → CountsBy F.THM_PWR_CAPS 1 0 0 s t ∧ Raised 237 s t)) ∧
         KeepsBut [evfBlock, fltBlock, (0x2100040, 0x21000B0)] [F.THM_PWR_NOW_W.key 0 0, F.THM_PWR_PEAK_W.key 0 0, F.THM_STAT_POWER_CAP.key 0 0, F.THM_PWR_CAPS.key 0 0] s t ∧
         t = { s with regs := t.regs, thm := { s.thm with watts := t.thm.watts, low := t.thm.low, excess := t.thm.excess }, mgt := t.mgt, flt := t.flt, evf := t.evf, out := t.out, free := t.free }))

/-- R419, R420: a droop detector that trips stretches its die's periods and is counted, its first count raising the site's Sky source (R76, R429); when the last cause has gone the stretch ends, and its periods are counted as they pass.

R410: losing the reference clock begins holdover and raises its source; holdover ends 10 ms after the clock's return.
The model's choices in it: how periods of a stretch are counted (log entry 119), and that the first count of DROOP_EVT and MON_FAIL raises the site's Sky source (201). -/
def Obligations.DroopAndReference : Prop :=
  ((∀ (s : State) (k c : Nat), k < 24 → c < 4 → s.alive = true → s.calm k → bit (s.get F.CLK_DIE_DROOP k) c = false →
       Gives (.droopTrip k c) s fun t =>
         t.get F.CLK_DIE_DROOP k = (s.get F.CLK_DIE_DROOP k + 2 ^ c) % 16 ∧ CountsBy F.CLK_DROOP_EVT 1 k 0 s t ∧
         (s.get F.CLK_DROOP_EVT k = 0 → s.get F.CLK_CTRL_FREEZE ≠ 1 → Raised k s t) ∧
         (tabGet 0 s.clk.stretch k = 0 → t.get F.CLK_DIE_STRETCHING k = 1 ∧ tabGet 0 t.clk.stretch k = s.now * 110880 + 1) ∧
         KeepsBut [evfBlock, fltBlock] [F.CLK_DIE_DROOP.key k 0, F.CLK_DROOP_EVT.key k 0, F.CLK_DIE_STRETCHING.key k 0] s t ∧
         t = { s with regs := t.regs, clk := { s.clk with stretch := t.clk.stretch }, flt := t.flt, evf := t.evf, out := t.out, free := t.free }) ∧
     (∀ (s : State) (k c : Nat), k < 24 → c < 4 → s.alive = true → s.get F.CLK_DIE_DROOP k = 2 ^ c → (∀ d ∈ s.clk.drops, d.1 % 32 ≠ k) →
       Gives (.droopClear k c) s fun t =>
         t.get F.CLK_DIE_DROOP k = 0 ∧ t.get F.CLK_DIE_STRETCHING k = 0 ∧ tabGet 0 t.clk.stretch k = 0 ∧
         (tabGet 0 s.clk.stretch k ≠ 0 → CountsBy F.CLK_STRETCH_CYC ((s.now * 110880 + 1 - tabGet 0 s.clk.stretch k) / (693000 / (5 + s.get F.CLK_DIE_EFF k))) k 0 s t) ∧
         Keeps [F.CLK_DIE_DROOP.key k 0, F.CLK_DIE_STRETCHING.key k 0, F.CLK_STRETCH_CYC.key k 0] s t ∧
         t = { s with regs := t.regs, clk := { s.clk with stretch := t.clk.stretch }, trn := { s.trn with stretch := t.trn.stretch }, out := [] })) ∧
  ((∀ s : State, s.alive = true → s.calm 232 →
       Gives .trefLoss s fun t =>
         t.get F.CLK_STAT_TREF_OK = 0 ∧ t.get F.CLK_STAT_HOLDOVER = 1 ∧ (s.get F.CLK_STAT_HOLDOVER ≠ 1 → Raised 232 s t) ∧
         KeepsBut [evfBlock, fltBlock] [F.CLK_STAT_TREF_OK.key 0 0, F.CLK_STAT_HOLDOVER.key 0 0] s t ∧
         t = { s with regs := t.regs, clk := { s.clk with trefAt := none }, flt := t.flt, evf := t.evf, out := t.out, free := t.free }) ∧
     (∀ s : State, s.alive = true → s.get F.CLK_STAT_TREF_OK ≠ 1 →
       Gives .trefReturn s fun t =>
         t.get F.CLK_STAT_TREF_OK = 1 ∧ t.clk.trefAt = some s.now ∧ Keeps [F.CLK_STAT_TREF_OK.key 0 0] s t ∧
         t = { s with regs := t.regs, clk := { s.clk with trefAt := some s.now }, out := [] }) ∧
     (∀ (s : State) (t0 : Nat), s.alive = true → s.clk.trefAt = some t0 →
       Gives .trefHoldoverEnd s fun t =>
         t.get F.CLK_STAT_HOLDOVER = 0 ∧ t.now = max s.now (t0 + 10000000) ∧ Keeps [F.CLK_STAT_HOLDOVER.key 0 0] s t ∧
         t = { s with now := t.now, regs := t.regs, clk := { s.clk with trefAt := none }, out := [] }))

/-- R427, R428, R438: the emergency step of a half: 100 ns after the throttle asked, its electronics slow and the entry is counted; after 10 ms cool they are released, and 100 ns later
the cap is cleared.

R417: a margin monitor that fails is counted (its first count raises the site's Sky source, R76, R429), and the third failure among its last 100 samples lowers its compute die's field ceiling by one step, to hold from the tick after
next, and raises its source; a sample that passes changes no register. A die whose ceiling is 0 has no lower one: its periods are stretched until that tick all the same. The third failure
of a cache die lowers its ceiling and its effective step at once; that of an MBD region lowers nothing.

R413, R450: ARM holds a plan for the tick named by CLK_PLAN_AT where that lies two ticks ahead or more, and shows PLAN_ERR where it does not.

R417: CEIL_RESTORE puts every field ceiling back to its trim ceiling.
The model's choices in it: failed samples are counted one by one, a ceiling of 0 stays and stretches (log entry 119), and the first count of MON_FAIL raises the site's Sky source (201). -/
def Obligations.SpeedSteps : Prop :=
  (∀ (s : State) (h b : Nat), h < 2 → s.alive = true →
       (tabGet 0 s.thm.half h = b + 1 → s.get (slowFld h) ≠ 1 →
         Gives (.seamSlowSwitch h) s fun t =>
           t.get (slowFld h) = 1 ∧ CountsBy F.CLK_SEAM_ENTRIES 1 0 0 s t ∧ t.now = max s.now (b + 100) ∧ Keeps [(slowFld h).key 0 0, F.CLK_SEAM_ENTRIES.key 0 0] s t ∧
           t = { s with now := t.now, regs := t.regs, out := [] }) ∧
       (∀ c, tabGet 0 s.thm.half h = b + 1 → tabGet 0 s.thm.cool h = c + 1 → s.get (slowFld h) = 1 →
         Gives (.seamRelease h) s fun t =>
           t.get (slowFld h) = 0 ∧ t.now = max s.now (max b c + 10000000) ∧ tabGet 0 t.thm.half h = 0 ∧ tabGet 0 t.thm.half (2 + h) = t.now + 1 ∧
           Keeps [(slowFld h).key 0 0] s t ∧ t = { s with now := t.now, regs := t.regs, thm := { s.thm with half := t.thm.half }, out := [] }) ∧
       (tabGet 0 s.thm.half (2 + h) = b + 1 →
         Gives (.seamCapClear h) s fun t =>
           t.get (capFld h) = 0 ∧ t.now = max s.now (b + 100) ∧ tabGet 0 t.thm.half (2 + h) = 0 ∧
           Keeps [(capFld h).key 0 0] s t ∧ t = { s with now := t.now, regs := t.regs, thm := { s.thm with half := t.thm.half }, out := [] })) ∧
  ((∀ (s : State) (region : Nat), region < 60 → s.alive = true →
       Gives (.monitorSample region false) s fun t =>
         t = { s with clk := { s.clk with mon := t.clk.mon }, out := [] } ∧ ((tabGet [] s.clk.mon region).length < 100 → tabGet [] t.clk.mon region = tabGet [] s.clk.mon region ++ [false])) ∧
     (∀ (s : State) (k : Nat), k < 24 → s.alive = true → (tabGet [] s.clk.mon k).length < 100 → ((tabGet [] s.clk.mon k).filter id).length < 2 →
       s.calm k →
       Gives (.monitorSample k true) s fun t =>
         CountsBy F.CLK_MON_FAIL 1 k 0 s t ∧ tabGet [] t.clk.mon k = tabGet [] s.clk.mon k ++ [true] ∧
         (s.get F.CLK_MON_FAIL k = 0 → s.get F.CLK_CTRL_FREEZE ≠ 1 → Raised k s t) ∧ KeepsBut [evfBlock, fltBlock] [F.CLK_MON_FAIL.key k 0] s t ∧
         t = { s with regs := t.regs, clk := { s.clk with mon := t.clk.mon }, flt := t.flt, evf := t.evf, out := t.out, free := t.free }) ∧
     (∀ (s : State) (k : Nat), k < 24 → s.alive = true → s.calm k → s.calm 233 → (tabGet [] s.clk.mon k).length < 100 → 2 ≤ ((tabGet [] s.clk.mon k).filter id).length →
       0 < s.get F.CLK_DIE_CEIL_FIELD k → s.get F.CLK_DIE_CEIL_FIELD k < 8 →
       Gives (.monitorSample k true) s fun t =>
         CountsBy F.CLK_MON_FAIL 1 k 0 s t ∧ t.get F.CLK_DIE_CEIL_FIELD k = s.get F.CLK_DIE_CEIL_FIELD k - 1 ∧ (k, s.get F.TRN_NUM + 2) ∈ t.clk.drops ∧ t.ceiling k = s.ceiling k ∧
         tabGet [] t.clk.mon k = [] ∧ Raised 233 s t ∧
         KeepsBut [evfBlock, fltBlock] [F.CLK_MON_FAIL.key k 0, F.CLK_DIE_CEIL_FIELD.key k 0, F.CLK_DIE_STRETCHING.key k 0, F.ALM_LIFE_PTR.key 0 0, F.ALM_LIFE_SEQ.key 0 0] s t ∧
         t = { s with regs := t.regs, clk := t.clk, mgt := t.mgt, flt := t.flt, evf := t.evf, out := t.out, free := t.free }) ∧
     (∀ (s : State) (k : Nat), k < 24 → s.alive = true → s.calm k → s.calm 233 → (tabGet [] s.clk.mon k).length < 100 → 2 ≤ ((tabGet [] s.clk.mon k).filter id).length →
       s.get F.CLK_DIE_CEIL_FIELD k = 0 →
       Gives (.monitorSample k true) s fun t =>
         CountsBy F.CLK_MON_FAIL 1 k 0 s t ∧ t.get F.CLK_DIE_CEIL_FIELD k = 0 ∧ t.ceiling k = s.ceiling k ∧ (k + 32, s.get F.TRN_NUM + 2) ∈ t.clk.drops ∧
         (tabGet 0 s.clk.stretch k = 0 → t.get F.CLK_DIE_STRETCHING k = 1 ∧ tabGet 0 t.clk.stretch k ≠ 0) ∧ tabGet [] t.clk.mon k = [] ∧ Raised 233 s t ∧
         t = { s with regs := t.regs, clk := t.clk, mgt := t.mgt, flt := t.flt, evf := t.evf, out := t.out, free := t.free }) ∧
     (∀ (s : State) (k : Nat), k < 24 → s.alive = true → s.calm k → (tabGet [] s.clk.mon (24 + k)).length < 100 →
       (((tabGet [] s.clk.mon (24 + k)).filter id).length < 2 →
         Gives (.monitorSample (24 + k) true) s fun t =>
           CountsBy F.CLK_CACHE_MON_FAIL 1 k 0 s t ∧ tabGet [] t.clk.mon (24 + k) = tabGet [] s.clk.mon (24 + k) ++ [true] ∧
           (s.get F.CLK_CACHE_MON_FAIL k = 0 → s.get F.CLK_CTRL_FREEZE ≠ 1 → Raised k s t) ∧ KeepsBut [evfBlock, fltBlock] [F.CLK_CACHE_MON_FAIL.key k 0] s t ∧
           t = { s with regs := t.regs, clk := { s.clk with mon := t.clk.mon }, flt := t.flt, evf := t.evf, out := t.out, free := t.free }) ∧
       (s.calm 233 → 2 ≤ ((tabGet [] s.clk.mon (24 + k)).filter id).length →
         Gives (.monitorSample (24 + k) true) s fun t =>
           CountsBy F.CLK_CACHE_MON_FAIL 1 k 0 s t ∧ t.get F.CLK_CACHE_CEIL_FIELD k = (s.get F.CLK_CACHE_CEIL_FIELD k - 1) % 4 ∧
           t.get F.CLK_CACHE_EFF k = (s.get F.CLK_CACHE_EFF k - 1) % 4 ∧
           t.get F.CLK_CACHE_CAPPED k = b2n (decide (s.get F.CLK_CACHE_EFF k - 1 < s.get F.CLK_STAT_CACHE_STEP)) ∧ tabGet [] t.clk.mon (24 + k) = [] ∧ Raised 233 s t ∧
           KeepsBut [evfBlock, fltBlock] [F.CLK_CACHE_MON_FAIL.key k 0, F.CLK_CACHE_CEIL_FIELD.key k 0, F.CLK_CACHE_EFF.key k 0, F.CLK_CACHE_CAPPED.key k 0, F.ALM_LIFE_PTR.key 0 0,
             F.ALM_LIFE_SEQ.key 0 0] s t ∧
           t = { s with regs := t.regs, clk := { s.clk with mon := t.clk.mon }, mgt := t.mgt, flt := t.flt, evf := t.evf, out := t.out, free := t.free })) ∧
     (∀ (s : State) (m : Nat), m < 12 → s.alive = true → s.calm (24 + m) → s.calm 233 → (tabGet [] s.clk.mon (48 + m)).length < 100 →
       Gives (.monitorSample (48 + m) true) s fun t =>
         CountsBy F.CLK_MBD_MON_FAIL 1 m 0 s t ∧
         (((tabGet [] s.clk.mon (48 + m)).filter id).length < 2 → tabGet [] t.clk.mon (48 + m) = tabGet [] s.clk.mon (48 + m) ++ [true]) ∧
         (2 ≤ ((tabGet [] s.clk.mon (48 + m)).filter id).length → tabGet [] t.clk.mon (48 + m) = [] ∧ Raised 233 s t) ∧
         KeepsBut [evfBlock, fltBlock] [F.CLK_MBD_MON_FAIL.key m 0] s t ∧
         t = { s with regs := t.regs, clk := { s.clk with mon := t.clk.mon }, flt := t.flt, evf := t.evf, out := t.out, free := t.free })) ∧
  (∀ (s : State) (src : Iface) (v : Nat), s.clocked → s.logFull = false → v < 2 ^ 32 → bit v 8 = true →
       (s.get F.TRN_NUM + 2 ≤ s.get F.CLK_PLAN_AT_AT →
         Gives (.arm src v) s fun t =>
           t.clk.plan = some (s.get F.CLK_PLAN_AT_AT, v % 8, v / 16 % 4) ∧ t.get F.CLK_STAT_PLAN_PENDING = 1 ∧ t.get F.CLK_PLAN_CMP_STEP = v % 8 ∧ t.get F.CLK_PLAN_CACHE_STEP = v / 16 % 4 ∧
           KeepsBut [(0x2000008, 0x2000009)] (logKeys ++ [F.CLK_STAT_PLAN_PENDING.key 0 0]) s t ∧
           t = { s with regs := t.regs, mgt := { s.mgt with pend := t.mgt.pend }, clk := { s.clk with plan := t.clk.plan, loaded := false }, out := [] }) ∧
       (s.get F.CLK_PLAN_AT_AT < s.get F.TRN_NUM + 2 →
         Gives (.arm src v) s fun t =>
           t.get F.CLK_STAT_PLAN_ERR = 1 ∧ KeepsBut [(0x2000008, 0x2000009)] (logKeys ++ [F.CLK_STAT_PLAN_ERR.key 0 0]) s t ∧
           t = { s with regs := t.regs, mgt := { s.mgt with pend := t.mgt.pend }, out := [] })) ∧
  (∀ (s : State) (src : Iface) (v : Nat), s.clocked → s.logFull = false → v < 2 ^ 32 → bit v 2 = true → bit v 1 = false →
       Gives (.ceilRestore src v) s fun t =>
         (∀ k, k < 24 → t.get F.CLK_DIE_CEIL_FIELD k = s.get F.CLK_DIE_CEIL_TRIM k % 8 ∧ t.get F.CLK_CACHE_CEIL_FIELD k = s.get F.CLK_CACHE_CEIL_TRIM k % 4 ∧
           t.get F.CLK_DIE_EFF k ≤ t.get F.CLK_DIE_CEIL_FIELD k ∧ t.get F.CLK_CACHE_EFF k ≤ t.get F.CLK_CACHE_CEIL_FIELD k) ∧
         KeepsBut [(0x2000000, 0x2000001), (0x2000100, 0x2000600)] logKeys s t ∧ t = { s with regs := t.regs, clk := t.clk, trn := t.trn, mgt := { s.mgt with pend := t.mgt.pend }, out := [] })

/-! ## Light and rings -/

/-- R112, R105, R109: with the loop closed and every module as its steps ask, the light start brings up all eight lines, P0 to P5 on feeds 0 to 5 and P6 and P7 as spares, and waits at step 8
for warm sites; with the loop open it stops at step 1 with every line released, suspends the boot watchdog, and is repeated; a start that stopped at step 1 or 3 is tried again after 1 s, and comes as far as a first one where everything is as its steps ask. A module that does not answer
fails the boot.

R441, R461, R474: a site that has not reached 40 °C 30 s into the prewarm is retired for the start.
That the retry of a stopped start runs steps 1 and 2 again before step 3, and for which map the rings are locked, are the model's choices (log entries 144, 43). -/
def Obligations.LightStarts : Prop :=
  ((∀ (s : State) (mods : List ModRead), s.alive = true → s.get F.FLT_BOOT_STEP = 4 → s.light.step = 0 → s.get F.MGT_STAT_CROUPIER = 0 → s.get F.FLT_STAT_STATE = 0 →
       s.light.keep = false → s.get F.TWK_STAT_INTLK = 1 → s.sitesWarm = false →
       (∀ n, n < 8 → let r := mods.getD n {}
         r.answers = true ∧ r.type = 0x4C53 ∧ r.intlk = true ∧ 15 ≤ r.temp ∧ r.temp ≤ 70 ∧ r.taps = [n] ∧ r.grid = true ∧ tonesOk r = true) →
       Gives (.lightStart mods true) s fun t =>
         t.light.step = 7 ∧ t.get F.TWK_STAT_LIGHT = 1 ∧ t.get F.TWK_STAT_START_ERR = 0 ∧ t.get F.TWK_STAT_SPARES = 2 ∧
         (∀ n, n < 8 → t.get F.TWK_ELS_EN n = 1 ∧ t.get F.TWK_ELS_ROLE n = (if n < 6 then 3 else 4) ∧ t.get F.TWK_ELS_FEED n = (if n < 6 then n else 7)) ∧
         (∀ f, f < 6 → t.get F.TWK_FEED_SLOT f = f ∧ t.get F.TWK_FEED_STATE f = 0) ∧
         KeepsBut [evfBlock, (0x1600000, 0x1600300)] [] s t ∧ t = { s with regs := t.regs, light := t.light, boot := { s.boot with suspend := false }, evf := t.evf, out := t.out, free := t.free }) ∧
     (∀ (s : State) (mods : List ModRead) (ok : Bool), s.alive = true → s.get F.FLT_BOOT_STEP = 4 → s.light.step = 0 → s.get F.MGT_STAT_CROUPIER = 0 → s.get F.FLT_STAT_STATE = 0 →
       s.get F.TWK_STAT_INTLK ≠ 1 →
       Gives (.lightStart mods ok) s fun t =>
         t.light.step = 1 ∧ t.get F.TWK_STAT_LIGHT = 4 ∧ t.get F.TWK_STAT_START_ERR = 4 ∧ t.boot.suspend = true ∧
         (∀ n, n < 8 → t.get F.TWK_ELS_EN n = 0 ∧ t.get F.TWK_ELS_ROLE n = b2n (mods.getD n {}).answers) ∧
         KeepsBut [(0x1600000, 0x1600300)] [] s t ∧ t = { s with regs := t.regs, light := t.light, boot := { s.boot with suspend := true }, out := t.out }) ∧
     (∀ (s : State) (mods : List ModRead), s.alive = true → s.patience = false → s.light.step = 1 ∨ s.light.step = 3 → s.light.keep = false → s.get F.TWK_STAT_INTLK = 1 →
       s.sitesWarm = false → (∀ n, n < 8 → let r := mods.getD n {}
         r.answers = true ∧ r.type = 0x4C53 ∧ r.intlk = true ∧ 15 ≤ r.temp ∧ r.temp ≤ 70 ∧ r.taps = [n] ∧ r.grid = true ∧ tonesOk r = true) →
       Gives (.lightStartRetry mods true) s fun t =>
         t.now = max s.now (s.light.since + 1000000000) ∧ t.light.step = 7 ∧ t.get F.TWK_STAT_LIGHT = 1 ∧ t.get F.TWK_STAT_START_ERR = 0 ∧ t.get F.TWK_STAT_SPARES = 2 ∧
         (∀ n, n < 8 → t.get F.TWK_ELS_EN n = 1 ∧ t.get F.TWK_ELS_ROLE n = (if n < 6 then 3 else 4) ∧ t.get F.TWK_ELS_FEED n = (if n < 6 then n else 7)) ∧
         (∀ f, f < 6 → t.get F.TWK_FEED_SLOT f = f ∧ t.get F.TWK_FEED_STATE f = 0) ∧ KeepsBut [evfBlock, (0x1600000, 0x1600300)] [] s t ∧
         t = { s with now := t.now, regs := t.regs, light := t.light, boot := { s.boot with suspend := false }, evf := t.evf, out := t.out, free := t.free }) ∧
     (∀ (s : State) (mods : List ModRead) (ok : Bool), s.alive = true → s.patience = false → s.light.step = 1 ∨ s.light.step = 3 → s.get F.TWK_STAT_INTLK ≠ 1 →
       Gives (.lightStartRetry mods ok) s fun t =>
         t.now = max s.now (s.light.since + 1000000000) ∧ t.light.step = 1 ∧ t.light.since = t.now ∧ t.get F.TWK_STAT_LIGHT = 4 ∧ t.get F.TWK_STAT_START_ERR = 4 ∧
         (∀ n, n < 8 → t.get F.TWK_ELS_EN n = 0) ∧ KeepsBut [(0x1600000, 0x1600300)] [] s t ∧ t.mem = s.mem) ∧
     (∀ (s : State) (mods : List ModRead) (ok : Bool), s.alive = true → s.get F.FLT_BOOT_STEP = 4 → s.light.step = 0 → s.get F.MGT_STAT_CROUPIER = 0 → s.get F.FLT_STAT_STATE = 0 →
       s.light.keep = false → s.get F.TWK_STAT_INTLK = 1 → (mods.getD 0 {}).answers = false → 3 ≤ s.get F.FLT_BOOT_FAILS →
       Gives (.lightStart mods ok) s fun t =>
         t.get F.FLT_STAT_STATE = 3 ∧ t.get F.FLT_BOOT_LAST_REASON = 4 ∧ t.get F.TWK_STAT_START_ERR = 1 ∧ t.get F.TWK_STAT_ERR_SLOT = 0 ∧ (∀ n, n < 8 → t.get F.TWK_ELS_EN n = 0) ∧ t.mem = s.mem)) ∧
  (∀ (s : State) (k t0 : Nat), k < 40 → s.alive = true → s.mild → s.thm.prewarm = some t0 → s.present k = true → s.get F.FLT_DOM0_STATE (24 + k) < 3 →
       s.get F.SKY_STN_STATUS_STATE k ≠ 6 → s.thm.warmed.contains k = false →
       Gives (.prewarmTimeout k) s fun t =>
         t.now = max s.now (t0 + 30000000000) ∧ t.get F.FLT_DOM0_STATE (24 + k) = 3 ∧ t.retired k = true ∧ t.get F.SKY_STN_STATUS_STATE k = 6 ∧ t.get F.FLT_SRC_STICKY 247 = 1 ∧
         (s.cmp.passes = [] → t.mem = s.mem ∧ t.poison = s.poison))

/-- R104, R105, R110, R111, R131, R136, R483: what a read of a module, a finished mode change, the spares' check and a module's detection leave. A line follows its
enable request while the loop is closed and the case stands at 15 °C or more; a module at 70 °C loses its request and its line; one that does not answer is ABSENT, unless it
feeds; a set point above LASER_CAP is ordered back to it; a spare that fails its check, or shows the wrong power on its dump arm, is FAILED with its line released; a module that passes its checks is a spare in standby on a dump arm.
The model's choices in it: when a line is asserted (log entry 118), a module found while the loop is open (205), that no module is polled before boot step 4 (219), and what the lifetime counters count (222). -/
def Obligations.LaserModules : Prop :=
  (∀ (s : State) (n : Nat) (r : ModRead), s.alive = true → s.get F.FLT_BOOT_STEP < 4 → Gives (.modulePoll n r) s fun t => t = s.fresh) ∧
  (∀ (s : State) (n : Nat) (r : ModRead), n < 8 → s.alive = true → 4 ≤ s.get F.FLT_BOOT_STEP → r.answers = true → -128 ≤ r.temp → r.temp < 70 →
    s.get F.TWK_ELS_ROLE n ≠ 3 ∨ 6 ≤ s.get F.TWK_ELS_FEED n ∨ (r.grid = true ∧ r.fault = false ∧ r.intlk = true ∧ r.temp < 67) →
    Gives (.modulePoll n r) s fun t =>
      t.get F.TWK_ELS_PRESENT n = 1 ∧ t.get F.TWK_ELS_LOCAL_INTLK n = b2n r.intlk ∧ t.get F.TWK_ELS_GRID_LOCK n = b2n r.grid ∧
      t.get F.TWK_ELS_EN n = b2n (s.light.asks.contains n && s.isSet F.TWK_STAT_INTLK && decide (15 ≤ r.temp)) ∧
      t.get F.TWK_ELS_CASE_T n = ofSigned 8 r.temp % 2 ^ 8 ∧ t.get F.TWK_ELS_OUT_PWR n = ofSigned 16 (outPower r) % 2 ^ 16 ∧ t.get F.TWK_ELS_TAP n = ofSigned 16 (r.tap - s.refOf (.input n)) % 2 ^ 16 ∧
      t.out = (if s.laserCap < r.setPt then [.module n 5 (ofSigned 16 s.laserCap)] else []) ∧ tabGet 0 t.light.setPts n = min r.setPt s.laserCap ∧
      Keeps [F.TWK_ELS_PRESENT.key n 0, F.TWK_ELS_EN.key n 0, F.TWK_ELS_LOCAL_INTLK.key n 0, F.TWK_ELS_GRID_LOCK.key n 0, F.TWK_ELS_CASE_T.key n 0, F.TWK_ELS_OUT_PWR.key n 0,
        F.TWK_ELS_TAP.key n 0] s t ∧
      (∀ o, tabGet 0 t.mgt.life o = tabGet 0 s.mgt.life o + (if (o = 0x3CC0 + 32 * n ∧ tabGet 0 s.light.modes n = 2) ∨ (o = 0x3CC4 + 32 * n ∧ tabGet 0 s.light.modes n = 1) then 1 else 0)) ∧
      t = { s with regs := t.regs, light := { s.light with setPts := t.light.setPts }, mgt := { s.mgt with life := t.mgt.life }, out := t.out }) ∧
  (∀ (s : State) (n : Nat) (r : ModRead), n < 8 → s.alive = true → 4 ≤ s.get F.FLT_BOOT_STEP → r.answers = false →
    Gives (.modulePoll n r) s fun t =>
      t.get F.TWK_ELS_PRESENT n = 0 ∧ (s.get F.TWK_ELS_ROLE n = 3 → Keeps [F.TWK_ELS_PRESENT.key n 0] s t ∧ t.light = s.light) ∧
      (s.get F.TWK_ELS_ROLE n ≠ 3 → t.get F.TWK_ELS_ROLE n = 0 ∧ t.get F.TWK_ELS_EN n = 0 ∧ t.light.asks.contains n = false) ∧
      Keeps [F.TWK_ELS_PRESENT.key n 0, F.TWK_ELS_ROLE.key n 0, F.TWK_ELS_EN.key n 0, F.TWK_STAT_SPARES.key 0 0] s t ∧
      t = { s with regs := t.regs, light := { s.light with asks := t.light.asks }, out := [] }) ∧
  (∀ (s : State) (n : Nat) (r : ModRead), n < 8 → s.alive = true → 4 ≤ s.get F.FLT_BOOT_STEP → r.answers = true → 70 ≤ r.temp → s.get F.TWK_ELS_ROLE n ≠ 3 →
    Gives (.modulePoll n r) s fun t =>
      t.get F.TWK_ELS_EN n = 0 ∧ t.light.asks.contains n = false ∧ KeepsBut [(0x1600100 + 8 * n, 0x1600100 + 8 * n + 1)] [] s t ∧
      t = { s with regs := t.regs, light := { s.light with asks := t.light.asks, setPts := t.light.setPts }, mgt := { s.mgt with life := t.mgt.life }, out := t.out }) ∧
  (∀ (s : State) (n mode : Nat) (tap : Int), s.alive = true → (within1dB (tap - s.dumpRef n) = true ∨ mode ≠ 2 ∨ ∀ w ∈ s.light.swaps, w.spare ≠ n) →
    Gives (.moduleWriteDone n mode tap) s fun t =>
      tabGet 0 t.light.modes n = mode ∧ (6 ≤ s.light.net.getD n 0 → (Tap.dump (s.light.net.getD n 0 - 6), tap) ∈ t.light.taps) ∧
      t = { s with light := { s.light with modes := t.light.modes, taps := t.light.taps }, out := [] }) ∧
  (∀ (s : State) (n : Nat) (tap : Int) (w : Swap), n < 8 → s.alive = true → s.mild → within1dB (tap - s.dumpRef n) = false →
    s.light.swaps.find? (fun w => decide (w.spare = n) && !w.fast && w.step = 1 && w.donor.isNone) = some w →
    Gives (.moduleWriteDone n 2 tap) s fun t => t.get F.TWK_ELS_ROLE n = 5 ∧ t.get F.TWK_ELS_EN n = 0 ∧ (t.swapOf w.feed ≠ some w) ∧ t.mem = s.mem) ∧
  (∀ (s : State) (rs : List (Nat × ModRead)), s.alive = true → s.get F.MGT_STAT_CROUPIER ≠ 1 → (rs.map fun p => p.1).Nodup →
    Gives (.spareCheck rs) s fun t =>
      (∀ n r, n < 8 → (n, r) ∈ rs → n ∈ s.spares → s.spareOk n r = false → t.get F.TWK_ELS_ROLE n = 5 ∧ t.get F.TWK_ELS_EN n = 0 ∧ tabGet 0 t.light.modes n = 0) ∧
      (∀ n r, n < 8 → (n, r) ∈ rs → n ∈ s.spares → s.spareOk n r = true → t.get F.TWK_ELS_ROLE n = 4 ∧ t.get F.TWK_ELS_EN n = s.get F.TWK_ELS_EN n) ∧
      (∀ n, n < 8 → (∀ p ∈ rs, p.1 ≠ n) ∨ n ∉ s.spares → t.get F.TWK_ELS_ROLE n = s.get F.TWK_ELS_ROLE n ∧ t.get F.TWK_ELS_EN n = s.get F.TWK_ELS_EN n) ∧
      KeepsBut [(0x1600100, 0x1600140)] [F.TWK_STAT_SPARES.key 0 0] s t ∧
      t = { s with regs := t.regs, light := { s.light with modes := t.light.modes, asks := t.light.asks, setPts := t.light.setPts, taps := t.light.taps }, out := t.out }) ∧
  (∀ (s : State) (n : Nat) (r : ModRead), n < 8 → s.alive = true → s.get F.TWK_ELS_ROLE n ∈ [0, 1, 5] → s.get F.MGT_STAT_CROUPIER ≠ 1 → s.get F.TWK_STAT_INTLK = 1 →
    r.answers = true → r.type = 0x4C53 → r.intlk = true → 15 ≤ r.temp → r.temp ≤ 70 → r.taps = [n] → r.grid = true → tonesOk r = true → s.light.net.length = 8 →
    Gives (.moduleDetect n r) s fun t =>
      t.get F.TWK_ELS_ROLE n = 4 ∧ t.get F.TWK_ELS_EN n = 1 ∧ .module n 4 1 ∈ t.out ∧ (r.setPt ≤ s.laserCap → t.out = [.module n 4 1]) ∧ tabGet 0 t.light.modes n = 1 ∧
      6 ≤ t.light.net.getD n 0 ∧ (∀ m, m ≠ n → t.light.net.getD m 0 = s.light.net.getD m 0) ∧
      KeepsBut [(0x1600100 + 8 * n, 0x1600100 + 8 * n + 1)] [F.TWK_STAT_SPARES.key 0 0] s t ∧
      t = { s with regs := t.regs, light := { s.light with modes := t.light.modes, asks := t.light.asks, setPts := t.light.setPts, net := t.light.net }, out := t.out }) ∧
  (∀ (s : State) (n : Nat) (r : ModRead), n < 8 → s.alive = true → s.get F.TWK_ELS_ROLE n ∈ [0, 1, 5] → s.get F.MGT_STAT_CROUPIER ≠ 1 → s.get F.TWK_STAT_INTLK ≠ 1 →
    Gives (.moduleDetect n r) s fun t =>
      t.get F.TWK_ELS_ROLE n = 5 ∧ t.get F.TWK_ELS_EN n = 0 ∧ t.get F.TWK_STAT_START_ERR = 4 ∧ t.get F.TWK_STAT_ERR_SLOT = n ∧
      KeepsBut [(0x1600100 + 8 * n, 0x1600100 + 8 * n + 1)] [F.TWK_STAT_START_ERR.key 0 0, F.TWK_STAT_ERR_SLOT.key 0 0, F.TWK_STAT_SPARES.key 0 0] s t ∧
      t = { s with regs := t.regs, light := { s.light with asks := t.light.asks, setPts := t.light.setPts }, out := t.out })

/-- R128 to R130, R133, R136: a sample of a feed's input tap makes its fade, the power of the last millisecond against the reference, and its slope. A fade above −1.0 dB is only shown; from −1.0 dB on
the feed is in WARN and source 226 is raised; from −2.0 dB on a slow swap onto the lowest spare is pending, and a feed that was OK before raises 226 too; a fall of 3 dB between two samples, or
−2.0 dB with a slope faster than 0.5 dB/s, begins a fast swap. Without a spare (R134) a bulk orbit shows NOSPARE and goes on, and at −3.5 dB or on a fast-swap cause is dropped, its module
failed; O0 and the trunks take the module of the lowest-priority bulk orbit still lit, and where none is lit the part enters Fold at −3.5 dB or on a fast-swap cause. SWAP_GO orders a slow swap where a spare is free; COMMISSION asks for a reference.

R131, R133: the steps of a slow and of a fast swap. The crossbar moves exchange the two inputs at their times; a tap check that fails is repeated once; a swap that passes puts the spare on the feed,
fails the old module and is counted; one that fails twice puts the old input back and fails the spare. A fast swap that fails twice starts again with the other spare, or its feed has none.
The model's choices in it: where the old input of a donor's module goes (log entry 142), a cause on a feed whose slow swap is under way (143), what a feed put back shows (145), and how fade and slope are averaged (174). -/
def Obligations.LaserSwaps : Prop :=
  ((∀ (s u : State) (f n : Nat) (tap : Int) (splits : List (Nat × Int)) (dumps : List Int), f < 6 → s.alive = true → s.get F.TWK_FEED_STATE f ≠ 5 →
       n = s.get F.TWK_FEED_SLOT f → u = s.sampleTap n tap →
       let shown : List Nat := [F.TWK_FEED_FADE.key f 0, F.TWK_FEED_SLOPE.key f 0, F.TWK_ELS_TAP.key n 0]
       let kept (t : State) : Light := { s.light with samples := u.light.samples, fades := t.light.fades, taps := t.light.taps }
       let sampled (t : State) : Prop :=
         t.get F.TWK_FEED_FADE f = ofSigned 16 (u.fadeOf n) % 2 ^ 16 ∧ t.get F.TWK_FEED_SLOPE f = ofSigned 16 (u.slopeOf n) % 2 ^ 16 ∧
         t.get F.TWK_ELS_TAP n = ofSigned 16 (tap - s.refOf (.input n)) % 2 ^ 16 ∧ t.now = u.now ∧ t.light.samples = u.light.samples ∧ tabGet [] t.light.fades n = u.fadesOf n
       (-100 < u.fadeOf n → u.fallOf n < 300 →
         Gives (.fadeSample f tap splits dumps) s fun t => sampled t ∧ Keeps shown s t ∧ t = { s with now := t.now, regs := t.regs, light := kept t, out := [] }) ∧
       (s.calm 226 → s.get F.TWK_FEED_STATE f = 0 → -200 < u.fadeOf n → u.fadeOf n ≤ -100 → u.fallOf n < 300 →
         Gives (.fadeSample f tap splits dumps) s fun t =>
           sampled t ∧ t.get F.TWK_FEED_STATE f = 1 ∧ Raised 226 s t ∧ KeepsBut [evfBlock, fltBlock] (F.TWK_FEED_STATE.key f 0 :: shown) s t ∧
           t = { s with now := t.now, regs := t.regs, light := kept t, flt := t.flt, evf := t.evf, out := t.out, free := t.free }) ∧
       (∀ (m : Nat) (ns : List Nat), s.calm 226 → s.swapOf f = none → s.spares = m :: ns → u.fadeOf n ≤ -200 → -500 ≤ u.slopeOf n → u.fallOf n < 300 →
         Gives (.fadeSample f tap splits dumps) s fun t =>
           sampled t ∧ t.get F.TWK_FEED_STATE f = 2 ∧ t.swapOf f = some { feed := f, fast := false, step := 1, old := n, spare := m, since := u.now } ∧ .module m 4 2 ∈ t.out ∧
           (s.get F.TWK_FEED_STATE f = 0 → Raised 226 s t) ∧ KeepsBut [evfBlock, fltBlock] (F.TWK_FEED_STATE.key f 0 :: shown) s t ∧
           t = { s with now := t.now, regs := t.regs, light := { kept t with swaps := t.light.swaps }, flt := t.flt, evf := t.evf, out := t.out, free := t.free }) ∧
       (∀ (m : Nat) (ns : List Nat), s.mild → s.swapOf f = none → s.spares = m :: ns → 300 ≤ u.fallOf n ∨ (u.fadeOf n ≤ -200 ∧ u.slopeOf n < -500) →
         Gives (.fadeSample f tap splits dumps) s fun t =>
           sampled t ∧ t.get F.TWK_FEED_STATE f = 3 ∧ t.swapOf f = some { feed := f, fast := true, step := 1, old := n, spare := m, since := u.now } ∧ .module m 4 2 ∈ t.out ∧
           t.light.stopped.contains f = true ∧ (f < 4 ∨ s.cmp.passes = [] → t.mem = s.mem)) ∧
       (let fast : Prop := 300 ≤ u.fallOf n ∨ (u.fadeOf n ≤ -200 ∧ u.slopeOf n < -500)
        s.mild → s.spares = [] → s.light.swaps = [] →
         (f ∈ [1, 2, 3] → ¬fast → -350 < u.fadeOf n → u.fadeOf n ≤ -200 →
           Gives (.fadeSample f tap splits dumps) s fun t =>
             sampled t ∧ t.get F.TWK_FEED_STATE f = 4 ∧ (s.get F.TWK_FEED_STATE f ≠ 4 → Raised 227 s t) ∧ t.get F.TWK_FEED_SLOT f = n ∧ t.get F.TWK_ELS_ROLE n = s.get F.TWK_ELS_ROLE n ∧
             t.light.swaps = [] ∧ t.sky = s.sky ∧ t.mem = s.mem) ∧
         (f ∈ [1, 2, 3] → fast ∨ u.fadeOf n ≤ -350 →
           Gives (.fadeSample f tap splits dumps) s fun t =>
             sampled t ∧ t.get F.TWK_FEED_STATE f = 5 ∧ t.get F.TWK_FEED_SLOT f = 7 ∧ t.get F.TWK_ELS_ROLE n = 5 ∧ t.get F.TWK_ELS_EN n = 0 ∧ .module n 4 0 ∈ t.out ∧
             t.light.stopped.contains f = false ∧ (∀ c ∈ t.sky.chans, c.orbit = f → c.state = 3 ∨ c.state = 4) ∧ t.light.swaps = [] ∧ t.mem = s.mem) ∧
         (∀ o, f ∈ [0, 4, 5] → s.donorOrbit = some o → fast ∨ u.fadeOf n ≤ -200 →
           Gives (.fadeSample f tap splits dumps) s fun t =>
             sampled t ∧ t.swapOf f = some { feed := f, fast := false, step := 1, old := n, spare := s.get F.TWK_FEED_SLOT o, since := 0, donor := some o } ∧
             (fast → t.get F.TWK_FEED_STATE f = 3 ∧ t.light.stopped.contains f = true) ∧ (¬fast → s.light.stopped.contains f = false → t.get F.TWK_FEED_STATE f = 2) ∧
             (f < 4 ∨ s.cmp.passes = [] → t.mem = s.mem)) ∧
         (f ∈ [0, 4, 5] → s.donorOrbit = none → fast ∨ u.fadeOf n ≤ -350 → s.inService = true → s.get F.FLT_STAT_STATE = 0 →
           Gives (.fadeSample f tap splits dumps) s fun t =>
             sampled t ∧ t.get F.FLT_STAT_STATE = 1 ∧ t.get F.FLT_STAT_FAULT = 1 ∧ t.flt.dumps = s.flt.dumps ++ [{ src := 227, kind := 1, transit := s.get F.TRN_NUM }] ∧
             (f < 4 ∨ s.cmp.passes = [] → t.mem = s.mem)) ∧
         (f ∈ [0, 4, 5] → s.donorOrbit = none → ¬fast → -350 < u.fadeOf n → u.fadeOf n ≤ -200 →
           Gives (.fadeSample f tap splits dumps) s fun t =>
             sampled t ∧ t.light.swaps = [] ∧ t.get F.FLT_STAT_STATE = s.get F.FLT_STAT_STATE ∧ t.sky = s.sky ∧ t.mem = s.mem))) ∧
     (∀ (s : State) (src : Iface) (v f n : Nat) (ns : List Nat), s.clocked → s.logFull = false → v < 2 ^ 32 → bit v 2 = true → bit v 1 = false → v / 16 % 8 = f → f < 6 → s.swapOf f = none → s.spares = n :: ns →
       Gives (.swapGo src v) s fun t =>
         t.get F.TWK_FEED_STATE f = 2 ∧ .module n 4 2 ∈ t.out ∧
         t.swapOf f = some { feed := f, fast := false, step := 1, old := if s.get F.TWK_FEED_STATE f = 5 then 8 else s.get F.TWK_FEED_SLOT f, spare := n, since := s.now } ∧
         KeepsBut [evfBlock, (0x1600000, 0x1600001)] (logKeys ++ [F.TWK_FEED_STATE.key f 0]) s t ∧ t.mem = s.mem) ∧
     (∀ (s : State) (src : Iface) (v : Nat), s.clocked → s.logFull = false → v < 2 ^ 32 → bit v 2 = true → bit v 1 = false → 6 ≤ v / 16 % 8 ∨ s.spares = [] →
       Gives (.swapGo src v) s fun t => KeepsBut [(0x1600000, 0x1600001)] logKeys s t ∧ t = { s with regs := t.regs, mgt := { s.mgt with pend := t.mgt.pend }, out := [] }) ∧
     (∀ (s : State) (src : Iface) (v : Nat), s.clocked → s.logFull = false → v < 2 ^ 32 → bit v 2 = false → bit v 1 = true →
       Gives (.commission src v) s fun t =>
         t.light.commission = true ∧ t.get F.TWK_CTRL_FAILMODE = v % 2 ∧ KeepsBut [(0x1600000, 0x1600001)] logKeys s t ∧
         t = { s with regs := t.regs, light := { s.light with commission := true }, mgt := { s.mgt with pend := t.mgt.pend }, out := [] })) ∧
  (∀ (s : State) (f : Nat) (w : Swap), f < 6 → s.alive = true → s.mild → s.swapOf f = some w → w.feed = f → w.old < 8 → w.spare < 8 → w.old ≠ w.spare → s.light.net.length = 8 →
       (w.fast = false → w.step = 2 →
         Gives (.swapCrossbarMove f) s fun t =>
           t.swapOf f = some { w with step := 3 } ∧ t.light.net.getD w.old 0 = s.light.net.getD w.spare 0 ∧ t.light.net.getD w.spare 0 = s.light.net.getD w.old 0 ∧
           (∀ n, n ≠ w.old → n ≠ w.spare → t.light.net.getD n 0 = s.light.net.getD n 0) ∧ t.now = max s.now (w.since + 40) ∧ (f < 4 ∨ s.cmp.passes = [] → t.mem = s.mem) ∧
           (f < 4 → t = { s with now := t.now, light := t.light, out := [] })) ∧
       (w.fast = true → w.step = 1 →
         Gives (.fastSwapCrossbarMove f) s fun t =>
           t.swapOf f = some { w with step := 3 } ∧ t.light.net.getD w.old 0 = s.light.net.getD w.spare 0 ∧ t.light.net.getD w.spare 0 = s.light.net.getD w.old 0 ∧
           t.now = max s.now (w.since + 2000) ∧ t = { s with now := t.now, light := t.light, out := [] }) ∧
       (∀ taps, w.fast = false → w.step = 3 → w.again = false →
         (s.tapsGood f taps = true →
           Gives (.swapTapCheck f taps) s fun t => t.swapOf f = some { w with step := 4 } ∧ t.now = max s.now (w.since + 2040) ∧ t = { s with now := t.now, light := { s.light with swaps := t.light.swaps, taps := t.light.taps }, out := [] }) ∧
         (s.tapsGood f taps = false →
           Gives (.swapTapCheck f taps) s fun t => t.swapOf f = some { w with again := true } ∧ t.now = max s.now (w.since + 2040) ∧ t = { s with now := t.now, light := { s.light with swaps := t.light.swaps, taps := t.light.taps }, out := [] })) ∧
       (∀ taps, w.fast = false → w.step = 3 → w.again = true →
         (s.tapsGood f taps = true →
           Gives (.swapTapCheck f taps) s fun t => t.swapOf f = some { w with step := 4 } ∧ t.now = max s.now (w.since + 5540) ∧ t = { s with now := t.now, light := { s.light with swaps := t.light.swaps, taps := t.light.taps }, out := [] }) ∧
         (s.tapsGood f taps = false →
           Gives (.swapTapCheck f taps) s fun t =>
             t.swapOf f = some { w with step := 5 } ∧ t.light.net.getD w.old 0 = s.light.net.getD w.spare 0 ∧ t.light.net.getD w.spare 0 = s.light.net.getD w.old 0 ∧
             t.now = max s.now (w.since + 5540) ∧ t = { s with now := t.now, light := t.light, out := [] })) ∧
       (∀ taps, w.fast = false → w.step = 5 →
         Gives (.swapTapCheck f taps) s fun t => t.swapOf f = some { w with step := 6 } ∧ t.now = max s.now (w.since + 9040) ∧ t = { s with now := t.now, light := { s.light with swaps := t.light.swaps, taps := t.light.taps }, out := [] }) ∧
       (∀ taps, w.fast = true → w.step = 3 → w.again = false →
         (s.tapsGood f taps = true →
           Gives (.fastSwapTapCheck f taps) s fun t => t.swapOf f = some { w with step := 4 } ∧ t.now = max s.now (w.since + 17000) ∧ t = { s with now := t.now, light := { s.light with swaps := t.light.swaps, taps := t.light.taps }, out := [] }) ∧
         (s.tapsGood f taps = false →
           Gives (.fastSwapTapCheck f taps) s fun t => t.swapOf f = some { w with again := true } ∧ t.now = max s.now (w.since + 17000) ∧ t = { s with now := t.now, light := { s.light with swaps := t.light.swaps, taps := t.light.taps }, out := [] })) ∧
       (∀ taps, w.fast = true → w.step = 3 → w.again = true →
         (s.tapsGood f taps = true →
           Gives (.fastSwapTapCheck f taps) s fun t => t.swapOf f = some { w with step := 4 } ∧ t.now = max s.now (w.since + 19000) ∧ t = { s with now := t.now, light := { s.light with swaps := t.light.swaps, taps := t.light.taps }, out := [] }) ∧
         (s.tapsGood f taps = false → w.donor = none → s.light.swaps = [w] →
           (∀ (m : Nat) (ns : List Nat), s.spares = m :: ns →
             Gives (.fastSwapTapCheck f taps) s fun t =>
               t.swapOf f = some { feed := f, fast := true, step := 1, old := s.get F.TWK_FEED_SLOT f, spare := m, since := t.now } ∧ t.now = max s.now (w.since + 19000) ∧
               t.get F.TWK_ELS_ROLE w.spare = 5 ∧ t.get F.TWK_ELS_EN w.spare = 0 ∧ .module w.spare 4 0 ∈ t.out ∧ .module m 4 2 ∈ t.out ∧ t.get F.TWK_FEED_STATE f = 3 ∧
               t.light.net.getD w.old 0 = s.light.net.getD w.spare 0 ∧ t.light.net.getD w.spare 0 = s.light.net.getD w.old 0 ∧ t.light.stopped.contains f = true ∧
               Raised 227 s t ∧ (f < 4 ∨ s.cmp.passes = [] → t.mem = s.mem)) ∧
           (s.spares = [] → f ∈ [1, 2, 3] →
             Gives (.fastSwapTapCheck f taps) s fun t =>
               t.swapOf f = none ∧ t.now = max s.now (w.since + 19000) ∧ t.get F.TWK_ELS_ROLE w.spare = 5 ∧ t.get F.TWK_ELS_ROLE (s.get F.TWK_FEED_SLOT f) = 5 ∧
               t.get F.TWK_FEED_STATE f = 5 ∧ t.get F.TWK_FEED_SLOT f = 7 ∧ t.light.stopped.contains f = false ∧
               (∀ c ∈ t.sky.chans, c.orbit = f → c.state = 3 ∨ c.state = 4) ∧ t.mem = s.mem))) ∧
       (w.step = 4 → w.donor = none →
         ∀ c ∈ (if w.fast then [Instr.fastSwapResume f] else [.swapPauseEnd f]),
         Gives c s fun t =>
           t.swapOf f = none ∧ t.get F.TWK_FEED_SLOT f = w.spare ∧ t.get F.TWK_FEED_STATE f = 0 ∧ t.get F.TWK_ELS_ROLE w.spare = 3 ∧ t.get F.TWK_ELS_FEED w.spare = f ∧
           t.get F.TWK_ELS_ROLE w.old = 5 ∧ t.get F.TWK_ELS_EN w.old = 0 ∧ CountsBy F.TWK_FEED_SWAPS 1 f 0 s t ∧ t.light.stopped.contains f = false ∧
           t.now = max s.now (w.since + (if w.fast then (if w.again then 22000 else 20000) else if w.again then 7040 else 3540)) ∧
           (w.fast = false → t.trn.pauseEnd = t.now) ∧ ((f < 4 ∧ s.light.later = []) ∨ s.cmp.passes = [] → t.mem = s.mem)) ∧
       (w.step = 6 → w.fast = false →
         Gives (.swapPauseEnd f) s fun t =>
           t.get F.TWK_ELS_ROLE w.spare = 5 ∧ t.get F.TWK_ELS_EN w.spare = 0 ∧ t.get F.FLT_SRC_STICKY 227 = 1 ∧ t.light.stopped.contains f = false ∧
           t.now = max s.now (w.since + 10540) ∧ t.trn.pauseEnd = t.now ∧ (t.spares = [] → f ∈ t.light.bare ∨ t.swapOf f ≠ none) ∧
           ((f < 4 ∧ s.light.later = []) ∨ s.cmp.passes = [] → t.mem = s.mem)))

/-- R115, R116, R119, R120, R121, R135: what ends a ring's sweep and its window. The ring locks at the peak nearest the setting the sweep is centred on, of those within its window; a
window that finds none is swept again. Of the tones that its decoder reads, the target's at 0.5 % or more with every other 12 dB below confirms it, another one stronger at 0.5 % counts an alias
and sweeps it again, the third in a row fails it, none at 0.5 % is a lost lock, which waits while a swap pauses the ring's feed, and anything else repeats the window once.

R117, R118, R121, R123, R124: what keeps a ring and what takes it away. An engine's visit moves the heater of its next ring by what the loop asks for, at most 16 codes, within its range, and holds and
counts it at an end of it; a level below half of that at confirmation is a lost lock; a heater open or short fails the ring, in a swap pause of its feed after the pause, as does a third failed relock within 20 ms; a check of a confirmed ring that fails is
counted. (Where rings of O1 to O3 still wait for those of O0 in the light start, R112 step 8, only rings of O0 are spoken of.)
The model's choices in it: the heater's codes and the distance of an alias (log entry 116), what a TWINKLE_VISIT carries (170), and a sweep without a peak (175). -/
def Obligations.Rings : Prop :=
  (∀ (s : State) (k i : Nat), k < 44 → i < 1024 → s.alive = true → s.mild → s.light.rest = false ∨ ringO0 i = true →
       (∀ n peaks, s.get F.TWK_RING_STATE k i = 2 → (∃ p ∈ peaks, p < 2 ^ 14 ∧ apart p (s.sweepAim k i).1 ≤ (s.sweepAim k i).2) →
         Gives (.ringSweepDone k i n peaks) s fun t =>
           t.get F.TWK_RING_HEATER k i ∈ peaks ∧ apart (t.get F.TWK_RING_HEATER k i) (s.sweepAim k i).1 ≤ (s.sweepAim k i).2 ∧
           (∀ p ∈ peaks, p < 2 ^ 14 → apart (t.get F.TWK_RING_HEATER k i) (s.sweepAim k i).1 ≤ apart p (s.sweepAim k i).1) ∧
           t.get F.TWK_RING_STATE k i = (if s.ringUsed k i then 3 else 1) ∧ ((i < 768 ∧ s.light.rest = false) ∨ s.cmp.passes = [] → t.mem = s.mem)) ∧
       (∀ n peaks, s.get F.TWK_RING_STATE k i = 2 → (∀ p ∈ peaks, 2 ^ 14 ≤ p ∨ (s.sweepAim k i).2 < apart p (s.sweepAim k i).1) →
         Gives (.ringSweepDone k i n peaks) s fun t =>
           t.get F.TWK_RING_STATE k i = 2 ∧ t.get F.TWK_RING_HEATER k i = s.get F.TWK_RING_HEATER k i ∧ (∃ r ∈ t.light.relocks, r.ring = ringKey k i) ∧
           (∀ x ∈ s.light.relocks, x.ring = ringKey k i → x.fail s.now ∈ t.light.relocks) ∧ ((i < 768 ∧ s.light.rest = false) ∨ s.cmp.passes = [] → t.mem = s.mem)) ∧
       (∀ (r : ToneRead) (n : Nat), s.get F.TWK_RING_STATE k i = 3 → s.light.reading.contains (ringKey k i) = true → n = s.ringTarget k i →
         (n < 32 → 50 ≤ r.tones.getD n 0 → (∀ m, m < 32 → m ≠ n → below12dB (r.tones.getD m 0) (r.tones.getD n 0) = true) →
           Gives (.toneDecodeDone k i r) s fun t =>
             t.get F.TWK_RING_STATE k i = 4 ∧ t.get F.TWK_RING_ALIASES k i = 0 ∧ t.get F.TWK_RING_HEATER k i = s.get F.TWK_RING_HEATER k i ∧ tabGet 0 t.light.sums (ringKey k i) = r.level ∧
             ((i < 768 ∧ s.light.rest = false) ∨ s.cmp.passes = [] → t.mem = s.mem)) ∧
         (n < 32 → 50 ≤ r.tones.getD n 0 → (∀ m, m < 32 → r.tones.getD m 0 ≤ r.tones.getD n 0) → (∃ m, m < 32 ∧ m ≠ n ∧ below12dB (r.tones.getD m 0) (r.tones.getD n 0) = false) →
           s.light.again.contains (ringKey k i) = false →
           Gives (.toneDecodeDone k i r) s fun t => t.light.again.contains (ringKey k i) = true ∧ t = { s with light := { s.light with again := t.light.again }, out := [] }) ∧
         ((∃ m, m < 32 ∧ 50 ≤ r.tones.getD m 0 ∧ r.tones.getD n 0 < r.tones.getD m 0) → s.get F.TWK_RING_ALIASES k i < 2 →
           Gives (.toneDecodeDone k i r) s fun t =>
             t.get F.TWK_RING_STATE k i = 2 ∧ t.get F.TWK_RING_ALIASES k i = s.get F.TWK_RING_ALIASES k i + 1 ∧ CountsBy F.TWK_ALIAS 1 k 0 s t ∧
             ((i < 768 ∧ s.light.rest = false) ∨ s.cmp.passes = [] → t.mem = s.mem)) ∧
         ((∃ m, m < 32 ∧ 50 ≤ r.tones.getD m 0 ∧ r.tones.getD n 0 < r.tones.getD m 0) → s.get F.TWK_RING_ALIASES k i = 2 →
           Gives (.toneDecodeDone k i r) s fun t =>
             t.get F.TWK_RING_STATE k i ∈ [5, 6] ∧ CountsBy F.TWK_ALIAS 1 k 0 s t ∧ CountsBy F.TWK_ALIAS_FAIL 1 k 0 s t ∧
             ((i < 768 ∧ s.light.rest = false) ∨ s.cmp.passes = [] → t.mem = s.mem)) ∧
         ((∀ m, m < 32 → r.tones.getD m 0 < 50) → s.ringPaused k i = false →
           Gives (.toneDecodeDone k i r) s fun t =>
             t.get F.TWK_RING_STATE k i = 2 ∧ CountsBy F.TWK_LOCKLOSS 1 k 0 s t ∧ (∃ x ∈ t.light.relocks, x.ring = ringKey k i) ∧
             ((i < 768 ∧ s.light.rest = false) ∨ s.cmp.passes = [] → t.mem = s.mem)) ∧
         ((∀ m, m < 32 → r.tones.getD m 0 < 50) → s.ringPaused k i = true →
           Gives (.toneDecodeDone k i r) s fun t => t.get F.TWK_RING_STATE k i = 3 ∧ t.light.later.contains (ringKey k i) = true))) ∧
  (∀ (s : State) (k i : Nat), k < 44 → i < 1024 → s.alive = true → s.mild →
       (∀ e a b : Nat, s.turn k e = some i →
         (s.get F.TWK_RING_STATE k i ≠ 4 ∨ tabGet 0 s.light.sums (ringKey k i) ≤ 2 * (a + b) → codeMin < s.get F.TWK_RING_HEATER k i → s.get F.TWK_RING_HEATER k i < codeMax →
           Gives (.twinkleVisit k e i a b) s fun t =>
             (t.get F.TWK_RING_HEATER k i : Int) =
               max (codeMin : Int) (min (codeMax : Int) (s.get F.TWK_RING_HEATER k i + max (-16) (min 16 (s.loopMove k i a b)))) ∧
             Keeps [F.TWK_RING_HEATER.key k i] s t ∧ t = { s with regs := t.regs, light := { s.light with turns := t.light.turns, visitT := t.light.visitT }, out := [] }) ∧
         (s.get F.TWK_RING_STATE k i ≠ 4 ∨ tabGet 0 s.light.sums (ringKey k i) ≤ 2 * (a + b) →
           (codeMax ≤ s.get F.TWK_RING_HEATER k i ∧ 0 < s.loopMove k i a b) ∨ (s.get F.TWK_RING_HEATER k i ≤ codeMin ∧ s.loopMove k i a b < 0) →
           Gives (.twinkleVisit k e i a b) s fun t =>
             CountsBy F.TWK_RANGE_END 1 k 0 s t ∧ KeepsBut [evfBlock, fltBlock] [F.TWK_RANGE_END.key k 0] s t ∧
             t = { s with regs := t.regs, light := { s.light with turns := t.light.turns, visitT := t.light.visitT }, flt := t.flt, evf := t.evf, out := t.out, free := t.free }) ∧
         (s.get F.TWK_RING_STATE k i = 4 → 2 * (a + b) < tabGet 0 s.light.sums (ringKey k i) → s.ringPaused k i = false →
           Gives (.twinkleVisit k e i a b) s fun t => t.get F.TWK_RING_STATE k i = 2 ∧ CountsBy F.TWK_LOCKLOSS 1 k 0 s t ∧ (i < 768 ∨ s.cmp.passes = [] → t.mem = s.mem)) ∧
         (s.get F.TWK_RING_STATE k i = 4 → 2 * (a + b) < tabGet 0 s.light.sums (ringKey k i) → s.ringPaused k i = true →
           Gives (.twinkleVisit k e i a b) s fun t =>
             t.light.later.contains (ringKey k i) = true ∧
             t = { s with light := { s.light with turns := t.light.turns, visitT := t.light.visitT, later := t.light.later }, out := [] })) ∧
       (∀ e a b : Nat, s.turn k e ≠ some i → Gives (.twinkleVisit k e i a b) s fun t => t = s.fresh) ∧
       (∀ short, s.hasRing k i = true → s.get F.TWK_RING_STATE k i ≠ 6 → s.ringPaused k i = true →
         Gives (.heaterFault k i short) s fun t =>
           t.get F.TWK_RING_STATE k i = s.get F.TWK_RING_STATE k i ∧ CountsBy F.TWK_HEATER_FAULT 1 k 0 s t ∧ t.light.later.contains (ringKey k i) = true ∧
           t.light.broken.contains (ringKey k i) = true ∧ (short = true → t.get F.FLT_SRC_STICKY (180 + k) = 1) ∧ t.mem = s.mem) ∧
       (∀ short, s.light.rest = false ∨ ringO0 i = true → s.hasRing k i = true → s.get F.TWK_RING_STATE k i ≠ 6 → s.ringPaused k i = false →
         Gives (.heaterFault k i short) s fun t =>
           t.get F.TWK_RING_STATE k i ∈ [5, 6] ∧ CountsBy F.TWK_HEATER_FAULT 1 k 0 s t ∧ CountsBy F.TWK_LOCKLOSS 1 k 0 s t ∧ (short = true → t.get F.FLT_SRC_STICKY (180 + k) = 1) ∧
           ((i < 768 ∧ s.light.rest = false) ∨ s.cmp.passes = [] → t.mem = s.mem)) ∧
       (∀ r, s.light.relocks.find? (fun r => decide (r.ring = ringKey k i)) = some r →
         (r.spent = true → s.light.rest = false ∨ ringO0 i = true →
           Gives (.relockTimeout k i) s fun t =>
             t.get F.TWK_RING_STATE k i ∈ [5, 6] ∧ (∀ x ∈ t.light.relocks, x.ring ≠ ringKey k i) ∧ ((i < 768 ∧ s.light.rest = false) ∨ s.cmp.passes = [] → t.mem = s.mem)) ∧
         (r.spent = false → Gives (.relockTimeout k i) s fun t => t = s.fresh)) ∧
       (∀ (r : ToneRead) (n : Nat), s.get F.TWK_RING_STATE k i = 4 → (s.light.reading.filter fun x => decide (x / 1024 = k)).length < 64 → n = s.ringTarget k i →
         (n < 32 → 50 ≤ r.tones.getD n 0 → (∀ m, m < 32 → m ≠ n → below12dB (r.tones.getD m 0) (r.tones.getD n 0) = true) → Gives (.idRecheck k i r) s fun t => t = s.fresh) ∧
         (r.tones.getD n 0 < 50 ∨ (∃ m, m < 32 ∧ m ≠ n ∧ below12dB (r.tones.getD m 0) (r.tones.getD n 0) = false) → s.ringPaused k i = false →
           Gives (.idRecheck k i r) s fun t =>
             t.get F.TWK_RING_STATE k i = 2 ∧ CountsBy F.TWK_ID_RECHECK_FAIL 1 k 0 s t ∧ CountsBy F.TWK_LOCKLOSS 1 k 0 s t ∧ (i < 768 ∨ s.cmp.passes = [] → t.mem = s.mem))))

/-! ## Optical matrix units -/

/-- R153 to R160, R157, R158, R448: what the scheduler does with the descriptor at HEAD. A malformed one ends BAD_DESC (7) and is counted, an empty one ends OK at once, one that no OMU of its mask serves
ends with status 2, each with its record in the cache die; one that the guard holds is counted and stays; else the pass begins on the OMU the rule chooses, whose state is BUSY.
HEAD moves past what was taken. The same once the guard's slot boundary has come, where no pass of the tile waits for its rerun. (Of a tile whose GEMMs have no further descriptor to write.)
The model's choices in it: the order in which a descriptor is looked at (log entry 112), that a pass reads its inputs when it starts (146), and OMU and END of a record of a pass that ran on no OMU (148). -/
def Obligations.PassesStart : Prop :=
  ∀ (s u : State) (k : Nat) (c : Instr) (d : List Byte), k < 24 → s.alive = true → s.mild →
    ((c = .passStart k ∧ u = s.fresh ∧ s.omus.guard.contains k = false) ∨ (c = .guardSlotRecheck k ∧ u = s.fresh.atLeast s.nextSlot ∧ s.omus.guard.contains k = true ∧ ∀ p ∈ s.cmp.passes, p.tile = k → p.waits = false)) →
    (∀ r ∈ s.cmp.runs, r.tile = k → r.todo = []) →
    s.get F.OMU_TILE_CTRL_HALT k ≠ 1 → u.groupAt k = some [d] → (dWait d = true → ∀ p ∈ s.cmp.passes, p.tile ≠ k) →
    let rec_ := cacheAt k (dOff d 28)
    let head := (s.get F.OMU_PQ_HEAD k + 1) % 256
    (descBad d = true → cplOk d = true → u.mirrorRuns rec_ 32 = [] →
      Gives c s fun t =>
        t.rdN rec_ 32 = passRecord 7 0 false false 0 0 (dTag d) u.now ∧ CountsBy F.OMU_BAD_DESC 1 k 0 s t ∧ t.get F.OMU_PQ_HEAD k = head ∧
        (∀ a, a < rec_ ∨ rec_ + 32 ≤ a → t.rd a = s.rd a) ∧ t.cmp.passes = s.cmp.passes) ∧
    (descBad d = true → cplOk d = false → Gives c s fun t => CountsBy F.OMU_BAD_DESC 1 k 0 s t ∧ t.get F.OMU_PQ_HEAD k = head ∧ t.mem = s.mem ∧ t.cmp.passes = s.cmp.passes) ∧
    (descBad d = false → dNvec d = 0 → u.mirrorRuns rec_ 32 = [] →
      Gives c s fun t =>
        t.rdN rec_ 32 = passRecord 0 0 false false 0 0 (dTag d) u.now ∧ t.get F.OMU_PQ_HEAD k = head ∧ (∀ a, a < rec_ ∨ rec_ + 32 ≤ a → t.rd a = s.rd a) ∧ t.cmp.passes = s.cmp.passes) ∧
    (descBad d = false → dNvec d ≠ 0 → (∀ v ∈ bitList 4 (dMask d), s.omuServes k v = false) → dFallback d = false → u.mirrorRuns rec_ 32 = [] →
      Gives c s fun t =>
        t.rdN rec_ 32 = passRecord 2 0 false false 0 0 (dTag d) u.now ∧ t.get F.OMU_PQ_HEAD k = head ∧ (∀ a, a < rec_ ∨ rec_ + 32 ≤ a → t.rd a = s.rd a) ∧ t.cmp.passes = s.cmp.passes) ∧
    (∀ o, descBad d = false → dNvec d ≠ 0 → u.omuFor k d = some o → u.admits k [d] = true → u.guarded k o d = true →
      Gives c s fun t => CountsBy F.OMU_GUARD_DELAY 1 k o s t ∧ t.omus.guard.contains k = true ∧ t.get F.OMU_PQ_HEAD k = s.get F.OMU_PQ_HEAD k ∧ t.mem = s.mem ∧ t.cmp.passes = s.cmp.passes) ∧
    (∀ o, descBad d = false → dNvec d ≠ 0 → u.omuFor k d = some o → u.admits k [d] = true → u.guarded k o d = false → s.get F.OMU_STAT_TEMP_OK k o = 1 →
      s.anyPoison (cacheAt k (dOff d 8)) 4160 = false → blockCrcOk (s.rdN (cacheAt k (dOff d 8)) 4160) = true →
      Gives c s fun t =>
        t.get F.OMU_STAT_STATE k o = 2 ∧ t.get F.OMU_STAT_CLASS k o = b2n (dFine d) ∧ t.get F.OMU_STAT_LEFT k o = dNvec d ∧ t.get F.OMU_PQ_HEAD k = head ∧
        (∃ p, t.cmp.passes = s.cmp.passes ++ [p] ∧ p.tile = k ∧ p.omu = o ∧ p.desc = d ∧ p.loaded = u.omuLoads k o d ∧ p.start = u.omuNext k o p.loaded ∧
          ((∀ q ∈ s.cmp.passes, q.runsOn k o = false) → p.start = u.now) ∧ p.waits = false ∧ p.redo = false ∧ p.outs.length = dNvec d) ∧
        t.mem = s.mem ∧ t.now = u.now)

/-- R142, R146, R157: the oldest pass of an OMU ends when its last output is written: its output and its record stand in the cache die, its vectors and itself are counted, and the OMU is READY when it
runs nothing else and no pilot waits (said where no pass of the tile waits for its rerun: one that waits may start here, R159). A pass on the compute die is counted as a fallback.
The model's choices in it: poison before CRC and the END of a record (log entry 112), that outputs are written at the pass's end (146), OMU and END of a fallback's record (148), a FALLBACK pass with poisoned inputs (147), and when VEC takes the vectors (179). -/
def Obligations.PassesEnd : Prop :=
  ∀ (s : State) (k o : Nat) (p : Pass) (rest : List Pass), k < 24 → s.alive = true → s.mild → s.cmp.passes = p :: rest → p.tile = k → p.omu = o → p.waits = false → cplOk p.desc = true →
    (∀ a n, s.mirrorRuns a n = []) →
    let rec_ := cacheAt k (dOff p.desc 28)
    (o < 4 → 0 < dNvec p.desc →
      Gives (.passComplete k o) s fun t =>
        t.now = max s.now (p.streamed + 242) ∧ CountsBy F.OMU_VEC (dNvec p.desc) k o s t ∧ CountsBy F.OMU_PASS 1 k o s t ∧
        ((∀ q ∈ rest, q.tile = k → q.waits = false) →
          t.rdN rec_ 32 = passRecord p.status o p.loaded p.redo p.sat p.bad (dTag p.desc) (t.now - 200) ∧
          (∀ x, p.outs = [x] → x.addr + x.bytes.length ≤ rec_ ∨ rec_ + 32 ≤ x.addr → t.rdN x.addr x.bytes.length = x.bytes) ∧ t.cmp.passes = rest ∧
          ((∀ q ∈ rest, q.tile = k → q.omu ≠ o) → s.omus.want.contains (4 * k + o) = false → s.omus.due.contains (4 * k + o) = false →
            t.get F.OMU_STAT_STATE k o = 1 ∧ t.get F.OMU_STAT_LEFT k o = 0))) ∧
    (o = 4 →
      Gives (.passComplete k o) s fun t =>
        t.now = s.now ∧ t.rdN rec_ 32 = passRecord p.status 0 p.loaded p.redo p.sat p.bad (dTag p.desc) t.now ∧ CountsBy F.OMU_FALLBACK 1 k 0 s t ∧ t.cmp.passes = rest)

/-- R164, R165, R174: a pilot's slot, or PILOT_NOW, starts a pilot at once on an OMU that is READY and within 40 to 80 °C; on an OMU that is BUSY, in a pilot or without light the scheduled pilot
waits; outside that window it is skipped, counted and tried again; a full pilot that was given up is tried again.

R163, R171, R172, R175, R185: a pilot within its limits commits its results, the transfer and driver tables it refitted, its row offset table, the tap that the gain trim refers to and its age, and leaves its OMU READY; one outside them
leaves the tables in force, is counted, raises its OMU's source and is tried again. A full pilot takes 370 µs, another 40 µs.
The model's choices in it: when a pilot is tried again (log entry 114), an OMU out of 40 to 80 °C whose light comes back (150), the pilot's points and their count (151), and its temperature (153). -/
def Obligations.PilotsRun : Prop :=
  (∀ (s : State) (k o : Nat), k < 24 → o < 4 → s.alive = true → s.mild →
       let g := 4 * k + o
       let at_ := max s.now (s.trn.tick + 1500 + ((section_ ({} : Pilots) s.cht.chart.pilots s.variant).omus.getD g (0, 0)).2)
       (s.get F.OMU_PILOT_CFG_EVERY k ≠ 0 → s.get F.TRN_NUM % s.get F.OMU_PILOT_CFG_EVERY k = s.get F.OMU_PILOT_PHASE k o →
         (s.get F.OMU_STAT_STATE k o = 1 → s.get F.OMU_STAT_TEMP_OK k o = 1 → (∀ p ∈ s.cmp.passes, p.tile = k → p.omu = o → p.waits = true) →
           Gives (.pilotSlot k o) s fun t =>
             t.get F.OMU_STAT_STATE k o = 3 ∧ t.get F.OMU_LOADED_VALID k o = 0 ∧ t.omus.pilots = s.omus.pilots ++ [(g, at_, false)] ∧ t.omus.want = s.omus.want ∧ t.omus.due.contains g = false ∧
             Keeps [F.OMU_STAT_STATE.key k o, F.OMU_LOADED_VALID.key k o] s t ∧ t = { s with now := at_, regs := t.regs, omus := t.omus, out := [] }) ∧
         (s.get F.OMU_STAT_STATE k o ∈ [2, 3, 4] → s.get F.OMU_STAT_TEMP_OK k o = 1 →
           Gives (.pilotSlot k o) s fun t => t.omus.due.contains g = true ∧ t = { s with now := at_, omus := { s.omus with due := t.omus.due }, out := [] }) ∧
         (s.get F.OMU_STAT_STATE k o = 0 → s.get F.OMU_STAT_TEMP_OK k o = 1 → s.omus.retry.contains g = true → s.omuLit k o = true → s.omus.uncal.contains g = false →
           (∀ p ∈ s.omus.pilots, p.1 ≠ g) → 5 ≤ s.get F.FLT_BOOT_STEP →
           Gives (.pilotSlot k o) s fun t =>
             t.omus.pilots = s.omus.pilots ++ [(g, at_, true)] ∧ t.omus.retry.contains g = false ∧ t = { s with now := at_, omus := t.omus, out := [] }) ∧
         (s.get F.OMU_STAT_STATE k o ∈ [1, 2, 3, 4] → s.get F.OMU_STAT_TEMP_OK k o ≠ 1 →
           Gives (.pilotSlot k o) s fun t =>
             CountsBy F.OMU_PILOT_SKIP 1 k 0 s t ∧ t.omus.retry.contains g = true ∧ KeepsBut [evfBlock, fltBlock] [F.OMU_PILOT_SKIP.key k 0] s t ∧
             t = { s with now := at_, regs := t.regs, omus := { s.omus with retry := t.omus.retry }, flt := t.flt, evf := t.evf, out := t.out, free := t.free })) ∧
       (∀ src, s.barUp = true → 4 ≤ s.get F.FLT_BOOT_STEP → s.domStopped (24 + k) = false → s.get F.OMU_STAT_STATE k o = 1 → s.get F.OMU_STAT_TEMP_OK k o = 1 →
         (∀ p ∈ s.cmp.passes, p.tile = k → p.omu = o → p.waits = true) →
         Gives (.pilotNow src k (2 ^ (1 + o))) s fun t =>
           t.get F.OMU_STAT_STATE k o = 3 ∧ t.get F.OMU_LOADED_VALID k o = 0 ∧ t.omus.pilots = s.omus.pilots ++ [(g, s.now, false)] ∧
           KeepsBut [(0x1800000 + 0x1000 * k, 0x1800001 + 0x1000 * k)] [F.OMU_STAT_STATE.key k o, F.OMU_LOADED_VALID.key k o] s t ∧ t = { s with regs := t.regs, omus := t.omus, out := [] })) ∧
  (∀ (s : State) (k o start : Nat) (full : Bool) (r : PilotReport), k < 24 → o < 4 → s.alive = true → s.mild → s.omus.pilots.find? (fun p => decide (p.1 = 4 * k + o)) = some (4 * k + o, start, full) →
       (∀ p ∈ s.cmp.passes, p.tile ≠ k) → s.omus.want.contains (4 * k + o) = false → s.omus.due.contains (4 * k + o) = false →
       let g := 4 * k + o
       let site := toSigned 12 (s.get F.THM_TILE_T_SITE k)
       let at_ := max s.now (start + (if full then 370000 else 40000))
       (pilotOk r = true →
         Gives (.pilotComplete k o r) s fun t =>
           t.now = at_ ∧ t.get F.OMU_STAT_STATE k o = 1 ∧ t.get F.OMU_STAT_STALE k o = 0 ∧ t.get F.OMU_GAIN_TRIM k o = 0 ∧ t.get F.OMU_PILOT_LAST k o = s.get F.TRN_NUM % 2 ^ 32 ∧
           CountsBy F.OMU_CAL_COUNT_PILOTS 1 g 0 s t ∧ (full = true → CountsBy F.OMU_CAL_COUNT_FULL 1 g 0 s t) ∧
           t.get F.OMU_CAL_RESID_FAST g = r.fast ∧ t.get F.OMU_CAL_RESID_FINE g = r.fine ∧ t.get F.OMU_CAL_RESID_GAIN g = r.gain ∧ t.get F.OMU_CAL_RESID_OFFSET g = r.offset ∧
           t.get F.OMU_CAL_RESID_VALID g = 1 ∧ t.get F.OMU_CAL_DT_DT g = ofSigned 16 (25 * (site - 2 * ((site / 2).toNat : Int))) % 2 ^ 16 ∧
           t.omus.inputs = putTables s.omus.inputs (64 * g) (r.inputs.take 64) ∧
           t.omus.drivers = putTables s.omus.drivers (4096 * g + 64 * s.pilotRow g full) (r.drivers.take (if full then 4096 else 256)) ∧ t.get F.OMU_CAL_TIME_LAST g = at_ % 2 ^ 64 ∧
           tabGet 0 t.omus.taps g = r.tap ∧ (∀ i, i < 64 → (tabGet [] t.omus.offtabs g).getD i 0 = r.offtab.getD i 0) ∧
           (let a := cacheAt k (s.get F.OMU_CAL_OFFTAB_BASE g)
            s.mirrorRuns a 128 = [] → (∀ i, i < 64 → t.rdN (a + 2 * i) 2 = natLe 2 (r.offtab.getD i 0)) ∧ ∀ b, b < a ∨ a + 128 ≤ b → t.rd b = s.rd b)) ∧
       (pilotOk r = false → full = false →
         Gives (.pilotComplete k o r) s fun t =>
           t.now = at_ ∧ t.get F.OMU_STAT_STATE k o = 1 ∧ CountsBy F.OMU_CAL_COUNT_VERIFY_FAIL 1 g 0 s t ∧ t.get F.FLT_SRC_STICKY (84 + g) = 1 ∧ t.omus.retry.contains g = true ∧
           t.omus.failing.contains g = true ∧ t.get F.OMU_CAL_RESID_FAST g = s.get F.OMU_CAL_RESID_FAST g ∧
           t.omus.inputs = s.omus.inputs ∧ t.omus.drivers = s.omus.drivers ∧ t.mem = s.mem) ∧
       (pilotOk r = false → full = true → tabGet 0 s.omus.fails g = 1 →
         Gives (.pilotComplete k o r) s fun t =>
           t.get F.OMU_STAT_STATE k o = 0 ∧ t.omus.uncal.contains g = true ∧ CountsBy F.OMU_CAL_COUNT_VERIFY_FAIL 1 g 0 s t ∧ t.get F.FLT_SRC_STICKY (84 + g) = 1 ∧ t.mem = s.mem))

/-- R160, R161, R174: the light sentinel stops an OMU, counts, and puts it in WAIT_LIGHT with a pilot wanted; a pass it discards for the first or the second time waits for its rerun; a full pilot
is given up.

R151, R155, R160, R164, R447: an OMU whose pilots have not completed for PILOT_EVERY transits is STALE; the gain trim follows the trunk's tap over its value at the last pilot within ±500 steps, and an OMU whose light has settled runs its pilot; a tile's cluster levels follow the shares
reported; the ring's tail is the software's.
The model's choices in it: an OMU whose light comes back out of 40 to 80 °C (log entry 150), and when a pilot is counted (151). -/
def Obligations.OmuUpkeep : Prop :=
  (∀ (s : State) (k o : Nat), k < 24 → o < 4 → s.alive = true → s.mild → s.get F.OMU_STAT_STATE k o ∈ [1, 2, 3] → (∀ p ∈ s.cmp.passes, p.drops < 2) →
       Gives (.sentinelTrip k o) s fun t =>
         t.get F.OMU_STAT_STATE k o = 4 ∧ t.get F.OMU_STAT_LEFT k o = 0 ∧ CountsBy F.OMU_SENTINEL 1 k o s t ∧ t.omus.want.contains (4 * k + o) = true ∧
         (∀ q ∈ t.cmp.passes, q.tile = k → q.omu = o → q.waits = true) ∧ t.cmp.passes.length = s.cmp.passes.length ∧ (∀ q ∈ t.omus.pilots, q.1 ≠ 4 * k + o) ∧ t.mem = s.mem ∧ t.poison = s.poison) ∧
  (∀ (s : State) (k o : Nat), k < 24 → o < 4 → s.alive = true → s.mild → s.get F.OMU_STAT_STATE k o = 0 → (∃ p ∈ s.omus.pilots, p.1 = 4 * k + o) →
       Gives (.sentinelTrip k o) s fun t =>
         t.get F.OMU_STAT_STATE k o = 0 ∧ CountsBy F.OMU_SENTINEL 1 k o s t ∧ (∀ q ∈ t.omus.pilots, q.1 ≠ 4 * k + o) ∧ t.cmp.passes = s.cmp.passes ∧ t.mem = s.mem) ∧
  (∀ (s : State) (k o : Nat), k < 24 → o < 4 → s.alive = true →
       (s.get F.OMU_PILOT_CFG_EVERY k ≠ 0 → s.get F.OMU_PILOT_CFG_EVERY k ≤ s.pilotAge k o →
         Gives (.pilotStale k o) s fun t => t.get F.OMU_STAT_STALE k o = 1 ∧ Keeps [F.OMU_STAT_STALE.key k o] s t ∧ t = { s with regs := t.regs, out := [] }) ∧
       (s.pilotAge k o < s.get F.OMU_PILOT_CFG_EVERY k → Gives (.pilotStale k o) s fun t => t = s.fresh) ∧
       (∀ tap : Int, s.get F.OMU_STAT_STATE k o ∉ [0, 4] →
         Gives (.gainTrimUpdate k o tap) s fun t =>
           t.get F.OMU_GAIN_TRIM k o = ofSigned 10 (max (-500) (min 500 (tap - tabGet 0 s.omus.taps (4 * k + o)))) % 2 ^ 10 ∧ Keeps [F.OMU_GAIN_TRIM.key k o] s t ∧ t = { s with regs := t.regs, out := [] }) ∧
       (∀ tap : Int, s.get F.OMU_STAT_STATE k o = 4 → s.omuLit k o = true → s.get F.OMU_STAT_TEMP_OK k o = 1 → s.omus.relock.contains (4 * k + o) = false →
         s.omus.due.contains (4 * k + o) = false → (∀ p ∈ s.cmp.passes, p.tile ≠ k) →
         Gives (.gainTrimUpdate k o tap) s fun t =>
           t.get F.OMU_GAIN_TRIM k o = ofSigned 10 (max (-500) (min 500 (tap - tabGet 0 s.omus.taps (4 * k + o)))) % 2 ^ 10 ∧ t.get F.OMU_STAT_STATE k o = 3 ∧
           t.omus.pilots = s.omus.pilots ++ [(4 * k + o, s.now, false)] ∧ Keeps [F.OMU_GAIN_TRIM.key k o, F.OMU_STAT_STATE.key k o, F.OMU_LOADED_VALID.key k o] s t ∧
           t = { s with regs := t.regs, omus := t.omus, out := [] }) ∧
       (∀ shares : List Nat,
         Gives (.clusterLevelReport k shares) s fun t =>
           (∀ u, u < 4 → tabGet 0 t.omus.levels (4 * k + u) = clusterLevel (shares.getD u 0)) ∧
           ((∀ u, u < 4 → s.runsHot k u = false) → t = { s with omus := { s.omus with levels := t.omus.levels }, out := [] }) ∧
           Keeps [F.THM_GUARD_LATE.key k 0] s t) ∧
       (∀ (shares : List Nat), 75 ≤ shares.getD o 0 → tabGet 0 s.omus.levels (4 * k + o) < 3 → s.runsHot k o = true → (∀ u, u < 4 → u ≠ o → s.runsHot k u = false) →
         Gives (.clusterLevelReport k shares) s fun t => CountsBy F.THM_GUARD_LATE 1 k 0 s t) ∧
       (∀ (src : Iface) (v : Nat), s.barUp = true → 4 ≤ s.get F.FLT_BOOT_STEP → s.domStopped (24 + k) = false →
         Gives (.omuPqTail src k v) s fun t => t.get F.OMU_PQ_TAIL k = v % 256 ∧ Keeps [F.OMU_PQ_TAIL.key k 0] s t ∧ t = { s with regs := t.regs, out := [] }))

/-! ## Memory and its engines -/

/-- R252 to R255, R258, R317, R318: GO, or a dealt CHECK card, starts an idle context's scan with what its registers hold, or ends it at once where its range does not pass; a running context counts the GO in BUSY_REJ; ABORT ends a running
scan with how far it had come somewhere between nothing and all of it; a finished scan's status and value are its context's and its card's.
The model's choices in it: the order of a scan's checks, when its registers are taken and when its results show (log entry 99), how far an aborted scan came (100), and the polynomial (137). -/
def Obligations.ScansRun : Prop :=
  ∀ (s : State) (hub k : Nat), hub < 2 → k < 8 → s.alive = true →
    let ctx := (0x1C00100 + 0x1000 * hub + 0x80 * k, 0x1C00180 + 0x1000 * hub + 0x80 * k)
    let ctrl := (0x1C00110 + 0x1000 * hub + 0x80 * k, 0x1C00111 + 0x1000 * hub + 0x80 * k)
    (∀ (src : Iface) (v : Nat), s.barUp = true → 4 ≤ s.get F.FLT_BOOT_STEP → s.domStopped (128 + hub) = false → bit v 0 = true → bit v 1 = false →
      let a := s.get F.CHK_START hub k
      let n := s.get F.CHK_LEN hub k
      let err := s.scanErr (v / 4 % 4) a n
      (s.get F.CHK_STATUS_STATE hub k = 0 → err = 0 → 0 < n →
        Gives (.chkGo src hub k v) s fun t =>
          t.get F.CHK_STATUS_STATE hub k = 1 ∧ t.get F.CHK_STATUS_DONE hub k = 0 ∧
          t.cmp.scans = s.cmp.scans ++ [{ ctx := 8 * hub + k, start := a, len := n, algo := v / 4 % 4, fold := bit v 4, seq0 := v / 65536 % 65536, seq := none }] ∧
          KeepsBut [ctx] [] s t ∧ t = { s with regs := t.regs, cmp := { s.cmp with scans := t.cmp.scans }, out := t.out }) ∧
      (s.get F.CHK_STATUS_STATE hub k = 0 → s.scanOf hub k = none → err ≠ 0 →
        Gives (.chkGo src hub k v) s fun t =>
          t.get F.CHK_STATUS_STATE hub k = 2 ∧ t.get F.CHK_STATUS_ERR hub k = err ∧ t.get F.CHK_STATUS_DONE hub k = 1 ∧ t.get F.CHK_STATUS_VALID hub k = 0 ∧
          KeepsBut [ctx] [] s t ∧ t = { s with regs := t.regs, out := [] }) ∧
      (s.get F.CHK_STATUS_STATE hub k = 0 → s.scanOf hub k = none → err = 0 → n = 0 →
        Gives (.chkGo src hub k v) s fun t =>
          t.get F.CHK_STATUS_STATE hub k = 2 ∧ t.get F.CHK_STATUS_DONE hub k = 1 ∧ t.get F.CHK_STATUS_VALID hub k = 1 ∧ t.get F.CHK_RESULT0 hub k = leAt (checkValue (v / 4 % 4) []) 0 8 ∧
          KeepsBut [ctx] [] s t ∧ t = { s with regs := t.regs, out := [] }) ∧
      (s.get F.CHK_STATUS_STATE hub k = 1 →
        Gives (.chkGo src hub k v) s fun t =>
          CountsBy F.CHK_STAT_BUSY_REJ 1 hub 0 s t ∧ KeepsBut [ctrl] [F.CHK_STAT_BUSY_REJ.key hub 0] s t ∧ t = { s with regs := t.regs, out := [] })) ∧
    (∀ (src : Iface) (v : Nat) (x : Scan), s.barUp = true → 4 ≤ s.get F.FLT_BOOT_STEP → s.domStopped (128 + hub) = false → bit v 0 = false → bit v 1 = true →
      s.scanOf hub k = some x → x.seq = none →
      Gives (.chkAbort src hub k v) s fun t =>
        t.get F.CHK_STATUS_STATE hub k = 2 ∧ t.get F.CHK_STATUS_ERR hub k = 4 ∧ t.get F.CHK_STATUS_DONE hub k = 1 ∧ t.get F.CHK_STATUS_VALID hub k = 0 ∧ t.get F.CHK_POS hub k ≤ x.len ∧
        (∀ y ∈ t.cmp.scans, y.ctx ≠ 8 * hub + k) ∧ KeepsBut [ctx] [] s t ∧
        t = { s with regs := t.regs, cmp := { s.cmp with scans := t.cmp.scans }, free := t.free, out := [] }) ∧
    (∀ (host : List Byte) (bad : Option Nat) (x : Scan), s.scanOf hub k = some x → x.len < 2 ^ 48 → x.start + x.len < 2 ^ 52 →
      let there := regionOf x.start = .host
      let bs := if there then slice host 0 x.len else s.readBytes x.start x.len
      let v := checkValue x.algo (scanMessage x.fold x.seq0 x.start bs)
      ((if there then bad = none else s.anyPoison x.start x.len = false) → x.seq = none →
        Gives (.checkScanDone hub k host bad [] none) s fun t =>
          t.get F.CHK_STATUS_STATE hub k = 2 ∧ t.get F.CHK_STATUS_ERR hub k = 0 ∧ t.get F.CHK_STATUS_VALID hub k = 1 ∧ t.get F.CHK_STATUS_DONE hub k = 1 ∧ t.get F.CHK_POS hub k = x.len ∧
          t.get F.CHK_RESULT0 hub k = leAt v 0 8 ∧ t.get F.CHK_RESULT1 hub k = leAt v 8 8 ∧ t.get F.CHK_RESULT2 hub k = leAt v 16 8 ∧ t.get F.CHK_RESULT3 hub k = leAt v 24 8 ∧
          KeepsBut [ctx] [] s t ∧ t = { s with regs := t.regs, cmp := { s.cmp with scans := t.cmp.scans }, out := [] }) ∧
      (∀ q, (if there then bad = none else s.anyPoison x.start x.len = false) → x.seq = some q → (s.ent q).state = 2 → leAt (s.ent q).card 40 8 = 0 →
        Gives (.checkScanDone hub k host bad [] none) s fun t => (t.ent q).finished = true ∧ (t.ent q).value = leAt v 0 8 ∧ t.mem = s.mem) ∧
      (there = False → s.anyPoison x.start x.len = true →
        Gives (.checkScanDone hub k host bad [] none) s fun t =>
          t.get F.CHK_STATUS_STATE hub k = 2 ∧ t.get F.CHK_STATUS_ERR hub k = 3 ∧ t.get F.CHK_STATUS_VALID hub k = 0 ∧ s.poisoned (t.get F.CHK_POISON_DPA hub k / 64) = true ∧
          x.start ≤ t.get F.CHK_POISON_DPA hub k ∧ KeepsBut [ctx] [] s t ∧ t.mem = s.mem) ∧
      (∀ i, there = True → bad = some i → i < x.len →
        Gives (.checkScanDone hub k host bad [] none) s fun t =>
          t.get F.CHK_STATUS_STATE hub k = 2 ∧ t.get F.CHK_STATUS_ERR hub k = 3 ∧ t.get F.CHK_STATUS_VALID hub k = 0 ∧ t.get F.CHK_POISON_DPA hub k = x.start + i ∧
          KeepsBut [ctx] [] s t ∧ t.mem = s.mem) ∧
      (∀ n, Gives (.checkScanDone hub k host bad [] (some n)) s fun t =>
          t.get F.CHK_STATUS_STATE hub k = 2 ∧ t.get F.CHK_STATUS_ERR hub k = 4 ∧ t.get F.CHK_POS hub k = min n x.len ∧
          (∀ i, there = True → bad = some i → i < min n x.len → t.get F.CHK_POISON_DPA hub k = x.start + i) ∧
          (there = False → s.anyPoison x.start (min n x.len) = true → s.poisoned (t.get F.CHK_POISON_DPA hub k / 64) = true ∧ x.start ≤ t.get F.CHK_POISON_DPA hub k) ∧
          KeepsBut [ctx] [] s t ∧ t.mem = s.mem)) ∧
    (∀ q : Nat, (s.ent q).state = 2 → (s.ent q).opcode = 0x07 → (s.ent q).started = false → (s.ent q).finished = false → checkCtx (s.ent q).card = (hub, k) →
      let c := (s.ent q).card
      let a := leAt c 24 8 % 2 ^ 52
      let n := leAt c 32 8 % 2 ^ 48
      let algo := leAt c 16 1 / 16 % 4
      (s.get F.CHK_STATUS_STATE hub k ≠ 1 → s.scanErr algo a n = 0 → 0 < n →
        Gives (.check q) s fun t =>
          (t.ent q).started = true ∧ (t.ent q).finished = false ∧ t.get F.CHK_STATUS_STATE hub k = 1 ∧
          t.cmp.scans = s.cmp.scans ++ [{ ctx := 8 * hub + k, start := a, len := n, algo := algo, fold := bit (leAt c 16 1) 6, seq0 := leAt c 18 2, seq := some q }] ∧ KeepsBut [ctx] [] s t ∧ t.mem = s.mem) ∧
      (s.get F.CHK_STATUS_STATE hub k ≠ 1 → s.scanErr algo a n ≠ 0 → s.scanOf hub k = none →
        Gives (.check q) s fun t =>
          (t.ent q).finished = true ∧ (∃ r ∈ (t.ent q).runs, r.status = 6) ∧ t.get F.CHK_STATUS_STATE hub k = 2 ∧ t.get F.CHK_STATUS_ERR hub k = s.scanErr algo a n ∧ KeepsBut [ctx] [] s t ∧ t.mem = s.mem) ∧
      (s.get F.CHK_STATUS_STATE hub k = 1 → Gives (.check q) s fun t => t = s.fresh))

/-- R229, R230, R232, R234, R235, R241, R242: Sweep moves on by one granule or line and wraps; a granule with one symbol in error is counted and written back; one that cannot be corrected and has no
other copy keeps its data as read, is poisoned, counted and logged. A hot prefix is copied into the tile's row cache and becomes READY. A rebuilt copy holds its survivor's bytes and its shard is
MIRRORED. No other byte of memory changes.
The model's choices in it: when Sweep runs and what it writes back (log entry 101), and that a rebuild copies all at its end (103). -/
def Obligations.MemoryIsKept : Prop :=
  ∀ s : State, s.alive = true →
    (∀ m, m < 12 → s.boot.done.contains 6 = true → s.mbdUp m = true →
      let p := s.get F.MBD_SWEEP_POS m
      let g := m * stackGranules + p
      (p + 1 < stackGranules →
        Gives (.sweepRead m []) s fun t =>
          t.get F.MBD_SWEEP_POS m = p + 1 ∧ Keeps [F.MBD_SWEEP_POS.key m 0] s t ∧ t = { s with regs := t.regs, mems := { s.mems with sweeping := t.mems.sweeping }, out := [] } ∧
          ∀ q ∈ t.mems.sweeping, q.2 ≠ m) ∧
      (stackGranules ≤ p + 1 →
        Gives (.sweepRead m []) s fun t =>
          t.get F.MBD_SWEEP_POS m = 0 ∧ CountsBy F.MBD_SWEEP_CYCLES 1 m 0 s t ∧ Keeps [F.MBD_SWEEP_POS.key m 0, F.MBD_SWEEP_CYCLES.key m 0] s t ∧
          (∀ x ∈ t.mems.ceSeen, x.1 / stackGranules ≠ m) ∧ t.mem = s.mem ∧ t.poison = s.poison) ∧
      (∀ kind : EccKind, p + 1 < stackGranules → s.mild → s.uncorrectable ⟨g, kind⟩ = true → s.otherCopy (g * 64) = none →
        Gives (.sweepRead m [⟨g, kind⟩]) s fun t =>
          t.mem = (s.asRead ⟨g, kind⟩).mem ∧ (∀ a, a < g * 64 ∨ g * 64 + 64 ≤ a → t.rd a = s.rd a) ∧
          t.poisoned g = true ∧ (∀ h, h ≠ g → t.poisoned h = s.poisoned h) ∧ CountsBy F.MBD_UE 1 m 0 s t ∧ t.get F.MBD_UE_LOG_DPA m = g * 64 ∧ t.get F.MBD_UE_LOG_SOURCE m = 1 ∧
          t.get F.MBD_UE_LOG_VALID m = 1 ∧ t.get F.FLT_SRC_STICKY (68 + m) = 1 ∧ t.get F.MBD_SWEEP_POS m = p + 1 ∧ (kind.odecc = true → CountsBy F.MBD_ODECC 1 m 0 s t)) ∧
      (∀ kind : EccKind, p + 1 < stackGranules → s.mild → symbolErrors kind = 1 → s.poisoned g = false →
        Gives (.sweepRead m [⟨g, kind⟩]) s fun t =>
          CountsBy F.MBD_CE 1 m 0 s t ∧ t.mems.sweeping.contains (g, m) = true ∧ t.get F.MBD_SWEEP_POS m = p + 1 ∧ (kind.odecc = true → CountsBy F.MBD_ODECC 1 m 0 s t) ∧
          t.mem = s.mem ∧ t.poison = s.poison)) ∧
    (∀ k, k < 24 → s.boot.done.contains 6 = true → s.present k = true → s.retired k = false → s.get F.FLT_DOM0_STATE k = 0 →
      Gives (.sweepRead (12 + k) []) s fun t =>
        t.get F.CCH_SWEEP_POS k = (s.get F.CCH_SWEEP_POS k + 1) % 4194304 ∧ Keeps [F.CCH_SWEEP_POS.key k 0] s t ∧ t.mem = s.mem ∧ t.poison = s.poison) ∧
    (∀ (k n a : Nat) (u : Table) (ext : Ext), s.table n = some u → n < 4096 → u.hotRows ≠ 0 → bit u.hotTiles k = true → k < 24 → s.present k = true → s.retired k = false → s.hotAt k u = some a →
      Gives (.hotPrefixReady k ⟨n, ext⟩) s fun t =>
        (∀ x, x ∈ t.mems.ready ↔ x = k * 4096 + n ∨ x ∈ s.mems.ready) ∧ t.mems.tables = s.mems.tables ∧ t.sky = s.sky ∧ t.cmp = s.cmp) ∧
    (∀ (k n a : Nat) (u : Table) (sh : Shard), s.table n = some u → n < 4096 → u.hotRows ≠ 0 → bit u.hotTiles k = true → k < 24 → s.present k = true → s.retired k = false → s.hotAt k u = some a →
      u.shards = [sh] → sh.firstRow = 0 → u.hotRows ≤ sh.nrows → sh.state < 2 → sh.lost = 0 → s.hands.slots = [] → Memory.wf s.mem = true →
      Gives (.hotPrefixReady k ⟨n, []⟩) s fun t =>
        (∀ b, b < u.hotRows * u.stride * 16 → t.rd (a + b) = s.rd (sh.base + b)) ∧ (∀ b, b < a ∨ a + u.hotRows * u.stride * 16 ≤ b → t.rd b = s.rd b) ∧
        t = { s with mem := t.mem, poison := t.poison, mems := { s.mems with ready := t.mems.ready }, out := [] }) ∧
    (∀ (n i : Nat) (u : Table) (sh : Shard), s.table n = some u → u.shards[i]? = some sh → sh.state = 3 → sh.mirror ≠ 0xFF → s.mbdUp sh.engine = true → s.mbdUp sh.mirror = true →
      Memory.wf s.mem = true →
      Gives (.shardRebuildDone n i) s fun t =>
        (∀ b, b < u.size sh → t.rd (sh.mbase + b) = s.rd (sh.base + b)) ∧ (∀ a, a < sh.mbase ∨ sh.mbase + u.size sh ≤ a → t.rd a = s.rd a) ∧
        ((t.table n).bind fun w => w.shards[i]?) = some { sh with state := 1, lost := 0 } ∧ t = { s with mem := t.mem, poison := t.poison, mems := { s.mems with tables := t.mems.tables }, out := [] })

/-- R247 to R250: an MBD's engine takes the oldest job message, answers BUSY where 64 of its source are outstanding, and ends a malformed job, or one for a table that is not in force, with the first status of
R248's order; of a job whose rows all lie in its shard it counts bags, rows and indices beyond ROWS. A job without writes outstanding completes, and is counted. At the tile a completion ends its job, and
a BUSY one waits for the tile's oldest job there.
The model's choices in it: where a GATHER's completions go and when a BUSY job is sent again (log entries 111, 188), and that a job ends at its first refused read (208). -/
def Obligations.EngineJobsRun : Prop :=
  ∀ (s u : State) (m src : Nat) (b : List Byte), m < 12 → s.alive = true → s.mild → s.get F.FLT_DOM0_STATE (68 + m) = 0 →
    (s.fresh.popBox (24 + m) 1 = some ((src, b), u) →
      (64 ≤ (s.cmp.jobs.filter fun j => decide (j.mbd = m) && decide (j.src = src)).length →
        Gives (.engineJob m [] []) s fun t => CountsBy F.MBD_BUSY 1 m 0 s t ∧ t.cmp = s.cmp ∧ t.mem = s.mem) ∧
      ((s.cmp.jobs.filter fun j => decide (j.mbd = m) && decide (j.src = src)).length < 64 → s.table (leAt b 0 2 % 4096) = none →
        Gives (.engineJob m [] []) s fun t =>
          (∃ j, t.cmp.jobs = s.cmp.jobs ++ [j] ∧ j.id = s.cmp.next ∧ j.mbd = m ∧ j.src = src ∧ j.tag = leAt b 40 8 ∧ j.waits = [] ∧
            j.status = (if jobBad b b.length 4 then 3 else match u.jobBags [] b with
              | (some _, _) => 5
              | (none, true) => 6
              | (none, false) => 3)) ∧
          t.cmp.next = s.cmp.next + 1 ∧ (t.stn (24 + m)).mailbox = (s.stn (24 + m)).mailbox.erase (src, 1, b) ∧ ((u.jobBags [] b).2 = false → t.regs = s.regs) ∧ t.mem = s.mem) ∧
      (∀ (w : Table) (sh : Shard) (bags : Bags), (s.cmp.jobs.filter fun j => decide (j.mbd = m) && decide (j.src = src)).length < 64 →
        s.table (leAt b 0 2 % 4096) = some w → jobBad b b.length w.d = false → served w (leAt b 0 2 / 4096) m (bit (leAt b 2 1) 3) = some sh → sh.state ≠ 4 →
        u.jobBags [] b = (some bags, false) → (∀ g ∈ bags, ∀ p ∈ g, p.1 ≠ 0xFFFFFFFF → p.1 < w.rows → sh.firstRow ≤ p.1 ∧ p.1 < sh.firstRow + sh.nrows) →
        Gives (.engineJob m [] []) s fun t =>
          ∃ j, t.cmp.jobs = s.cmp.jobs ++ [j] ∧ j.mbd = m ∧ j.src = src ∧ j.tag = leAt b 40 8 ∧ j.bags = bags.length ∧
            (j.pbags = 0 → j.rows = (bags.map fun g => (g.filter fun p => decide (p.1 < w.rows) && decide (p.1 ≠ 0xFFFFFFFF)).length).sum) ∧
            j.oob = (bags.map fun g => (g.filter fun p => decide (w.rows ≤ p.1) && decide (p.1 ≠ 0xFFFFFFFF)).length).sum ∧ j.status ∈ [0, 1, 2, 7] ∧ (0 < j.oob → j.status ∈ [2, 7]))) ∧
    (∀ (id : Nat) (j : Job), s.cmp.jobs.find? (fun j => decide (j.id = id) && decide (j.mbd = m)) = some j →
      (j.waits = [] → 0 < j.bags → 0 < j.rows → 0 < j.gran →
        Gives (.engineJobComplete m id) s fun t =>
          CountsBy F.MBD_JOBS 1 m 0 s t ∧ CountsBy F.MBD_BAGS j.bags m 0 s t ∧ CountsBy F.MBD_ROWS j.rows m 0 s t ∧ CountsBy F.MBD_GRANULES j.gran m 0 s t ∧
          (0 < j.oob → CountsBy F.MBD_OOB j.oob m 0 s t) ∧ (0 < j.empty → CountsBy F.MBD_EMPTY_BAG j.empty m 0 s t) ∧ (j.status = 3 ∨ j.status = 5 → CountsBy F.MBD_BAG_FMT 1 m 0 s t) ∧
          (∀ x ∈ t.cmp.jobs, x.id ≠ id) ∧ t.mem = s.mem) ∧
      ((∃ w ∈ j.waits, s.outPending m w.1 w.2 = true) → Gives (.engineJobComplete m id) s fun t => t = s.fresh)) ∧
    (∀ (k x tag : Nat) (msg : List Byte) (w : State), k < 24 → s.fresh.popBox k 0 = some ((x, msg), w) → leAt msg 8 8 = tag →
      ((∀ r ∈ s.cmp.runs, r.tile = k → ∀ j ∈ r.jobs, j.tag ≠ tag) →
        Gives (.jobCompletionReceive k) s fun t => (t.stn k).mailbox = (s.stn k).mailbox.erase (x, 0, msg) ∧ t = { s with sky := t.sky, out := [] }) ∧
      (∀ (run : OpRun) (j : SentJob), s.cmp.runs.find? (fun r => decide (r.tile = k) && r.jobs.any fun j => decide (j.tag = tag)) = some run →
        run.jobs.find? (fun j => decide (j.tag = tag)) = some j →
        (leAt msg 0 1 ∈ [0, 1, 2, 3] →
          Gives (.jobCompletionReceive k) s fun t =>
            (∀ r ∈ t.cmp.runs, r.idx = run.idx → ∀ y ∈ r.jobs, y.tag ≠ tag) ∧
            (leAt msg 0 1 ∈ [2, 3] → ∃ r ∈ t.cmp.runs, r.idx = run.idx ∧ ∃ y ∈ r.status, y.status = leAt msg 0 1 ∧ y.count = (if leAt msg 0 1 = 2 then leAt msg 16 4 else 0)) ∧ t.mem = s.mem) ∧
        (leAt msg 0 1 = 4 → j.busy < 8 → (∃ p ∈ w.jobsAt k j.mbd, p.2.tag ≠ tag) →
          Gives (.jobCompletionReceive k) s fun t =>
            (∃ r ∈ t.cmp.runs, r.idx = run.idx ∧ ∃ y ∈ r.jobs, y.tag = tag ∧ y.wait = true) ∧ t.mem = s.mem ∧ t.out = [] ∧ (t.stn k).mailbox = (s.stn k).mailbox.erase (x, 0, msg))))

/-- R228, R301, R303 to R305, R307, R342, R349: CXL.mem writes and reads a line of HBM, and drops and counts a write to what no host may write; the link's going and coming are LINK_UP; a snoop is a
miss; a completed access to the host window leaves the queue, counts its packet, and answers a read.
That LINK_UP changes with CXL_LINK_UP and CXL_LINK_DOWN alone (log entry 48), that the trained width and rate are drawn and the RAS capability holds nothing (193), and which events the lifetime counters of the link count (222), are the model's choices. -/
def Obligations.HostLinkServes : Prop :=
  ∀ s : State, s.on = true →
    (s.alive = true → s.mild → s.memActive = true → ∀ (a m : Nat) (data : List Byte) (p : Bool), regionOf a = .hbm m → data ≠ [] → a % 64 + data.length ≤ 64 →
      (s.region a ≠ .unmapped → reservedOff m (a % stackSize) = false → s.inHotPrefix a data.length = false → s.inMirror a data.length = false → s.mirrorRuns a data.length = [] →
        Gives (.cxlMemWrite a data p []) s fun t =>
          Out.cxlDone a ∈ t.out ∧ t.rdN a data.length = data ∧ (∀ b, b < a ∨ a + data.length ≤ b → t.rd b = s.rd b) ∧ (data.length = 64 → t.poisoned (a / 64) = p) ∧ (∀ g, g ≠ a / 64 → t.poisoned g = s.poisoned g) ∧
          KeepsBut [fltBlock, evfBlock] [F.MBD_SWEEP_YIELD.key m 0, F.MBD_PARTIAL_POISON.key m 0] s t) ∧
      (s.region a = .unmapped ∨ reservedOff m (a % stackSize) = true ∨ s.inHotPrefix a data.length = true ∨ s.inMirror a data.length = true →
        Gives (.cxlMemWrite a data p []) s fun t =>
          Out.cxlDone a ∈ t.out ∧ CountsBy F.MBD_HDM_DROP 1 m 0 s t ∧ KeepsBut [fltBlock, evfBlock] [F.MBD_HDM_DROP.key m 0] s t ∧ SameMemory s t ∧ t.mem = s.mem) ∧
      (s.region a ≠ .unmapped → s.region (a / 64 * 64) ≠ .unmapped →
        Gives (.cxlMemRead a []) s fun t => t.out = [.cxlData (a / 64 * 64) (s.readBytes (a / 64 * 64) 64) (s.poisoned (a / 64))] ∧ t = { s with out := t.out }) ∧
      (s.region (a / 64 * 64) = .unmapped →
        Gives (.cxlMemRead a []) s fun t =>
          Out.cxlData (a / 64 * 64) (List.replicate 64 0xFF) true ∈ t.out ∧ CountsBy F.MBD_HDM_DROP 1 m 0 s t ∧ KeepsBut [fltBlock, evfBlock] [F.MBD_HDM_DROP.key m 0] s t ∧ t.mem = s.mem)) ∧
    Gives .cxlLinkDown s (fun t =>
      t.get F.DLR_STAT_LINK_UP = 0 ∧ t.host.accs = [] ∧ Keeps [F.DLR_STAT_LINK_UP.key 0 0] s t ∧ t = { s with regs := t.regs, host := { s.host with accs := [], writes := [] }, mgt := { s.mgt with life := t.mgt.life }, out := [] } ∧
      tabGet 0 t.mgt.life 0x4518 = tabGet 0 s.mgt.life 0x4518 + b2n s.linkUp) ∧
    (s.linkUp = false → 3 ≤ s.get F.FLT_BOOT_STEP →
      Gives .cxlLinkUp s fun t => t.get F.DLR_STAT_LINK_UP = 1 ∧ t.linkUp = true ∧ ((∀ y, y < 44 → (s.space y 42).held = []) → t.mem = s.mem ∧ t.sky = s.sky) ∧
        (s.tally.entries = [] → (∀ d, s.get F.DLR_DECK_STAT_STATE d = 0) → s.fatal = false → (∀ y, y < 44 → (s.space y 42).held = []) →
          Keeps [F.DLR_STAT_LINK_UP.key 0 0] s t ∧ t.out = [] ∧ t.host.width ∈ [16, 8, 4] ∧ t.host.rate ∈ [128, 64, 32])) ∧
    (s.linkUp = true → ∀ a, Gives (.cxlSnoop a) s fun t => t.out = [.snoopMiss a] ∧ t = { s with out := t.out }) ∧
    (s.alive = true → s.mild → ∀ (id poison : Nat) (data : List Byte) (a : HostAcc), s.host.accs.find? (fun a => decide (a.id = id)) = some a → a.pkt.src ≠ 42 → (s.space a.pkt.src 42).held = [] →
      Gives (.hostAccessComplete id data poison) s fun t =>
        (∀ x ∈ t.host.accs, x.id ≠ id) ∧ CountsBy F.SKY_EJ_PKT 1 42 0 s t ∧ (0 < a.pkt.wire → CountsBy F.SKY_EJ_BYTE a.pkt.wire 42 0 s t) ∧
        (t.space a.pkt.src 42).rxCum = a.pkt.seq ∧ t.mem = s.mem)

/-! ## The Sky -/

/-- R57, R59 to R64, R70, R71, R76: a freed channel takes the next packet or stays free; a head that has waited its threshold is deflected to the relay the rule names, searches for one, or is counted in LIMIT once; one that
has waited beyond its class bound is counted once; the accepting flags follow the relay buffers; a barrier's arrivals add up, and the last of a local context releases it.
That a barrier waits for the participants present on this part is the model's choice (log entry 159). -/
def Obligations.SkyArbitrates : Prop :=
  ∀ (s : State) (k : Nat), k < 44 → s.alive = true → s.mild →
    (∀ (ch n : Nat) (c : Chan), (s.txChans k)[ch]? = some (n, c) →
      Gives (.channelFree k ch) s fun t =>
        (∃ d, t.sky.chans[n]? = some d ∧ (d.busy = false ∨ ∃ p, Out.sent k ch p ∈ t.out)) ∧ ((∀ q, q < 6 → (s.stn k).queue q = []) → t.out = [] ∧ ∃ d, t.sky.chans[n]? = some d ∧ d.busy = false) ∧
        t = { s with regs := t.regs, sky := t.sky, out := t.out }) ∧
    (∀ (q c : Nat) (e : Queued), q < 3 → c < 4 → (s.stn k).headOf q c = some e →
      let at_ := match e.head with
        | some w => max s.now (w + deflectNs c)
        | none => s.now
      let late := match e.head with
        | some w => max s.now (w + (boundNs c + 1))
        | none => s.now
      (e.pkt.defl = 2 → s.hasDirect k e.pkt.dest = true →
        (e.limit = false →
          Gives (.deflectionTimeout k q c) s fun t =>
            CountsBy F.SKY_LIMIT 1 k 0 s t ∧ (t.stn k).headOf q c = some { e with limit := true } ∧ Keeps [F.SKY_LIMIT.key k 0] s t ∧ t = { s with now := at_, regs := t.regs, sky := t.sky, out := [] }) ∧
        (e.limit = true → Gives (.deflectionTimeout k q c) s fun t => t = { s with now := at_, out := [] })) ∧
      (∀ (r : Nat) (ch : Nat × Nat), e.pkt.defl ≤ 2 → ¬ (e.pkt.defl = 2 ∧ s.hasDirect k e.pkt.dest = true) → s.freeTo k e.pkt.dest = [] → s.relayFor k e.pkt = some (r, ch) →
        let sent := fun t : State => ∃ p, Out.sent k ch.1 p ∈ t.out ∧ p.src = e.pkt.src ∧ p.dest = e.pkt.dest ∧ p.seq = e.pkt.seq ∧ p.payload = e.pkt.whole.payload ∧ p.defl = min 2 (e.pkt.defl + 1)
        Gives (.deflectionTimeout k q c) s (fun t => sent t ∧ t = { s with now := at_, regs := t.regs, sky := t.sky, out := t.out }) ∧
        (e.search = true → Gives (.relaySearch k q c) s fun t => sent t ∧ t = { s with regs := t.regs, sky := t.sky, out := t.out })) ∧
      (¬ (e.pkt.defl = 2 ∧ s.hasDirect k e.pkt.dest = true) → s.freeTo k e.pkt.dest = [] → s.relayFor k e.pkt = none →
        Gives (.deflectionTimeout k q c) s (fun t => (t.stn k).headOf q c = some { e with search := true } ∧ t = { s with now := at_, sky := t.sky, out := [] }) ∧
        (e.search = true → Gives (.relaySearch k q c) s fun t => (t.stn k).headOf q c = some e ∧ t = { s with sky := t.sky, out := [] })) ∧
      (e.search = false → Gives (.relaySearch k q c) s fun t => t = s.fresh) ∧
      (e.missed = false →
        Gives (.boundMiss k q c) s fun t =>
          CountsBy F.SKY_BOUND_MISS 1 k c s t ∧ (t.stn k).headOf q c = some { e with missed := true } ∧ KeepsBut [fltBlock, evfBlock] [F.SKY_BOUND_MISS.key k c] s t ∧
          t = { s with now := late, regs := t.regs, sky := t.sky, flt := t.flt, evf := t.evf, out := t.out, free := t.free }) ∧
      (e.missed = true → Gives (.boundMiss k q c) s fun t => t = s.fresh)) ∧
    (let flag := fun (vc : Nat) (cur : Bool) => if (s.stn k).relayFree vc ≤ 8 then false else if 12 ≤ (s.stn k).relayFree vc then true else cur
     Gives (.acceptFlagPublish k) s fun t =>
      (t.stn k).pub0 = flag 0 (s.stn k).acc0 ∧ (t.stn k).pub1 = flag 1 (s.stn k).acc1 ∧ (∀ j, j ≠ k → t.stn j = s.stn j) ∧ t = { s with sky := { s.sky with stations := t.sky.stations }, out := [] }) ∧
    (∀ ctx, ctx < 32 →
      let d := (section_ [] s.cht.chart.barriers s.variant).getD ctx {}
      let a := s.get F.SKY_BAR_STAT_ARRIVED ctx ||| 2 ^ k
      let need := bitMask ((bitList 42 d.sites).filter s.present)
      d.valid = true → bit d.sites k = true →
      (a &&& need ≠ need →
        Gives (.barrierArrive ctx k) s fun t => t.get F.SKY_BAR_STAT_ARRIVED ctx = a % 2 ^ 44 ∧ Keeps [F.SKY_BAR_STAT_ARRIVED.key ctx 0] s t ∧ t = { s with regs := t.regs, out := [] }) ∧
      (a &&& need = need → s.extends_ ctx = none →
        Gives (.barrierArrive ctx k) s fun t =>
          t.out = [.release ctx false] ∧ t.get F.SKY_BAR_STAT_ARRIVED ctx = 0 ∧ t.get F.SKY_BAR_STAT_ABORTED ctx = 0 ∧ t.get F.SKY_BAR_STAT_ROUNDS ctx = (s.get F.SKY_BAR_STAT_ROUNDS ctx + 1) % 2 ^ 16 ∧
          t.sky.released.contains ctx = true ∧ Keeps [F.SKY_BAR_STAT_ARRIVED.key ctx 0, F.SKY_BAR_STAT_ABORTED.key ctx 0, F.SKY_BAR_STAT_ROUNDS.key ctx 0] s t ∧
          t = { s with regs := t.regs, sky := t.sky, out := t.out }))

/-- R28, R77, R78, R83, R84, R86: an agent's request is refused and reported, held by its die, or numbered and counted, and stored or, where the store is full, held back in its queue; a guest's packet that passes its checks is such a request of the guest, and one that does not is counted;
a commit that has waited 256 ns is acknowledged; a packet unacknowledged for 4 µs goes again, and after its ninth send its space is given up.
When INJ and STALL count, and what becomes of a request of no format, are the model's choices (log entries 66, 138). -/
def Obligations.PacketsEnter : Prop :=
  ∀ (s : State) (k : Nat), k < 44 → s.alive = true → s.mild →
    (∀ r : SendReq, (r.agent = .croupier → r.op = 0 ∨ r.op = 1 → regionOf r.addr ≠ .host) →
      (∀ why, s.sendCheck k r = some why →
        Gives (.packetInject k r) s fun t => t.out = [.report k r.agent r.work (.refused why)] ∧ t = { s with tally := t.tally, out := t.out } ∧ (r.work = none → t.tally = s.tally)) ∧
      (s.sendCheck k r = none → s.canNumber k r = true → (∀ b ∈ (s.stn k).backlog, ¬ (b.dest = r.dest ∧ b.agent = r.agent)) →
        let sp := s.space k r.dest
        let fresh := fun e : TxEnt => e.req = r ∧ e.pkt.seq = sp.txNext ∧ e.pkt.src = k ∧ e.pkt.dest = r.dest ∧ e.pkt.addr = r.addr ∧ e.pkt.hcrc = e.pkt.hcrcOf
        Gives (.packetInject k r) s fun t =>
          (t.space k r.dest).txNext = (sp.txNext + 1) % 2 ^ 24 ∧
          (s.hasRoom k r.dest = true → sp.waits = [] → (t.space k r.dest).store.length = sp.store.length + 1 ∧ ∃ e, (t.space k r.dest).store.getLast? = some e ∧ fresh e) ∧
          (s.hasRoom k r.dest = false ∨ sp.waits ≠ [] → (t.space k r.dest).store.length = sp.store.length ∧ ∃ e, (t.space k r.dest).waits = sp.waits ++ [e] ∧ fresh e) ∧
          CountsBy F.SKY_INJ_PKT 1 k 0 s t ∧ t = { s with regs := t.regs, sky := t.sky, out := t.out }) ∧
      (s.sendCheck k r = none → s.canNumber k r = false ∨ (∃ b ∈ (s.stn k).backlog, b.dest = r.dest ∧ b.agent = r.agent) →
        Gives (.packetInject k r) s fun t => (t.stn k).backlog = (s.stn k).backlog ++ [r] ∧ t = { s with regs := t.regs, sky := t.sky, out := t.out })) ∧
    (∀ r : SendReq, r.agent = .croupier → r.op = 0 ∨ r.op = 1 → regionOf r.addr = .host →
      Gives (.packetInject k r) s fun t => CountsBy F.GRD_STAT_BLOCKED 1 0 0 s t ∧ t.out = [.report k r.agent r.work (.refused 1)] ∧ t.sky = s.sky ∧ t.mem = s.mem) ∧
    (∀ (g : Nat) (p : Pkt), k = 40 + g % 2 →
      (p.hcrc ≠ p.hcrcOf → Gives (.guestPacketSubmit g p) s fun t => CountsBy F.SKY_HDR_CRC 1 k 0 s t ∧ t.sky = s.sky ∧ t.mem = s.mem) ∧
      (p.hcrc = p.hcrcOf → p.dest < 44 → p.src < 44 → p.formatOk = false → Gives (.guestPacketSubmit g p) s fun t => CountsBy F.SKY_BAD_FMT 1 k 0 s t ∧ t.sky = s.sky ∧ t.mem = s.mem) ∧
      (p.hcrc = p.hcrcOf → 44 ≤ p.dest ∨ 44 ≤ p.src ∨ (p.formatOk = true ∧ (p.src ≠ k ∨ p.dest = k ∨ s.present p.dest = false)) →
        Gives (.guestPacketSubmit g p) s fun t => CountsBy F.SKY_BAD_SITE 1 k 0 s t ∧ t.sky = s.sky ∧ t.mem = s.mem) ∧
      (p.hcrc = p.hcrcOf → p.dest < 44 → p.formatOk = true → p.src = k → p.dest ≠ k → s.present p.dest = true →
        (p.op = 4 → Gives (.guestPacketSubmit g p) s fun t => CountsBy F.SKY_INJ_PKT 1 k 0 s t ∧ t = { s with regs := t.regs, sky := t.sky, out := t.out }) ∧
        (p.op ≠ 4 → Gives (.guestPacketSubmit g p) s fun t =>
          exec (.packetInject k { dest := p.dest, cls := p.cls, op := p.op, len := p.len, addr := p.addr, aux := p.aux, rtag := p.rtag, poison := p.poison, payload := p.payload, agent := .guest }) s = .next t))) ∧
    (∀ src w, (s.space src k).oldest = some w →
      Gives (.ackTimerExpiry k src) s fun t =>
        t.now = max s.now (w + 256) ∧ (t.space src k).oldest = none ∧ (t.space src k).unacked = 0 ∧ (t.space src k).reject = none ∧ (t.space src k).rxCum = (s.space src k).rxCum ∧ CountsBy F.SKY_ACK_TX 1 k 0 s t ∧
        t = { s with now := t.now, regs := t.regs, sky := t.sky, out := t.out }) ∧
    (∀ (d seq : Nat) (e : TxEnt), (s.space k d).entry seq = some e →
      (s.awaits k d e = true → e.sends < 9 →
        Gives (.retransmitTimeout k d seq) s fun t =>
          t.now = max s.now (e.sentAt + 4000) ∧ CountsBy F.SKY_RETX 1 k 0 s t ∧
          (∃ p, p.seq = seq ∧ p.dest = e.pkt.dest ∧ p.defl = 0 ∧ p.addr = e.pkt.addr ∧
            ((∃ ch, Out.sent k ch p ∈ t.out ∧ p.payload = e.pkt.whole.payload) ∨ ∃ q x, x ∈ (t.stn k).queue q ∧ x.pkt = p ∧ p.payload = e.pkt.payload)) ∧
          t = { s with now := t.now, regs := t.regs, sky := t.sky, out := t.out }) ∧
      (s.awaits k d e = false → Gives (.retransmitTimeout k d seq) s (fun t => t = s.fresh) ∧ Gives (.retxLimit k d seq) s fun t => t = s.fresh) ∧
      (s.awaits k d e = true → 9 ≤ e.sends → d ≠ k → d < 44 →
        Gives (.retxLimit k d seq) s fun t =>
          t.now = max s.now (e.sentAt + 4000) ∧ CountsBy F.SKY_RETX_LIMIT 1 k 0 s t ∧ t.get F.FLT_SRC_STICKY k = 1 ∧ Out.report k e.req.agent e.req.work .unreachable ∈ t.out ∧
          (∀ x ∈ (t.space k d).store, x.gaveUp = true) ∧ (t.space k d).txClosed = true ∧ (t.space k d).rxClosed = true ∧ (t.space d k).txClosed = true ∧ (t.space d k).rxClosed = true ∧
          t.sky.restarts = s.sky.restarts ++ [⟨false, k, d, 0, t.now, []⟩] ∧ t.mem = s.mem))

/-- R53, R55, R64, R79 to R82, R85, R87: a received packet passes R55's checks in order. One that fails is counted where it fails and is dropped; one for another site goes into the relay buffer of its VC, behind what stands there, and on from there when a channel is free for it; a
sequenced one for this site commits when it is the next of its space, is held when it is ahead of it, and is counted when it repeats one or lies beyond the window; an ack releases what it covers.
The model's choices in it: a station without relay buffers and the place of the closed ejection's drop (log entry 68), a repeat of a held number (69), how a read's response is taken (70), and a write into a mirror copy (71). -/
def Obligations.PacketsReceived : Prop :=
  ∀ (s : State) (k ch : Nat) (p : Pkt), k < 44 → s.alive = true → s.mild → s.receives k = true → ch < (s.rxChans k).length → ch < 384 →
    let q := p.cut
    let sp := s.space q.src k
    let d := subMod 24 q.seq sp.rxCum
    let dropped := fun (f : Fld) (t : State) => CountsBy f 1 k 0 s t ∧ t.sky = s.sky ∧ t.mem = s.mem ∧ t.poison = s.poison
    (q.hcrc ≠ q.hcrcOf → Gives (.packetReceive k ch p []) s (dropped F.SKY_HDR_CRC)) ∧
    (q.hcrc = q.hcrcOf →
      Gives (.packetReceive k ch p []) s (fun t => CountsBy F.SKY_RXCNT_PKT 1 k ch s t ∧ CountsBy F.SKY_RXCNT_BYTE q.wire k ch s t) ∧
      (44 ≤ q.dest ∨ 44 ≤ q.src → Gives (.packetReceive k ch p []) s (dropped F.SKY_BAD_SITE)) ∧
      (q.dest < 44 → q.src < 44 → q.formatOk = false → Gives (.packetReceive k ch p []) s (dropped F.SKY_BAD_FMT)) ∧
      (q.dest < 44 → q.src < 44 → q.formatOk = true → q.dest ≠ k →
        (relays k = true → 0 < (s.stn k).relayFree q.vc → Gives (.packetReceive k ch p []) s fun t =>
          CountsBy F.SKY_RIN_PKT 1 k 0 s t ∧
          ((∃ x ∈ (t.stn k).queue (4 + q.vc), x.pkt = q) ∨ ∃ c p', Out.sent k c p' ∈ t.out ∧ p'.src = q.src ∧ p'.dest = q.dest ∧ p'.seq = q.seq ∧ p'.payload = q.whole.payload) ∧
          ((∀ c ∈ s.sky.chans, c.writer = k → c.state = 1 → c.busy = true) →
            ((t.stn k).queue (4 + q.vc)).map (fun x => x.pkt) = ((s.stn k).queue (4 + q.vc)).map (fun x => x.pkt) ++ [q] ∧ t.out = []) ∧
          t = { s with regs := t.regs, sky := t.sky, out := t.out }) ∧
        (relays k = false ∨ (s.stn k).relayFree q.vc = 0 → Gives (.packetReceive k ch p []) s (dropped F.SKY_RELAY_DROP))) ∧
      (q.dest = k → q.src < 44 → q.formatOk = true →
        (s.isSet F.SKY_DLV_EJECT_CLOSED k = true ∨ sp.rxClosed = true → Gives (.packetReceive k ch p []) s (dropped F.SKY_CLOSED)) ∧
        (s.isSet F.SKY_DLV_EJECT_CLOSED k = false → sp.rxClosed = false →
          (q.pcrc ≠ q.pcrcOf → Gives (.packetReceive k ch p []) s (dropped F.SKY_PAY_CRC)) ∧
          (q.pcrc = q.pcrcOf → q.gen ≠ sp.rxGen → Gives (.packetReceive k ch p []) s (dropped F.SKY_STALE_GEN)) ∧
          (q.pcrc = q.pcrcOf → q.gen = sp.rxGen → q.op ≠ 4 → q.src ≠ k →
            (d = 0 ∨ 2 ^ 23 < d → Gives (.packetReceive k ch p []) s fun t => CountsBy F.SKY_DUP 1 k 0 s t ∧ CountsBy F.SKY_ACK_TX 1 k 0 s t ∧ (t.space q.src k).rxCum = sp.rxCum ∧ t.mem = s.mem) ∧
            (8192 < d → d ≤ 2 ^ 23 → Gives (.packetReceive k ch p []) s (dropped F.SKY_WINDOW)) ∧
            (2 ≤ d → d ≤ 8192 → (∀ x ∈ sp.held, x.seq ≠ q.seq) → s.heldNow k < reorderLimit k →
              Gives (.packetReceive k ch p []) s fun t => (t.space q.src k).held = sp.held ++ [q] ∧ (t.space q.src k).rxCum = sp.rxCum ∧ t.mem = s.mem ∧ t.out = []) ∧
            (2 ≤ d → d ≤ 8192 → (∀ x ∈ sp.held, x.seq ≠ q.seq) → reorderLimit k ≤ s.heldNow k → Gives (.packetReceive k ch p []) s (dropped F.SKY_REORDER_FULL)) ∧
            (d = 1 → sp.held = [] → s.hostWaits k q.src q.seq = false → (k = 42 → s.linkUp = true) →
              (∀ why f, s.refusal k q = some (why, f) →
                Gives (.packetReceive k ch p []) s fun t => CountsBy f 1 k 0 s t ∧ (t.space q.src k).rxCum = q.seq ∧ (t.space q.src k).unacked = 0 ∧ CountsBy F.SKY_ACK_TX 1 k 0 s t ∧ t.mem = s.mem) ∧
              (s.refusal k q = none → q.op = 3 → siteKind k ≠ .guest →
                Gives (.packetReceive k ch p []) s fun t =>
                  (t.stn k).mailbox = (s.stn k).mailbox ++ [(q.src, q.addr % 64, q.payload)] ∧ Out.message k q.src (q.addr % 64) q.payload ∈ t.out ∧ (t.space q.src k).rxCum = q.seq ∧
                  CountsBy F.SKY_EJ_PKT 1 k 0 s t ∧ t.mem = s.mem) ∧
              (s.refusal k q = none → q.op = 0 → siteKind k = .tile ∨ siteKind k = .mem → q.payload ≠ [] → s.mirrorRuns q.addr q.payload.length = [] →
                Gives (.packetReceive k ch p []) s fun t =>
                  t.rdN q.addr q.payload.length = q.payload ∧ (∀ b, b < q.addr ∨ q.addr + q.payload.length ≤ b → t.rd b = s.rd b) ∧ (t.space q.src k).rxCum = q.seq ∧ CountsBy F.SKY_EJ_PKT 1 k 0 s t))) ∧
          (q.pcrc = q.pcrcOf → q.gen = sp.rxGen → q.op = 4 → (s.stn k).backlog = [] → (s.space k q.src).waits = [] →
            Gives (.skyAck k ch p) s fun t =>
              (∀ e ∈ (t.space k q.src).store, aheadMod 24 e.pkt.seq q.seq = true) ∧
              (t.space k q.src).txCum = (if aheadMod 24 q.seq (s.space k q.src).txCum then q.seq else (s.space k q.src).txCum) ∧
              (∀ e, bit q.aux 16 = true → (s.space k q.src).rejectable (bitsOf q.aux 17 24) = some e →
                CountsBy F.SKY_REFUSED 1 k 0 s t ∧ Out.report k e.req.agent e.req.work (.refused (bitsOf q.aux 41 4)) ∈ t.out) ∧ t.mem = s.mem)))) ∧
    (q.op ≠ 4 ∨ q.dest ≠ k → Gives (.skyAck k ch p) s fun t => t = s.fresh)

/-- R89, R94 to R96, R102: a station told of a restart of a pair's spaces purges its ends, which start again from SEQ 0, and sets DONE; once every present station has, plus 2 µs, the spaces open again. A fence covers what its
station holds when it is issued, waits behind 16 others, and returns its result when all it covers has ended.
That a fence which waits as a 17th covers what was numbered before its issue is the model's choice (log entry 140). -/
def Obligations.RestartsAndFences : Prop :=
  ∀ (s : State) (k : Nat), k < 44 → s.alive = true → s.mild →
    (∀ (src : Iface) (v y : Nat), s.barUp = true → 4 ≤ s.get F.FLT_BOOT_STEP → s.domStopped (84 + k) = false → s.domStopped (24 + k) = false → y < 44 → y ≠ k → bit v 12 = false →
      (bitsOf v 0 6 = k ∧ bitsOf v 6 6 = y) ∨ (bitsOf v 0 6 = y ∧ bitsOf v 6 6 = k) →
      Gives (.skyDlvRestart src k v) s fun t =>
        (t.space k y).store = [] ∧ (t.space k y).txNext = 0 ∧ (t.space k y).txCum = 0xFFFFFF ∧ (t.space y k).rxCum = 0xFFFFFF ∧ (t.space y k).held = [] ∧
        (∀ q, q < 6 → ∀ e ∈ (t.stn k).queue q, ¬ ((e.pkt.src = k ∧ e.pkt.dest = y) ∨ (e.pkt.src = y ∧ e.pkt.dest = k))) ∧ t.get F.SKY_DLV_RESTAT_DONE k = 1 ∧
        (∀ r ∈ t.sky.restarts, r.scopeOne = false → r.a = bitsOf v 0 6 → r.b = bitsOf v 6 6 → k ∈ r.done) ∧ t.mem = s.mem) ∧
    ((∃ r ∈ s.sky.restarts, s.restartDone r = true) → s.get F.MGT_STAT_CROUPIER = 0 →
      Gives .spaceRestartReopen s fun t =>
        t.now = s.now + 2000 ∧ t.sky.restarts = s.sky.restarts.filter (fun r => !s.restartDone r) ∧
        (∀ r ∈ s.sky.restarts, s.restartDone r = true → r.scopeOne = false → (∀ x ∈ s.sky.restarts, s.restartDone x = false → inScope x.scopeOne x.a x.b r.a r.b = false) → (t.space r.a r.b).txClosed = false ∧ (t.space r.b r.a).txClosed = false) ∧
        (∀ r ∈ s.sky.restarts, s.restartDone r = true → r.scopeOne = true → t.get F.SKY_DLV_EJECT_CLOSED r.a = 0) ∧ t.mem = s.mem) ∧
    ((∀ r ∈ s.sky.restarts, s.restartDone r = false) ∨ s.get F.MGT_STAT_CROUPIER ≠ 0 → Gives .spaceRestartReopen s fun t => t = s.fresh) ∧
    (∀ (a : Agent) (scope : FenceScope) (work : Option Nat),
      let f : Fence := { id := s.sky.nextId, agent := a, scope := scope, work := work, holds := (s.covered k scope).1, covers := (s.covered k scope).1, reads := (s.covered k scope).2 }
      Gives (.fenceIssue k a scope work) s fun t =>
        (t.stn k).fences ++ (t.stn k).fwait = (if (s.stn k).fences.length < 16 then (s.stn k).fences ++ [f] ++ (s.stn k).fwait else (s.stn k).fences ++ (s.stn k).fwait ++ [f]) ∧
        t.sky.nextId = s.sky.nextId + 1 ∧ t = { s with sky := t.sky, out := [] }) ∧
    (∀ (id : Nat) (f : Fence), (s.stn k).fences.find? (fun f => decide (f.id = id) && f.ready) = some f →
      Gives (.fenceComplete k id) s fun t =>
        Out.fence k id f.result (f.refused.getD 0) ∈ t.out ∧ CountsBy F.SKY_FENCE_DONE 1 k 0 s t ∧ (t.stn k).fences = ((s.stn k).fences.filter fun g => decide (g.id ≠ id)) ++ (s.stn k).fwait.take 1 ∧
        (f.implicit = true → t.trn.fenced.contains k = true) ∧ t = { s with regs := t.regs, sky := t.sky, trn := { s.trn with fenced := t.trn.fenced }, out := t.out }) ∧
    (∀ id, (∀ f ∈ (s.stn k).fences, f.id = id → f.ready = false) → Gives (.fenceComplete k id) s fun t => t = s.fresh)

/-! ## Transits, timing, charts -/

/-- R98, R99, R259 to R266, R271, R306, R321, R326, R351: the phases of a transit in their order and at their times. A tick moves the number, never before its time, and says how late it came; the deal phase takes eligible cards alone; the run phase
begins 1.5 µs after the tick, and ends at a site not before E and with an implicit fence; settle makes what has finished DONE; the quiet window opens when settle's time is over; stations whose drain was put off
take packets again at the tick.
When settle begins and how long it lasts, and how an automatic switch waits, are the model's choices (log entries 87, 85). -/
def Obligations.TransitsRun : Prop :=
  ∀ s : State, s.alive = true → s.mild →
    (let first := s.get F.TRN_STAT_PHASE = 5
     let floor := if first then s.now else max (max s.now (s.trn.quietAt + 500)) s.trn.pauseEnd
     let due := s.trn.tick + s.periodNs
     let ready := s.inService = true ∧ s.boot.halt = false ∧ s.windowHeld = false ∧ (s.get F.TRN_STAT_PHASE = 5 ∨ s.get F.TRN_STAT_PHASE = 4)
     (ready → s.follows = false ∨ s.get F.TRN_STAT_SYNC ≠ 2 →
       let at_ := if first then floor else max floor due
       Gives .transitTick s fun t =>
         t.now = at_ ∧ t.trn.tick = at_ ∧ t.get F.TRN_NUM = (s.get F.TRN_NUM + 1) % 2 ^ 64 ∧ t.get F.TRN_STAT_PHASE = 0 ∧ t.trn.started = [] ∧ t.trn.ended = [] ∧ t.trn.fenced = [] ∧
         (t.get F.TRN_STAT_LATE = 1 ↔ ¬ first ∧ due < at_) ∧ (¬ first → due < at_ → CountsBy F.TRN_LATE 1 0 0 s t) ∧
         (s.trn.putOff = true → ∀ k ∈ s.sites, s.get F.SKY_STN_STATUS_STATE k = 3 → t.get F.SKY_STN_STATUS_STATE k ∈ [1, 2]) ∧ (s.cht.sw = none → (∀ p ∈ s.hands.slots, p.2.state ≠ 3) → t.mem = s.mem ∧ t.poison = s.poison)) ∧
     (ready → s.follows = true → s.get F.TRN_STAT_SYNC = 2 → s.trn.lastT ≠ s.get F.TRN_NUM →
       Gives .transitTick s fun t =>
         t.now = max floor s.trn.poleAt ∧ t.trn.tick = s.trn.poleAt ∧ t.get F.TRN_NUM = s.trn.lastT % 2 ^ 64 ∧ t.get F.TRN_STAT_PHASE = 0 ∧ t.trn.started = [] ∧ (s.cht.sw = none → (∀ p ∈ s.hands.slots, p.2.state ≠ 3) → t.mem = s.mem)) ∧
     (¬ ready → Gives .transitTick s fun t => t = s.fresh)) ∧
    (s.get F.TRN_STAT_PHASE = 0 → s.boot.halt = false → s.tally.copyWait = true → Gives .dealPhase s fun t => t = s.fresh) ∧
    (s.get F.TRN_STAT_PHASE = 0 → s.boot.halt = false → s.tally.copyWait = false →
      let at_ := max s.now (s.trn.tick + 500)
      Gives .dealPhase s (fun t =>
        t.now = at_ ∧ t.get F.TRN_STAT_PHASE = 1 ∧ (∀ q, (s.ent q).state ≠ 1 → t.ent q = s.ent q) ∧ (s.dealOn = false → t.tally = s.tally ∧ t.get F.TAL_STAT_WAIT_TABLE = s.get F.TAL_STAT_WAIT_TABLE) ∧
        Keeps [F.TRN_STAT_PHASE.key 0 0, F.TAL_STAT_WAIT_TABLE.key 0 0] s t ∧ t = { s with now := at_, regs := t.regs, tally := { s.tally with entries := t.tally.entries }, out := t.out }) ∧
      (∀ q, s.dealOn = true → s.entsIn 1 = [q] → s.eligible q (s.ent q) = true → (s.ent q).chart = s.cht.epoch → s.needsRetired (s.ent q).card = none → (s.ent q).warm = false →
        (s.lostTables (s.ent q).card).isEmpty = true → pipeOf (s.ent q).card = none →
        Gives .dealPhase s fun t => (t.ent q).state = 2 ∧ (t.ent q).transit = s.get F.TRN_NUM ∧ (t.ent q).card = (s.ent q).card)) ∧
    (s.get F.TRN_STAT_PHASE = 1 →
      Gives .runPhaseStart s fun t =>
        t.now = max s.now (s.trn.tick + 1500) ∧ t.get F.TRN_STAT_PHASE = 2 ∧ t.trn.stretch = [] ∧ ((∀ k, k < 24 → tabGet 0 s.clk.stretch k = 0) → Keeps [F.TRN_STAT_PHASE.key 0 0] s t) ∧
        t = { s with now := t.now, regs := t.regs, trn := t.trn, clk := t.clk, out := [] }) ∧
    (∀ site, s.get F.TRN_STAT_PHASE = 2 → s.present site = true → s.trn.runOver.contains site = false → s.working site = false →
      Gives (.runPhaseEnd site) s fun t =>
        t.now = max s.now s.nominalE ∧ t.trn.runOver.contains site = true ∧ t.trn.runEnd = t.now ∧
        (∃ f ∈ (t.stn site).fences ++ (t.stn site).fwait, f.implicit = true ∧ f.id + 1 = t.sky.nextId ∧ f.covers = (t.covered site .all).1) ∧ t.mem = s.mem) ∧
    (s.get F.TRN_STAT_PHASE = 2 → (∀ k ∈ s.sites, s.trn.fenced.contains k = true) → s.cometQuiet s.trn.runEnd = true →
      Gives .settleStart s fun t =>
        t.now = max s.now s.nominalE ∧ t.get F.TRN_STAT_PHASE = 3 ∧ t.trn.settled = t.now ∧
        (s.dealing = true → ∀ q, (s.ent q).state = 2 → (s.ent q).finished = true → (s.ent q).opcode ∉ [0x0A, 0x0B, 0x0F] → (t.ent q).state = 3 ∧ (t.ent q).transit = s.get F.TRN_NUM) ∧
        (s.dealing = false → t.tally.entries = s.tally.entries ∧ t.tally.decks = s.tally.decks ∧ t.hands = s.hands) ∧ (s.get F.TAL_STAT_STANDBY_OK = 1 → t.tally.copyWait = true) ∧
        (∀ q, (s.ent q).state = 2 → (s.ent q).finished = false → (s.ent q).started = false → (t.ent q).state = 2) ∧ t.mem = s.mem) ∧
    (s.get F.TRN_STAT_PHASE = 2 → (∃ k ∈ s.sites, s.trn.fenced.contains k = false) →
      Gives .settleStart s fun t => t = s.fresh) ∧
    (∀ q : QuietReport, s.get F.TRN_STAT_PHASE = 3 → s.tally.copyWait = true → Gives (.quietWindowOpen q) s fun t => t = s.fresh) ∧
    (∀ q : QuietReport, s.inService = true → s.get F.TRN_STAT_PHASE = 3 → s.tally.copyWait = false →
      Gives (.quietWindowOpen q) s fun t =>
        t.now = max s.now (s.trn.settled + s.settleNs) ∧ t.get F.TRN_STAT_PHASE = 4 ∧ t.trn.quietAt = t.now ∧
        (s.get F.DLR_STAT_HWIN_PENDING = 1 → t.get F.DLR_STAT_HWIN_PENDING = 0 ∧ t.host.base = s.get F.DLR_HWIN_BASE * 2 ^ 30 ∧ t.host.gib = s.get F.DLR_HWIN_SIZE_GIB) ∧ (s.get F.DLR_STAT_HWIN_PENDING = 0 → t.host = s.host) ∧
        t.get F.CMT_STAT_WIN_PENDING = 0)

/-- R201, R223, R224, R261, R285, R323, R324: a tile starts an entry of its schedule when its phase, its time, its barrier and its tile allow, for the card that holds its slot, and idles where no started card does; when the run has no job and no pass under
way its outputs are written, it is counted, and the entry has ended.
Which tile runs which unit, when an operator reads and writes, and that an entry without a started card idles, are the model's choices (log entry 108). -/
def Obligations.EntriesRun : Prop :=
  ∀ (s : State) (i : Nat), s.alive = true → s.mild →
    (∀ (e : SchedEnt) (scratch : Nat), s.sched[i]? = some e → s.entryReady i e = true →
      (s.slotCard i e = none →
        Gives (.scheduleEntryStart i scratch []) s fun t =>
          t.trn.started.contains i = true ∧ t.trn.ended.contains i = true ∧ t = { s with trn := { s.trn with started := t.trn.started, ended := t.trn.ended, ends := t.trn.ends }, out := [] }) ∧
      (∀ (q : Nat) (o : OpDesc), s.slotCard i e = some q → s.ops[e.op]? = some o → (e.waitBar = true → s.sky.broken.contains e.barrier = false) →
        let op := (applyCard (s.ent q).card e.op o).1
        let its := fun r : OpRun => r.idx = i ∧ r.tile = e.tile ∧ r.seq = some q ∧ r.op = op
        (op.opcode ≠ 0x09 → op.optical = false →
          Gives (.scheduleEntryStart i scratch []) s fun t =>
            t.now = max s.now (s.trn.tick + 1500 + e.start) ∧ t.trn.started.contains i = true ∧ (∃ r, t.cmp.runs = s.cmp.runs ++ [r] ∧ its r ∧ r.jobs = []) ∧ t.mem = s.mem) ∧
        (op.optical = true →
          Gives (.scheduleEntryStart i scratch []) s fun t =>
            t.now = max s.now (s.trn.tick + 1500 + e.start) ∧ t.trn.started.contains i = true ∧ (∃ r ∈ t.cmp.runs, its r ∧ r.jobs = []) ∧ t.cmp.runs.length = s.cmp.runs.length + 1 ∧
            t.cmp.passes = s.cmp.passes ∧ t.omus = s.omus) ∧
        (op.opcode = 0x09 →
          Gives (.scheduleEntryStart i scratch []) s fun t =>
            t.now = max s.now (s.trn.tick + 1500 + e.start) ∧ t.trn.started.contains i = true ∧ ∃ r ∈ t.cmp.runs, its r)) ∧
      (∀ (q : Nat) (o : OpDesc), s.slotCard i e = some q → s.ops[e.op]? = some o → e.waitBar = true → s.sky.broken.contains e.barrier = true → (s.ent q).state = 2 →
        Gives (.scheduleEntryStart i scratch []) s fun t => (t.ent q).state = 1 ∧ t.trn.ended.contains i = true ∧ t.mem = s.mem)) ∧
    (∀ (e : SchedEnt) (scratch : Nat), s.sched[i]? = some e → s.entryReady i e = false → Gives (.scheduleEntryStart i scratch []) s fun t => t = s.fresh) ∧
    (∀ run : OpRun, s.cmp.runs.find? (fun r => decide (r.idx = i)) = some run → run.tile < 24 →
      (run.jobs = [] → s.gemmReady run = true →
        Gives (.operatorComplete i) s fun t => CountsBy F.CMP_OPS 1 run.tile 0 s t ∧ t.trn.ended.contains i = true ∧ (∀ r ∈ t.cmp.runs, r.idx ≠ i)) ∧
      (∀ p : OutPiece, run.jobs = [] → run.op.opcode ≠ 0x09 → run.op.optical = false → (∀ r ∈ run.status, r.status ≠ 3) → run.outs = [p] → s.siteOf p.addr = some run.tile → (∀ a n, s.mirrorRuns a n = []) →
        Gives (.operatorComplete i) s fun t => t.rdN p.addr p.bytes.length = p.bytes ∧ (∀ a, a < p.addr ∨ p.addr + p.bytes.length ≤ a → t.rd a = s.rd a)) ∧
      (run.jobs ≠ [] ∨ s.gemmReady run = false → Gives (.operatorComplete i) s fun t => t = s.fresh))

/-- R269 to R272, R402 to R404: a frame with a bad CRC is counted and no more; four good ones in a row lock a follower, which then takes the Pole's time; 1 µs without one puts it in HOLDOVER and 16 transits of that stop it; a successor acts
after 4; a Pole listens before it sends; a follower measures the path once in 1 ms.
How a locked follower takes the Pole's time is the model's choice (log entry 88). -/
def Obligations.TimeIsFollowed : Prop :=
  ∀ s : State, s.alive = true →
    (∀ f : TsyncFrame, s.inService = true → s.follows = true →
      let good := crc16 (tsyncBody f.time f.transit f.flags) = f.crc
      let there := f.time + s.get F.TRN_TSYNC_DELAY_NS
      (¬ good → Gives (.tsyncFrame f) s fun t =>
        CountsBy F.TRN_STAT_FRAME_ERR 1 0 0 s t ∧ Keeps [F.TRN_STAT_FRAME_ERR.key 0 0] s t ∧ t = { s with regs := t.regs, out := t.out }) ∧
      (good → s.get F.TRN_CFG_SOURCE = 0 → s.cmt.acting = false → s.get F.TRN_STAT_SYNC ≠ 2 → f.transit = s.trn.lastT + 1 → 3 ≤ s.trn.good →
        Gives (.tsyncFrame f) s fun t =>
          t.now = there ∧ t.get F.TRN_STAT_SYNC = 2 ∧ t.trn.lastT = f.transit ∧ t.trn.poleAt = there ∧ t.get F.TRN_TSYNC_OFFSET = ofSigned 16 ((s.now : Int) - (there : Int)) % 2 ^ 16 ∧
          Keeps [F.TRN_STAT_SYNC.key 0 0, F.TRN_TSYNC_OFFSET.key 0 0] s t ∧ t.mem = s.mem) ∧
      (good → s.get F.TRN_CFG_SOURCE = 0 → s.cmt.acting = false → s.get F.TRN_STAT_SYNC ≠ 2 → f.transit ≠ s.trn.lastT + 1 →
        Gives (.tsyncFrame f) s fun t => t.now = s.now ∧ t.trn.good = 1 ∧ t.trn.lastT = f.transit ∧ Keeps [F.TRN_TSYNC_OFFSET.key 0 0] s t) ∧
      (good → s.get F.TRN_CFG_SOURCE = 0 → s.cmt.acting = false → s.get F.TRN_STAT_SYNC = 2 → bit f.flags 0 = false →
        Gives (.tsyncFrame f) s fun t =>
          t.now = there ∧ t.trn.poleAt = there ∧ t.trn.hold = 0 ∧ t.trn.lastT = f.transit ∧ t.trn.tick = s.trn.tick + there - s.now ∧ t.trn.quietAt = s.trn.quietAt + there - s.now ∧ Keeps [F.TRN_TSYNC_OFFSET.key 0 0] s t)) ∧
    (s.follows = true → s.get F.TRN_STAT_SYNC = 2 →
      Gives .tsyncTimeout s fun t =>
        t.get F.TRN_STAT_SYNC = 3 ∧ t.now = max s.now (s.trn.poleAt + s.periodNs + 1000) ∧ Keeps [F.TRN_STAT_SYNC.key 0 0] s t ∧
        t = { s with now := t.now, regs := t.regs, trn := { s.trn with good := 0, hold := 0 }, out := [] }) ∧
    (s.get F.TRN_STAT_SYNC = 3 → 16 ≤ s.trn.hold → s.cmt.acting = false → s.calm 230 →
      Gives .holdoverExpiry s fun t => t.get F.TRN_STAT_SYNC = 4 ∧ Raised 230 s t ∧ KeepsBut [fltBlock, evfBlock] [F.TRN_STAT_SYNC.key 0 0] s t ∧ t.mem = s.mem) ∧
    (s.get F.TRN_STAT_SYNC = 3 → 4 ≤ s.trn.hold → s.con.successor = s.con.partId → s.con.pole ≠ s.con.partId →
      Gives .successorTakeover s fun t => t.poles = true ∧ t = { s with cmt := { s.cmt with acting := true }, out := [] }) ∧
    (∀ told, s.cmt.listening = true →
      let heard := told || s.cmt.heard
      Gives (.poleListenDone told) s fun t =>
        t.cmt.listening = false ∧ t.cmt.yields = heard ∧ t.now = max s.now (s.cmt.listenAt + 2 * s.periodNs) ∧ (heard = true → t.get F.TRN_STAT_SYNC = 1) ∧
        (heard = false → s.get F.TRN_CFG_ROLE = 1 → t.poles = true) ∧
        (if heard then Keeps [F.TRN_STAT_SYNC.key 0 0] s t else Keeps [] s t) ∧
        t = { s with now := t.now, regs := t.regs, cmt := { s.cmt with listening := false, heard := false, yields := heard }, out := [] }) ∧
    (∀ f : TsyncFrame, s.cmt.listening = true → s.follows = false → bit f.flags 0 = true → crc16 (tsyncBody f.time f.transit f.flags) = f.crc →
      Gives (.tsyncFrame f) s fun t => t = { s.fresh with cmt := { s.cmt with heard := true } }) ∧
    (∀ p, s.follows = true → (s.peerDef s.con.pole).isSome = true → (s.sess s.con.pole).ord = some p →
      Gives .timingExchange s fun t => t.cmt.asked = some s.now ∧ t.now = s.now ∧ t.mem = s.mem ∧ t.sky = s.sky ∧
        ((s.port (s.pathAt s.con.pole p).1).cur = none → s.portUp (s.pathAt s.con.pole p).1 = true → (s.port (s.pathAt s.con.pole p).1).q0 = [] →
          ∃ f, Out.frame (s.pathAt s.con.pole p).1 f ∈ t.out ∧ f.kind = 3 ∧ leAt f.payload 17 8 = s.now % 2 ^ 64)) ∧
    (s.follows = false → Gives .timingExchange s fun t => t = s.fresh)

/-- R99, R100, R125, R290, R291, R295, R296, R298: a CHART_LOAD's image is copied to its slot and checked; a CHART_SWITCH is checked and its rings are prepared; its drain ends when nothing is queued or unacknowledged, its map is in force at
once, and 100 ns later stations take packets; a drain that does not fit is postponed and counted, and the eighth in a row fails the switch;
its stations stay drained until the window ends.
The model's choices in it: packets given up hold the drain (log entry 172), a retirement's switch waits for the one under way (190), what a slot shows of a chart that is not checked (191), and a switch that R418 rejects (202). -/
def Obligations.ChartsChange : Prop :=
  ∀ (s : State) (q : Nat), s.alive = true → s.mild →
    ((s.ent q).state = 2 → (s.ent q).started = false → (s.ent q).finished = false → (s.ent q).opcode = 0x0D →
      Gives (.chartLoad q) s fun t =>
        t.get F.CHT_SLOT_STATE s.standbySlot = 1 ∧ t.cht.load = some ⟨q, s.standbySlot, leAt (s.ent q).card 16 8, leAt (s.ent q).card 24 8⟩ ∧ (t.ent q).started = true ∧ (t.ent q).finished = false ∧
        (∀ f ∈ [F.CHT_SLOT_ERR, F.CHT_SLOT_ERR_SECT, F.CHT_SLOT_SIGNED, F.CHT_SLOT_VARIANTS, F.CHT_SLOT_STAGE_TRANSITS, F.CHT_ID], t.get f s.standbySlot = 0) ∧
        KeepsBut [] ([F.CHT_SLOT_STATE, F.CHT_SLOT_ERR, F.CHT_SLOT_ERR_SECT, F.CHT_SLOT_SIGNED, F.CHT_SLOT_VARIANTS, F.CHT_SLOT_STAGE_TRANSITS, F.CHT_ID].map fun f => f.key s.standbySlot 0) s t ∧
        t.mem = s.mem) ∧
    (∀ (l : Load) (image : List Byte) (ok : Bool), s.cht.load = some l → l.slot < 2 → (s.ent l.seq).state = 2 →
      (s.hostGone l.src = true ∨ ok = false ∨ s.foreign l.seq l.src = true ∨ s.fetchRange l.src l.len image false = none →
        Gives (.chartCopyDone image ok []) s fun t => t.get F.CHT_SLOT_STATE l.slot = 4 ∧ t.get F.CHT_SLOT_ERR l.slot = 24 ∧ t.cht.load = none ∧ (t.ent l.seq).finished = true ∧ t.mem = s.mem) ∧
      (∀ (p : Piece) (im : Img), s.hostGone l.src = false → ok = true → s.foreign l.seq l.src = false → s.fetchRange l.src l.len image false = some p → (∀ i, i < l.len → p.bad i = false) →
        readImage p.bytes l.len = .ok im → s.checkChart p.bytes l.len = .ok im.chart →
        Gives (.chartCopyDone image ok []) s fun t =>
          t.get F.CHT_SLOT_STATE l.slot = 2 ∧ t.get F.CHT_SLOT_ERR l.slot = 0 ∧ t.get F.CHT_LOADED_TIME l.slot = s.now % 2 ^ 64 ∧ t.cht.load = none ∧ tabGet {} t.cht.slots l.slot = im.chart ∧
          (t.ent l.seq).finished = true ∧ (p.bytes.length ≤ 2 ^ 32 → s.memUp 0 = true → t.rdN (slotBase 0 l.slot) p.bytes.length = p.bytes))) ∧
    ((s.ent q).state = 2 → (s.ent q).started = false → (s.ent q).finished = false → (s.ent q).opcode = 0x0E →
      let slot := leAt (s.ent q).card 16 1
      let v := if leAt (s.ent q).card 17 1 = 0xFF then (tabGet {} s.cht.slots slot).cover s.retTiles s.retMem else some (leAt (s.ent q).card 17 1)
      (∀ err, s.switchErr slot v (leAt (s.ent q).card 24 8) = some err →
        Gives (.chartSwitch q) s fun t =>
          t.cht.sw = none ∧ t.get F.CHT_SWITCH_STATE = 0 ∧ t.get F.CHT_SWITCH_LAST_ERR = err ∧ (t.ent q).finished = true ∧ (t.ent q).value = 0 ∧ (∃ r ∈ (t.ent q).runs, r.status = 0x0A) ∧ t.mem = s.mem ∧ t.sky = s.sky) ∧
      (∀ w, s.switchErr slot v (leAt (s.ent q).card 24 8) = none → v = some w →
        Gives (.chartSwitch q) s fun t =>
          t.cht.sw = some { seq := some q, slot := slot, variant := w, atT := leAt (s.ent q).card 24 8 } ∧ t.get F.CHT_SWITCH_STATE = 1 ∧ t.get F.CHT_SWITCH_AUTO = 0 ∧ (t.ent q).started = true ∧
          (t.ent q).finished = false ∧ t.mem = s.mem ∧ t.sky = s.sky)) ∧
    (∀ w : Switch, s.cht.sw = some w →
      (∀ bad, s.get F.CHT_SWITCH_STATE = 1 → w.ready = false → (∀ r ∈ s.prepRings ((tabGet {} s.cht.slots w.slot).specs w.variant), r.2.1 < 1024) →
        Gives (.switchPrepareDone bad) s fun t =>
          t.cht.sw = some { w with ready := true } ∧ (∀ r ∈ s.prepRings ((tabGet {} s.cht.slots w.slot).specs w.variant), (r.1, r.2.1) ∈ bad → t.get F.TWK_RING_STATE r.1 r.2.1 = 6) ∧
          ((∀ k, k < 44 → (s.stn k).locking = false) → KeepsBut [lightBlock] [] s t ∧ t = { s with regs := t.regs, cht := { s.cht with sw := t.cht.sw }, out := [] })) ∧
      (s.trn.putOff = true → s.get F.TRN_STAT_PHASE = 4 → s.drainLine = true →
        Gives .drainComplete s fun t => (∀ k ∈ s.sites, s.get F.SKY_STN_STATUS_STATE k = 3 → t.get F.SKY_STN_STATUS_STATE k = 4) ∧ t.cht = s.cht ∧ t.sky = s.sky ∧ t.mem = s.mem) ∧
      (s.trn.putOff = false → s.get F.CHT_SWITCH_STATE = 3 → w.mapped = false → s.get F.TRN_STAT_PHASE = 4 → s.drainLine = true → s.cmp.passes = [] →
        Gives .drainComplete s fun t =>
          t.trn.drain = some (s.now + 1) ∧ t.now = s.now + 1 ∧ t.cht.sw = some { w with mapped := true, left := s.stageN w } ∧
          t.sky.chans.length = ((tabGet {} s.cht.slots w.slot).specs w.variant).length ∧ (∀ k ∈ s.sites, s.get F.SKY_STN_STATUS_STATE k = 3 → t.get F.SKY_STN_STATUS_STATE k = 4) ∧ t.mem = s.mem) ∧
      (s.drainLine = false → Gives .drainComplete s fun t => t = s.fresh) ∧
      (∀ d, w.mapped = true → s.trn.drain = some d → s.trn.putOff = false →
        Gives .mapSwitchResume s fun t =>
          t.now = max s.now (d + 100) ∧ t.get F.CHT_SWITCH_STATE = 4 ∧ t.trn.drain = none ∧ (∀ k ∈ s.sites, s.get F.SKY_STN_STATUS_STATE k = 4 → t.get F.SKY_STN_STATUS_STATE k ∈ [1, 2]) ∧ t.mem = s.mem) ∧
      (s.get F.CHT_SWITCH_STATE = 3 → w.mapped = false →
        (s.get F.CHT_SWITCH_POSTPONED < 7 → w.atT = 0 →
          Gives .drainPostpone s fun t =>
            t.get F.CHT_SWITCH_STATE = 2 ∧ t.get F.CHT_SWITCH_POSTPONED = s.get F.CHT_SWITCH_POSTPONED + 1 ∧ CountsBy F.CHT_SWITCH_POSTPONE_TOTAL 1 0 0 s t ∧ t.cht.sw = some w ∧
            t.trn.putOff = true ∧ (∀ k, t.get F.SKY_STN_STATUS_STATE k = s.get F.SKY_STN_STATUS_STATE k) ∧ t.mem = s.mem ∧ t.sky = s.sky) ∧
        (s.get F.CHT_SWITCH_POSTPONED = 7 ∨ w.atT ≠ 0 ∧ s.get F.CHT_SWITCH_POSTPONED < 7 →
          Gives .drainPostpone s fun t => t.get F.CHT_SWITCH_STATE = 0 ∧ t.get F.CHT_SWITCH_LAST_ERR = 6 ∧ t.cht.sw = none ∧ CountsBy F.CHT_SWITCH_POSTPONE_TOTAL 1 0 0 s t ∧ t.trn.putOff = true ∧ t.mem = s.mem)))

/-! ## Decks, cards, the two hubs -/

/-- R307, R310 to R315, R319 to R322, R331, R342, R344, R346, R349, R371: a doorbell moves its deck's ring or, out of range, puts the deck in ERROR; an enabled deck starts at the head of its rings and a disabled one drains; a card read is
rejected with its completion or takes the next Tally sequence and goes to the Dummy, whose acknowledgement accepts it; a mirror record becomes visible or fails; a deck's completions are signalled by time; the Tally window shows an entry held.
The model's choices in it: what DECK_CFG takes and when (log entry 16), errors at an enable (17), OUTSTANDING at an enable (18), the MSI-X table (25), a DRAINING deck's CQ_HEAD (89), how ERR 4 is told (194), and mirror writes sent again (199). -/
def Obligations.CardsAreTaken : Prop :=
  ∀ (s : State) (d : Nat), d < 64 → s.alive = true →
    let err (n : Nat) (t : State) : Prop :=
      t.get F.DLR_DECK_STAT_STATE d = 3 ∧ t.get F.DLR_DECK_STAT_ERR d = n ∧ KeepsBut [evfBlock] [F.DLR_DECK_STAT_STATE.key d 0, F.DLR_DECK_STAT_ERR.key d 0] s t ∧ t.tally = s.tally ∧ t.mem = s.mem
    (∀ v,
      (s.deckState d ≠ 1 → Gives (.sqTail d v) s fun t => CountsBy F.DLR_DECK_IGN 1 d 0 s t ∧ Keeps [F.DLR_DECK_IGN.key d 0] s t ∧ t = { s with regs := t.regs, out := t.out }) ∧
      (s.deckState d = 1 → v % 65536 < s.sqSize d → Gives (.sqTail d v) s fun t => (t.deck d).sqTail = v % 65536 ∧ (t.deck d).fetch = (s.deck d).fetch ∧ t = { s with tally := { s.tally with decks := t.tally.decks }, out := [] }) ∧
      (s.deckState d = 1 → s.sqSize d ≤ v % 65536 → Gives (.sqTail d v) s (err 2)) ∧
      (s.deckState d ≠ 1 → s.deckState d ≠ 2 → Gives (.cqHead d v) s fun t => CountsBy F.DLR_DECK_IGN 1 d 0 s t ∧ Keeps [F.DLR_DECK_IGN.key d 0] s t ∧ t = { s with regs := t.regs, out := t.out }) ∧
      (let n := (v % 65536 + s.cqSize d - (s.deck d).cqHead) % s.cqSize d
       s.deckState d = 1 ∨ s.deckState d = 2 → 0 < n →
        (v % 65536 < s.cqSize d → n ≤ (s.deck d).posted.length →
          Gives (.cqHead d v) s fun t =>
            (t.deck d).cqHead = v % 65536 ∧ (t.deck d).posted = (s.deck d).posted.drop n ∧ t.get F.DLR_DECK_OUT_OUTSTANDING d = (s.get F.DLR_DECK_OUT_OUTSTANDING d - n) % 2 ^ 17 ∧
            (∀ p ∈ (s.deck d).posted.take n, p.2 ≠ 0 → (t.ent p.2).freed = true) ∧ (s.deckState d = 2 → t.get F.DLR_DECK_OUT_OUTSTANDING d = 0 → t.deckState d = 0) ∧
            (t.deckState d = s.deckState d ∨ s.deckState d = 2 ∧ t.get F.DLR_DECK_OUT_OUTSTANDING d = 0) ∧ t.mem = s.mem ∧ t.sky = s.sky) ∧
        (s.cqSize d ≤ v % 65536 ∨ (s.deck d).posted.length < n → Gives (.cqHead d v) s (err 5)))) ∧
    (∀ (src : Iface) (v : Nat), s.inService = true →
      (s.deckState d = 0 → v % 2 = 1 →
        (6 ≤ v / 2 % 32 → v / 2 % 32 ≤ 16 → 6 ≤ v / 64 % 32 → v / 64 % 32 ≤ 16 → s.get F.TAL_MIRROR_BASE ≠ 0 → (∀ x ∈ s.tally.entries, x.2.deck ≠ d ∨ x.2.state = 0) →
          Gives (.deckEnable src d v) s fun t =>
            t.deckState d = 1 ∧ t.get F.DLR_DECK_STAT_ERR d = 0 ∧ t.get F.DLR_DECK_STAT_SQ_HEAD d = 0 ∧ t.get F.DLR_DECK_CQ_CQ_TAIL d = 0 ∧ t.get F.DLR_DECK_CQ_PHASE d = 1 ∧ t.get F.DLR_DECK_OUT_OUTSTANDING d = 0 ∧
            t.sqSize d = 2 ^ (v / 2 % 32) ∧ t.cqSize d = 2 ^ (v / 64 % 32) ∧ t.get F.DLR_DECK_CFG_ENABLE d = 1 ∧ (t.deck d).sqTail = 0 ∧ (t.deck d).posted = [] ∧
            KeepsBut [(0x1018 + 0x40 * d, 0x1028 + 0x40 * d)] [] s t ∧ t.mem = s.mem) ∧
        ((v / 2 % 32 < 6 ∨ 16 < v / 2 % 32 ∨ v / 64 % 32 < 6 ∨ 16 < v / 64 % 32 ∨ s.get F.TAL_MIRROR_BASE = 0) →
          Gives (.deckEnable src d v) s fun t => t.deckState d = 3 ∧ t.get F.DLR_DECK_STAT_ERR d = 1 ∧ t.tally = s.tally ∧ KeepsBut [evfBlock, (0x1018 + 0x40 * d, 0x1020 + 0x40 * d)] [] s t ∧ t.mem = s.mem)) ∧
      (s.deckState d = 1 ∨ s.deckState d = 3 → v % 2 = 0 →
        Gives (.deckDisable src d v) s fun t =>
          (if s.get F.DLR_DECK_OUT_OUTSTANDING d = 0 then t.deckState d = 0 else t.deckState d = 2) ∧ t.get F.DLR_DECK_CFG_ENABLE d = 0 ∧ t.tally = s.tally ∧
          t.get F.DLR_DECK_CFG_SQ_LOG2 d = s.get F.DLR_DECK_CFG_SQ_LOG2 d % 32 ∧ t.get F.DLR_DECK_CFG_CQ_LOG2 d = s.get F.DLR_DECK_CFG_CQ_LOG2 d % 32 ∧
          KeepsBut [(0x1018 + 0x40 * d, 0x1020 + 0x40 * d)] [F.DLR_DECK_IGN.key d 0] s t ∧ t.mem = s.mem)) ∧
    ((s.intakeOn = false → ∀ cards e, e ≠ .writeFailed → Gives (.cardFetch d cards e) s fun t => t = s.fresh) ∧
     (s.intakeOn = false → ∀ cards, (s.deckState d = 1 ∨ s.deckState d = 2) ∧ s.get F.DLR_DECK_OUT_OUTSTANDING d ≠ 0 → Gives (.cardFetch d cards .writeFailed) s (err 4)) ∧
     ∀ k, s.intakeOn = true → s.nextDeck = some (d, k) →
      (∀ cards, Gives (.cardFetch d cards .readFailed) s (err 3)) ∧
      (∀ card host : List Byte,
        let c := slice card 0 64
        let q := s.get F.TAL_NEXT_SEQ
        let verdict := s.checkCard d c (s.descBytes c host) false
        (verdict = none → s.indexFree = true →
          Gives (.cardFetch d [(card, host)] .ok) s fun t =>
            Out.cards d (s.get F.DLR_DECK_SQBASE d * 4096 + 64 * (s.deck d).fetch) 64 ∈ t.out ∧ (t.ent q).state = 1 ∧ (t.ent q).deck = d ∧ (t.ent q).slot = (s.deck d).fetch ∧ (t.ent q).card = c ∧ (t.ent q).acked = s.tally.noDummy ∧ t.get F.TAL_NEXT_SEQ = (q + 1) % 2 ^ 48 ∧
            (t.deck d).fetch = ((s.deck d).fetch + 1) % s.sqSize d ∧ t.get F.DLR_DECK_OUT_OUTSTANDING d = (s.get F.DLR_DECK_OUT_OUTSTANDING d + 1) % 2 ^ 17 ∧
            (s.tally.noDummy = false → Out.toDummy q ∈ t.out) ∧ t.mem = s.mem ∧ t.sky = s.sky) ∧
        (s.indexFree = false →
          Gives (.cardFetch d [(card, host)] .ok) s fun t =>
            t.get F.TAL_STAT_FULL = 1 ∧ t.get F.TAL_NEXT_SEQ = q ∧ t.tally.entries = s.tally.entries ∧ t.deck d = s.deck d ∧ Keeps [F.TAL_STAT_FULL.key 0 0] s t ∧ t.mem = s.mem) ∧
        (∀ r, verdict = some r → s.indexFree = true →
          (1 < s.cqSize d → Gives (.cardFetch d [(card, host)] .writeFailed) s fun t => t.deckState d = 3 ∧ t.get F.DLR_DECK_STAT_ERR d = 4 ∧ t.tally.entries = s.tally.entries ∧ t.mem = s.mem) ∧
          Gives (.cardFetch d [(card, host)] .ok) s fun t =>
            Out.completion d (s.get F.DLR_DECK_CQ_CQ_TAIL d) (s.get F.DLR_DECK_CQBASE d * 4096 + 32 * s.get F.DLR_DECK_CQ_CQ_TAIL d) (completionBytes 0 (s.deck d).fetch d 0 (cardTag c) false (s.isSet F.DLR_DECK_CQ_PHASE d) r) ∈ t.out ∧ t.get F.TAL_NEXT_SEQ = q ∧
            t.tally.entries = s.tally.entries ∧ (t.deck d).posted = (s.deck d).posted ++ [(s.get F.DLR_DECK_CQ_CQ_TAIL d, 0)] ∧ (t.deck d).fetch = ((s.deck d).fetch + 1) % s.sqSize d ∧
            (r.rejects = true → CountsBy F.DLR_REJECTED 1 0 0 s t ∧ CountsBy F.DLR_DECK_REJ 1 d 0 s t) ∧ (r.rejects = false → t.get F.DLR_REJECTED = s.get F.DLR_REJECTED) ∧ t.mem = s.mem))) ∧
    (∀ q, (s.ent q).deck = d →
      ((s.ent q).state = 1 → (s.ent q).acked = false → s.standbyHeard = false →
        Gives (.dummyAck q) s (fun t => t = s.fresh) ∧ Gives (.dummyAckTimeout q) s (fun t => t = s.fresh)) ∧
      ((s.ent q).state = 1 → (s.ent q).acked = false → s.standbyHeard = true → s.get F.TAL_STAT_MIRROR_ERR = 1 →
        Gives (.dummyAck q) s fun t => (t.ent q).held = true ∧ (t.ent q).acked = false ∧ t.regs = s.regs ∧ t.out = [] ∧ t.mem = s.mem) ∧
      ((s.ent q).state = 1 → (s.ent q).acked = false → (s.ent q).held = false → s.standbyHeard = true →
        (s.get F.TAL_STAT_MIRROR_ERR ≠ 1 → Gives (.dummyAck q) s (fun t =>
          (t.ent q).acked = true ∧ (t.ent q).transit = s.get F.TRN_NUM ∧ (t.ent q).state = 1 ∧ CountsBy F.DLR_ACCEPTED 1 0 0 s t ∧ CountsBy F.DLR_DECK_ACC 1 d 0 s t ∧
          (s.linkUp = true → 
            let at_ := s.get F.TAL_MIRROR_BASE * 2 ^ 23 + 128 * (q % 65536)
            Out.mirror q 1 (at_ + 64) (t.ent q).line1 ∈ t.out ∧ Out.mirror q 0 at_ ((t.ent q).line0 q) ∈ t.out) ∧
          KeepsBut [] [F.DLR_ACCEPTED.key 0 0, F.DLR_DECK_ACC.key d 0, F.DLR_DECK_STAT_SQ_HEAD.key d 0] s t ∧ t.mem = s.mem)) ∧
        Gives (.dummyAckTimeout q) s fun t =>
          t.now = s.now + 2000 ∧
          (if (s.ent q).tries < 3 then (t.ent q).tries = (s.ent q).tries + 1 ∧ t.out = [Out.toDummy q] ∧ t.regs = s.regs
           else t.get F.TAL_STAT_STANDBY_OK = 0 ∧ t.tally = { s.tally with copyWait := false } ∧ Keeps [F.TAL_STAT_STANDBY_OK.key 0 0] s t) ∧ t.mem = s.mem) ∧
      (s.linkUp = true → (s.ent q).state ≠ 0 →
        (∀ done, s.get F.TAL_STAT_MIRROR_ERR ≠ 1 → s.calm 228 →
          Gives (.mirrorWriteDone q done false) s fun t => t.get F.TAL_STAT_MIRROR_ERR = 1 ∧ Raised 228 s t ∧ t.ent q = s.ent q ∧ (q, done) ∈ t.tally.failed ∧
            Out.mirror q 0 (s.get F.TAL_MIRROR_BASE * 2 ^ 23 + 128 * (q % 65536)) ((s.ent q).line0 q) ∈ t.out ∧ KeepsBut [fltBlock, evfBlock] [F.TAL_STAT_MIRROR_ERR.key 0 0] s t ∧ t.mem = s.mem) ∧
        (∀ done, s.get F.TAL_STAT_MIRROR_ERR = 1 → (∃ x ∈ s.tally.failed, x ≠ (q, done)) →
          Gives (.mirrorWriteDone q done true) s fun t => t.get F.TAL_STAT_MIRROR_ERR = 1 ∧ t.canPost d = false ∧ t.mem = s.mem) ∧
        ((s.ent q).acked = true → (s.ent q).visible = false → (∀ x ∈ s.tally.failed, x = (q, false)) → (∀ p ∈ s.tally.entries, p.2.held = false) →
          Gives (.mirrorWriteDone q false true) s fun t =>
            (t.ent q).visible = true ∧ t.get F.TAL_STAT_MIRROR_ERR ≠ 1 ∧ (s.get F.TRN_STAT_PHASE ≠ 3 → Keeps [F.TAL_STAT_MIRROR_ERR.key 0 0] s t) ∧ t.mem = s.mem) ∧
        ((s.ent q).state = 3 → (∀ x ∈ s.tally.failed, x = (q, true)) → (∀ p ∈ s.tally.entries, p.2.held = false) →
          Gives (.mirrorWriteDone q true true) s fun t => (t.ent q).doneVis = true ∧ t.get F.TAL_STAT_MIRROR_ERR ≠ 1 ∧ t.mem = s.mem))) ∧
    (∀ at_, (s.deck d).unsigAt = some at_ → s.get F.DLR_DECK_CFG_IRQ_TIME_US d ≠ 0 →
      Gives (.irqTimerExpiry d) s fun t =>
        t.now = max s.now (at_ + s.get F.DLR_DECK_CFG_IRQ_TIME_US d * 1000) ∧
        (s.get F.MSIX_MASK d ≠ 1 → t.out = [Out.msix d]) ∧ (s.get F.MSIX_MASK d = 1 → t.out = [] ∧ (t.deck d).pend = true) ∧
        (t.deck d).unsig = 0 ∧ (t.deck d).unsigAt = none ∧ t.regs = s.regs ∧ t.mem = s.mem) ∧
    (∀ src, s.inService = true → (s.deck d).pend = true →
      Gives (.registerWrite src (0x404000C + 0x10 * d) false 0) s fun t =>
        t.get F.MSIX_MASK d = 0 ∧ t.out = [Out.msix d] ∧ (t.deck d).pend = false ∧ Keeps [F.MSIX_MASK.key d 0] s t ∧ t.mem = s.mem) ∧
    (∀ (src : Iface) (v : Nat), s.inService = true →
      let q := v % 2 ^ 48
      let held := decide (s.headSeq ≤ q ∧ q < s.get F.TAL_NEXT_SEQ ∧ (s.ent q).state ≠ 0)
      Gives (.talWinSel src v) s fun t =>
        t.get F.TAL_WIN_SEL = q ∧ (∀ j, j < 8 → t.get F.TAL_WIN_CARD j = if held then leAt (s.ent q).card (8 * j) 8 else 0) ∧
        (∀ j, j < 4 → t.get F.TAL_WIN_ENTRY j = if held then leAt ((s.ent q).bytes q (s.ent q).state) (8 * j) 8 else 0) ∧ KeepsBut [(0x20020, 0x20028), (0x20040, 0x200C0)] [] s t ∧ t.tally = s.tally ∧ t.mem = s.mem)

/-- R350: no deck is enabled while TAL_MIRROR_BASE is 0: it goes to ERROR with ERR 1. TAL_MIRROR_BASE takes a write only while every deck is DISABLED; a write at any other time is ignored and counted in TAL_STAT.IGN.
(The change log has room: with 1,024 entries held a write of a configuration-class register is dropped, R450.)
That the error resets nothing else of the deck is the model's reading (log entry 17). -/
def Obligations.DecksNeedAMirror : Prop :=
  ∀ (s : State) (src : Iface) (v : Nat), s.clocked → s.logFull = false →
    (∀ d, d < 64 → s.inService = true → s.deckState d = 0 → s.get F.TAL_MIRROR_BASE = 0 → v % 2 = 1 →
      Gives (.deckEnable src d v) s fun t => t.deckState d = 3 ∧ t.get F.DLR_DECK_STAT_ERR d = 1 ∧ t.tally = s.tally ∧ t.mem = s.mem) ∧
    ((∀ d, d < 64 → s.deckState d = 0) →
      Gives (.registerWrite src 0x20008 true v) s fun t =>
        t.get F.TAL_MIRROR_BASE = v / 2 ^ 23 % 2 ^ 29 ∧ KeepsBut [] (F.TAL_MIRROR_BASE.key 0 0 :: logKeys) s t ∧ t.tally = s.tally ∧ t.mem = s.mem) ∧
    ((∃ d, d < 64 ∧ s.deckState d ≠ 0) → s.get F.TAL_MIRROR_BASE < 2 ^ 29 →
      Gives (.registerWrite src 0x20008 true v) s fun t =>
        t.get F.TAL_MIRROR_BASE = s.get F.TAL_MIRROR_BASE ∧ CountsBy F.TAL_STAT_IGN 1 0 0 s t ∧ KeepsBut [] (F.TAL_STAT_IGN.key 0 0 :: logKeys) s t ∧ t.tally = s.tally ∧ t.mem = s.mem)

/-- R317, R318, R324, R325, R328, R359 to R367: each dealt card's run begins once, as its opcode says: what needs no engine is finished at once, movers, slots, captures and loads go on until their own ends. A mover's end writes its bytes, stages a
hand's rows, or says what was refused; a capture is written to its place; a hand written back is free.
The model's choices in it: what a mover carries and when its packets take effect (log entry 95), when a capture comes (97), and how far a write-back has come (196). -/
def Obligations.CardsRun : Prop :=
  ∀ (s : State) (q : Nat), s.alive = true → s.mild → (s.ent q).state = 2 →
    let kept (t : State) : Prop := KeepsBut [fltBlock, evfBlock, skyBlock, (0x1B00000, 0x1C00000)] [] s t ∧ t.sky = s.sky ∧ t.cht = s.cht
    let runs (c : Instr) (fin : Bool) (value : Nat) : Prop :=
      Gives c s fun t =>
        t.ent q = { s.ent q with started := true, finished := fin, value := value } ∧ t.regs = s.regs ∧ t.mem = s.mem ∧ t.poison = s.poison ∧ t.sky = s.sky ∧ t.now = s.now ∧ t.tally = { s.tally with entries := t.tally.entries }
    let c := (s.ent q).card
    let v0 := (s.ent q).value
    ((s.ent q).started = false → (s.ent q).finished = false →
      ((s.ent q).opcode = 0x00 → runs (.nop q) true v0) ∧
      ((s.ent q).opcode = 0x01 → runs (.infer q) false v0) ∧
      ((s.ent q).opcode = 0x02 → runs (.gather q) false v0) ∧
      ((s.ent q).opcode = 0x03 → runs (.score q) false v0) ∧
      ((s.ent q).opcode = 0x04 → runs (.topk q) false v0) ∧
      ((s.ent q).opcode = 0x05 → runs (.copy q) false v0) ∧
      ((s.ent q).opcode = 0x06 → runs (.fill q) false v0) ∧
      ((s.ent q).opcode = 0x08 → runs (.handBegin q) true (leAt c 16 4)) ∧
      ((s.ent q).opcode = 0x09 → runs (.handWrite q) false v0) ∧
      ((s.ent q).opcode = 0x0A → runs (.handCommit q) true v0) ∧
      ((s.ent q).opcode = 0x0B → runs (.handAbort q) true v0) ∧
      ((s.ent q).opcode = 0x0C → runs (.fence q) true v0) ∧
      ((s.ent q).opcode = 0x0F → runs (.tableDefine q) true (s.nextVersion (tableOf (s.ent q).desc).id)) ∧
      ((s.ent q).opcode = 0x10 → runs (.telemetrySnapshot q) false 0) ∧
      ((s.ent q).opcode = 0x05 → regionOf (leAt c 16 8) = .host → s.linkUp = true →
        Gives (.copy q) s fun t => t.out = [Out.hostRead (s.hpa (leAt c 16 8)) (leAt c 32 8)]) ∧
      ((s.ent q).opcode = 0x0F → (s.ent q).hand = 0 → Gives (.tableDefine q) s fun t => (q, tableOf (s.ent q).desc) ∈ t.hands.solo)) ∧
    ((s.ent q).started = true → (s.ent q).finished = false → s.moverBehind (s.ent q) = false →
      (let src := leAt c 16 8
       let dst := leAt c 24 8
       let n := leAt c 32 8
       (s.ent q).opcode = 0x05 → 0 < n → (∃ k, regionOf dst = .hbm k ∨ regionOf dst = .cache k) → (∀ x ∈ chunks dst n, s.moveRefused (dst + x.1) x.2 = false ∧ s.foreign q (dst + x.1) = false) → (∀ a b, s.mirrorRuns a b = []) →
       (∀ host bad p, s.foreign q src = false → s.fetchRange src n host bad = some p → s.hostGone src = false → p.bytes.length = n →
         Gives (.moverDone q host bad []) s fun t =>
           t.rdN dst n = p.bytes ∧ (∀ a, a < dst ∨ dst + n ≤ a → t.rd a = s.rd a) ∧ (t.ent q).finished = true ∧ (t.ent q).value = n ∧ (t.ent q).runs = (s.ent q).runs ∧ kept t) ∧
       (∀ host bad, s.hostGone src = true →
         Gives (.moverDone q host bad []) s fun t =>
           (t.ent q).finished = true ∧ (t.ent q).value = 0 ∧ (∃ r ∈ (t.ent q).runs, r.status = 5) ∧ t.mem = s.mem ∧ t.regs = s.regs) ∧
       (∀ host bad, s.hostGone src = false → s.foreign q src = true ∨ (s.peerGone src = false ∧ s.fetchRange src n host bad = none) →
         Gives (.moverDone q host bad []) s fun t =>
           (t.ent q).finished = true ∧ (t.ent q).value = 0 ∧ (∃ r ∈ (t.ent q).runs, r.status = 4) ∧ t.mem = s.mem ∧ KeepsBut [fltBlock, evfBlock, skyBlock] [] s t)) ∧
      (let dst := leAt c 16 8
       let n := leAt c 24 8
       (s.ent q).opcode = 0x06 → 0 < n → (∃ k, regionOf dst = .hbm k ∨ regionOf dst = .cache k) → (∀ x ∈ chunks dst n, s.moveRefused (dst + x.1) x.2 = false ∧ s.foreign q (dst + x.1) = false) → (∀ a b, s.mirrorRuns a b = []) →
       Gives (.moverDone q [] false []) s fun t =>
         (∀ i, i < n → (t.rd (dst + i)).toNat = leAt c (32 + (dst + i) % 8) 1) ∧ (∀ a, a < dst ∨ dst + n ≤ a → t.rd a = s.rd a) ∧ (t.ent q).finished = true ∧ (t.ent q).value = n ∧ kept t) ∧
      (∀ (u : Table) (h : Nat) (hd : Hand) (host : List Byte) (bad : Bool) (p : Piece),
        (s.ent q).opcode = 0x09 → s.table (leAt c 16 2) = some u → s.handOf (s.ent q).hand = some (h, hd) → s.hostGone (leAt c 32 8) = false → s.foreign q (leAt c 32 8) = false →
        s.fetchRange (leAt c 32 8) (moveLen c u) host bad = some p →
        Gives (.moverDone q host bad []) s fun t =>
          tabGet {} t.hands.slots h = hd.stage u (stagedRows u (leAt c 20 4) (leAt c 24 4) (16 * (if leAt c 40 2 = 0 then u.stride else leAt c 40 2)) p q) ∧ (t.ent q).finished = true ∧ (t.ent q).value = leAt c 24 4 ∧
          t.mem = s.mem ∧ KeepsBut [skyBlock] [] s t) ∧
      (∀ j, (s.ent q).opcode = 0x10 → j < leAt c 28 1 → s.hostGone (leAt c 16 8) = false →
        Gives (.telemetryCapture q j) s fun t =>
          t.now = max s.now (min (s.trn.tick + 1500 + leAt c 44 4 + j * leAt c 48 4) s.nominalE) ∧ ((t.ent q).finished = true ↔ j + 1 = leAt c 28 1) ∧ kept t)) ∧
    (∀ h m, s.writingBack h = true → m < 12 →
      let hd := tabGet {} s.hands.slots h
      (∃ r ∈ hd.rows, m ∈ r.held) → (∀ r ∈ hd.rows, ∀ k ∈ r.held, m ≤ k ∧ s.retired (24 + k) = false) →
      Gives (.writeBackDone h) s fun t =>
        (∀ r ∈ (tabGet {} t.hands.slots h).rows, m ∉ r.held) ∧ ((∀ r ∈ hd.rows, ∀ k ∈ r.held, k = m) → tabGet {} t.hands.slots h = {}) ∧
        ((∃ r ∈ hd.rows, ∃ k ∈ r.held, k ≠ m) → t.writingBack h = true ∧ (tabGet {} t.hands.slots h).id = hd.id) ∧
        t.mem = ((hd.rows.filter fun r => r.held.contains m).foldl (State.backRow m) s.fresh).mem ∧ t.tally = s.tally ∧ kept t)

/-- R353 to R356, R366, R368, R371: the standby holds the copy it acknowledged and times the heartbeat; a takeover gives the Dealer role to the standby and resets the old Dealer's front end, and without a standby the part asks for its reset; a replay
returns the failed transit's cards to ACCEPTED and keeps those whose mirror record is DONE; a returned hub resynchronises, and cards that waited for it are accepted; RECOVER rebuilds the Tally from the mirror.
The model's choices in it: where a recovered deck's slots go on (log entry 98), a takeover that leaves no Dummy (130), what a failed Dealer leaves (198), and completions with TALLY_SEQ 0 (209). -/
def Obligations.HubsFailOver : Prop :=
  ∀ s : State, s.alive = true → s.mild → s.get F.TAL_STAT_DEALER_HUB ≤ 1 →
    let h := s.get F.TAL_STAT_DEALER_HUB
    let asksReset (kind : Nat) (t : State) : Prop :=
      t.boot.halt = true ∧ t.flt.dumps = s.flt.dumps ++ [{ src := 241 + h, kind := kind, transit := s.get F.TRN_NUM }] ∧ t.flt.asked = s.flt.asked.orElse (fun _ => some t.now) ∧
      t.get F.TRN_STAT_PHASE = 5 ∧ t.mem = s.mem ∧ t.tally = s.tally
    (s.tally.copyWait = true → s.dealing = true → Gives .stateCopyAck s fun t => t.tally = { s.tally with image := s.copyNow, copyWait := false } ∧ t = { s with tally := t.tally, out := [] }) ∧
    (s.tally.copyWait = false ∨ s.dealing = false → Gives .stateCopyAck s fun t => t = s.fresh) ∧
    Gives .heartbeat s (fun t => t = { s with tally := { s.tally with beat := s.now }, out := [] }) ∧
    (∀ cause, s.tally.takeover = none → (cause = 1 → s.tally.copyWait = true) →
      let at_ := if cause = 0 then max s.now (s.tally.beat + 4000) else if cause = 1 then max s.now (s.trn.tick + s.periodNs - s.quietNs + 10000) else s.now
      (s.get F.TAL_STAT_STANDBY_OK = 1 →
        Gives (.takeover cause) s fun t =>
          t.now = at_ ∧ t.get F.TAL_STAT_DEALER_HUB = 1 - h ∧ t.get F.TAL_STAT_STANDBY_OK = 0 ∧ t.tally.takeover = some at_ ∧ t.tally.takeT = s.get F.TRN_NUM ∧ t.tally.copyWait = false ∧
          (s.get F.FLT_DOM0_STATE (128 + h) = 0 →
            t.get F.FLT_DOM0_STATE (128 + h) = 1 ∧ CountsBy F.FLT_DOM0_RESETS 1 (128 + h) 0 s t ∧ (∀ k, k < 8 → (s.scanOf h k).isSome = true → t.get F.CHK_STATUS_STATE h k = 2 ∧ t.get F.CHK_STATUS_ERR h k = 4)) ∧
          (s.get F.FLT_DOM0_STATE (128 + h) ≠ 0 → Keeps [F.TAL_STAT_DEALER_HUB.key 0 0, F.TAL_STAT_STANDBY_OK.key 0 0] s t) ∧ t.mem = s.mem) ∧
      (s.get F.TAL_STAT_STANDBY_OK ≠ 1 → Gives (.takeover cause) s fun t => t.now = at_ ∧ asksReset 3 t ∧ (s.get F.FLT_DOM0_STATE (128 + h) = 0 → Raised (241 + h) s t))) ∧
    (s.tally.takeover.isSome = true → ∀ cause, Gives (.takeover cause) s fun t => t = s.fresh) ∧
    (∀ (mirror : List (Nat × List Byte)) (rings : List (Nat × List (List Byte))), s.tally.takeover.isSome = true →
      (s.get F.TRN_NUM = s.tally.takeT → ∀ ok, Gives (.takeoverReplay mirror rings ok) s fun t => t = s.fresh) ∧
      (s.get F.TRN_NUM ≠ s.tally.takeT →
      Gives (.takeoverReplay mirror rings false) s (asksReset 4) ∧
      (s.linkUp = false → Gives (.takeoverReplay mirror rings true) s fun t => t.get F.TAL_STAT_LINK_WAIT = 1 ∧ Keeps [F.TAL_STAT_LINK_WAIT.key 0 0] s t ∧ t = { s with regs := t.regs, out := [] }) ∧
      (s.linkUp = true →
        Gives (.takeoverReplay mirror rings true) s fun t =>
          t.tally.takeover = none ∧ t.get F.TAL_STAT_LINK_WAIT = 0 ∧ CountsBy F.TAL_TAKEOVERS 1 0 0 s t ∧ Raised (242 - h) s t ∧ t.mem = s.mem ∧
          ∀ q, (tabGet {} s.tally.image.entries q).state = 1 →
            (mirror = [] → (t.ent q).state = 1 ∧ (t.ent q).card = (tabGet {} s.tally.image.entries q).card ∧
              ((s.ent q).state = 2 ∨ (s.ent q).state = 3 → (s.ent q).transit = s.tally.image.transit + 1 → (t.ent q).replays = min 15 ((tabGet {} s.tally.image.entries q).replays + 1))) ∧
            (∀ line, mirror = [(q, line)] → leAt line 0 6 = q → leAt line 7 1 % 4 = 3 →
              (t.ent q).state = 3 ∧ (t.ent q).fin = { status := leAt line 40 1, detail := leAt line 43 1, count := leAt line 44 4, result := leAt line 56 8 })))) ∧
    (∀ at_, s.tally.takeover = some at_ → Gives .takeoverTimeout s fun t => t.now = max s.now (at_ + 50000000) ∧ asksReset 4 t) ∧
    (s.tally.takeover = none → Gives .takeoverTimeout s fun t => t = s.fresh) ∧
    (s.get F.TAL_STAT_STANDBY_OK ≠ 1 → s.tally.noDummy = false → s.tally.takeover = none → s.get F.FLT_DOM0_STATE (129 - h) = 0 →
      Gives .standbyResync s fun t => t.tally = { s.tally with resync := true } ∧ t.intakeOn = false ∧ t = { s with tally := t.tally, out := [] }) ∧
    (s.tally.resync = true →
      Gives .standbyResyncDone s fun t =>
        t.tally.resync = false ∧ t.get F.TAL_STAT_STANDBY_OK = 1 ∧ (∀ q, (s.ent q).state = 1 → (t.ent q).state = 1 ∧ (s.get F.TAL_STAT_MIRROR_ERR ≠ 1 → (t.ent q).acked = true)) ∧ ((s.tally.entries.map fun p => p.1).Nodup → ∀ q, (s.ent q).state ≠ 1 → t.ent q = s.ent q) ∧ t.mem = s.mem ∧ t.now = s.now) ∧
    (s.tally.resync = false → Gives .standbyResyncDone s fun t => t = s.fresh) ∧
    (∀ (src : Iface) (v : Nat), s.inService = true →
      Gives (.recover src v) s fun t =>
        (t.get F.TAL_STAT_RECOVERY = if v % 2 = 1 ∧ s.get F.TAL_STAT_RECOVERY = 1 then 2 else s.get F.TAL_STAT_RECOVERY) ∧ t.get F.TAL_CTRL_HOLD = v / 2 % 2 ∧
        KeepsBut [] [F.TAL_CTRL_RECOVER.key 0 0, F.TAL_CTRL_HOLD.key 0 0, F.TAL_STAT_RECOVERY.key 0 0] s t ∧ t.tally = s.tally ∧ t.mem = s.mem) ∧
    (∀ (recs : List (Nat × List Byte)) (readable : Bool),
      let stops (err : Nat) (t : State) : Prop :=
        t.get F.TAL_STAT_REC_ERR = err ∧ t.get F.TAL_STAT_RECOVERY = 1 ∧ Keeps [F.TAL_STAT_REC_ERR.key 0 0, F.TAL_STAT_RECOVERY.key 0 0] s t ∧ t = { s with regs := t.regs, out := [] }
      (s.get F.TAL_STAT_RECOVERY ≠ 2 → Gives (.recoveryDone recs readable) s fun t => t = s.fresh) ∧
      (s.get F.TAL_STAT_RECOVERY = 2 → s.get F.TAL_MIRROR_BASE = 0 → Gives (.recoveryDone recs readable) s (stops 1)) ∧
      (s.get F.TAL_STAT_RECOVERY = 2 → s.get F.TAL_MIRROR_BASE ≠ 0 →
        Gives (.recoveryDone recs false) s (stops 2) ∧
        (∀ (i j p : Nat) (good bad : List Byte), recordOk good = true → recordOk bad = false → 0 < p → p ≤ leAt good 0 6 → leAt good 0 6 < p + 65536 → p % 65536 = j % 65536 →
          Gives (.recoveryDone [(i, good), (j, bad)] true) s (stops 3)) ∧
        (∀ (i : Nat) (r : List Byte), recordOk r = true → leAt r 0 6 ≠ 0 → s.hands.slots = [] → s.cht.ended = none →
          let q := leAt r 0 6
          let st := leAt r 7 1 % 4
          let d := leAt r 6 1 % 64
          Gives (.recoveryDone [(i, r)] true) s fun t =>
            t.get F.TAL_STAT_RECOVERY = 3 ∧ t.get F.TAL_STAT_REC_ERR = 0 ∧ t.get F.TAL_NEXT_SEQ = (q + 1) % 2 ^ 48 ∧ (t.ent q).state = (if st = 3 then 3 else 1) ∧ (t.ent q).card = slice r 64 64 ∧ (t.ent q).deck = d ∧
            (t.ent q).acked = true ∧ (t.ent q).visible = true ∧ (st ≠ 3 → (t.ent q).replays = min 15 (leAt r 7 1 / 16 + 1)) ∧ (∀ p, p ≠ q → (t.ent p).state = 0) ∧
            t.get F.TAL_RECOVER_SLOT_NEXT_SLOT d = (leAt r 8 2 + 1) % 65536 ∧ t.get F.TAL_RECOVER_SLOT_VALID d = 1 ∧ t.mem = s.mem)))

/-! ## Comet -/

/-- R375, R379, R382 to R391, R393 to R396, R402, R405: a frame not for the port is not taken, one that fails a check is dropped and counted; a write in order is committed, a repeat changes nothing, one ahead is held, one whose range does not pass is refused;
a read is answered with the bytes, and is owed until the answer has left; an atomic is applied once, with its old value, and a repeat, or one that may be a repeat since the cumulative point was lost, is answered from the log; an answer ends its request; an acknowledgement
covers what it says; HELLO brings the session up, and one that a new side sends leaves the cumulative point (the model's choice, log entry 177); a RELEASE of ROOT ends its round.
Other choices of the model in it: when acknowledgements go (log entry 124), the fields of frames (125), how requests are served and answered (126), the atomic log (127), when a session is up (128), and what waits behind a read (129). -/
def Obligations.CometFrames : Prop :=
  ∀ (s : State) (port : Nat) (f : Frame), port < 32 → s.alive = true → s.mild →
    let peer := f.srcPart
    let x := s.sess peer
    let n := f.len
    let inOrder := f.space = 0 ∧ subMod 32 f.seq x.rxCum = 1 ∧ x.held = [] ∧ x.owed = []
    let repeated := f.space = 0 ∧ subMod 32 f.seq x.rxCum = 0
    let why := s.remoteCheck port f.addr n
    let kept (t : State) : Prop := KeepsBut [fltBlock, evfBlock, skyBlock, (0x1B00000, 0x1C00000), (0x1E00000, 0x1F00000)] ((List.range (s.paths peer).length).map fun i => F.CMT_PORT_TX_BYTES.key (s.pathAt peer i).1 0) s t ∧ t.now = s.now
    (∀ (k : Nat) (fcs : Bool), k < 12 → s.portUp port = false ∨ f.dmac ≠ (s.get F.CMT_ID_MAC_BASE + port) % 2 ^ 48 → Gives (frameCmd port f fcs k) s fun t => t = s.fresh) ∧
    (∀ (k : Nat) (fcs : Bool), k < 12 → s.portUp port = true → f.dmac = (s.get F.CMT_ID_MAC_BASE + port) % 2 ^ 48 →
      fcs = false ∨ f.etype ≠ s.cmt.etype ∨ f.ver ≠ 1 ∨ f.codesOk = false ∨ f.dstPart ≠ s.con.partId ∨ s.peerDef peer = none ∨ f.pcrc ≠ f.pcrcOf ∨ (f.kind ≠ 2 ∧ x.epoch ≠ some f.epoch) →
      Gives (frameCmd port f fcs k) s fun t =>
        CountsBy F.CMT_PORT_RX_BYTES f.wire port 0 s t ∧ CountsBy F.CMT_PORT_DROP 1 port 0 s t ∧ Keeps [F.CMT_PORT_RX_BYTES.key port 0, F.CMT_PORT_DROP.key port 0] s t ∧ t = { s with regs := t.regs, out := [] }) ∧
    (f.ackOk = false →
      (s.framePort port 0 0 f →
        (inOrder → why = 0 → 0 < n → s.writeRefused f.addr n = false → (∀ a m, s.mirrorRuns a m = []) →
          Gives (.cometWrite port f true []) s fun t => t.rdN f.addr n = f.body ∧ (∀ a, a < f.addr ∨ f.addr + n ≤ a → t.rd a = s.rd a) ∧ (t.sess peer).rxCum = f.seq ∧ kept t) ∧
        (inOrder → why ≠ 0 →
          Gives (.cometWrite port f true []) s fun t =>
            SameMemory s t ∧ CountsBy F.CMT_REFUSED_IN 1 0 0 s t ∧ (t.sess peer).rxCum = f.seq ∧ (∃ e ∈ (t.sess peer).sending, e.f.op = 7 ∧ e.f.aux = why ∧ e.f.rtag = f.rtag ∧ e.f.addr = f.addr) ∧ kept t) ∧
        (repeated → Gives (.cometWrite port f true []) s fun t => SameMemory s t ∧ (t.sess peer).rxCum = x.rxCum ∧ kept t) ∧
        (f.space = 0 → 1 < subMod 32 f.seq x.rxCum → subMod 32 f.seq x.rxCum ≤ 16384 → (∀ g ∈ x.held, g.seq ≠ f.seq) →
          Gives (.cometWrite port f true []) s fun t => (t.sess peer).held = x.held ++ [f] ∧ (t.sess peer).rxCum = x.rxCum ∧ SameMemory s t ∧ Keeps [F.CMT_PORT_RX_BYTES.key port 0] s t)) ∧
      (s.framePort port 0 1 f → inOrder → why = 0 → 0 < n → f.addr / 64 = (f.addr + n - 1) / 64 →
        Gives (.cometRead port f true []) s fun t =>
          (∃ e ∈ (t.sess peer).sending, e.f.op = 2 ∧ e.f.rtag = f.rtag ∧ e.f.addr = f.addr ∧ e.f.len = n ∧ e.f.payload = s.rdN f.addr n ∧ e.f.poison = s.poisoned (f.addr / 64) ∧ e.f.gateway = false ∧ e.bulk = false) ∧
          (0, f.seq, f.rtag, f.addr) ∈ (t.sess peer).owed ∧ (t.sess peer).rxCum = f.seq ∧ SameMemory s t ∧ kept t) ∧
      (∀ r : CReq, s.framePort port 0 2 f → inOrder → x.reqs.find? (fun r => decide (r.rtag = f.rtag) && decide (r.kind ≠ .atomic)) = some r → f.addr = r.addr → r.got = [] → r.len ≤ n →
        (r.kind = .load → Gives (.readResp port f true) s fun t => (∀ q ∈ (t.sess peer).reqs, q.rtag ≠ f.rtag) ∧ SameMemory s t ∧ t.now = s.now) ∧
        (r.kind = .pull → 0 < n → n ≤ r.off → (∃ k, regionOf r.dst = .hbm k ∨ regionOf r.dst = .cache k) → (∀ c ∈ chunks r.dst n, s.moveRefused (r.dst + c.1) c.2 = false ∧ s.foreign (r.work.getD 0) (r.dst + c.1) = false) → (∀ a m, s.mirrorRuns a m = []) →
          Gives (.readResp port f true) s fun t => (∀ q ∈ (t.sess peer).reqs, q.rtag ≠ f.rtag) ∧ t.rdN r.dst n = f.body ∧ (∀ a, a < r.dst ∨ r.dst + n ≤ a → t.rd a = s.rd a) ∧ kept t)) ∧
      (∀ (m base : Nat) (p : PeerDef), s.framePort port 0 3 f → s.peerDef peer = some p → regionOf f.addr = .hbm m → s.logBase m = some base →
        let w := atomicSize f.atype
        let old := leNat (s.rdN f.addr w)
        s.remoteCheck port f.addr w = 0 → f.addr % w = 0 → p.slot < 1024 → s.writeRefused f.addr w = false →
        (inOrder → x.doubt = false → s.poisoned (f.addr / 64) = false → f.addr + 8 ≤ base ∨ base + 2 ^ 27 ≤ f.addr → (∀ a k, s.mirrorRuns a k = []) →
          Gives (.atomic port f true []) s fun t =>
            (∃ e ∈ (t.sess peer).sending, e.f.op = 4 ∧ e.f.rtag = f.rtag ∧ e.f.aux = 0 ∧ e.f.payload = natLe 8 old) ∧
            t.rdN f.addr w = (match atomicNew f.aop f.atype old (leAt f.payload 0 w) (leAt f.payload 8 w) with
              | some v => natLe w v
              | none => s.rdN f.addr w) ∧
            (∀ a, (a < f.addr ∨ f.addr + w ≤ a) → (a < base ∨ base + 2 ^ 27 ≤ a) → t.rd a = s.rd a) ∧ (t.sess peer).rxCum = f.seq ∧ kept t) ∧
        (∀ r, repeated ∨ (inOrder ∧ x.doubt = true) → s.logFind base p.slot f.seq = some r →
          Gives (.atomic port f true []) s fun t =>
            CountsBy F.CMT_ATOMIC_DUP 1 0 0 s t ∧ (∃ e ∈ (t.sess peer).sending, e.f.op = 4 ∧ e.f.rtag = f.rtag ∧ e.f.aux = r.1 ∧ e.f.payload = natLe 8 r.2) ∧ SameMemory s t ∧ kept t)) ∧
      (s.framePort port 0 4 f → inOrder → (∃ r ∈ x.reqs, r.rtag = f.rtag ∧ r.kind = .atomic) →
        Gives (.atomicResp port f true) s fun t => (∀ q ∈ (t.sess peer).reqs, q.rtag ≠ f.rtag) ∧ (t.sess peer).rxCum = f.seq ∧ SameMemory s t ∧ t.now = s.now) ∧
      (s.framePort port 0 5 f → f.space ≠ 0 → f.seq = tabGet 0 x.bulkCum f.space → x.bulkHeld = [] → why = 0 → 0 < n → s.writeRefused f.addr n = false → (∀ a m, s.mirrorRuns a m = []) →
        Gives (.bulkWrite port f true []) s fun t =>
          t.rdN f.addr n = f.body ∧ (∀ a, a < f.addr ∨ f.addr + n ≤ a → t.rd a = s.rd a) ∧ tabGet 0 (t.sess peer).bulkCum f.space = (f.seq + 1) % 2 ^ 32 ∧ kept t) ∧
      (s.framePort port 0 6 f → f.space ≠ 0 → f.seq = tabGet 0 x.bulkCum f.space → x.bulkHeld = [] → s.remoteCheck port f.addr (f.aux * 1024) = 0 →
        Gives (.bulkRead port f true []) s fun t =>
          (∃ e ∈ (t.sess peer).sending, e.f.op = 2 ∧ e.f.rtag = f.rtag ∧ e.f.addr = f.addr ∧ e.bulk = true) ∧ tabGet 0 (t.sess peer).bulkCum f.space = (f.seq + 1) % 2 ^ 32 ∧ SameMemory s t ∧ kept t) ∧
      (s.framePort port 0 7 f → inOrder →
        Gives (.refuse port f true) s fun t => CountsBy F.CMT_REFUSED_OUT 1 0 0 s t ∧ (∀ q ∈ (t.sess peer).reqs, q.rtag ≠ f.rtag) ∧ (t.sess peer).rxCum = f.seq ∧ SameMemory s t ∧ t.now = s.now) ∧
      (∀ i, s.framePort port 2 0 f → (s.pathsOver port).find? (fun p => decide (p.1 = peer)) = some (peer, i) → i < (s.paths peer).length → (s.pathAt peer i).1 = port →
        Gives (.hello port f true) s fun t =>
          (t.sess peer).up = true ∧ (t.sess peer).lost = false ∧ (t.sess peer).epoch = some (leAt f.payload 8 2) ∧ (t.sess peer).failed.contains i = false ∧ t.get F.CMT_PORT_PEER port = peer % 2 ^ 12 ∧
          (x.rxLost = true ∨ (x.epoch ≠ some (leAt f.payload 8 2) ∧ helloBlank (leAt f.payload 0 4) (leAt f.payload 4 4) = false) →
            (t.sess peer).rxCum = (leAt f.payload 0 4 + 2 ^ 32 - 1) % 2 ^ 32) ∧
          (x.rxLost = false → x.epoch = some (leAt f.payload 8 2) ∨ helloBlank (leAt f.payload 0 4) (leAt f.payload 4 4) = true → (t.sess peer).cum 0 = x.cum 0) ∧ SameMemory s t ∧ kept t) ∧
      (s.framePort port 3 0 f → s.follows = true → leAt f.payload 0 8 = 0 → leAt f.payload 8 8 = 0 →
        ∀ d t3, s.cmt.there = some d → s.cmt.asked = some t3 →
        Gives (.timing port f true) s fun t =>
          t.cmt.asked = none ∧ ((d + ((leAt f.payload 17 8 : Int) - t3)) / 2) ∈ t.cmt.delays ∧ (s.cmt.delays = [] → t.get F.CMT_TIMING_PATH_NS = ((d + ((leAt f.payload 17 8 : Int) - t3)) / 2).toNat % 2 ^ F.CMT_TIMING_PATH_NS.w) ∧ SameMemory s t ∧ kept t) ∧
      (∀ (i : Nat) (b : ConBar), s.framePort port 4 0 f → subMod 32 f.seq x.rxCum = 1 → x.held = [] → x.owed = [] → leAt f.payload 0 1 = i → s.conBar i = some b → b.ctx < 32 →
        (leAt f.payload 2 2 ≠ (s.cbar i).round → Gives (.barrier port f true) s fun t => t.cbar i = s.cbar i ∧ (t.sess peer).rxCum = f.seq ∧ SameMemory s t ∧ kept t) ∧
        (leAt f.payload 2 2 = (s.cbar i).round → leAt f.payload 1 1 = 1 → b.root = peer → b.root ≠ s.con.partId →
          Gives (.barrier port f true) s fun t =>
            t.cbar i = { round := ((s.cbar i).round + 1) % 65536 } ∧
            ((s.cbar i).mine = true → Out.release b.ctx false ∈ t.out ∧ t.get F.SKY_BAR_STAT_ROUNDS b.ctx = (s.get F.SKY_BAR_STAT_ROUNDS b.ctx + 1) % 2 ^ 16 ∧ t.get F.SKY_BAR_STAT_ARRIVED b.ctx = 0) ∧ SameMemory s t ∧ t.now = s.now))) ∧
    (s.framePort port 1 0 f → f.ackOk = true → x.wait = [] →
      Gives (.ack port f true) s fun t =>
        (∀ e ∈ (t.sess peer).tx, e.f.space = f.space → e.acked = false → aheadMod 32 e.f.seq f.ack = true) ∧
        (∀ e ∈ x.tx, e.f.space ≠ f.space → e.acked = false → e ∈ (t.sess peer).tx) ∧ SameMemory s t ∧ kept t)

/-- R394: an atomic from a source that the peer table gives no source slot, or to a stack that has no log, is refused with ADDRESS (3), and memory stays as it was. -/
def Obligations.AtomicsNeedALog : Prop :=
  ∀ (s : State) (port : Nat) (f : Frame) (m : Nat) (p : PeerDef), port < 32 → s.alive = true → s.framePort port 0 3 f → f.ackOk = false → f.space = 0 → (s.sess f.srcPart).held = [] → (s.sess f.srcPart).owed = [] →
    subMod 32 f.seq (s.sess f.srcPart).rxCum ≤ 1 → s.peerDef f.srcPart = some p → regionOf f.addr = .hbm m → s.remoteCheck port f.addr (atomicSize f.atype) = 0 → p.slot = 0xFFFF ∨ s.logBase m = none →
    Gives (.atomic port f true []) s fun t =>
      (∃ e ∈ (t.sess f.srcPart).sending, e.f.op = 7 ∧ e.f.aux = 3 ∧ e.f.rtag = f.rtag ∧ e.f.addr = f.addr) ∧ CountsBy F.CMT_REFUSED_IN 1 0 0 s t ∧ SameMemory s t ∧ t.tally = s.tally

/-- R378, R380, R383, R385 to R387, R389 to R391, R396, R398 to R400, R407: what Comet does of its own accord: a request of mailbox 2 becomes an ATOMIC, a pack and a gateway block go out at their times, an unacknowledged frame is sent again or its path fails, a lost peer's work ends,
a port retrains lane by lane, a COMET_BULK pushes or pulls, and the log of a stack is asked.
The model's choices in it: how remote accesses are served (log entry 126), failed paths and barriers (128), pulls, lanes and refused bytes (129), accesses to a die in reset (178), and the port registers' domain (218). -/
def Obligations.CometServes : Prop :=
  ∀ s : State, s.alive = true → s.mild →
    (∀ (site : Nat) (m : Nat × Nat × List Byte), (s.stn site).mailbox.find? (fun m => decide (m.2.1 = 2)) = some m →
      let a := leAt m.2.2 0 8 % 2 ^ 52
      (siteKind site ≠ .xio → Gives (.atomicRequest site) s fun t => t = s.fresh) ∧
      (siteKind site = .xio → s.atomicServed site a = false →
        Gives (.atomicRequest site) s fun t => t.out = [Out.report m.1 .chiplet none (.refused 1)] ∧ (t.stn site).mailbox = (s.stn site).mailbox.erase m ∧ t.regs = s.regs ∧ t.cmt = s.cmt ∧ t.mem = s.mem) ∧
      (∀ (i : Nat) (w : Win), siteKind site = .xio → s.atomicServed site a = true → s.winFor a = some (i, w) → (s.sess w.peer).lost = false →
        Gives (.atomicRequest site) s fun t =>
          (∃ e ∈ (t.sess w.peer).sending, e.f.kind = 0 ∧ e.f.op = 3 ∧ e.f.addr = w.remote + (a - w.base) ∧ e.f.aop = leAt m.2.2 8 1 % 4) ∧ (∃ r ∈ (t.sess w.peer).reqs, r.kind = .atomic ∧ r.site = m.1 ∧ r.tag = leAt m.2.2 12 4) ∧
          (t.stn site).mailbox = (s.stn site).mailbox.erase m ∧ t.mem = s.mem)) ∧
    (∀ peer,
      (∀ p, (s.sess peer).pack = some p →
        Gives (.writePackTimeout peer) s fun t =>
          t.now = max s.now (p.since + 100) ∧ (t.sess peer).pack = none ∧ (∃ e ∈ (t.sess peer).sending, e.f.op = 0 ∧ e.f.addr = p.addr ∧ e.f.payload = p.bytes ∧ e.f.poison = p.bad ∧ e.site = p.site) ∧ t.mem = s.mem) ∧
      ((s.sess peer).pack = none → Gives (.writePackTimeout peer) s fun t => t = s.fresh) ∧
      (∀ (space seq : Nat),
        ((s.sess peer).tx.find? (fun e => decide (e.f.space = space) && decide (e.f.seq = seq)) = none → Gives (.cometRto peer space seq) s fun t => t = s.fresh) ∧
        (∀ e, (s.sess peer).tx.find? (fun e => decide (e.f.space = space) && decide (e.f.seq = seq)) = some e →
          (e.acked = false → s.retries < e.sends → (s.sess peer).failed.contains e.path = false →
            Gives (.cometRto peer space seq) s fun t => t.now = max s.now (e.sentAt + s.rtoNs) ∧ (t.sess peer).failed.contains e.path = true ∧ CountsBy F.CMT_PATH_FAIL 1 0 0 s t ∧ t.mem = s.mem) ∧
          (e.sends ≤ s.retries → s.pathUp peer e.path = true →
            Gives (.cometRto peer space seq) s fun t =>
              t.now = max s.now (e.sentAt + s.rtoNs) ∧ CountsBy F.CMT_RETX 1 0 0 s t ∧ (∃ y ∈ (t.sess peer).tx, y.f.space = space ∧ y.f.seq = seq ∧ y.sends = e.sends + 1 ∧ y.path = e.path) ∧ t.mem = s.mem))) ∧
      (let again := (s.sess peer).failed.filter fun i => s.portUp (s.pathAt peer i).1
       (again ≠ [] → Gives (.helloRetry peer) s fun t => CountsBy F.CMT_HELLO again.length 0 0 s t ∧ (∀ i ∈ again, (t.sess peer).hailed.contains i = true) ∧ t.mem = s.mem ∧ t.now = s.now) ∧
       (again = [] → Gives (.helloRetry peer) s fun t => t = s.fresh)) ∧
      ((s.peerDef peer).isSome = true → (s.sess peer).up = false → (s.sess peer).lost = false →
        Gives (.peerLost peer) s fun t =>
          t.now = max s.now ((s.sess peer).since + 1000000000) ∧ (t.sess peer).lost = true ∧ (t.sess peer).reqs = [] ∧ (t.sess peer).pack = none ∧ t.get F.CMT_STAT_PEERS_LOST = (s.get F.CMT_STAT_PEERS_LOST + 1) % 2 ^ 10 ∧ Raised 244 s t ∧
          t.mem = s.mem) ∧
      ((s.sess peer).up = true ∨ (s.sess peer).lost = true → Gives (.peerLost peer) s fun t => t = s.fresh)) ∧
    (∀ (win site : Nat) (g : Gw), s.cmt.gws.find? (fun g => decide (g.win = win) && decide (g.site = site)) = some g →
      Gives (.gatewayFlush win site) s fun t =>
        t.now = max s.now (g.since + 10000) ∧ (∀ k ∈ t.cmt.gws, k.win ≠ win ∨ k.site ≠ site) ∧ CountsBy F.CMT_GW_FLUSH 1 0 0 s t ∧
        (∃ e ∈ (t.sess g.peer).sending, e.f.op = 5 ∧ e.f.gateway = true ∧ e.site = site) ∧ t.mem = s.mem) ∧
    (∀ port, port < 32 →
      let trains (t : State) : Prop :=
        t.get F.CMT_PORT_STATE port = 1 ∧ t.get F.CMT_PORT_LANES port = 0 ∧ (t.port port).attempt = 1 ∧ (∀ p ∈ s.pathsOver port, (t.sess p.1).failed.contains p.2 = true) ∧ t.mem = s.mem ∧ t.now = s.now
      (s.portUp port = true → Gives (.portDown port) s trains) ∧
      (s.portUp port = false → Gives (.portDown port) s fun t => t = s.fresh) ∧
      (∀ (src : Iface) (v : Nat), s.inService = true → s.domStopped (80 + port / 8) = false → s.get F.CMT_PORT_STATE port < 8 →
        (v / 2 ^ 15 % 2 = 1 → s.get F.CMT_PORT_STATE port ≠ 0 → Gives (.retrain src port v) s trains) ∧
        (v / 2 ^ 15 % 2 = 0 ∨ s.get F.CMT_PORT_STATE port = 0 → Gives (.retrain src port v) s fun t => t.get F.CMT_PORT_STATE port = s.get F.CMT_PORT_STATE port ∧ t.cmt = s.cmt ∧ t.mem = s.mem)) ∧
      (s.get F.CMT_PORT_STATE port ≠ 1 → ∀ ok lanes, Gives (.retrainAttempt port ok lanes) s fun t => t = s.fresh) ∧
      (s.get F.CMT_PORT_STATE port = 1 → ∀ lanes,
        let k := popCount 8 (attemptLanes (s.port port).attempt)
        let due := max s.now ((s.port port).since + 50000000)
        Gives (.retrainAttempt port true lanes) s (fun t =>
          t.now = due ∧ t.get F.CMT_PORT_STATE port = (if k = 8 then 2 else 3) ∧ t.get F.CMT_PORT_LANES port = k ∧ t.get F.CMT_PORT_LANE_OK port = lanes % 256 ∧ t.mem = s.mem) ∧
        ((s.port port).attempt < 7 →
          Gives (.retrainAttempt port false lanes) s fun t =>
            t.now = due ∧ t.get F.CMT_PORT_STATE port = 1 ∧ (t.port port).attempt = (s.port port).attempt + 1 ∧ (t.port port).since = due ∧ Keeps [F.CMT_PORT_LANE_OK.key port 0] s t ∧ t.mem = s.mem) ∧
        (7 ≤ (s.port port).attempt →
          Gives (.retrainAttempt port false lanes) s fun t => t.now = due ∧ t.get F.CMT_PORT_STATE port = 4 ∧ Raised (80 + port / 8) s t ∧ t.mem = s.mem)) ∧
      ((s.port port).cur = none → Gives (.frameTransmitDone port) s fun t => t = s.fresh) ∧
      (∀ g, (s.port port).cur = some g →
        let answers := g.kind = 0 ∧ (g.op = 2 ∨ g.op = 7)
        (({ s.port port with cur := none } : CPort).next = none → ¬ answers → Gives (.frameTransmitDone port) s fun t => (t.port port).cur = none ∧ t.regs = s.regs ∧ t.out = [] ∧ t.mem = s.mem) ∧
        (∀ (f : Frame) (y : CPort), s.portUp port = true → ({ s.port port with cur := none } : CPort).next = some (f, y) →
          (¬ answers → Gives (.frameTransmitDone port) s fun t =>
            (t.port port) = { y with cur := some (f.leaving s.now) } ∧ t.out = [Out.frame port (f.leaving s.now)] ∧ CountsBy F.CMT_PORT_TX_BYTES (f.leaving s.now).wire port 0 s t ∧
            Keeps [F.CMT_PORT_TX_BYTES.key port 0] s t ∧ t.mem = s.mem) ∧
          (answers → (s.sess g.dstPart).held = [] → Gives (.frameTransmitDone port) s fun t => (t.port port).cur = some (f.leaving s.now) ∧ Out.frame port (f.leaving s.now) ∈ t.out ∧ t.mem = s.mem)) ∧
        (answers → (s.sess g.dstPart).held = [] → Gives (.frameTransmitDone port) s fun t =>
          (∀ o ∈ (t.sess g.dstPart).owed, o.2.2.1 ≠ g.rtag ∨ o.2.2.2 ≠ g.addr) ∧ t.mem = s.mem))) ∧
    (∀ (src : Iface) (v : Nat), s.inService = true →
      Gives (.alogQuery src v) s fun t =>
        t.cmt = { s.cmt with query := true } ∧ t.get F.CMT_ALOG_Q_STACK = v % 2 ^ 4 ∧ t.get F.CMT_ALOG_Q_SLOT = v / 2 ^ 4 % 2 ^ 10 ∧ t.get F.CMT_ALOG_Q_SEQ = v / 2 ^ 14 % 2 ^ 32 ∧ t.get F.CMT_ALOG_R0_DONE = 0 ∧
        KeepsBut [(0x1E00020, 0x1E00038)] [] s t ∧ t.mem = s.mem) ∧
    (let m := s.get F.CMT_ALOG_Q_STACK
     let slot := s.get F.CMT_ALOG_Q_SLOT
     let seq := s.get F.CMT_ALOG_Q_SEQ
     let asked (st : Nat) (t : State) : Prop := t.get F.CMT_ALOG_R0_DONE = 1 ∧ t.get F.CMT_ALOG_R0_STATE = st ∧ t.cmt = { s.cmt with query := false } ∧ KeepsBut [(0x1E00028, 0x1E00038)] [] s t ∧ t.mem = s.mem
     (s.cmt.query = false → Gives .alogQueryDone s fun t => t = s.fresh) ∧
     (s.cmt.query = true → s.logBase m = none → Gives .alogQueryDone s (asked 3)) ∧
     (∀ base, s.cmt.query = true → s.logBase m = some base →
      (s.con.sources ≤ slot → Gives .alogQueryDone s (asked 3)) ∧
      (∀ r, slot < s.con.sources → s.logFind base slot seq = some r → Gives .alogQueryDone s fun t => asked 1 t ∧ t.get F.CMT_ALOG_R0_STATUS = r.1 % 2 ^ 8 ∧ t.get F.CMT_ALOG_R1_OLD = r.2 % 2 ^ 64) ∧
      (∀ w, slot < s.con.sources → s.logFind base slot seq = none → (s.logHead base slot).1 = some w → aheadMod 32 seq w = false → Gives .alogQueryDone s (asked 2)))) ∧
    (∀ (q : Nat) (host : List Byte) (bad : Bool), (s.ent q).state = 2 → (s.ent q).opcode = 0x11 → (s.ent q).started = false → (s.ent q).finished = false →
      let c := (s.ent q).card
      let src := leAt c 16 8
      let dst := leAt c 24 8
      let n := leAt c 32 8
      let far := if regionOf dst = .comet then dst else src
      (s.winFor far = none ∨ (∃ i w, s.winFor far = some (i, w) ∧ w.bulk = false) →
        Gives (.cometBulk q host bad []) s fun t => (t.ent q).finished = true ∧ (∃ r ∈ (t.ent q).runs, r.status = 4) ∧ t.mem = s.mem ∧ t.cmt = s.cmt ∧ t.regs = s.regs) ∧
      (∀ (i : Nat) (w : Win), s.winFor far = some (i, w) → w.bulk = true →
        ((s.sess w.peer).lost = true → Gives (.cometBulk q host bad []) s fun t => (t.ent q).finished = true ∧ (∃ r ∈ (t.ent q).runs, r.status = 5) ∧ t.mem = s.mem ∧ t.cmt = s.cmt ∧ t.regs = s.regs) ∧
        ((s.sess w.peer).lost = false → 0 < n →
          (regionOf dst ≠ .comet →
            Gives (.cometBulk q host bad []) s fun t => (t.ent q).started = true ∧ (t.ent q).finished = false ∧ (∃ r ∈ (t.sess w.peer).reqs, r.kind = .pull ∧ r.work = some q ∧ r.dst = dst) ∧ t.mem = s.mem) ∧
          (∀ p, regionOf dst = .comet → s.hostGone src = false → s.foreign q src = false → s.fetchRange src n host bad = some p → p.bytes.length = n →
            Gives (.cometBulk q host bad []) s fun t => (t.ent q).started = true ∧ (t.ent q).finished = false ∧ (∃ e ∈ (t.sess w.peer).sending, e.f.op = 5 ∧ e.work = some q) ∧ t.mem = s.mem))))

/-! ## Completion of the reset, boot and Almanac commands, each by its own name -/

/-- R458 to R463, R475 to R479: every reset, boot and dump command completes wherever the part runs, in Fold and in Patience mode too: PERST_N holds the part at step 0
and releases it, RESET and the part's own request lead to a warm boot, a boot step's report moves the boot on, the watchdog repeats it, and a dump's end is the dump's end.

R467, R470, R472, R481: the reset of each kind of domain puts that domain in reset, and its end or its escalation window's end shows at its own register. -/
def Obligations.ResetsComplete : Prop :=
  (∀ s : State, s.alive = true → s.pins.perst = false →
    Gives .perstNAssert s fun t =>
      t.pins.perst = true ∧ t.get F.FLT_BOOT_STEP = 0 ∧ t.boot.cold = false ∧ t.boot.halt = false ∧ (∀ a b, t.space a b = {}) ∧ t.mem = s.mem ∧ t.poison = s.poison ∧
      t.now = s.now ∧ t.pending = s.pending) ∧
  (∀ (s : State) (mode : Nat), s.alive = true → s.pins.perst = true →
    Gives (.perstNRelease mode) s fun t =>
      t.pins.perst = false ∧ t.pins.bootStrap = mode % 4 ∧ t.get F.FLT_STAT_BOOT_MODE = mode % 4 ∧
      (s.boot.almOk = false → t.get F.FLT_BOOT_STEP = s.get F.FLT_BOOT_STEP) ∧ t.mem = s.mem ∧ t.poison = s.poison ∧ t.now = s.now) ∧
  (∀ (s : State) (src : Iface) (v : Nat), s.barUp = true → s.fatal = false → s.logFull = false → v < 2 ^ 16 → v % 256 = 0xA5 →
    Gives (.reset src v) s fun t =>
      t.get F.FLT_BOOT_STEP ≤ 1 ∧ t.boot.cold = false ∧ t.boot.halt = false ∧ (∀ a b, t.space a b = {}) ∧ t.mem = s.mem ∧ t.poison = s.poison ∧ t.now = s.now ∧
      t.pending = s.pending) ∧
  (∀ (s : State) (src : Iface) (v : Nat), s.barUp = true → s.logFull = false → s.patience = true → v < 2 ^ 32 → bit v 16 = false → bit v 17 = true → bit v 18 = false →
    Gives (.patienceRetry src v) s fun t =>
      t.get F.FLT_STAT_STATE = 0 ∧ t.boot.counted = [] ∧ t.boot.cold = false ∧
      (s.pins.perst = false → s.boot.almOk = true → t.get F.FLT_BOOT_STEP = 1 ∧ t.get F.FLT_BOOT_FAILS = 1) ∧ t.mem = s.mem ∧ t.poison = s.poison ∧ t.now = s.now) ∧
  (∀ (s : State) (src : Nat), s.alive = true →
    (s.get F.FLT_STAT_STATE = 0 →
      Gives (.deviceResetRequest src) s fun t =>
        t.flt.dumps = s.flt.dumps ++ [{ src := src, kind := 3, transit := s.get F.TRN_NUM }] ∧ t.flt.asked.isSome = true ∧ t.boot.halt = true ∧ t.get F.TRN_STAT_PHASE = 5 ∧ t.mem = s.mem) ∧
    (s.get F.FLT_STAT_STATE = 1 → s.flt.dumps ≠ [] →
      Gives (.deviceResetRequest src) s fun t =>
        t.flt.dumps = s.flt.dumps ∧ t.flt.asked.isSome = true ∧ t.boot.halt = true ∧ t.get F.TRN_STAT_PHASE = 5 ∧ t.mem = s.mem) ∧
    (s.get F.FLT_STAT_STATE = 1 → s.flt.dumps = [] →
      Gives (.deviceResetRequest src) s fun t =>
        t.get F.FLT_BOOT_STEP ≤ 1 ∧ t.boot.cold = false ∧ t.boot.halt = false ∧ (∀ a b, t.space a b = {}) ∧ t.mem = s.mem ∧ t.poison = s.poison)) ∧
  (∀ (s : State) (d : Dump) (ds : List Dump), s.on = true → s.flt.dumps = d :: ds → s.get F.MGT_STAT_CROUPIER = 0 →
    Gives .crashDumpDone s fun t =>
      t.flt.dumps = ds ∧ (d.kind ≠ 2 → s.get F.FLT_DUMP_VALID = 0 → s.retired 24 = false → t.get F.FLT_DUMP_VALID = 1 ∧ t.get F.FLT_DUMP_SRC = d.src % 512) ∧ t.mem = s.mem ∧
      t.poison = s.poison) ∧
  (∀ (s : State) (r : BootReport), s.alive = true → r.hubOk = true → r.dummyOk = true → r.bad = [] →
    (s.stepRuns 3 = true → r.railsOk = true → r.bondOpen = false →
      Gives (.bootStepDone 3 r) s fun t =>
        t.get F.FLT_BOOT_STEP = 4 ∧ 3 ∈ t.boot.done ∧
        (s.boot.cold = true → t.get F.THM_STAT_PREWARM = 1 ∧ t.thm.prewarm = some s.now) ∧
        (s.boot.cold = false → Keeps [F.FLT_BOOT_STEP.key 0 0] s t ∧ t = { s with regs := t.regs, boot := { s.boot with done := t.boot.done }, out := [] }) ∧ t.mem = s.mem) ∧
    (s.stepRuns 4 = true → s.get F.TWK_STAT_LIGHT = 2 ∨ s.get F.TWK_STAT_LIGHT = 3 → s.cmp.passes = [] →
      Gives (.bootStepDone 4 r) s fun t => t.get F.FLT_BOOT_STEP = 5 ∧ 4 ∈ t.boot.done ∧ t.mem = s.mem ∧ t.poison = s.poison) ∧
    (s.stepRuns 5 = true → (∀ p ∈ s.omus.pilots, p.2.2 = false) →
      Gives (.bootStepDone 5 r) s fun t =>
        t.get F.FLT_BOOT_STEP = (if s.boot.done.contains 6 then 7 else 6) ∧ 5 ∈ t.boot.done ∧ Keeps [F.FLT_BOOT_STEP.key 0 0] s t ∧
        t = { s with regs := t.regs, boot := { s.boot with done := t.boot.done }, out := [] }) ∧
    (s.stepRuns 7 = true →
      Gives (.bootStepDone 7 r) s fun t => t.get F.FLT_BOOT_STEP = 8 ∧ 7 ∈ t.boot.done ∧ ∀ k ∈ t.sites, t.get F.SKY_DLV_EJECT_CLOSED k = 0)) ∧
  (∀ s : State, s.alive = true → s.get F.FLT_STAT_STATE = 0 → 1 ≤ s.get F.FLT_BOOT_STEP → s.get F.FLT_BOOT_STEP < 9 → s.boot.suspend = false →
    (s.get F.FLT_BOOT_STEP = 1 → s.get F.FLT_STAT_BOOT_MODE ≠ 3) → s.get F.FLT_BOOT_FAILS < 3 → s.boot.counted.length < 3 → s.pins.perst = false → s.boot.almOk = true →
    Gives .bootWatchdogExpiry s fun t =>
      t.get F.FLT_BOOT_STEP = 1 ∧ t.get F.FLT_BOOT_WARM = 1 ∧ t.get F.FLT_BOOT_LAST_REASON = 7 ∧ t.get F.FLT_BOOT_FAILS = s.get F.FLT_BOOT_FAILS + 1 ∧
      t.get F.FLT_SRC_STICKY 246 = 1 ∧ t.mem = s.mem ∧ t.now = max s.now (s.boot.start + (if s.boot.cold then 60000000000 else 15000000000))) ∧
  (∀ (s : State) (i : Nat), s.alive = true → s.mild → s.patience = false →
    (i < 24 → s.get F.FLT_DOM0_STATE i = 0 → s.get F.FLT_DOM0_WINDOW i < 2 →
      Gives (.tileStackReset i) s fun t => t.get F.FLT_DOM0_STATE i = 1 ∧ CountsBy F.FLT_DOM0_RESETS 1 i 0 s t ∧ t.mem = s.mem) ∧
    (i < 12 → s.get F.FLT_DOM0_STATE (68 + i) = 0 → s.get F.FLT_DOM0_WINDOW (68 + i) < 2 →
      Gives (.mbdReset i) s fun t => t.get F.FLT_DOM0_STATE (68 + i) = 1 ∧ CountsBy F.FLT_DOM0_RESETS 1 (68 + i) 0 s t ∧ t.mem = s.mem) ∧
    (i < 4 → s.get F.FLT_DOM0_STATE (80 + i) = 0 → s.get F.FLT_DOM0_WINDOW (80 + i) < 2 →
      Gives (.ioChipletReset i) s fun t => t.get F.FLT_DOM0_STATE (80 + i) = 1 ∧ CountsBy F.FLT_DOM0_RESETS 1 (80 + i) 0 s t ∧ t.mem = s.mem) ∧
    (i < 44 → s.get F.FLT_DOM0_STATE (84 + i) = 0 → s.get F.FLT_DOM0_WINDOW (84 + i) < 2 →
      Gives (.stationReset i) s fun t => t.get F.FLT_DOM0_STATE (84 + i) = 1 ∧ t.get F.SKY_STN_STATUS_STATE i = 5 ∧ t.mem = s.mem) ∧
    (i < 44 → s.get F.FLT_DOM0_STATE (24 + i) = 0 → s.get F.FLT_DOM0_STATE (84 + i) ≠ 3 → s.get F.FLT_DOM0_WINDOW (24 + i) < 2 →
      Gives (.firmamentSiteReset i) s fun t => t.get F.FLT_DOM0_STATE (24 + i) = 1 ∧ t.get F.SKY_STN_STATUS_STATE i = 5 ∧ t.mem = s.mem) ∧
    (i < 2 → s.get F.FLT_DOM0_STATE (128 + i) = 0 → s.get F.FLT_DOM0_WINDOW (128 + i) < 2 → s.get F.TAL_STAT_DEALER_HUB ≠ i →
      Gives (.frontEndReset i) s fun t => t.get F.FLT_DOM0_STATE (128 + i) = 1 ∧ t.get F.FLT_SRC_STICKY (241 + i) = 1 ∧ t.mem = s.mem) ∧
    (s.get F.FLT_DOM0_STATE 130 = 0 → s.get F.FLT_DOM0_WINDOW 130 < 2 →
      Gives .croupierWatchdog s fun t => t.get F.FLT_DOM0_STATE 130 = 1 ∧ t.get F.MGT_STAT_CROUPIER = 1 ∧ t.mem = s.mem)) ∧
  (∀ (s : State) (d : Nat), s.alive = true → d ∈ [128, 129, 130] → s.get F.FLT_DOM0_STATE d = 1 →
    Gives (.domainResetEnd d) s fun t => t.get F.FLT_DOM0_STATE d = 0 ∧ t.mem = s.mem) ∧
  (∀ (s : State) (d at_ : Nat), s.alive = true → s.flt.window.find? (fun p => decide (p.1 = d)) = some (d, at_) →
    Gives (.escalationWindowExpiry d) s fun t =>
      t.get F.FLT_DOM0_WINDOW d = (s.get F.FLT_DOM0_WINDOW d - 1) % 4 ∧ t.flt.window = s.flt.window.erase (d, at_) ∧ t.mem = s.mem)

/-- R493: each of the nine Almanac commands, written to ALM_CMD while none runs, starts, or is held where the Almanac cannot be written. R76, R407, R429, R455: each clear command
completes with every counter of its block at its Reset column. R131, R133: a slow swap's pause and a fast swap end with the spare on the feed. -/
def Obligations.ListedCommandsComplete : Prop :=
  (∀ (s : State) (src : Iface), s.barUp = true → s.logFull = false → s.get F.ALM_STAT_STATE = 0 →
    let begun (n : Nat) (t : State) : Prop :=
      t.get F.ALM_STAT_STATE = (if s.isSet F.THM_STAT_ALM_OK then 1 else 2) ∧ t.mgt.cmd = some (n, decide (src = .croupier)) ∧ t.mgt.pend.length = s.mgt.pend.length + 1 ∧ t.mem = s.mem
    Gives (.read src) s (begun 1) ∧ Gives (.program src) s (begun 2) ∧ Gives (.verifyFw src) s (begun 3) ∧ Gives (.activateFw src) s (begun 4) ∧
    Gives (.guardUpdate src) s (begun 5) ∧ Gives (.saveLife src) s (begun 6) ∧ Gives (.clearLog src) s (begun 7) ∧ Gives (.clearDump src) s (begun 8) ∧
    Gives (.eraseImage src) s (begun 9)) ∧
  (∀ (s : State) (src : Iface) (v : Nat), s.clocked → s.logFull = false → v < 2 ^ 32 → bit v 1 = true →
    let cleared (z : Frz) (t : State) : Prop :=
      (∀ (f : Fld) (i j : Nat), countsAt z 0 (f.key i j) = true → t.get f i j = f.rst) ∧ t.mgt.pend.length = s.mgt.pend.length + 1 ∧ t.mem = s.mem
    Gives (.cmtClear src v) s (cleared .cmt) ∧ (bit v 2 = false → Gives (.clkClear src v) s (cleared .clk)) ∧ Gives (.thmClear src v) s (cleared .thm)) ∧
  (∀ (s : State) (f : Nat) (w : Swap), f < 6 → s.alive = true → s.mild → s.swapOf f = some w → w.feed = f → w.old < 8 → w.spare < 8 → w.old ≠ w.spare →
    s.light.net.length = 8 → w.step = 4 → w.donor = none →
    let swapped (t : State) : Prop :=
      t.swapOf f = none ∧ t.get F.TWK_FEED_SLOT f = w.spare ∧ t.get F.TWK_FEED_STATE f = 0 ∧ CountsBy F.TWK_FEED_SWAPS 1 f 0 s t ∧ t.light.stopped.contains f = false
    (w.fast = true → Gives (.fastSwapResume f) s swapped) ∧ (w.fast = false → Gives (.swapPauseEnd f) s swapped))
end

