-- ==== Sys2Proof/Laws/Map.lean ====
section
/-! SUPPORT. Laws of the sparse tables: reading what was put, leaving every other key alone, keeping the canonical form. -/

namespace Sys2Proof.Laws

open Sys2Proof.Machine

variable {α : Type}

theorem tabGet_ins_same (d : α) (m : List (Nat × α)) (k : Nat) (v : α) : tabGet d (tabIns m k v) k = v := by
  induction m with
  | nil => simp [tabIns, tabGet]
  | cons p m ih =>
    obtain ⟨k', v'⟩ := p
    unfold tabIns
    split
    · simp [tabGet]
    · split
      · simp [tabGet]
      · rename_i h1 h2
        simp [tabGet, ih, Ne.symm h2]

theorem tabGet_ins_ne (d : α) (m : List (Nat × α)) (k : Nat) (v : α) {l : Nat} (h : l ≠ k) :
    tabGet d (tabIns m k v) l = tabGet d m l := by
  induction m with
  | nil => simp [tabIns, tabGet, Ne.symm h]
  | cons p m ih =>
    obtain ⟨k', v'⟩ := p
    unfold tabIns
    split
    · simp [tabGet, Ne.symm h]
    · split
      · rename_i h1 h2
        subst h2
        simp [tabGet, Ne.symm h]
      · simp only [tabGet, ih]

theorem tabGet_drop_same (d : α) (m : List (Nat × α)) (k : Nat) : tabGet d (m.filter fun p => decide (p.1 ≠ k)) k = d := by
  induction m with
  | nil => rfl
  | cons p m ih =>
    obtain ⟨k', v'⟩ := p
    by_cases h : k' = k
    · simpa [List.filter, h] using ih
    · simpa [List.filter, h, tabGet] using ih

theorem tabGet_drop_ne (d : α) (m : List (Nat × α)) (k : Nat) {l : Nat} (h : l ≠ k) :
    tabGet d (m.filter fun p => decide (p.1 ≠ k)) l = tabGet d m l := by
  induction m with
  | nil => rfl
  | cons p m ih =>
    obtain ⟨k', v'⟩ := p
    by_cases h' : k' = k
    · subst h'
      simpa [List.filter, tabGet, Ne.symm h] using ih
    · simpa [List.filter, h', tabGet] using congrArg (fun x => if k' = l then v' else x) ih

/-- What was put is read. -/
@[simp] theorem tabGet_put_same [DecidableEq α] (d : α) (m : List (Nat × α)) (k : Nat) (v : α) : tabGet d (tabPut d m k v) k = v := by
  unfold tabPut
  split
  · rename_i h
    rw [tabGet_drop_same, h]
  · exact tabGet_ins_same d m k v

/-- Every other key reads as before. -/
theorem tabGet_put_ne [DecidableEq α] (d e : α) (m : List (Nat × α)) (k : Nat) (v : α) {l : Nat} (h : l ≠ k) :
    tabGet e (tabPut d m k v) l = tabGet e m l := by
  unfold tabPut
  split
  · exact tabGet_drop_ne e m k h
  · exact tabGet_ins_ne e m k v h

theorem tabRising_weaken {lo lo' : Nat} (h : lo' ≤ lo) {m : List (Nat × α)} (hm : tabRising (some lo) m = true) : tabRising (some lo') m = true := by
  cases m with
  | nil => rfl
  | cons p m =>
    simp only [tabRising, Bool.and_eq_true, decide_eq_true_eq] at hm ⊢
    exact ⟨by omega, hm.2⟩

theorem tabRising_none {lo : Nat} {m : List (Nat × α)} (hm : tabRising (some lo) m = true) : tabRising none m = true := by
  cases m with
  | nil => rfl
  | cons p m =>
    simp only [tabRising, Bool.and_eq_true] at hm ⊢
    exact hm.2

theorem tabIns_rising {m : List (Nat × α)} {k : Nat} {v : α} {lo : Nat} (hk : lo < k) (hm : tabRising (some lo) m = true) :
    tabRising (some lo) (tabIns m k v) = true := by
  induction m generalizing lo with
  | nil => simp [tabIns, tabRising, hk]
  | cons p m ih =>
    obtain ⟨k', v'⟩ := p
    simp only [tabRising, Bool.and_eq_true, decide_eq_true_eq] at hm
    unfold tabIns
    split
    · simp_all [tabRising]
    · split
      · simp_all [tabRising]
      · simp only [tabRising, Bool.and_eq_true, decide_eq_true_eq]
        exact ⟨hm.1, ih (by omega) hm.2⟩

theorem tabIns_rising_none {m : List (Nat × α)} {k : Nat} {v : α} (hm : tabRising none m = true) :
    tabRising none (tabIns m k v) = true := by
  cases m with
  | nil => rfl
  | cons p m =>
    obtain ⟨k', v'⟩ := p
    simp only [tabRising] at hm
    unfold tabIns
    split
    · simp_all [tabRising]
    · split
      · simp_all [tabRising]
      · simp only [tabRising]
        exact tabIns_rising (by omega) hm

theorem tabRising_filter {m : List (Nat × α)} (p : Nat × α → Bool) {lo : Nat} (hm : tabRising (some lo) m = true) :
    tabRising (some lo) (m.filter p) = true := by
  induction m generalizing lo with
  | nil => rfl
  | cons q m ih =>
    obtain ⟨k', v'⟩ := q
    simp only [tabRising, Bool.and_eq_true, decide_eq_true_eq] at hm
    by_cases h : p (k', v')
    · simp only [List.filter, h, tabRising, Bool.and_eq_true, decide_eq_true_eq]
      exact ⟨hm.1, ih hm.2⟩
    · simp only [List.filter, h]
      exact ih (tabRising_weaken (by omega) hm.2)

theorem tabRising_filter_none {m : List (Nat × α)} (p : Nat × α → Bool) (hm : tabRising none m = true) : tabRising none (m.filter p) = true := by
  induction m with
  | nil => rfl
  | cons q m ih =>
    obtain ⟨k', v'⟩ := q
    simp only [tabRising] at hm
    by_cases h : p (k', v')
    · simp only [List.filter, h, tabRising]
      exact tabRising_filter p hm
    · simp only [List.filter, h]
      exact ih (tabRising_none hm)

theorem tabIns_listed {m : List (Nat × α)} {k : Nat} {v : α} {P : Nat × α → Bool} (hv : P (k, v) = true) (hm : m.all P = true) :
    (tabIns m k v).all P = true := by
  induction m with
  | nil => simpa [tabIns] using hv
  | cons p m ih =>
    obtain ⟨k', v'⟩ := p
    simp only [List.all_cons, Bool.and_eq_true] at hm
    unfold tabIns
    split
    · simp [hv, hm]
    · split
      · simp [hv, hm]
      · simp [hm, ih hm.2]

/-- A put keeps the canonical form. -/
theorem tabPut_wf [DecidableEq α] (d : α) {m : List (Nat × α)} (k : Nat) (v : α) (hm : tabWf d m = true) : tabWf d (tabPut d m k v) = true := by
  simp only [tabWf, Bool.and_eq_true] at hm ⊢
  unfold tabPut
  split
  · exact ⟨tabRising_filter_none _ hm.1, by
      have h := hm.2
      simp only [List.all_eq_true, List.mem_filter] at h ⊢
      exact fun x hx => h x hx.1⟩
  · rename_i h
    exact ⟨tabIns_rising_none hm.1, tabIns_listed (by simpa using h) hm.2⟩

/-! ## Sets of keys -/

theorem mem_keyPut {m : List Nat} {k x : Nat} : x ∈ keyPut m k ↔ x = k ∨ x ∈ m := by
  induction m with
  | nil => simp [keyPut]
  | cons y m ih =>
    unfold keyPut
    split
    · simp
    · split
      · rename_i h1 h2
        subst h2
        simp
      · simp only [List.mem_cons, ih]
        exact or_left_comm

theorem mem_keyDrop {m : List Nat} {k x : Nat} : x ∈ keyDrop m k ↔ x ∈ m ∧ x ≠ k := by
  simp [keyDrop]

end Sys2Proof.Laws
end

