-- ==== Sys2Proof/Laws/State.lean ====
section
/-! SUPPORT. What each elementary update of the state leaves as it was: one lemma for each field of State and each update. -/

namespace Sys2Proof.Laws

open Sys2Proof.Machine

/-! ## set: only regs changes -/

@[simp] theorem set_pending (s : State) (f : Fld) (v i j : Nat) : (s.set f v i j).pending = s.pending := rfl
@[simp] theorem set_now (s : State) (f : Fld) (v i j : Nat) : (s.set f v i j).now = s.now := rfl
@[simp] theorem set_power (s : State) (f : Fld) (v i j : Nat) : (s.set f v i j).power = s.power := rfl
@[simp] theorem set_mem (s : State) (f : Fld) (v i j : Nat) : (s.set f v i j).mem = s.mem := rfl
@[simp] theorem set_poison (s : State) (f : Fld) (v i j : Nat) : (s.set f v i j).poison = s.poison := rfl
@[simp] theorem set_mems (s : State) (f : Fld) (v i j : Nat) : (s.set f v i j).mems = s.mems := rfl
@[simp] theorem set_cmt (s : State) (f : Fld) (v i j : Nat) : (s.set f v i j).cmt = s.cmt := rfl
@[simp] theorem set_tally (s : State) (f : Fld) (v i j : Nat) : (s.set f v i j).tally = s.tally := rfl
@[simp] theorem set_hands (s : State) (f : Fld) (v i j : Nat) : (s.set f v i j).hands = s.hands := rfl
@[simp] theorem set_host (s : State) (f : Fld) (v i j : Nat) : (s.set f v i j).host = s.host := rfl
@[simp] theorem set_cht (s : State) (f : Fld) (v i j : Nat) : (s.set f v i j).cht = s.cht := rfl
@[simp] theorem set_trn (s : State) (f : Fld) (v i j : Nat) : (s.set f v i j).trn = s.trn := rfl
@[simp] theorem set_cmp (s : State) (f : Fld) (v i j : Nat) : (s.set f v i j).cmp = s.cmp := rfl
@[simp] theorem set_omus (s : State) (f : Fld) (v i j : Nat) : (s.set f v i j).omus = s.omus := rfl
@[simp] theorem set_light (s : State) (f : Fld) (v i j : Nat) : (s.set f v i j).light = s.light := rfl
@[simp] theorem set_clk (s : State) (f : Fld) (v i j : Nat) : (s.set f v i j).clk = s.clk := rfl
@[simp] theorem set_thm (s : State) (f : Fld) (v i j : Nat) : (s.set f v i j).thm = s.thm := rfl
@[simp] theorem set_mgt (s : State) (f : Fld) (v i j : Nat) : (s.set f v i j).mgt = s.mgt := rfl
@[simp] theorem set_halves (s : State) (f : Fld) (v i j : Nat) : (s.set f v i j).halves = s.halves := rfl
@[simp] theorem set_pins (s : State) (f : Fld) (v i j : Nat) : (s.set f v i j).pins = s.pins := rfl
@[simp] theorem set_boot (s : State) (f : Fld) (v i j : Nat) : (s.set f v i j).boot = s.boot := rfl
@[simp] theorem set_sky (s : State) (f : Fld) (v i j : Nat) : (s.set f v i j).sky = s.sky := rfl
@[simp] theorem set_flt (s : State) (f : Fld) (v i j : Nat) : (s.set f v i j).flt = s.flt := rfl
@[simp] theorem set_evf (s : State) (f : Fld) (v i j : Nat) : (s.set f v i j).evf = s.evf := rfl
@[simp] theorem set_out (s : State) (f : Fld) (v i j : Nat) : (s.set f v i j).out = s.out := rfl
@[simp] theorem set_free (s : State) (f : Fld) (v i j : Nat) : (s.set f v i j).free = s.free := rfl
@[simp] theorem set_rd (s : State) (f : Fld) (v i j : Nat) (z : Nat) : (s.set f v i j).rd z = s.rd z := rfl

/-! ## emit: only out changes -/

@[simp] theorem emit_pending (s : State) (o : Out) : (s.emit o).pending = s.pending := rfl
@[simp] theorem emit_now (s : State) (o : Out) : (s.emit o).now = s.now := rfl
@[simp] theorem emit_power (s : State) (o : Out) : (s.emit o).power = s.power := rfl
@[simp] theorem emit_regs (s : State) (o : Out) : (s.emit o).regs = s.regs := rfl
@[simp] theorem emit_mem (s : State) (o : Out) : (s.emit o).mem = s.mem := rfl
@[simp] theorem emit_poison (s : State) (o : Out) : (s.emit o).poison = s.poison := rfl
@[simp] theorem emit_mems (s : State) (o : Out) : (s.emit o).mems = s.mems := rfl
@[simp] theorem emit_cmt (s : State) (o : Out) : (s.emit o).cmt = s.cmt := rfl
@[simp] theorem emit_tally (s : State) (o : Out) : (s.emit o).tally = s.tally := rfl
@[simp] theorem emit_hands (s : State) (o : Out) : (s.emit o).hands = s.hands := rfl
@[simp] theorem emit_host (s : State) (o : Out) : (s.emit o).host = s.host := rfl
@[simp] theorem emit_cht (s : State) (o : Out) : (s.emit o).cht = s.cht := rfl
@[simp] theorem emit_trn (s : State) (o : Out) : (s.emit o).trn = s.trn := rfl
@[simp] theorem emit_cmp (s : State) (o : Out) : (s.emit o).cmp = s.cmp := rfl
@[simp] theorem emit_omus (s : State) (o : Out) : (s.emit o).omus = s.omus := rfl
@[simp] theorem emit_light (s : State) (o : Out) : (s.emit o).light = s.light := rfl
@[simp] theorem emit_clk (s : State) (o : Out) : (s.emit o).clk = s.clk := rfl
@[simp] theorem emit_thm (s : State) (o : Out) : (s.emit o).thm = s.thm := rfl
@[simp] theorem emit_mgt (s : State) (o : Out) : (s.emit o).mgt = s.mgt := rfl
@[simp] theorem emit_halves (s : State) (o : Out) : (s.emit o).halves = s.halves := rfl
@[simp] theorem emit_pins (s : State) (o : Out) : (s.emit o).pins = s.pins := rfl
@[simp] theorem emit_boot (s : State) (o : Out) : (s.emit o).boot = s.boot := rfl
@[simp] theorem emit_sky (s : State) (o : Out) : (s.emit o).sky = s.sky := rfl
@[simp] theorem emit_flt (s : State) (o : Out) : (s.emit o).flt = s.flt := rfl
@[simp] theorem emit_evf (s : State) (o : Out) : (s.emit o).evf = s.evf := rfl
@[simp] theorem emit_free (s : State) (o : Out) : (s.emit o).free = s.free := rfl
@[simp] theorem emit_get (s : State) (o : Out) (h : Fld) (m n : Nat) : (s.emit o).get h m n = s.get h m n := rfl
@[simp] theorem emit_rd (s : State) (o : Out) (z : Nat) : (s.emit o).rd z = s.rd z := rfl

/-! ## fresh: only out changes -/

@[simp] theorem fresh_pending (s : State) : (s.fresh).pending = s.pending := rfl
@[simp] theorem fresh_now (s : State) : (s.fresh).now = s.now := rfl
@[simp] theorem fresh_power (s : State) : (s.fresh).power = s.power := rfl
@[simp] theorem fresh_regs (s : State) : (s.fresh).regs = s.regs := rfl
@[simp] theorem fresh_mem (s : State) : (s.fresh).mem = s.mem := rfl
@[simp] theorem fresh_poison (s : State) : (s.fresh).poison = s.poison := rfl
@[simp] theorem fresh_mems (s : State) : (s.fresh).mems = s.mems := rfl
@[simp] theorem fresh_cmt (s : State) : (s.fresh).cmt = s.cmt := rfl
@[simp] theorem fresh_tally (s : State) : (s.fresh).tally = s.tally := rfl
@[simp] theorem fresh_hands (s : State) : (s.fresh).hands = s.hands := rfl
@[simp] theorem fresh_host (s : State) : (s.fresh).host = s.host := rfl
@[simp] theorem fresh_cht (s : State) : (s.fresh).cht = s.cht := rfl
@[simp] theorem fresh_trn (s : State) : (s.fresh).trn = s.trn := rfl
@[simp] theorem fresh_cmp (s : State) : (s.fresh).cmp = s.cmp := rfl
@[simp] theorem fresh_omus (s : State) : (s.fresh).omus = s.omus := rfl
@[simp] theorem fresh_light (s : State) : (s.fresh).light = s.light := rfl
@[simp] theorem fresh_clk (s : State) : (s.fresh).clk = s.clk := rfl
@[simp] theorem fresh_thm (s : State) : (s.fresh).thm = s.thm := rfl
@[simp] theorem fresh_mgt (s : State) : (s.fresh).mgt = s.mgt := rfl
@[simp] theorem fresh_halves (s : State) : (s.fresh).halves = s.halves := rfl
@[simp] theorem fresh_pins (s : State) : (s.fresh).pins = s.pins := rfl
@[simp] theorem fresh_boot (s : State) : (s.fresh).boot = s.boot := rfl
@[simp] theorem fresh_sky (s : State) : (s.fresh).sky = s.sky := rfl
@[simp] theorem fresh_flt (s : State) : (s.fresh).flt = s.flt := rfl
@[simp] theorem fresh_evf (s : State) : (s.fresh).evf = s.evf := rfl
@[simp] theorem fresh_free (s : State) : (s.fresh).free = s.free := rfl
@[simp] theorem fresh_get (s : State) (h : Fld) (m n : Nat) : (s.fresh).get h m n = s.get h m n := rfl
@[simp] theorem fresh_rd (s : State) (z : Nat) : (s.fresh).rd z = s.rd z := rfl

/-! ## atLeast: only now changes -/

@[simp] theorem atLeast_pending (s : State) (t : Nat) : (s.atLeast t).pending = s.pending := rfl
@[simp] theorem atLeast_power (s : State) (t : Nat) : (s.atLeast t).power = s.power := rfl
@[simp] theorem atLeast_regs (s : State) (t : Nat) : (s.atLeast t).regs = s.regs := rfl
@[simp] theorem atLeast_mem (s : State) (t : Nat) : (s.atLeast t).mem = s.mem := rfl
@[simp] theorem atLeast_poison (s : State) (t : Nat) : (s.atLeast t).poison = s.poison := rfl
@[simp] theorem atLeast_mems (s : State) (t : Nat) : (s.atLeast t).mems = s.mems := rfl
@[simp] theorem atLeast_cmt (s : State) (t : Nat) : (s.atLeast t).cmt = s.cmt := rfl
@[simp] theorem atLeast_tally (s : State) (t : Nat) : (s.atLeast t).tally = s.tally := rfl
@[simp] theorem atLeast_hands (s : State) (t : Nat) : (s.atLeast t).hands = s.hands := rfl
@[simp] theorem atLeast_host (s : State) (t : Nat) : (s.atLeast t).host = s.host := rfl
@[simp] theorem atLeast_cht (s : State) (t : Nat) : (s.atLeast t).cht = s.cht := rfl
@[simp] theorem atLeast_trn (s : State) (t : Nat) : (s.atLeast t).trn = s.trn := rfl
@[simp] theorem atLeast_cmp (s : State) (t : Nat) : (s.atLeast t).cmp = s.cmp := rfl
@[simp] theorem atLeast_omus (s : State) (t : Nat) : (s.atLeast t).omus = s.omus := rfl
@[simp] theorem atLeast_light (s : State) (t : Nat) : (s.atLeast t).light = s.light := rfl
@[simp] theorem atLeast_clk (s : State) (t : Nat) : (s.atLeast t).clk = s.clk := rfl
@[simp] theorem atLeast_thm (s : State) (t : Nat) : (s.atLeast t).thm = s.thm := rfl
@[simp] theorem atLeast_mgt (s : State) (t : Nat) : (s.atLeast t).mgt = s.mgt := rfl
@[simp] theorem atLeast_halves (s : State) (t : Nat) : (s.atLeast t).halves = s.halves := rfl
@[simp] theorem atLeast_pins (s : State) (t : Nat) : (s.atLeast t).pins = s.pins := rfl
@[simp] theorem atLeast_boot (s : State) (t : Nat) : (s.atLeast t).boot = s.boot := rfl
@[simp] theorem atLeast_sky (s : State) (t : Nat) : (s.atLeast t).sky = s.sky := rfl
@[simp] theorem atLeast_flt (s : State) (t : Nat) : (s.atLeast t).flt = s.flt := rfl
@[simp] theorem atLeast_evf (s : State) (t : Nat) : (s.atLeast t).evf = s.evf := rfl
@[simp] theorem atLeast_out (s : State) (t : Nat) : (s.atLeast t).out = s.out := rfl
@[simp] theorem atLeast_free (s : State) (t : Nat) : (s.atLeast t).free = s.free := rfl
@[simp] theorem atLeast_get (s : State) (t : Nat) (h : Fld) (m n : Nat) : (s.atLeast t).get h m n = s.get h m n := rfl
@[simp] theorem atLeast_rd (s : State) (t : Nat) (z : Nat) : (s.atLeast t).rd z = s.rd z := rfl

/-! ## idleStep: only now changes -/

@[simp] theorem idleStep_pending (s : State) : (s.idleStep).pending = s.pending := rfl
@[simp] theorem idleStep_power (s : State) : (s.idleStep).power = s.power := rfl
@[simp] theorem idleStep_regs (s : State) : (s.idleStep).regs = s.regs := rfl
@[simp] theorem idleStep_mem (s : State) : (s.idleStep).mem = s.mem := rfl
@[simp] theorem idleStep_poison (s : State) : (s.idleStep).poison = s.poison := rfl
@[simp] theorem idleStep_mems (s : State) : (s.idleStep).mems = s.mems := rfl
@[simp] theorem idleStep_cmt (s : State) : (s.idleStep).cmt = s.cmt := rfl
@[simp] theorem idleStep_tally (s : State) : (s.idleStep).tally = s.tally := rfl
@[simp] theorem idleStep_hands (s : State) : (s.idleStep).hands = s.hands := rfl
@[simp] theorem idleStep_host (s : State) : (s.idleStep).host = s.host := rfl
@[simp] theorem idleStep_cht (s : State) : (s.idleStep).cht = s.cht := rfl
@[simp] theorem idleStep_trn (s : State) : (s.idleStep).trn = s.trn := rfl
@[simp] theorem idleStep_cmp (s : State) : (s.idleStep).cmp = s.cmp := rfl
@[simp] theorem idleStep_omus (s : State) : (s.idleStep).omus = s.omus := rfl
@[simp] theorem idleStep_light (s : State) : (s.idleStep).light = s.light := rfl
@[simp] theorem idleStep_clk (s : State) : (s.idleStep).clk = s.clk := rfl
@[simp] theorem idleStep_thm (s : State) : (s.idleStep).thm = s.thm := rfl
@[simp] theorem idleStep_mgt (s : State) : (s.idleStep).mgt = s.mgt := rfl
@[simp] theorem idleStep_halves (s : State) : (s.idleStep).halves = s.halves := rfl
@[simp] theorem idleStep_pins (s : State) : (s.idleStep).pins = s.pins := rfl
@[simp] theorem idleStep_boot (s : State) : (s.idleStep).boot = s.boot := rfl
@[simp] theorem idleStep_sky (s : State) : (s.idleStep).sky = s.sky := rfl
@[simp] theorem idleStep_flt (s : State) : (s.idleStep).flt = s.flt := rfl
@[simp] theorem idleStep_evf (s : State) : (s.idleStep).evf = s.evf := rfl
@[simp] theorem idleStep_out (s : State) : (s.idleStep).out = s.out := rfl
@[simp] theorem idleStep_free (s : State) : (s.idleStep).free = s.free := rfl
@[simp] theorem idleStep_get (s : State) (h : Fld) (m n : Nat) : (s.idleStep).get h m n = s.get h m n := rfl
@[simp] theorem idleStep_rd (s : State) (z : Nat) : (s.idleStep).rd z = s.rd z := rfl

/-! ## withPending: only pending changes -/

@[simp] theorem withPending_now (s : State) (l : List Instr) : (s.withPending l).now = s.now := rfl
@[simp] theorem withPending_power (s : State) (l : List Instr) : (s.withPending l).power = s.power := rfl
@[simp] theorem withPending_regs (s : State) (l : List Instr) : (s.withPending l).regs = s.regs := rfl
@[simp] theorem withPending_mem (s : State) (l : List Instr) : (s.withPending l).mem = s.mem := rfl
@[simp] theorem withPending_poison (s : State) (l : List Instr) : (s.withPending l).poison = s.poison := rfl
@[simp] theorem withPending_mems (s : State) (l : List Instr) : (s.withPending l).mems = s.mems := rfl
@[simp] theorem withPending_cmt (s : State) (l : List Instr) : (s.withPending l).cmt = s.cmt := rfl
@[simp] theorem withPending_tally (s : State) (l : List Instr) : (s.withPending l).tally = s.tally := rfl
@[simp] theorem withPending_hands (s : State) (l : List Instr) : (s.withPending l).hands = s.hands := rfl
@[simp] theorem withPending_host (s : State) (l : List Instr) : (s.withPending l).host = s.host := rfl
@[simp] theorem withPending_cht (s : State) (l : List Instr) : (s.withPending l).cht = s.cht := rfl
@[simp] theorem withPending_trn (s : State) (l : List Instr) : (s.withPending l).trn = s.trn := rfl
@[simp] theorem withPending_cmp (s : State) (l : List Instr) : (s.withPending l).cmp = s.cmp := rfl
@[simp] theorem withPending_omus (s : State) (l : List Instr) : (s.withPending l).omus = s.omus := rfl
@[simp] theorem withPending_light (s : State) (l : List Instr) : (s.withPending l).light = s.light := rfl
@[simp] theorem withPending_clk (s : State) (l : List Instr) : (s.withPending l).clk = s.clk := rfl
@[simp] theorem withPending_thm (s : State) (l : List Instr) : (s.withPending l).thm = s.thm := rfl
@[simp] theorem withPending_mgt (s : State) (l : List Instr) : (s.withPending l).mgt = s.mgt := rfl
@[simp] theorem withPending_halves (s : State) (l : List Instr) : (s.withPending l).halves = s.halves := rfl
@[simp] theorem withPending_pins (s : State) (l : List Instr) : (s.withPending l).pins = s.pins := rfl
@[simp] theorem withPending_boot (s : State) (l : List Instr) : (s.withPending l).boot = s.boot := rfl
@[simp] theorem withPending_sky (s : State) (l : List Instr) : (s.withPending l).sky = s.sky := rfl
@[simp] theorem withPending_flt (s : State) (l : List Instr) : (s.withPending l).flt = s.flt := rfl
@[simp] theorem withPending_evf (s : State) (l : List Instr) : (s.withPending l).evf = s.evf := rfl
@[simp] theorem withPending_out (s : State) (l : List Instr) : (s.withPending l).out = s.out := rfl
@[simp] theorem withPending_free (s : State) (l : List Instr) : (s.withPending l).free = s.free := rfl
@[simp] theorem withPending_get (s : State) (l : List Instr) (h : Fld) (m n : Nat) : (s.withPending l).get h m n = s.get h m n := rfl
@[simp] theorem withPending_rd (s : State) (l : List Instr) (z : Nat) : (s.withPending l).rd z = s.rd z := rfl

/-! ## wr: only mem changes -/

@[simp] theorem wr_pending (s : State) (a : Nat) (b : Byte) : (s.wr a b).pending = s.pending := rfl
@[simp] theorem wr_now (s : State) (a : Nat) (b : Byte) : (s.wr a b).now = s.now := rfl
@[simp] theorem wr_power (s : State) (a : Nat) (b : Byte) : (s.wr a b).power = s.power := rfl
@[simp] theorem wr_regs (s : State) (a : Nat) (b : Byte) : (s.wr a b).regs = s.regs := rfl
@[simp] theorem wr_poison (s : State) (a : Nat) (b : Byte) : (s.wr a b).poison = s.poison := rfl
@[simp] theorem wr_mems (s : State) (a : Nat) (b : Byte) : (s.wr a b).mems = s.mems := rfl
@[simp] theorem wr_cmt (s : State) (a : Nat) (b : Byte) : (s.wr a b).cmt = s.cmt := rfl
@[simp] theorem wr_tally (s : State) (a : Nat) (b : Byte) : (s.wr a b).tally = s.tally := rfl
@[simp] theorem wr_hands (s : State) (a : Nat) (b : Byte) : (s.wr a b).hands = s.hands := rfl
@[simp] theorem wr_host (s : State) (a : Nat) (b : Byte) : (s.wr a b).host = s.host := rfl
@[simp] theorem wr_cht (s : State) (a : Nat) (b : Byte) : (s.wr a b).cht = s.cht := rfl
@[simp] theorem wr_trn (s : State) (a : Nat) (b : Byte) : (s.wr a b).trn = s.trn := rfl
@[simp] theorem wr_cmp (s : State) (a : Nat) (b : Byte) : (s.wr a b).cmp = s.cmp := rfl
@[simp] theorem wr_omus (s : State) (a : Nat) (b : Byte) : (s.wr a b).omus = s.omus := rfl
@[simp] theorem wr_light (s : State) (a : Nat) (b : Byte) : (s.wr a b).light = s.light := rfl
@[simp] theorem wr_clk (s : State) (a : Nat) (b : Byte) : (s.wr a b).clk = s.clk := rfl
@[simp] theorem wr_thm (s : State) (a : Nat) (b : Byte) : (s.wr a b).thm = s.thm := rfl
@[simp] theorem wr_mgt (s : State) (a : Nat) (b : Byte) : (s.wr a b).mgt = s.mgt := rfl
@[simp] theorem wr_halves (s : State) (a : Nat) (b : Byte) : (s.wr a b).halves = s.halves := rfl
@[simp] theorem wr_pins (s : State) (a : Nat) (b : Byte) : (s.wr a b).pins = s.pins := rfl
@[simp] theorem wr_boot (s : State) (a : Nat) (b : Byte) : (s.wr a b).boot = s.boot := rfl
@[simp] theorem wr_sky (s : State) (a : Nat) (b : Byte) : (s.wr a b).sky = s.sky := rfl
@[simp] theorem wr_flt (s : State) (a : Nat) (b : Byte) : (s.wr a b).flt = s.flt := rfl
@[simp] theorem wr_evf (s : State) (a : Nat) (b : Byte) : (s.wr a b).evf = s.evf := rfl
@[simp] theorem wr_out (s : State) (a : Nat) (b : Byte) : (s.wr a b).out = s.out := rfl
@[simp] theorem wr_free (s : State) (a : Nat) (b : Byte) : (s.wr a b).free = s.free := rfl
@[simp] theorem wr_get (s : State) (a : Nat) (b : Byte) (h : Fld) (m n : Nat) : (s.wr a b).get h m n = s.get h m n := rfl

/-! ## setPoison: only poison changes -/

@[simp] theorem setPoison_pending (s : State) (g : Nat) (b : Bool) : (s.setPoison g b).pending = s.pending := rfl
@[simp] theorem setPoison_now (s : State) (g : Nat) (b : Bool) : (s.setPoison g b).now = s.now := rfl
@[simp] theorem setPoison_power (s : State) (g : Nat) (b : Bool) : (s.setPoison g b).power = s.power := rfl
@[simp] theorem setPoison_regs (s : State) (g : Nat) (b : Bool) : (s.setPoison g b).regs = s.regs := rfl
@[simp] theorem setPoison_mem (s : State) (g : Nat) (b : Bool) : (s.setPoison g b).mem = s.mem := rfl
@[simp] theorem setPoison_mems (s : State) (g : Nat) (b : Bool) : (s.setPoison g b).mems = s.mems := rfl
@[simp] theorem setPoison_cmt (s : State) (g : Nat) (b : Bool) : (s.setPoison g b).cmt = s.cmt := rfl
@[simp] theorem setPoison_tally (s : State) (g : Nat) (b : Bool) : (s.setPoison g b).tally = s.tally := rfl
@[simp] theorem setPoison_hands (s : State) (g : Nat) (b : Bool) : (s.setPoison g b).hands = s.hands := rfl
@[simp] theorem setPoison_host (s : State) (g : Nat) (b : Bool) : (s.setPoison g b).host = s.host := rfl
@[simp] theorem setPoison_cht (s : State) (g : Nat) (b : Bool) : (s.setPoison g b).cht = s.cht := rfl
@[simp] theorem setPoison_trn (s : State) (g : Nat) (b : Bool) : (s.setPoison g b).trn = s.trn := rfl
@[simp] theorem setPoison_cmp (s : State) (g : Nat) (b : Bool) : (s.setPoison g b).cmp = s.cmp := rfl
@[simp] theorem setPoison_omus (s : State) (g : Nat) (b : Bool) : (s.setPoison g b).omus = s.omus := rfl
@[simp] theorem setPoison_light (s : State) (g : Nat) (b : Bool) : (s.setPoison g b).light = s.light := rfl
@[simp] theorem setPoison_clk (s : State) (g : Nat) (b : Bool) : (s.setPoison g b).clk = s.clk := rfl
@[simp] theorem setPoison_thm (s : State) (g : Nat) (b : Bool) : (s.setPoison g b).thm = s.thm := rfl
@[simp] theorem setPoison_mgt (s : State) (g : Nat) (b : Bool) : (s.setPoison g b).mgt = s.mgt := rfl
@[simp] theorem setPoison_halves (s : State) (g : Nat) (b : Bool) : (s.setPoison g b).halves = s.halves := rfl
@[simp] theorem setPoison_pins (s : State) (g : Nat) (b : Bool) : (s.setPoison g b).pins = s.pins := rfl
@[simp] theorem setPoison_boot (s : State) (g : Nat) (b : Bool) : (s.setPoison g b).boot = s.boot := rfl
@[simp] theorem setPoison_sky (s : State) (g : Nat) (b : Bool) : (s.setPoison g b).sky = s.sky := rfl
@[simp] theorem setPoison_flt (s : State) (g : Nat) (b : Bool) : (s.setPoison g b).flt = s.flt := rfl
@[simp] theorem setPoison_evf (s : State) (g : Nat) (b : Bool) : (s.setPoison g b).evf = s.evf := rfl
@[simp] theorem setPoison_out (s : State) (g : Nat) (b : Bool) : (s.setPoison g b).out = s.out := rfl
@[simp] theorem setPoison_free (s : State) (g : Nat) (b : Bool) : (s.setPoison g b).free = s.free := rfl
@[simp] theorem setPoison_get (s : State) (g : Nat) (b : Bool) (h : Fld) (m n : Nat) : (s.setPoison g b).get h m n = s.get h m n := rfl
@[simp] theorem setPoison_rd (s : State) (g : Nat) (b : Bool) (z : Nat) : (s.setPoison g b).rd z = s.rd z := rfl

/-! ## lifeAdd: only mgt changes -/

@[simp] theorem lifeAdd_pending (s : State) (off v : Nat) : (s.lifeAdd off v).pending = s.pending := rfl
@[simp] theorem lifeAdd_now (s : State) (off v : Nat) : (s.lifeAdd off v).now = s.now := rfl
@[simp] theorem lifeAdd_power (s : State) (off v : Nat) : (s.lifeAdd off v).power = s.power := rfl
@[simp] theorem lifeAdd_regs (s : State) (off v : Nat) : (s.lifeAdd off v).regs = s.regs := rfl
@[simp] theorem lifeAdd_mem (s : State) (off v : Nat) : (s.lifeAdd off v).mem = s.mem := rfl
@[simp] theorem lifeAdd_poison (s : State) (off v : Nat) : (s.lifeAdd off v).poison = s.poison := rfl
@[simp] theorem lifeAdd_mems (s : State) (off v : Nat) : (s.lifeAdd off v).mems = s.mems := rfl
@[simp] theorem lifeAdd_cmt (s : State) (off v : Nat) : (s.lifeAdd off v).cmt = s.cmt := rfl
@[simp] theorem lifeAdd_tally (s : State) (off v : Nat) : (s.lifeAdd off v).tally = s.tally := rfl
@[simp] theorem lifeAdd_hands (s : State) (off v : Nat) : (s.lifeAdd off v).hands = s.hands := rfl
@[simp] theorem lifeAdd_host (s : State) (off v : Nat) : (s.lifeAdd off v).host = s.host := rfl
@[simp] theorem lifeAdd_cht (s : State) (off v : Nat) : (s.lifeAdd off v).cht = s.cht := rfl
@[simp] theorem lifeAdd_trn (s : State) (off v : Nat) : (s.lifeAdd off v).trn = s.trn := rfl
@[simp] theorem lifeAdd_cmp (s : State) (off v : Nat) : (s.lifeAdd off v).cmp = s.cmp := rfl
@[simp] theorem lifeAdd_omus (s : State) (off v : Nat) : (s.lifeAdd off v).omus = s.omus := rfl
@[simp] theorem lifeAdd_light (s : State) (off v : Nat) : (s.lifeAdd off v).light = s.light := rfl
@[simp] theorem lifeAdd_clk (s : State) (off v : Nat) : (s.lifeAdd off v).clk = s.clk := rfl
@[simp] theorem lifeAdd_thm (s : State) (off v : Nat) : (s.lifeAdd off v).thm = s.thm := rfl
@[simp] theorem lifeAdd_halves (s : State) (off v : Nat) : (s.lifeAdd off v).halves = s.halves := rfl
@[simp] theorem lifeAdd_pins (s : State) (off v : Nat) : (s.lifeAdd off v).pins = s.pins := rfl
@[simp] theorem lifeAdd_boot (s : State) (off v : Nat) : (s.lifeAdd off v).boot = s.boot := rfl
@[simp] theorem lifeAdd_sky (s : State) (off v : Nat) : (s.lifeAdd off v).sky = s.sky := rfl
@[simp] theorem lifeAdd_flt (s : State) (off v : Nat) : (s.lifeAdd off v).flt = s.flt := rfl
@[simp] theorem lifeAdd_evf (s : State) (off v : Nat) : (s.lifeAdd off v).evf = s.evf := rfl
@[simp] theorem lifeAdd_out (s : State) (off v : Nat) : (s.lifeAdd off v).out = s.out := rfl
@[simp] theorem lifeAdd_free (s : State) (off v : Nat) : (s.lifeAdd off v).free = s.free := rfl
@[simp] theorem lifeAdd_get (s : State) (off v : Nat) (h : Fld) (m n : Nat) : (s.lifeAdd off v).get h m n = s.get h m n := rfl
@[simp] theorem lifeAdd_rd (s : State) (off v : Nat) (z : Nat) : (s.lifeAdd off v).rd z = s.rd z := rfl

/-! ## setStn: only sky changes -/

@[simp] theorem setStn_pending (s : State) (k : Nat) (x : Station) : (s.setStn k x).pending = s.pending := rfl
@[simp] theorem setStn_now (s : State) (k : Nat) (x : Station) : (s.setStn k x).now = s.now := rfl
@[simp] theorem setStn_power (s : State) (k : Nat) (x : Station) : (s.setStn k x).power = s.power := rfl
@[simp] theorem setStn_regs (s : State) (k : Nat) (x : Station) : (s.setStn k x).regs = s.regs := rfl
@[simp] theorem setStn_mem (s : State) (k : Nat) (x : Station) : (s.setStn k x).mem = s.mem := rfl
@[simp] theorem setStn_poison (s : State) (k : Nat) (x : Station) : (s.setStn k x).poison = s.poison := rfl
@[simp] theorem setStn_mems (s : State) (k : Nat) (x : Station) : (s.setStn k x).mems = s.mems := rfl
@[simp] theorem setStn_cmt (s : State) (k : Nat) (x : Station) : (s.setStn k x).cmt = s.cmt := rfl
@[simp] theorem setStn_tally (s : State) (k : Nat) (x : Station) : (s.setStn k x).tally = s.tally := rfl
@[simp] theorem setStn_hands (s : State) (k : Nat) (x : Station) : (s.setStn k x).hands = s.hands := rfl
@[simp] theorem setStn_host (s : State) (k : Nat) (x : Station) : (s.setStn k x).host = s.host := rfl
@[simp] theorem setStn_cht (s : State) (k : Nat) (x : Station) : (s.setStn k x).cht = s.cht := rfl
@[simp] theorem setStn_trn (s : State) (k : Nat) (x : Station) : (s.setStn k x).trn = s.trn := rfl
@[simp] theorem setStn_cmp (s : State) (k : Nat) (x : Station) : (s.setStn k x).cmp = s.cmp := rfl
@[simp] theorem setStn_omus (s : State) (k : Nat) (x : Station) : (s.setStn k x).omus = s.omus := rfl
@[simp] theorem setStn_light (s : State) (k : Nat) (x : Station) : (s.setStn k x).light = s.light := rfl
@[simp] theorem setStn_clk (s : State) (k : Nat) (x : Station) : (s.setStn k x).clk = s.clk := rfl
@[simp] theorem setStn_thm (s : State) (k : Nat) (x : Station) : (s.setStn k x).thm = s.thm := rfl
@[simp] theorem setStn_mgt (s : State) (k : Nat) (x : Station) : (s.setStn k x).mgt = s.mgt := rfl
@[simp] theorem setStn_halves (s : State) (k : Nat) (x : Station) : (s.setStn k x).halves = s.halves := rfl
@[simp] theorem setStn_pins (s : State) (k : Nat) (x : Station) : (s.setStn k x).pins = s.pins := rfl
@[simp] theorem setStn_boot (s : State) (k : Nat) (x : Station) : (s.setStn k x).boot = s.boot := rfl
@[simp] theorem setStn_flt (s : State) (k : Nat) (x : Station) : (s.setStn k x).flt = s.flt := rfl
@[simp] theorem setStn_evf (s : State) (k : Nat) (x : Station) : (s.setStn k x).evf = s.evf := rfl
@[simp] theorem setStn_out (s : State) (k : Nat) (x : Station) : (s.setStn k x).out = s.out := rfl
@[simp] theorem setStn_free (s : State) (k : Nat) (x : Station) : (s.setStn k x).free = s.free := rfl
@[simp] theorem setStn_get (s : State) (k : Nat) (x : Station) (h : Fld) (m n : Nat) : (s.setStn k x).get h m n = s.get h m n := rfl
@[simp] theorem setStn_rd (s : State) (k : Nat) (x : Station) (z : Nat) : (s.setStn k x).rd z = s.rd z := rfl

/-! ## setSpace: only sky changes -/

@[simp] theorem setSpace_pending (s : State) (a b : Nat) (x : Space) : (s.setSpace a b x).pending = s.pending := rfl
@[simp] theorem setSpace_now (s : State) (a b : Nat) (x : Space) : (s.setSpace a b x).now = s.now := rfl
@[simp] theorem setSpace_power (s : State) (a b : Nat) (x : Space) : (s.setSpace a b x).power = s.power := rfl
@[simp] theorem setSpace_regs (s : State) (a b : Nat) (x : Space) : (s.setSpace a b x).regs = s.regs := rfl
@[simp] theorem setSpace_mem (s : State) (a b : Nat) (x : Space) : (s.setSpace a b x).mem = s.mem := rfl
@[simp] theorem setSpace_poison (s : State) (a b : Nat) (x : Space) : (s.setSpace a b x).poison = s.poison := rfl
@[simp] theorem setSpace_mems (s : State) (a b : Nat) (x : Space) : (s.setSpace a b x).mems = s.mems := rfl
@[simp] theorem setSpace_cmt (s : State) (a b : Nat) (x : Space) : (s.setSpace a b x).cmt = s.cmt := rfl
@[simp] theorem setSpace_tally (s : State) (a b : Nat) (x : Space) : (s.setSpace a b x).tally = s.tally := rfl
@[simp] theorem setSpace_hands (s : State) (a b : Nat) (x : Space) : (s.setSpace a b x).hands = s.hands := rfl
@[simp] theorem setSpace_host (s : State) (a b : Nat) (x : Space) : (s.setSpace a b x).host = s.host := rfl
@[simp] theorem setSpace_cht (s : State) (a b : Nat) (x : Space) : (s.setSpace a b x).cht = s.cht := rfl
@[simp] theorem setSpace_trn (s : State) (a b : Nat) (x : Space) : (s.setSpace a b x).trn = s.trn := rfl
@[simp] theorem setSpace_cmp (s : State) (a b : Nat) (x : Space) : (s.setSpace a b x).cmp = s.cmp := rfl
@[simp] theorem setSpace_omus (s : State) (a b : Nat) (x : Space) : (s.setSpace a b x).omus = s.omus := rfl
@[simp] theorem setSpace_light (s : State) (a b : Nat) (x : Space) : (s.setSpace a b x).light = s.light := rfl
@[simp] theorem setSpace_clk (s : State) (a b : Nat) (x : Space) : (s.setSpace a b x).clk = s.clk := rfl
@[simp] theorem setSpace_thm (s : State) (a b : Nat) (x : Space) : (s.setSpace a b x).thm = s.thm := rfl
@[simp] theorem setSpace_mgt (s : State) (a b : Nat) (x : Space) : (s.setSpace a b x).mgt = s.mgt := rfl
@[simp] theorem setSpace_halves (s : State) (a b : Nat) (x : Space) : (s.setSpace a b x).halves = s.halves := rfl
@[simp] theorem setSpace_pins (s : State) (a b : Nat) (x : Space) : (s.setSpace a b x).pins = s.pins := rfl
@[simp] theorem setSpace_boot (s : State) (a b : Nat) (x : Space) : (s.setSpace a b x).boot = s.boot := rfl
@[simp] theorem setSpace_flt (s : State) (a b : Nat) (x : Space) : (s.setSpace a b x).flt = s.flt := rfl
@[simp] theorem setSpace_evf (s : State) (a b : Nat) (x : Space) : (s.setSpace a b x).evf = s.evf := rfl
@[simp] theorem setSpace_out (s : State) (a b : Nat) (x : Space) : (s.setSpace a b x).out = s.out := rfl
@[simp] theorem setSpace_free (s : State) (a b : Nat) (x : Space) : (s.setSpace a b x).free = s.free := rfl
@[simp] theorem setSpace_get (s : State) (a b : Nat) (x : Space) (h : Fld) (m n : Nat) : (s.setSpace a b x).get h m n = s.get h m n := rfl
@[simp] theorem setSpace_rd (s : State) (a b : Nat) (x : Space) (z : Nat) : (s.setSpace a b x).rd z = s.rd z := rfl

/-! ## mapChan: only sky changes -/

@[simp] theorem mapChan_pending (s : State) (k : Nat) (f : Chan → Chan) : (s.mapChan k f).pending = s.pending := rfl
@[simp] theorem mapChan_now (s : State) (k : Nat) (f : Chan → Chan) : (s.mapChan k f).now = s.now := rfl
@[simp] theorem mapChan_power (s : State) (k : Nat) (f : Chan → Chan) : (s.mapChan k f).power = s.power := rfl
@[simp] theorem mapChan_regs (s : State) (k : Nat) (f : Chan → Chan) : (s.mapChan k f).regs = s.regs := rfl
@[simp] theorem mapChan_mem (s : State) (k : Nat) (f : Chan → Chan) : (s.mapChan k f).mem = s.mem := rfl
@[simp] theorem mapChan_poison (s : State) (k : Nat) (f : Chan → Chan) : (s.mapChan k f).poison = s.poison := rfl
@[simp] theorem mapChan_mems (s : State) (k : Nat) (f : Chan → Chan) : (s.mapChan k f).mems = s.mems := rfl
@[simp] theorem mapChan_cmt (s : State) (k : Nat) (f : Chan → Chan) : (s.mapChan k f).cmt = s.cmt := rfl
@[simp] theorem mapChan_tally (s : State) (k : Nat) (f : Chan → Chan) : (s.mapChan k f).tally = s.tally := rfl
@[simp] theorem mapChan_hands (s : State) (k : Nat) (f : Chan → Chan) : (s.mapChan k f).hands = s.hands := rfl
@[simp] theorem mapChan_host (s : State) (k : Nat) (f : Chan → Chan) : (s.mapChan k f).host = s.host := rfl
@[simp] theorem mapChan_cht (s : State) (k : Nat) (f : Chan → Chan) : (s.mapChan k f).cht = s.cht := rfl
@[simp] theorem mapChan_trn (s : State) (k : Nat) (f : Chan → Chan) : (s.mapChan k f).trn = s.trn := rfl
@[simp] theorem mapChan_cmp (s : State) (k : Nat) (f : Chan → Chan) : (s.mapChan k f).cmp = s.cmp := rfl
@[simp] theorem mapChan_omus (s : State) (k : Nat) (f : Chan → Chan) : (s.mapChan k f).omus = s.omus := rfl
@[simp] theorem mapChan_light (s : State) (k : Nat) (f : Chan → Chan) : (s.mapChan k f).light = s.light := rfl
@[simp] theorem mapChan_clk (s : State) (k : Nat) (f : Chan → Chan) : (s.mapChan k f).clk = s.clk := rfl
@[simp] theorem mapChan_thm (s : State) (k : Nat) (f : Chan → Chan) : (s.mapChan k f).thm = s.thm := rfl
@[simp] theorem mapChan_mgt (s : State) (k : Nat) (f : Chan → Chan) : (s.mapChan k f).mgt = s.mgt := rfl
@[simp] theorem mapChan_halves (s : State) (k : Nat) (f : Chan → Chan) : (s.mapChan k f).halves = s.halves := rfl
@[simp] theorem mapChan_pins (s : State) (k : Nat) (f : Chan → Chan) : (s.mapChan k f).pins = s.pins := rfl
@[simp] theorem mapChan_boot (s : State) (k : Nat) (f : Chan → Chan) : (s.mapChan k f).boot = s.boot := rfl
@[simp] theorem mapChan_flt (s : State) (k : Nat) (f : Chan → Chan) : (s.mapChan k f).flt = s.flt := rfl
@[simp] theorem mapChan_evf (s : State) (k : Nat) (f : Chan → Chan) : (s.mapChan k f).evf = s.evf := rfl
@[simp] theorem mapChan_out (s : State) (k : Nat) (f : Chan → Chan) : (s.mapChan k f).out = s.out := rfl
@[simp] theorem mapChan_free (s : State) (k : Nat) (f : Chan → Chan) : (s.mapChan k f).free = s.free := rfl
@[simp] theorem mapChan_get (s : State) (k : Nat) (f : Chan → Chan) (h : Fld) (m n : Nat) : (s.mapChan k f).get h m n = s.get h m n := rfl
@[simp] theorem mapChan_rd (s : State) (k : Nat) (f : Chan → Chan) (z : Nat) : (s.mapChan k f).rd z = s.rd z := rfl

/-! ## setEnt: only tally changes -/

@[simp] theorem setEnt_pending (s : State) (q : Nat) (e : Entry) : (s.setEnt q e).pending = s.pending := rfl
@[simp] theorem setEnt_now (s : State) (q : Nat) (e : Entry) : (s.setEnt q e).now = s.now := rfl
@[simp] theorem setEnt_power (s : State) (q : Nat) (e : Entry) : (s.setEnt q e).power = s.power := rfl
@[simp] theorem setEnt_regs (s : State) (q : Nat) (e : Entry) : (s.setEnt q e).regs = s.regs := rfl
@[simp] theorem setEnt_mem (s : State) (q : Nat) (e : Entry) : (s.setEnt q e).mem = s.mem := rfl
@[simp] theorem setEnt_poison (s : State) (q : Nat) (e : Entry) : (s.setEnt q e).poison = s.poison := rfl
@[simp] theorem setEnt_mems (s : State) (q : Nat) (e : Entry) : (s.setEnt q e).mems = s.mems := rfl
@[simp] theorem setEnt_cmt (s : State) (q : Nat) (e : Entry) : (s.setEnt q e).cmt = s.cmt := rfl
@[simp] theorem setEnt_hands (s : State) (q : Nat) (e : Entry) : (s.setEnt q e).hands = s.hands := rfl
@[simp] theorem setEnt_host (s : State) (q : Nat) (e : Entry) : (s.setEnt q e).host = s.host := rfl
@[simp] theorem setEnt_cht (s : State) (q : Nat) (e : Entry) : (s.setEnt q e).cht = s.cht := rfl
@[simp] theorem setEnt_trn (s : State) (q : Nat) (e : Entry) : (s.setEnt q e).trn = s.trn := rfl
@[simp] theorem setEnt_cmp (s : State) (q : Nat) (e : Entry) : (s.setEnt q e).cmp = s.cmp := rfl
@[simp] theorem setEnt_omus (s : State) (q : Nat) (e : Entry) : (s.setEnt q e).omus = s.omus := rfl
@[simp] theorem setEnt_light (s : State) (q : Nat) (e : Entry) : (s.setEnt q e).light = s.light := rfl
@[simp] theorem setEnt_clk (s : State) (q : Nat) (e : Entry) : (s.setEnt q e).clk = s.clk := rfl
@[simp] theorem setEnt_thm (s : State) (q : Nat) (e : Entry) : (s.setEnt q e).thm = s.thm := rfl
@[simp] theorem setEnt_mgt (s : State) (q : Nat) (e : Entry) : (s.setEnt q e).mgt = s.mgt := rfl
@[simp] theorem setEnt_halves (s : State) (q : Nat) (e : Entry) : (s.setEnt q e).halves = s.halves := rfl
@[simp] theorem setEnt_pins (s : State) (q : Nat) (e : Entry) : (s.setEnt q e).pins = s.pins := rfl
@[simp] theorem setEnt_boot (s : State) (q : Nat) (e : Entry) : (s.setEnt q e).boot = s.boot := rfl
@[simp] theorem setEnt_sky (s : State) (q : Nat) (e : Entry) : (s.setEnt q e).sky = s.sky := rfl
@[simp] theorem setEnt_flt (s : State) (q : Nat) (e : Entry) : (s.setEnt q e).flt = s.flt := rfl
@[simp] theorem setEnt_evf (s : State) (q : Nat) (e : Entry) : (s.setEnt q e).evf = s.evf := rfl
@[simp] theorem setEnt_out (s : State) (q : Nat) (e : Entry) : (s.setEnt q e).out = s.out := rfl
@[simp] theorem setEnt_free (s : State) (q : Nat) (e : Entry) : (s.setEnt q e).free = s.free := rfl
@[simp] theorem setEnt_get (s : State) (q : Nat) (e : Entry) (h : Fld) (m n : Nat) : (s.setEnt q e).get h m n = s.get h m n := rfl
@[simp] theorem setEnt_rd (s : State) (q : Nat) (e : Entry) (z : Nat) : (s.setEnt q e).rd z = s.rd z := rfl

/-! ## mapEnt: only tally changes -/

@[simp] theorem mapEnt_pending (s : State) (q : Nat) (f : Entry → Entry) : (s.mapEnt q f).pending = s.pending := rfl
@[simp] theorem mapEnt_now (s : State) (q : Nat) (f : Entry → Entry) : (s.mapEnt q f).now = s.now := rfl
@[simp] theorem mapEnt_power (s : State) (q : Nat) (f : Entry → Entry) : (s.mapEnt q f).power = s.power := rfl
@[simp] theorem mapEnt_regs (s : State) (q : Nat) (f : Entry → Entry) : (s.mapEnt q f).regs = s.regs := rfl
@[simp] theorem mapEnt_mem (s : State) (q : Nat) (f : Entry → Entry) : (s.mapEnt q f).mem = s.mem := rfl
@[simp] theorem mapEnt_poison (s : State) (q : Nat) (f : Entry → Entry) : (s.mapEnt q f).poison = s.poison := rfl
@[simp] theorem mapEnt_mems (s : State) (q : Nat) (f : Entry → Entry) : (s.mapEnt q f).mems = s.mems := rfl
@[simp] theorem mapEnt_cmt (s : State) (q : Nat) (f : Entry → Entry) : (s.mapEnt q f).cmt = s.cmt := rfl
@[simp] theorem mapEnt_hands (s : State) (q : Nat) (f : Entry → Entry) : (s.mapEnt q f).hands = s.hands := rfl
@[simp] theorem mapEnt_host (s : State) (q : Nat) (f : Entry → Entry) : (s.mapEnt q f).host = s.host := rfl
@[simp] theorem mapEnt_cht (s : State) (q : Nat) (f : Entry → Entry) : (s.mapEnt q f).cht = s.cht := rfl
@[simp] theorem mapEnt_trn (s : State) (q : Nat) (f : Entry → Entry) : (s.mapEnt q f).trn = s.trn := rfl
@[simp] theorem mapEnt_cmp (s : State) (q : Nat) (f : Entry → Entry) : (s.mapEnt q f).cmp = s.cmp := rfl
@[simp] theorem mapEnt_omus (s : State) (q : Nat) (f : Entry → Entry) : (s.mapEnt q f).omus = s.omus := rfl
@[simp] theorem mapEnt_light (s : State) (q : Nat) (f : Entry → Entry) : (s.mapEnt q f).light = s.light := rfl
@[simp] theorem mapEnt_clk (s : State) (q : Nat) (f : Entry → Entry) : (s.mapEnt q f).clk = s.clk := rfl
@[simp] theorem mapEnt_thm (s : State) (q : Nat) (f : Entry → Entry) : (s.mapEnt q f).thm = s.thm := rfl
@[simp] theorem mapEnt_mgt (s : State) (q : Nat) (f : Entry → Entry) : (s.mapEnt q f).mgt = s.mgt := rfl
@[simp] theorem mapEnt_halves (s : State) (q : Nat) (f : Entry → Entry) : (s.mapEnt q f).halves = s.halves := rfl
@[simp] theorem mapEnt_pins (s : State) (q : Nat) (f : Entry → Entry) : (s.mapEnt q f).pins = s.pins := rfl
@[simp] theorem mapEnt_boot (s : State) (q : Nat) (f : Entry → Entry) : (s.mapEnt q f).boot = s.boot := rfl
@[simp] theorem mapEnt_sky (s : State) (q : Nat) (f : Entry → Entry) : (s.mapEnt q f).sky = s.sky := rfl
@[simp] theorem mapEnt_flt (s : State) (q : Nat) (f : Entry → Entry) : (s.mapEnt q f).flt = s.flt := rfl
@[simp] theorem mapEnt_evf (s : State) (q : Nat) (f : Entry → Entry) : (s.mapEnt q f).evf = s.evf := rfl
@[simp] theorem mapEnt_out (s : State) (q : Nat) (f : Entry → Entry) : (s.mapEnt q f).out = s.out := rfl
@[simp] theorem mapEnt_free (s : State) (q : Nat) (f : Entry → Entry) : (s.mapEnt q f).free = s.free := rfl
@[simp] theorem mapEnt_get (s : State) (q : Nat) (f : Entry → Entry) (h : Fld) (m n : Nat) : (s.mapEnt q f).get h m n = s.get h m n := rfl
@[simp] theorem mapEnt_rd (s : State) (q : Nat) (f : Entry → Entry) (z : Nat) : (s.mapEnt q f).rd z = s.rd z := rfl

/-! ## setDeck: only tally changes -/

@[simp] theorem setDeck_pending (s : State) (d : Nat) (x : Deck) : (s.setDeck d x).pending = s.pending := rfl
@[simp] theorem setDeck_now (s : State) (d : Nat) (x : Deck) : (s.setDeck d x).now = s.now := rfl
@[simp] theorem setDeck_power (s : State) (d : Nat) (x : Deck) : (s.setDeck d x).power = s.power := rfl
@[simp] theorem setDeck_regs (s : State) (d : Nat) (x : Deck) : (s.setDeck d x).regs = s.regs := rfl
@[simp] theorem setDeck_mem (s : State) (d : Nat) (x : Deck) : (s.setDeck d x).mem = s.mem := rfl
@[simp] theorem setDeck_poison (s : State) (d : Nat) (x : Deck) : (s.setDeck d x).poison = s.poison := rfl
@[simp] theorem setDeck_mems (s : State) (d : Nat) (x : Deck) : (s.setDeck d x).mems = s.mems := rfl
@[simp] theorem setDeck_cmt (s : State) (d : Nat) (x : Deck) : (s.setDeck d x).cmt = s.cmt := rfl
@[simp] theorem setDeck_hands (s : State) (d : Nat) (x : Deck) : (s.setDeck d x).hands = s.hands := rfl
@[simp] theorem setDeck_host (s : State) (d : Nat) (x : Deck) : (s.setDeck d x).host = s.host := rfl
@[simp] theorem setDeck_cht (s : State) (d : Nat) (x : Deck) : (s.setDeck d x).cht = s.cht := rfl
@[simp] theorem setDeck_trn (s : State) (d : Nat) (x : Deck) : (s.setDeck d x).trn = s.trn := rfl
@[simp] theorem setDeck_cmp (s : State) (d : Nat) (x : Deck) : (s.setDeck d x).cmp = s.cmp := rfl
@[simp] theorem setDeck_omus (s : State) (d : Nat) (x : Deck) : (s.setDeck d x).omus = s.omus := rfl
@[simp] theorem setDeck_light (s : State) (d : Nat) (x : Deck) : (s.setDeck d x).light = s.light := rfl
@[simp] theorem setDeck_clk (s : State) (d : Nat) (x : Deck) : (s.setDeck d x).clk = s.clk := rfl
@[simp] theorem setDeck_thm (s : State) (d : Nat) (x : Deck) : (s.setDeck d x).thm = s.thm := rfl
@[simp] theorem setDeck_mgt (s : State) (d : Nat) (x : Deck) : (s.setDeck d x).mgt = s.mgt := rfl
@[simp] theorem setDeck_halves (s : State) (d : Nat) (x : Deck) : (s.setDeck d x).halves = s.halves := rfl
@[simp] theorem setDeck_pins (s : State) (d : Nat) (x : Deck) : (s.setDeck d x).pins = s.pins := rfl
@[simp] theorem setDeck_boot (s : State) (d : Nat) (x : Deck) : (s.setDeck d x).boot = s.boot := rfl
@[simp] theorem setDeck_sky (s : State) (d : Nat) (x : Deck) : (s.setDeck d x).sky = s.sky := rfl
@[simp] theorem setDeck_flt (s : State) (d : Nat) (x : Deck) : (s.setDeck d x).flt = s.flt := rfl
@[simp] theorem setDeck_evf (s : State) (d : Nat) (x : Deck) : (s.setDeck d x).evf = s.evf := rfl
@[simp] theorem setDeck_out (s : State) (d : Nat) (x : Deck) : (s.setDeck d x).out = s.out := rfl
@[simp] theorem setDeck_free (s : State) (d : Nat) (x : Deck) : (s.setDeck d x).free = s.free := rfl
@[simp] theorem setDeck_get (s : State) (d : Nat) (x : Deck) (h : Fld) (m n : Nat) : (s.setDeck d x).get h m n = s.get h m n := rfl
@[simp] theorem setDeck_rd (s : State) (d : Nat) (x : Deck) (z : Nat) : (s.setDeck d x).rd z = s.rd z := rfl

/-! ## setImage: only tally changes -/

@[simp] theorem setImage_pending (s : State) (x : Image) : (s.setImage x).pending = s.pending := rfl
@[simp] theorem setImage_now (s : State) (x : Image) : (s.setImage x).now = s.now := rfl
@[simp] theorem setImage_power (s : State) (x : Image) : (s.setImage x).power = s.power := rfl
@[simp] theorem setImage_regs (s : State) (x : Image) : (s.setImage x).regs = s.regs := rfl
@[simp] theorem setImage_mem (s : State) (x : Image) : (s.setImage x).mem = s.mem := rfl
@[simp] theorem setImage_poison (s : State) (x : Image) : (s.setImage x).poison = s.poison := rfl
@[simp] theorem setImage_mems (s : State) (x : Image) : (s.setImage x).mems = s.mems := rfl
@[simp] theorem setImage_cmt (s : State) (x : Image) : (s.setImage x).cmt = s.cmt := rfl
@[simp] theorem setImage_hands (s : State) (x : Image) : (s.setImage x).hands = s.hands := rfl
@[simp] theorem setImage_host (s : State) (x : Image) : (s.setImage x).host = s.host := rfl
@[simp] theorem setImage_cht (s : State) (x : Image) : (s.setImage x).cht = s.cht := rfl
@[simp] theorem setImage_trn (s : State) (x : Image) : (s.setImage x).trn = s.trn := rfl
@[simp] theorem setImage_cmp (s : State) (x : Image) : (s.setImage x).cmp = s.cmp := rfl
@[simp] theorem setImage_omus (s : State) (x : Image) : (s.setImage x).omus = s.omus := rfl
@[simp] theorem setImage_light (s : State) (x : Image) : (s.setImage x).light = s.light := rfl
@[simp] theorem setImage_clk (s : State) (x : Image) : (s.setImage x).clk = s.clk := rfl
@[simp] theorem setImage_thm (s : State) (x : Image) : (s.setImage x).thm = s.thm := rfl
@[simp] theorem setImage_mgt (s : State) (x : Image) : (s.setImage x).mgt = s.mgt := rfl
@[simp] theorem setImage_halves (s : State) (x : Image) : (s.setImage x).halves = s.halves := rfl
@[simp] theorem setImage_pins (s : State) (x : Image) : (s.setImage x).pins = s.pins := rfl
@[simp] theorem setImage_boot (s : State) (x : Image) : (s.setImage x).boot = s.boot := rfl
@[simp] theorem setImage_sky (s : State) (x : Image) : (s.setImage x).sky = s.sky := rfl
@[simp] theorem setImage_flt (s : State) (x : Image) : (s.setImage x).flt = s.flt := rfl
@[simp] theorem setImage_evf (s : State) (x : Image) : (s.setImage x).evf = s.evf := rfl
@[simp] theorem setImage_out (s : State) (x : Image) : (s.setImage x).out = s.out := rfl
@[simp] theorem setImage_free (s : State) (x : Image) : (s.setImage x).free = s.free := rfl
@[simp] theorem setImage_get (s : State) (x : Image) (h : Fld) (m n : Nat) : (s.setImage x).get h m n = s.get h m n := rfl
@[simp] theorem setImage_rd (s : State) (x : Image) (z : Nat) : (s.setImage x).rd z = s.rd z := rfl

/-! ## setHand: only hands changes -/

@[simp] theorem setHand_pending (s : State) (k : Nat) (x : Hand) : (s.setHand k x).pending = s.pending := rfl
@[simp] theorem setHand_now (s : State) (k : Nat) (x : Hand) : (s.setHand k x).now = s.now := rfl
@[simp] theorem setHand_power (s : State) (k : Nat) (x : Hand) : (s.setHand k x).power = s.power := rfl
@[simp] theorem setHand_regs (s : State) (k : Nat) (x : Hand) : (s.setHand k x).regs = s.regs := rfl
@[simp] theorem setHand_mem (s : State) (k : Nat) (x : Hand) : (s.setHand k x).mem = s.mem := rfl
@[simp] theorem setHand_poison (s : State) (k : Nat) (x : Hand) : (s.setHand k x).poison = s.poison := rfl
@[simp] theorem setHand_mems (s : State) (k : Nat) (x : Hand) : (s.setHand k x).mems = s.mems := rfl
@[simp] theorem setHand_cmt (s : State) (k : Nat) (x : Hand) : (s.setHand k x).cmt = s.cmt := rfl
@[simp] theorem setHand_tally (s : State) (k : Nat) (x : Hand) : (s.setHand k x).tally = s.tally := rfl
@[simp] theorem setHand_host (s : State) (k : Nat) (x : Hand) : (s.setHand k x).host = s.host := rfl
@[simp] theorem setHand_cht (s : State) (k : Nat) (x : Hand) : (s.setHand k x).cht = s.cht := rfl
@[simp] theorem setHand_trn (s : State) (k : Nat) (x : Hand) : (s.setHand k x).trn = s.trn := rfl
@[simp] theorem setHand_cmp (s : State) (k : Nat) (x : Hand) : (s.setHand k x).cmp = s.cmp := rfl
@[simp] theorem setHand_omus (s : State) (k : Nat) (x : Hand) : (s.setHand k x).omus = s.omus := rfl
@[simp] theorem setHand_light (s : State) (k : Nat) (x : Hand) : (s.setHand k x).light = s.light := rfl
@[simp] theorem setHand_clk (s : State) (k : Nat) (x : Hand) : (s.setHand k x).clk = s.clk := rfl
@[simp] theorem setHand_thm (s : State) (k : Nat) (x : Hand) : (s.setHand k x).thm = s.thm := rfl
@[simp] theorem setHand_mgt (s : State) (k : Nat) (x : Hand) : (s.setHand k x).mgt = s.mgt := rfl
@[simp] theorem setHand_halves (s : State) (k : Nat) (x : Hand) : (s.setHand k x).halves = s.halves := rfl
@[simp] theorem setHand_pins (s : State) (k : Nat) (x : Hand) : (s.setHand k x).pins = s.pins := rfl
@[simp] theorem setHand_boot (s : State) (k : Nat) (x : Hand) : (s.setHand k x).boot = s.boot := rfl
@[simp] theorem setHand_sky (s : State) (k : Nat) (x : Hand) : (s.setHand k x).sky = s.sky := rfl
@[simp] theorem setHand_flt (s : State) (k : Nat) (x : Hand) : (s.setHand k x).flt = s.flt := rfl
@[simp] theorem setHand_evf (s : State) (k : Nat) (x : Hand) : (s.setHand k x).evf = s.evf := rfl
@[simp] theorem setHand_out (s : State) (k : Nat) (x : Hand) : (s.setHand k x).out = s.out := rfl
@[simp] theorem setHand_free (s : State) (k : Nat) (x : Hand) : (s.setHand k x).free = s.free := rfl
@[simp] theorem setHand_get (s : State) (k : Nat) (x : Hand) (h : Fld) (m n : Nat) : (s.setHand k x).get h m n = s.get h m n := rfl
@[simp] theorem setHand_rd (s : State) (k : Nat) (x : Hand) (z : Nat) : (s.setHand k x).rd z = s.rd z := rfl

/-! ## dropHand: only hands changes -/

@[simp] theorem dropHand_pending (s : State) (k : Nat) : (s.dropHand k).pending = s.pending := rfl
@[simp] theorem dropHand_now (s : State) (k : Nat) : (s.dropHand k).now = s.now := rfl
@[simp] theorem dropHand_power (s : State) (k : Nat) : (s.dropHand k).power = s.power := rfl
@[simp] theorem dropHand_regs (s : State) (k : Nat) : (s.dropHand k).regs = s.regs := rfl
@[simp] theorem dropHand_mem (s : State) (k : Nat) : (s.dropHand k).mem = s.mem := rfl
@[simp] theorem dropHand_poison (s : State) (k : Nat) : (s.dropHand k).poison = s.poison := rfl
@[simp] theorem dropHand_mems (s : State) (k : Nat) : (s.dropHand k).mems = s.mems := rfl
@[simp] theorem dropHand_cmt (s : State) (k : Nat) : (s.dropHand k).cmt = s.cmt := rfl
@[simp] theorem dropHand_tally (s : State) (k : Nat) : (s.dropHand k).tally = s.tally := rfl
@[simp] theorem dropHand_host (s : State) (k : Nat) : (s.dropHand k).host = s.host := rfl
@[simp] theorem dropHand_cht (s : State) (k : Nat) : (s.dropHand k).cht = s.cht := rfl
@[simp] theorem dropHand_trn (s : State) (k : Nat) : (s.dropHand k).trn = s.trn := rfl
@[simp] theorem dropHand_cmp (s : State) (k : Nat) : (s.dropHand k).cmp = s.cmp := rfl
@[simp] theorem dropHand_omus (s : State) (k : Nat) : (s.dropHand k).omus = s.omus := rfl
@[simp] theorem dropHand_light (s : State) (k : Nat) : (s.dropHand k).light = s.light := rfl
@[simp] theorem dropHand_clk (s : State) (k : Nat) : (s.dropHand k).clk = s.clk := rfl
@[simp] theorem dropHand_thm (s : State) (k : Nat) : (s.dropHand k).thm = s.thm := rfl
@[simp] theorem dropHand_mgt (s : State) (k : Nat) : (s.dropHand k).mgt = s.mgt := rfl
@[simp] theorem dropHand_halves (s : State) (k : Nat) : (s.dropHand k).halves = s.halves := rfl
@[simp] theorem dropHand_pins (s : State) (k : Nat) : (s.dropHand k).pins = s.pins := rfl
@[simp] theorem dropHand_boot (s : State) (k : Nat) : (s.dropHand k).boot = s.boot := rfl
@[simp] theorem dropHand_sky (s : State) (k : Nat) : (s.dropHand k).sky = s.sky := rfl
@[simp] theorem dropHand_flt (s : State) (k : Nat) : (s.dropHand k).flt = s.flt := rfl
@[simp] theorem dropHand_evf (s : State) (k : Nat) : (s.dropHand k).evf = s.evf := rfl
@[simp] theorem dropHand_out (s : State) (k : Nat) : (s.dropHand k).out = s.out := rfl
@[simp] theorem dropHand_free (s : State) (k : Nat) : (s.dropHand k).free = s.free := rfl
@[simp] theorem dropHand_get (s : State) (k : Nat) (h : Fld) (m n : Nat) : (s.dropHand k).get h m n = s.get h m n := rfl
@[simp] theorem dropHand_rd (s : State) (k : Nat) (z : Nat) : (s.dropHand k).rd z = s.rd z := rfl

/-! ## setTrn: only trn changes -/

@[simp] theorem setTrn_pending (s : State) (x : Transit) : (s.setTrn x).pending = s.pending := rfl
@[simp] theorem setTrn_now (s : State) (x : Transit) : (s.setTrn x).now = s.now := rfl
@[simp] theorem setTrn_power (s : State) (x : Transit) : (s.setTrn x).power = s.power := rfl
@[simp] theorem setTrn_regs (s : State) (x : Transit) : (s.setTrn x).regs = s.regs := rfl
@[simp] theorem setTrn_mem (s : State) (x : Transit) : (s.setTrn x).mem = s.mem := rfl
@[simp] theorem setTrn_poison (s : State) (x : Transit) : (s.setTrn x).poison = s.poison := rfl
@[simp] theorem setTrn_mems (s : State) (x : Transit) : (s.setTrn x).mems = s.mems := rfl
@[simp] theorem setTrn_cmt (s : State) (x : Transit) : (s.setTrn x).cmt = s.cmt := rfl
@[simp] theorem setTrn_tally (s : State) (x : Transit) : (s.setTrn x).tally = s.tally := rfl
@[simp] theorem setTrn_hands (s : State) (x : Transit) : (s.setTrn x).hands = s.hands := rfl
@[simp] theorem setTrn_host (s : State) (x : Transit) : (s.setTrn x).host = s.host := rfl
@[simp] theorem setTrn_cht (s : State) (x : Transit) : (s.setTrn x).cht = s.cht := rfl
@[simp] theorem setTrn_cmp (s : State) (x : Transit) : (s.setTrn x).cmp = s.cmp := rfl
@[simp] theorem setTrn_omus (s : State) (x : Transit) : (s.setTrn x).omus = s.omus := rfl
@[simp] theorem setTrn_light (s : State) (x : Transit) : (s.setTrn x).light = s.light := rfl
@[simp] theorem setTrn_clk (s : State) (x : Transit) : (s.setTrn x).clk = s.clk := rfl
@[simp] theorem setTrn_thm (s : State) (x : Transit) : (s.setTrn x).thm = s.thm := rfl
@[simp] theorem setTrn_mgt (s : State) (x : Transit) : (s.setTrn x).mgt = s.mgt := rfl
@[simp] theorem setTrn_halves (s : State) (x : Transit) : (s.setTrn x).halves = s.halves := rfl
@[simp] theorem setTrn_pins (s : State) (x : Transit) : (s.setTrn x).pins = s.pins := rfl
@[simp] theorem setTrn_boot (s : State) (x : Transit) : (s.setTrn x).boot = s.boot := rfl
@[simp] theorem setTrn_sky (s : State) (x : Transit) : (s.setTrn x).sky = s.sky := rfl
@[simp] theorem setTrn_flt (s : State) (x : Transit) : (s.setTrn x).flt = s.flt := rfl
@[simp] theorem setTrn_evf (s : State) (x : Transit) : (s.setTrn x).evf = s.evf := rfl
@[simp] theorem setTrn_out (s : State) (x : Transit) : (s.setTrn x).out = s.out := rfl
@[simp] theorem setTrn_free (s : State) (x : Transit) : (s.setTrn x).free = s.free := rfl
@[simp] theorem setTrn_get (s : State) (x : Transit) (h : Fld) (m n : Nat) : (s.setTrn x).get h m n = s.get h m n := rfl
@[simp] theorem setTrn_rd (s : State) (x : Transit) (z : Nat) : (s.setTrn x).rd z = s.rd z := rfl

/-! ## setSw: only cht changes -/

@[simp] theorem setSw_pending (s : State) (w : Option Switch) : (s.setSw w).pending = s.pending := rfl
@[simp] theorem setSw_now (s : State) (w : Option Switch) : (s.setSw w).now = s.now := rfl
@[simp] theorem setSw_power (s : State) (w : Option Switch) : (s.setSw w).power = s.power := rfl
@[simp] theorem setSw_regs (s : State) (w : Option Switch) : (s.setSw w).regs = s.regs := rfl
@[simp] theorem setSw_mem (s : State) (w : Option Switch) : (s.setSw w).mem = s.mem := rfl
@[simp] theorem setSw_poison (s : State) (w : Option Switch) : (s.setSw w).poison = s.poison := rfl
@[simp] theorem setSw_mems (s : State) (w : Option Switch) : (s.setSw w).mems = s.mems := rfl
@[simp] theorem setSw_cmt (s : State) (w : Option Switch) : (s.setSw w).cmt = s.cmt := rfl
@[simp] theorem setSw_tally (s : State) (w : Option Switch) : (s.setSw w).tally = s.tally := rfl
@[simp] theorem setSw_hands (s : State) (w : Option Switch) : (s.setSw w).hands = s.hands := rfl
@[simp] theorem setSw_host (s : State) (w : Option Switch) : (s.setSw w).host = s.host := rfl
@[simp] theorem setSw_trn (s : State) (w : Option Switch) : (s.setSw w).trn = s.trn := rfl
@[simp] theorem setSw_cmp (s : State) (w : Option Switch) : (s.setSw w).cmp = s.cmp := rfl
@[simp] theorem setSw_omus (s : State) (w : Option Switch) : (s.setSw w).omus = s.omus := rfl
@[simp] theorem setSw_light (s : State) (w : Option Switch) : (s.setSw w).light = s.light := rfl
@[simp] theorem setSw_clk (s : State) (w : Option Switch) : (s.setSw w).clk = s.clk := rfl
@[simp] theorem setSw_thm (s : State) (w : Option Switch) : (s.setSw w).thm = s.thm := rfl
@[simp] theorem setSw_mgt (s : State) (w : Option Switch) : (s.setSw w).mgt = s.mgt := rfl
@[simp] theorem setSw_halves (s : State) (w : Option Switch) : (s.setSw w).halves = s.halves := rfl
@[simp] theorem setSw_pins (s : State) (w : Option Switch) : (s.setSw w).pins = s.pins := rfl
@[simp] theorem setSw_boot (s : State) (w : Option Switch) : (s.setSw w).boot = s.boot := rfl
@[simp] theorem setSw_sky (s : State) (w : Option Switch) : (s.setSw w).sky = s.sky := rfl
@[simp] theorem setSw_flt (s : State) (w : Option Switch) : (s.setSw w).flt = s.flt := rfl
@[simp] theorem setSw_evf (s : State) (w : Option Switch) : (s.setSw w).evf = s.evf := rfl
@[simp] theorem setSw_out (s : State) (w : Option Switch) : (s.setSw w).out = s.out := rfl
@[simp] theorem setSw_free (s : State) (w : Option Switch) : (s.setSw w).free = s.free := rfl
@[simp] theorem setSw_get (s : State) (w : Option Switch) (h : Fld) (m n : Nat) : (s.setSw w).get h m n = s.get h m n := rfl
@[simp] theorem setSw_rd (s : State) (w : Option Switch) (z : Nat) : (s.setSw w).rd z = s.rd z := rfl

/-! ## setPasses: only cmp changes -/

@[simp] theorem setPasses_pending (s : State) (l : List Pass) : (s.setPasses l).pending = s.pending := rfl
@[simp] theorem setPasses_now (s : State) (l : List Pass) : (s.setPasses l).now = s.now := rfl
@[simp] theorem setPasses_power (s : State) (l : List Pass) : (s.setPasses l).power = s.power := rfl
@[simp] theorem setPasses_regs (s : State) (l : List Pass) : (s.setPasses l).regs = s.regs := rfl
@[simp] theorem setPasses_mem (s : State) (l : List Pass) : (s.setPasses l).mem = s.mem := rfl
@[simp] theorem setPasses_poison (s : State) (l : List Pass) : (s.setPasses l).poison = s.poison := rfl
@[simp] theorem setPasses_mems (s : State) (l : List Pass) : (s.setPasses l).mems = s.mems := rfl
@[simp] theorem setPasses_cmt (s : State) (l : List Pass) : (s.setPasses l).cmt = s.cmt := rfl
@[simp] theorem setPasses_tally (s : State) (l : List Pass) : (s.setPasses l).tally = s.tally := rfl
@[simp] theorem setPasses_hands (s : State) (l : List Pass) : (s.setPasses l).hands = s.hands := rfl
@[simp] theorem setPasses_host (s : State) (l : List Pass) : (s.setPasses l).host = s.host := rfl
@[simp] theorem setPasses_cht (s : State) (l : List Pass) : (s.setPasses l).cht = s.cht := rfl
@[simp] theorem setPasses_trn (s : State) (l : List Pass) : (s.setPasses l).trn = s.trn := rfl
@[simp] theorem setPasses_omus (s : State) (l : List Pass) : (s.setPasses l).omus = s.omus := rfl
@[simp] theorem setPasses_light (s : State) (l : List Pass) : (s.setPasses l).light = s.light := rfl
@[simp] theorem setPasses_clk (s : State) (l : List Pass) : (s.setPasses l).clk = s.clk := rfl
@[simp] theorem setPasses_thm (s : State) (l : List Pass) : (s.setPasses l).thm = s.thm := rfl
@[simp] theorem setPasses_mgt (s : State) (l : List Pass) : (s.setPasses l).mgt = s.mgt := rfl
@[simp] theorem setPasses_halves (s : State) (l : List Pass) : (s.setPasses l).halves = s.halves := rfl
@[simp] theorem setPasses_pins (s : State) (l : List Pass) : (s.setPasses l).pins = s.pins := rfl
@[simp] theorem setPasses_boot (s : State) (l : List Pass) : (s.setPasses l).boot = s.boot := rfl
@[simp] theorem setPasses_sky (s : State) (l : List Pass) : (s.setPasses l).sky = s.sky := rfl
@[simp] theorem setPasses_flt (s : State) (l : List Pass) : (s.setPasses l).flt = s.flt := rfl
@[simp] theorem setPasses_evf (s : State) (l : List Pass) : (s.setPasses l).evf = s.evf := rfl
@[simp] theorem setPasses_out (s : State) (l : List Pass) : (s.setPasses l).out = s.out := rfl
@[simp] theorem setPasses_free (s : State) (l : List Pass) : (s.setPasses l).free = s.free := rfl
@[simp] theorem setPasses_get (s : State) (l : List Pass) (h : Fld) (m n : Nat) : (s.setPasses l).get h m n = s.get h m n := rfl
@[simp] theorem setPasses_rd (s : State) (l : List Pass) (z : Nat) : (s.setPasses l).rd z = s.rd z := rfl

/-! ## setRuns: only cmp changes -/

@[simp] theorem setRuns_pending (s : State) (l : List OpRun) : (s.setRuns l).pending = s.pending := rfl
@[simp] theorem setRuns_now (s : State) (l : List OpRun) : (s.setRuns l).now = s.now := rfl
@[simp] theorem setRuns_power (s : State) (l : List OpRun) : (s.setRuns l).power = s.power := rfl
@[simp] theorem setRuns_regs (s : State) (l : List OpRun) : (s.setRuns l).regs = s.regs := rfl
@[simp] theorem setRuns_mem (s : State) (l : List OpRun) : (s.setRuns l).mem = s.mem := rfl
@[simp] theorem setRuns_poison (s : State) (l : List OpRun) : (s.setRuns l).poison = s.poison := rfl
@[simp] theorem setRuns_mems (s : State) (l : List OpRun) : (s.setRuns l).mems = s.mems := rfl
@[simp] theorem setRuns_cmt (s : State) (l : List OpRun) : (s.setRuns l).cmt = s.cmt := rfl
@[simp] theorem setRuns_tally (s : State) (l : List OpRun) : (s.setRuns l).tally = s.tally := rfl
@[simp] theorem setRuns_hands (s : State) (l : List OpRun) : (s.setRuns l).hands = s.hands := rfl
@[simp] theorem setRuns_host (s : State) (l : List OpRun) : (s.setRuns l).host = s.host := rfl
@[simp] theorem setRuns_cht (s : State) (l : List OpRun) : (s.setRuns l).cht = s.cht := rfl
@[simp] theorem setRuns_trn (s : State) (l : List OpRun) : (s.setRuns l).trn = s.trn := rfl
@[simp] theorem setRuns_omus (s : State) (l : List OpRun) : (s.setRuns l).omus = s.omus := rfl
@[simp] theorem setRuns_light (s : State) (l : List OpRun) : (s.setRuns l).light = s.light := rfl
@[simp] theorem setRuns_clk (s : State) (l : List OpRun) : (s.setRuns l).clk = s.clk := rfl
@[simp] theorem setRuns_thm (s : State) (l : List OpRun) : (s.setRuns l).thm = s.thm := rfl
@[simp] theorem setRuns_mgt (s : State) (l : List OpRun) : (s.setRuns l).mgt = s.mgt := rfl
@[simp] theorem setRuns_halves (s : State) (l : List OpRun) : (s.setRuns l).halves = s.halves := rfl
@[simp] theorem setRuns_pins (s : State) (l : List OpRun) : (s.setRuns l).pins = s.pins := rfl
@[simp] theorem setRuns_boot (s : State) (l : List OpRun) : (s.setRuns l).boot = s.boot := rfl
@[simp] theorem setRuns_sky (s : State) (l : List OpRun) : (s.setRuns l).sky = s.sky := rfl
@[simp] theorem setRuns_flt (s : State) (l : List OpRun) : (s.setRuns l).flt = s.flt := rfl
@[simp] theorem setRuns_evf (s : State) (l : List OpRun) : (s.setRuns l).evf = s.evf := rfl
@[simp] theorem setRuns_out (s : State) (l : List OpRun) : (s.setRuns l).out = s.out := rfl
@[simp] theorem setRuns_free (s : State) (l : List OpRun) : (s.setRuns l).free = s.free := rfl
@[simp] theorem setRuns_get (s : State) (l : List OpRun) (h : Fld) (m n : Nat) : (s.setRuns l).get h m n = s.get h m n := rfl
@[simp] theorem setRuns_rd (s : State) (l : List OpRun) (z : Nat) : (s.setRuns l).rd z = s.rd z := rfl

/-! ## setJobs: only cmp changes -/

@[simp] theorem setJobs_pending (s : State) (l : List Job) : (s.setJobs l).pending = s.pending := rfl
@[simp] theorem setJobs_now (s : State) (l : List Job) : (s.setJobs l).now = s.now := rfl
@[simp] theorem setJobs_power (s : State) (l : List Job) : (s.setJobs l).power = s.power := rfl
@[simp] theorem setJobs_regs (s : State) (l : List Job) : (s.setJobs l).regs = s.regs := rfl
@[simp] theorem setJobs_mem (s : State) (l : List Job) : (s.setJobs l).mem = s.mem := rfl
@[simp] theorem setJobs_poison (s : State) (l : List Job) : (s.setJobs l).poison = s.poison := rfl
@[simp] theorem setJobs_mems (s : State) (l : List Job) : (s.setJobs l).mems = s.mems := rfl
@[simp] theorem setJobs_cmt (s : State) (l : List Job) : (s.setJobs l).cmt = s.cmt := rfl
@[simp] theorem setJobs_tally (s : State) (l : List Job) : (s.setJobs l).tally = s.tally := rfl
@[simp] theorem setJobs_hands (s : State) (l : List Job) : (s.setJobs l).hands = s.hands := rfl
@[simp] theorem setJobs_host (s : State) (l : List Job) : (s.setJobs l).host = s.host := rfl
@[simp] theorem setJobs_cht (s : State) (l : List Job) : (s.setJobs l).cht = s.cht := rfl
@[simp] theorem setJobs_trn (s : State) (l : List Job) : (s.setJobs l).trn = s.trn := rfl
@[simp] theorem setJobs_omus (s : State) (l : List Job) : (s.setJobs l).omus = s.omus := rfl
@[simp] theorem setJobs_light (s : State) (l : List Job) : (s.setJobs l).light = s.light := rfl
@[simp] theorem setJobs_clk (s : State) (l : List Job) : (s.setJobs l).clk = s.clk := rfl
@[simp] theorem setJobs_thm (s : State) (l : List Job) : (s.setJobs l).thm = s.thm := rfl
@[simp] theorem setJobs_mgt (s : State) (l : List Job) : (s.setJobs l).mgt = s.mgt := rfl
@[simp] theorem setJobs_halves (s : State) (l : List Job) : (s.setJobs l).halves = s.halves := rfl
@[simp] theorem setJobs_pins (s : State) (l : List Job) : (s.setJobs l).pins = s.pins := rfl
@[simp] theorem setJobs_boot (s : State) (l : List Job) : (s.setJobs l).boot = s.boot := rfl
@[simp] theorem setJobs_sky (s : State) (l : List Job) : (s.setJobs l).sky = s.sky := rfl
@[simp] theorem setJobs_flt (s : State) (l : List Job) : (s.setJobs l).flt = s.flt := rfl
@[simp] theorem setJobs_evf (s : State) (l : List Job) : (s.setJobs l).evf = s.evf := rfl
@[simp] theorem setJobs_out (s : State) (l : List Job) : (s.setJobs l).out = s.out := rfl
@[simp] theorem setJobs_free (s : State) (l : List Job) : (s.setJobs l).free = s.free := rfl
@[simp] theorem setJobs_get (s : State) (l : List Job) (h : Fld) (m n : Nat) : (s.setJobs l).get h m n = s.get h m n := rfl
@[simp] theorem setJobs_rd (s : State) (l : List Job) (z : Nat) : (s.setJobs l).rd z = s.rd z := rfl

/-! ## setOmus: only omus changes -/

@[simp] theorem setOmus_pending (s : State) (x : Omus) : (s.setOmus x).pending = s.pending := rfl
@[simp] theorem setOmus_now (s : State) (x : Omus) : (s.setOmus x).now = s.now := rfl
@[simp] theorem setOmus_power (s : State) (x : Omus) : (s.setOmus x).power = s.power := rfl
@[simp] theorem setOmus_regs (s : State) (x : Omus) : (s.setOmus x).regs = s.regs := rfl
@[simp] theorem setOmus_mem (s : State) (x : Omus) : (s.setOmus x).mem = s.mem := rfl
@[simp] theorem setOmus_poison (s : State) (x : Omus) : (s.setOmus x).poison = s.poison := rfl
@[simp] theorem setOmus_mems (s : State) (x : Omus) : (s.setOmus x).mems = s.mems := rfl
@[simp] theorem setOmus_cmt (s : State) (x : Omus) : (s.setOmus x).cmt = s.cmt := rfl
@[simp] theorem setOmus_tally (s : State) (x : Omus) : (s.setOmus x).tally = s.tally := rfl
@[simp] theorem setOmus_hands (s : State) (x : Omus) : (s.setOmus x).hands = s.hands := rfl
@[simp] theorem setOmus_host (s : State) (x : Omus) : (s.setOmus x).host = s.host := rfl
@[simp] theorem setOmus_cht (s : State) (x : Omus) : (s.setOmus x).cht = s.cht := rfl
@[simp] theorem setOmus_trn (s : State) (x : Omus) : (s.setOmus x).trn = s.trn := rfl
@[simp] theorem setOmus_cmp (s : State) (x : Omus) : (s.setOmus x).cmp = s.cmp := rfl
@[simp] theorem setOmus_light (s : State) (x : Omus) : (s.setOmus x).light = s.light := rfl
@[simp] theorem setOmus_clk (s : State) (x : Omus) : (s.setOmus x).clk = s.clk := rfl
@[simp] theorem setOmus_thm (s : State) (x : Omus) : (s.setOmus x).thm = s.thm := rfl
@[simp] theorem setOmus_mgt (s : State) (x : Omus) : (s.setOmus x).mgt = s.mgt := rfl
@[simp] theorem setOmus_halves (s : State) (x : Omus) : (s.setOmus x).halves = s.halves := rfl
@[simp] theorem setOmus_pins (s : State) (x : Omus) : (s.setOmus x).pins = s.pins := rfl
@[simp] theorem setOmus_boot (s : State) (x : Omus) : (s.setOmus x).boot = s.boot := rfl
@[simp] theorem setOmus_sky (s : State) (x : Omus) : (s.setOmus x).sky = s.sky := rfl
@[simp] theorem setOmus_flt (s : State) (x : Omus) : (s.setOmus x).flt = s.flt := rfl
@[simp] theorem setOmus_evf (s : State) (x : Omus) : (s.setOmus x).evf = s.evf := rfl
@[simp] theorem setOmus_out (s : State) (x : Omus) : (s.setOmus x).out = s.out := rfl
@[simp] theorem setOmus_free (s : State) (x : Omus) : (s.setOmus x).free = s.free := rfl
@[simp] theorem setOmus_get (s : State) (x : Omus) (h : Fld) (m n : Nat) : (s.setOmus x).get h m n = s.get h m n := rfl
@[simp] theorem setOmus_rd (s : State) (x : Omus) (z : Nat) : (s.setOmus x).rd z = s.rd z := rfl

/-! ## setLight: only light changes -/

@[simp] theorem setLight_pending (s : State) (x : Light) : (s.setLight x).pending = s.pending := rfl
@[simp] theorem setLight_now (s : State) (x : Light) : (s.setLight x).now = s.now := rfl
@[simp] theorem setLight_power (s : State) (x : Light) : (s.setLight x).power = s.power := rfl
@[simp] theorem setLight_regs (s : State) (x : Light) : (s.setLight x).regs = s.regs := rfl
@[simp] theorem setLight_mem (s : State) (x : Light) : (s.setLight x).mem = s.mem := rfl
@[simp] theorem setLight_poison (s : State) (x : Light) : (s.setLight x).poison = s.poison := rfl
@[simp] theorem setLight_mems (s : State) (x : Light) : (s.setLight x).mems = s.mems := rfl
@[simp] theorem setLight_cmt (s : State) (x : Light) : (s.setLight x).cmt = s.cmt := rfl
@[simp] theorem setLight_tally (s : State) (x : Light) : (s.setLight x).tally = s.tally := rfl
@[simp] theorem setLight_hands (s : State) (x : Light) : (s.setLight x).hands = s.hands := rfl
@[simp] theorem setLight_host (s : State) (x : Light) : (s.setLight x).host = s.host := rfl
@[simp] theorem setLight_cht (s : State) (x : Light) : (s.setLight x).cht = s.cht := rfl
@[simp] theorem setLight_trn (s : State) (x : Light) : (s.setLight x).trn = s.trn := rfl
@[simp] theorem setLight_cmp (s : State) (x : Light) : (s.setLight x).cmp = s.cmp := rfl
@[simp] theorem setLight_omus (s : State) (x : Light) : (s.setLight x).omus = s.omus := rfl
@[simp] theorem setLight_clk (s : State) (x : Light) : (s.setLight x).clk = s.clk := rfl
@[simp] theorem setLight_thm (s : State) (x : Light) : (s.setLight x).thm = s.thm := rfl
@[simp] theorem setLight_mgt (s : State) (x : Light) : (s.setLight x).mgt = s.mgt := rfl
@[simp] theorem setLight_halves (s : State) (x : Light) : (s.setLight x).halves = s.halves := rfl
@[simp] theorem setLight_pins (s : State) (x : Light) : (s.setLight x).pins = s.pins := rfl
@[simp] theorem setLight_boot (s : State) (x : Light) : (s.setLight x).boot = s.boot := rfl
@[simp] theorem setLight_sky (s : State) (x : Light) : (s.setLight x).sky = s.sky := rfl
@[simp] theorem setLight_flt (s : State) (x : Light) : (s.setLight x).flt = s.flt := rfl
@[simp] theorem setLight_evf (s : State) (x : Light) : (s.setLight x).evf = s.evf := rfl
@[simp] theorem setLight_out (s : State) (x : Light) : (s.setLight x).out = s.out := rfl
@[simp] theorem setLight_free (s : State) (x : Light) : (s.setLight x).free = s.free := rfl
@[simp] theorem setLight_get (s : State) (x : Light) (h : Fld) (m n : Nat) : (s.setLight x).get h m n = s.get h m n := rfl
@[simp] theorem setLight_rd (s : State) (x : Light) (z : Nat) : (s.setLight x).rd z = s.rd z := rfl

/-! ## setClk: only clk changes -/

@[simp] theorem setClk_pending (s : State) (x : Clk) : (s.setClk x).pending = s.pending := rfl
@[simp] theorem setClk_now (s : State) (x : Clk) : (s.setClk x).now = s.now := rfl
@[simp] theorem setClk_power (s : State) (x : Clk) : (s.setClk x).power = s.power := rfl
@[simp] theorem setClk_regs (s : State) (x : Clk) : (s.setClk x).regs = s.regs := rfl
@[simp] theorem setClk_mem (s : State) (x : Clk) : (s.setClk x).mem = s.mem := rfl
@[simp] theorem setClk_poison (s : State) (x : Clk) : (s.setClk x).poison = s.poison := rfl
@[simp] theorem setClk_mems (s : State) (x : Clk) : (s.setClk x).mems = s.mems := rfl
@[simp] theorem setClk_cmt (s : State) (x : Clk) : (s.setClk x).cmt = s.cmt := rfl
@[simp] theorem setClk_tally (s : State) (x : Clk) : (s.setClk x).tally = s.tally := rfl
@[simp] theorem setClk_hands (s : State) (x : Clk) : (s.setClk x).hands = s.hands := rfl
@[simp] theorem setClk_host (s : State) (x : Clk) : (s.setClk x).host = s.host := rfl
@[simp] theorem setClk_cht (s : State) (x : Clk) : (s.setClk x).cht = s.cht := rfl
@[simp] theorem setClk_trn (s : State) (x : Clk) : (s.setClk x).trn = s.trn := rfl
@[simp] theorem setClk_cmp (s : State) (x : Clk) : (s.setClk x).cmp = s.cmp := rfl
@[simp] theorem setClk_omus (s : State) (x : Clk) : (s.setClk x).omus = s.omus := rfl
@[simp] theorem setClk_light (s : State) (x : Clk) : (s.setClk x).light = s.light := rfl
@[simp] theorem setClk_thm (s : State) (x : Clk) : (s.setClk x).thm = s.thm := rfl
@[simp] theorem setClk_mgt (s : State) (x : Clk) : (s.setClk x).mgt = s.mgt := rfl
@[simp] theorem setClk_halves (s : State) (x : Clk) : (s.setClk x).halves = s.halves := rfl
@[simp] theorem setClk_pins (s : State) (x : Clk) : (s.setClk x).pins = s.pins := rfl
@[simp] theorem setClk_boot (s : State) (x : Clk) : (s.setClk x).boot = s.boot := rfl
@[simp] theorem setClk_sky (s : State) (x : Clk) : (s.setClk x).sky = s.sky := rfl
@[simp] theorem setClk_flt (s : State) (x : Clk) : (s.setClk x).flt = s.flt := rfl
@[simp] theorem setClk_evf (s : State) (x : Clk) : (s.setClk x).evf = s.evf := rfl
@[simp] theorem setClk_out (s : State) (x : Clk) : (s.setClk x).out = s.out := rfl
@[simp] theorem setClk_free (s : State) (x : Clk) : (s.setClk x).free = s.free := rfl
@[simp] theorem setClk_get (s : State) (x : Clk) (h : Fld) (m n : Nat) : (s.setClk x).get h m n = s.get h m n := rfl
@[simp] theorem setClk_rd (s : State) (x : Clk) (z : Nat) : (s.setClk x).rd z = s.rd z := rfl

/-! ## setThm: only thm changes -/

@[simp] theorem setThm_pending (s : State) (x : Therm) : (s.setThm x).pending = s.pending := rfl
@[simp] theorem setThm_now (s : State) (x : Therm) : (s.setThm x).now = s.now := rfl
@[simp] theorem setThm_power (s : State) (x : Therm) : (s.setThm x).power = s.power := rfl
@[simp] theorem setThm_regs (s : State) (x : Therm) : (s.setThm x).regs = s.regs := rfl
@[simp] theorem setThm_mem (s : State) (x : Therm) : (s.setThm x).mem = s.mem := rfl
@[simp] theorem setThm_poison (s : State) (x : Therm) : (s.setThm x).poison = s.poison := rfl
@[simp] theorem setThm_mems (s : State) (x : Therm) : (s.setThm x).mems = s.mems := rfl
@[simp] theorem setThm_cmt (s : State) (x : Therm) : (s.setThm x).cmt = s.cmt := rfl
@[simp] theorem setThm_tally (s : State) (x : Therm) : (s.setThm x).tally = s.tally := rfl
@[simp] theorem setThm_hands (s : State) (x : Therm) : (s.setThm x).hands = s.hands := rfl
@[simp] theorem setThm_host (s : State) (x : Therm) : (s.setThm x).host = s.host := rfl
@[simp] theorem setThm_cht (s : State) (x : Therm) : (s.setThm x).cht = s.cht := rfl
@[simp] theorem setThm_trn (s : State) (x : Therm) : (s.setThm x).trn = s.trn := rfl
@[simp] theorem setThm_cmp (s : State) (x : Therm) : (s.setThm x).cmp = s.cmp := rfl
@[simp] theorem setThm_omus (s : State) (x : Therm) : (s.setThm x).omus = s.omus := rfl
@[simp] theorem setThm_light (s : State) (x : Therm) : (s.setThm x).light = s.light := rfl
@[simp] theorem setThm_clk (s : State) (x : Therm) : (s.setThm x).clk = s.clk := rfl
@[simp] theorem setThm_mgt (s : State) (x : Therm) : (s.setThm x).mgt = s.mgt := rfl
@[simp] theorem setThm_halves (s : State) (x : Therm) : (s.setThm x).halves = s.halves := rfl
@[simp] theorem setThm_pins (s : State) (x : Therm) : (s.setThm x).pins = s.pins := rfl
@[simp] theorem setThm_boot (s : State) (x : Therm) : (s.setThm x).boot = s.boot := rfl
@[simp] theorem setThm_sky (s : State) (x : Therm) : (s.setThm x).sky = s.sky := rfl
@[simp] theorem setThm_flt (s : State) (x : Therm) : (s.setThm x).flt = s.flt := rfl
@[simp] theorem setThm_evf (s : State) (x : Therm) : (s.setThm x).evf = s.evf := rfl
@[simp] theorem setThm_out (s : State) (x : Therm) : (s.setThm x).out = s.out := rfl
@[simp] theorem setThm_free (s : State) (x : Therm) : (s.setThm x).free = s.free := rfl
@[simp] theorem setThm_get (s : State) (x : Therm) (h : Fld) (m n : Nat) : (s.setThm x).get h m n = s.get h m n := rfl
@[simp] theorem setThm_rd (s : State) (x : Therm) (z : Nat) : (s.setThm x).rd z = s.rd z := rfl

/-! ## setTables: only mems changes -/

@[simp] theorem setTables_pending (s : State) (ts : List Table) : (s.setTables ts).pending = s.pending := rfl
@[simp] theorem setTables_now (s : State) (ts : List Table) : (s.setTables ts).now = s.now := rfl
@[simp] theorem setTables_power (s : State) (ts : List Table) : (s.setTables ts).power = s.power := rfl
@[simp] theorem setTables_regs (s : State) (ts : List Table) : (s.setTables ts).regs = s.regs := rfl
@[simp] theorem setTables_mem (s : State) (ts : List Table) : (s.setTables ts).mem = s.mem := rfl
@[simp] theorem setTables_poison (s : State) (ts : List Table) : (s.setTables ts).poison = s.poison := rfl
@[simp] theorem setTables_cmt (s : State) (ts : List Table) : (s.setTables ts).cmt = s.cmt := rfl
@[simp] theorem setTables_tally (s : State) (ts : List Table) : (s.setTables ts).tally = s.tally := rfl
@[simp] theorem setTables_hands (s : State) (ts : List Table) : (s.setTables ts).hands = s.hands := rfl
@[simp] theorem setTables_host (s : State) (ts : List Table) : (s.setTables ts).host = s.host := rfl
@[simp] theorem setTables_cht (s : State) (ts : List Table) : (s.setTables ts).cht = s.cht := rfl
@[simp] theorem setTables_trn (s : State) (ts : List Table) : (s.setTables ts).trn = s.trn := rfl
@[simp] theorem setTables_cmp (s : State) (ts : List Table) : (s.setTables ts).cmp = s.cmp := rfl
@[simp] theorem setTables_omus (s : State) (ts : List Table) : (s.setTables ts).omus = s.omus := rfl
@[simp] theorem setTables_light (s : State) (ts : List Table) : (s.setTables ts).light = s.light := rfl
@[simp] theorem setTables_clk (s : State) (ts : List Table) : (s.setTables ts).clk = s.clk := rfl
@[simp] theorem setTables_thm (s : State) (ts : List Table) : (s.setTables ts).thm = s.thm := rfl
@[simp] theorem setTables_mgt (s : State) (ts : List Table) : (s.setTables ts).mgt = s.mgt := rfl
@[simp] theorem setTables_halves (s : State) (ts : List Table) : (s.setTables ts).halves = s.halves := rfl
@[simp] theorem setTables_pins (s : State) (ts : List Table) : (s.setTables ts).pins = s.pins := rfl
@[simp] theorem setTables_boot (s : State) (ts : List Table) : (s.setTables ts).boot = s.boot := rfl
@[simp] theorem setTables_sky (s : State) (ts : List Table) : (s.setTables ts).sky = s.sky := rfl
@[simp] theorem setTables_flt (s : State) (ts : List Table) : (s.setTables ts).flt = s.flt := rfl
@[simp] theorem setTables_evf (s : State) (ts : List Table) : (s.setTables ts).evf = s.evf := rfl
@[simp] theorem setTables_out (s : State) (ts : List Table) : (s.setTables ts).out = s.out := rfl
@[simp] theorem setTables_free (s : State) (ts : List Table) : (s.setTables ts).free = s.free := rfl
@[simp] theorem setTables_get (s : State) (ts : List Table) (h : Fld) (m n : Nat) : (s.setTables ts).get h m n = s.get h m n := rfl
@[simp] theorem setTables_rd (s : State) (ts : List Table) (z : Nat) : (s.setTables ts).rd z = s.rd z := rfl

/-! ## setSess: only cmt changes -/

@[simp] theorem setSess_pending (s : State) (p : Nat) (x : Sess) : (s.setSess p x).pending = s.pending := rfl
@[simp] theorem setSess_now (s : State) (p : Nat) (x : Sess) : (s.setSess p x).now = s.now := rfl
@[simp] theorem setSess_power (s : State) (p : Nat) (x : Sess) : (s.setSess p x).power = s.power := rfl
@[simp] theorem setSess_regs (s : State) (p : Nat) (x : Sess) : (s.setSess p x).regs = s.regs := rfl
@[simp] theorem setSess_mem (s : State) (p : Nat) (x : Sess) : (s.setSess p x).mem = s.mem := rfl
@[simp] theorem setSess_poison (s : State) (p : Nat) (x : Sess) : (s.setSess p x).poison = s.poison := rfl
@[simp] theorem setSess_mems (s : State) (p : Nat) (x : Sess) : (s.setSess p x).mems = s.mems := rfl
@[simp] theorem setSess_tally (s : State) (p : Nat) (x : Sess) : (s.setSess p x).tally = s.tally := rfl
@[simp] theorem setSess_hands (s : State) (p : Nat) (x : Sess) : (s.setSess p x).hands = s.hands := rfl
@[simp] theorem setSess_host (s : State) (p : Nat) (x : Sess) : (s.setSess p x).host = s.host := rfl
@[simp] theorem setSess_cht (s : State) (p : Nat) (x : Sess) : (s.setSess p x).cht = s.cht := rfl
@[simp] theorem setSess_trn (s : State) (p : Nat) (x : Sess) : (s.setSess p x).trn = s.trn := rfl
@[simp] theorem setSess_cmp (s : State) (p : Nat) (x : Sess) : (s.setSess p x).cmp = s.cmp := rfl
@[simp] theorem setSess_omus (s : State) (p : Nat) (x : Sess) : (s.setSess p x).omus = s.omus := rfl
@[simp] theorem setSess_light (s : State) (p : Nat) (x : Sess) : (s.setSess p x).light = s.light := rfl
@[simp] theorem setSess_clk (s : State) (p : Nat) (x : Sess) : (s.setSess p x).clk = s.clk := rfl
@[simp] theorem setSess_thm (s : State) (p : Nat) (x : Sess) : (s.setSess p x).thm = s.thm := rfl
@[simp] theorem setSess_mgt (s : State) (p : Nat) (x : Sess) : (s.setSess p x).mgt = s.mgt := rfl
@[simp] theorem setSess_halves (s : State) (p : Nat) (x : Sess) : (s.setSess p x).halves = s.halves := rfl
@[simp] theorem setSess_pins (s : State) (p : Nat) (x : Sess) : (s.setSess p x).pins = s.pins := rfl
@[simp] theorem setSess_boot (s : State) (p : Nat) (x : Sess) : (s.setSess p x).boot = s.boot := rfl
@[simp] theorem setSess_sky (s : State) (p : Nat) (x : Sess) : (s.setSess p x).sky = s.sky := rfl
@[simp] theorem setSess_flt (s : State) (p : Nat) (x : Sess) : (s.setSess p x).flt = s.flt := rfl
@[simp] theorem setSess_evf (s : State) (p : Nat) (x : Sess) : (s.setSess p x).evf = s.evf := rfl
@[simp] theorem setSess_out (s : State) (p : Nat) (x : Sess) : (s.setSess p x).out = s.out := rfl
@[simp] theorem setSess_free (s : State) (p : Nat) (x : Sess) : (s.setSess p x).free = s.free := rfl
@[simp] theorem setSess_get (s : State) (p : Nat) (x : Sess) (h : Fld) (m n : Nat) : (s.setSess p x).get h m n = s.get h m n := rfl
@[simp] theorem setSess_rd (s : State) (p : Nat) (x : Sess) (z : Nat) : (s.setSess p x).rd z = s.rd z := rfl

/-! ## setPort: only cmt changes -/

@[simp] theorem setPort_pending (s : State) (p : Nat) (x : CPort) : (s.setPort p x).pending = s.pending := rfl
@[simp] theorem setPort_now (s : State) (p : Nat) (x : CPort) : (s.setPort p x).now = s.now := rfl
@[simp] theorem setPort_power (s : State) (p : Nat) (x : CPort) : (s.setPort p x).power = s.power := rfl
@[simp] theorem setPort_regs (s : State) (p : Nat) (x : CPort) : (s.setPort p x).regs = s.regs := rfl
@[simp] theorem setPort_mem (s : State) (p : Nat) (x : CPort) : (s.setPort p x).mem = s.mem := rfl
@[simp] theorem setPort_poison (s : State) (p : Nat) (x : CPort) : (s.setPort p x).poison = s.poison := rfl
@[simp] theorem setPort_mems (s : State) (p : Nat) (x : CPort) : (s.setPort p x).mems = s.mems := rfl
@[simp] theorem setPort_tally (s : State) (p : Nat) (x : CPort) : (s.setPort p x).tally = s.tally := rfl
@[simp] theorem setPort_hands (s : State) (p : Nat) (x : CPort) : (s.setPort p x).hands = s.hands := rfl
@[simp] theorem setPort_host (s : State) (p : Nat) (x : CPort) : (s.setPort p x).host = s.host := rfl
@[simp] theorem setPort_cht (s : State) (p : Nat) (x : CPort) : (s.setPort p x).cht = s.cht := rfl
@[simp] theorem setPort_trn (s : State) (p : Nat) (x : CPort) : (s.setPort p x).trn = s.trn := rfl
@[simp] theorem setPort_cmp (s : State) (p : Nat) (x : CPort) : (s.setPort p x).cmp = s.cmp := rfl
@[simp] theorem setPort_omus (s : State) (p : Nat) (x : CPort) : (s.setPort p x).omus = s.omus := rfl
@[simp] theorem setPort_light (s : State) (p : Nat) (x : CPort) : (s.setPort p x).light = s.light := rfl
@[simp] theorem setPort_clk (s : State) (p : Nat) (x : CPort) : (s.setPort p x).clk = s.clk := rfl
@[simp] theorem setPort_thm (s : State) (p : Nat) (x : CPort) : (s.setPort p x).thm = s.thm := rfl
@[simp] theorem setPort_mgt (s : State) (p : Nat) (x : CPort) : (s.setPort p x).mgt = s.mgt := rfl
@[simp] theorem setPort_halves (s : State) (p : Nat) (x : CPort) : (s.setPort p x).halves = s.halves := rfl
@[simp] theorem setPort_pins (s : State) (p : Nat) (x : CPort) : (s.setPort p x).pins = s.pins := rfl
@[simp] theorem setPort_boot (s : State) (p : Nat) (x : CPort) : (s.setPort p x).boot = s.boot := rfl
@[simp] theorem setPort_sky (s : State) (p : Nat) (x : CPort) : (s.setPort p x).sky = s.sky := rfl
@[simp] theorem setPort_flt (s : State) (p : Nat) (x : CPort) : (s.setPort p x).flt = s.flt := rfl
@[simp] theorem setPort_evf (s : State) (p : Nat) (x : CPort) : (s.setPort p x).evf = s.evf := rfl
@[simp] theorem setPort_out (s : State) (p : Nat) (x : CPort) : (s.setPort p x).out = s.out := rfl
@[simp] theorem setPort_free (s : State) (p : Nat) (x : CPort) : (s.setPort p x).free = s.free := rfl
@[simp] theorem setPort_get (s : State) (p : Nat) (x : CPort) (h : Fld) (m n : Nat) : (s.setPort p x).get h m n = s.get h m n := rfl
@[simp] theorem setPort_rd (s : State) (p : Nat) (x : CPort) (z : Nat) : (s.setPort p x).rd z = s.rd z := rfl

/-! ## setWords: only evf changes -/

@[simp] theorem setWords_pending (s : State) (ws : List Nat) : (s.setWords ws).pending = s.pending := rfl
@[simp] theorem setWords_now (s : State) (ws : List Nat) : (s.setWords ws).now = s.now := rfl
@[simp] theorem setWords_power (s : State) (ws : List Nat) : (s.setWords ws).power = s.power := rfl
@[simp] theorem setWords_regs (s : State) (ws : List Nat) : (s.setWords ws).regs = s.regs := rfl
@[simp] theorem setWords_mem (s : State) (ws : List Nat) : (s.setWords ws).mem = s.mem := rfl
@[simp] theorem setWords_poison (s : State) (ws : List Nat) : (s.setWords ws).poison = s.poison := rfl
@[simp] theorem setWords_mems (s : State) (ws : List Nat) : (s.setWords ws).mems = s.mems := rfl
@[simp] theorem setWords_cmt (s : State) (ws : List Nat) : (s.setWords ws).cmt = s.cmt := rfl
@[simp] theorem setWords_tally (s : State) (ws : List Nat) : (s.setWords ws).tally = s.tally := rfl
@[simp] theorem setWords_hands (s : State) (ws : List Nat) : (s.setWords ws).hands = s.hands := rfl
@[simp] theorem setWords_host (s : State) (ws : List Nat) : (s.setWords ws).host = s.host := rfl
@[simp] theorem setWords_cht (s : State) (ws : List Nat) : (s.setWords ws).cht = s.cht := rfl
@[simp] theorem setWords_trn (s : State) (ws : List Nat) : (s.setWords ws).trn = s.trn := rfl
@[simp] theorem setWords_cmp (s : State) (ws : List Nat) : (s.setWords ws).cmp = s.cmp := rfl
@[simp] theorem setWords_omus (s : State) (ws : List Nat) : (s.setWords ws).omus = s.omus := rfl
@[simp] theorem setWords_light (s : State) (ws : List Nat) : (s.setWords ws).light = s.light := rfl
@[simp] theorem setWords_clk (s : State) (ws : List Nat) : (s.setWords ws).clk = s.clk := rfl
@[simp] theorem setWords_thm (s : State) (ws : List Nat) : (s.setWords ws).thm = s.thm := rfl
@[simp] theorem setWords_mgt (s : State) (ws : List Nat) : (s.setWords ws).mgt = s.mgt := rfl
@[simp] theorem setWords_halves (s : State) (ws : List Nat) : (s.setWords ws).halves = s.halves := rfl
@[simp] theorem setWords_pins (s : State) (ws : List Nat) : (s.setWords ws).pins = s.pins := rfl
@[simp] theorem setWords_boot (s : State) (ws : List Nat) : (s.setWords ws).boot = s.boot := rfl
@[simp] theorem setWords_sky (s : State) (ws : List Nat) : (s.setWords ws).sky = s.sky := rfl
@[simp] theorem setWords_flt (s : State) (ws : List Nat) : (s.setWords ws).flt = s.flt := rfl
@[simp] theorem setWords_out (s : State) (ws : List Nat) : (s.setWords ws).out = s.out := rfl
@[simp] theorem setWords_free (s : State) (ws : List Nat) : (s.setWords ws).free = s.free := rfl
@[simp] theorem setWords_get (s : State) (ws : List Nat) (h : Fld) (m n : Nat) : (s.setWords ws).get h m n = s.get h m n := rfl
@[simp] theorem setWords_rd (s : State) (ws : List Nat) (z : Nat) : (s.setWords ws).rd z = s.rd z := rfl

/-! ## setLatch: only halves changes -/

@[simp] theorem setLatch_pending (s : State) (off : Nat) (src : Iface) (v : Nat) : (s.setLatch off src v).pending = s.pending := rfl
@[simp] theorem setLatch_now (s : State) (off : Nat) (src : Iface) (v : Nat) : (s.setLatch off src v).now = s.now := rfl
@[simp] theorem setLatch_power (s : State) (off : Nat) (src : Iface) (v : Nat) : (s.setLatch off src v).power = s.power := rfl
@[simp] theorem setLatch_regs (s : State) (off : Nat) (src : Iface) (v : Nat) : (s.setLatch off src v).regs = s.regs := rfl
@[simp] theorem setLatch_mem (s : State) (off : Nat) (src : Iface) (v : Nat) : (s.setLatch off src v).mem = s.mem := rfl
@[simp] theorem setLatch_poison (s : State) (off : Nat) (src : Iface) (v : Nat) : (s.setLatch off src v).poison = s.poison := rfl
@[simp] theorem setLatch_mems (s : State) (off : Nat) (src : Iface) (v : Nat) : (s.setLatch off src v).mems = s.mems := rfl
@[simp] theorem setLatch_cmt (s : State) (off : Nat) (src : Iface) (v : Nat) : (s.setLatch off src v).cmt = s.cmt := rfl
@[simp] theorem setLatch_tally (s : State) (off : Nat) (src : Iface) (v : Nat) : (s.setLatch off src v).tally = s.tally := rfl
@[simp] theorem setLatch_hands (s : State) (off : Nat) (src : Iface) (v : Nat) : (s.setLatch off src v).hands = s.hands := rfl
@[simp] theorem setLatch_host (s : State) (off : Nat) (src : Iface) (v : Nat) : (s.setLatch off src v).host = s.host := rfl
@[simp] theorem setLatch_cht (s : State) (off : Nat) (src : Iface) (v : Nat) : (s.setLatch off src v).cht = s.cht := rfl
@[simp] theorem setLatch_trn (s : State) (off : Nat) (src : Iface) (v : Nat) : (s.setLatch off src v).trn = s.trn := rfl
@[simp] theorem setLatch_cmp (s : State) (off : Nat) (src : Iface) (v : Nat) : (s.setLatch off src v).cmp = s.cmp := rfl
@[simp] theorem setLatch_omus (s : State) (off : Nat) (src : Iface) (v : Nat) : (s.setLatch off src v).omus = s.omus := rfl
@[simp] theorem setLatch_light (s : State) (off : Nat) (src : Iface) (v : Nat) : (s.setLatch off src v).light = s.light := rfl
@[simp] theorem setLatch_clk (s : State) (off : Nat) (src : Iface) (v : Nat) : (s.setLatch off src v).clk = s.clk := rfl
@[simp] theorem setLatch_thm (s : State) (off : Nat) (src : Iface) (v : Nat) : (s.setLatch off src v).thm = s.thm := rfl
@[simp] theorem setLatch_mgt (s : State) (off : Nat) (src : Iface) (v : Nat) : (s.setLatch off src v).mgt = s.mgt := rfl
@[simp] theorem setLatch_pins (s : State) (off : Nat) (src : Iface) (v : Nat) : (s.setLatch off src v).pins = s.pins := rfl
@[simp] theorem setLatch_boot (s : State) (off : Nat) (src : Iface) (v : Nat) : (s.setLatch off src v).boot = s.boot := rfl
@[simp] theorem setLatch_sky (s : State) (off : Nat) (src : Iface) (v : Nat) : (s.setLatch off src v).sky = s.sky := rfl
@[simp] theorem setLatch_flt (s : State) (off : Nat) (src : Iface) (v : Nat) : (s.setLatch off src v).flt = s.flt := rfl
@[simp] theorem setLatch_evf (s : State) (off : Nat) (src : Iface) (v : Nat) : (s.setLatch off src v).evf = s.evf := rfl
@[simp] theorem setLatch_out (s : State) (off : Nat) (src : Iface) (v : Nat) : (s.setLatch off src v).out = s.out := rfl
@[simp] theorem setLatch_free (s : State) (off : Nat) (src : Iface) (v : Nat) : (s.setLatch off src v).free = s.free := rfl
@[simp] theorem setLatch_get (s : State) (off : Nat) (src : Iface) (v : Nat) (h : Fld) (m n : Nat) : (s.setLatch off src v).get h m n = s.get h m n := rfl
@[simp] theorem setLatch_rd (s : State) (off : Nat) (src : Iface) (v : Nat) (z : Nat) : (s.setLatch off src v).rd z = s.rd z := rfl

/-! ## setHeld: only halves changes -/

@[simp] theorem setHeld_pending (s : State) (off : Nat) (src : Iface) (v : Nat) : (s.setHeld off src v).pending = s.pending := rfl
@[simp] theorem setHeld_now (s : State) (off : Nat) (src : Iface) (v : Nat) : (s.setHeld off src v).now = s.now := rfl
@[simp] theorem setHeld_power (s : State) (off : Nat) (src : Iface) (v : Nat) : (s.setHeld off src v).power = s.power := rfl
@[simp] theorem setHeld_regs (s : State) (off : Nat) (src : Iface) (v : Nat) : (s.setHeld off src v).regs = s.regs := rfl
@[simp] theorem setHeld_mem (s : State) (off : Nat) (src : Iface) (v : Nat) : (s.setHeld off src v).mem = s.mem := rfl
@[simp] theorem setHeld_poison (s : State) (off : Nat) (src : Iface) (v : Nat) : (s.setHeld off src v).poison = s.poison := rfl
@[simp] theorem setHeld_mems (s : State) (off : Nat) (src : Iface) (v : Nat) : (s.setHeld off src v).mems = s.mems := rfl
@[simp] theorem setHeld_cmt (s : State) (off : Nat) (src : Iface) (v : Nat) : (s.setHeld off src v).cmt = s.cmt := rfl
@[simp] theorem setHeld_tally (s : State) (off : Nat) (src : Iface) (v : Nat) : (s.setHeld off src v).tally = s.tally := rfl
@[simp] theorem setHeld_hands (s : State) (off : Nat) (src : Iface) (v : Nat) : (s.setHeld off src v).hands = s.hands := rfl
@[simp] theorem setHeld_host (s : State) (off : Nat) (src : Iface) (v : Nat) : (s.setHeld off src v).host = s.host := rfl
@[simp] theorem setHeld_cht (s : State) (off : Nat) (src : Iface) (v : Nat) : (s.setHeld off src v).cht = s.cht := rfl
@[simp] theorem setHeld_trn (s : State) (off : Nat) (src : Iface) (v : Nat) : (s.setHeld off src v).trn = s.trn := rfl
@[simp] theorem setHeld_cmp (s : State) (off : Nat) (src : Iface) (v : Nat) : (s.setHeld off src v).cmp = s.cmp := rfl
@[simp] theorem setHeld_omus (s : State) (off : Nat) (src : Iface) (v : Nat) : (s.setHeld off src v).omus = s.omus := rfl
@[simp] theorem setHeld_light (s : State) (off : Nat) (src : Iface) (v : Nat) : (s.setHeld off src v).light = s.light := rfl
@[simp] theorem setHeld_clk (s : State) (off : Nat) (src : Iface) (v : Nat) : (s.setHeld off src v).clk = s.clk := rfl
@[simp] theorem setHeld_thm (s : State) (off : Nat) (src : Iface) (v : Nat) : (s.setHeld off src v).thm = s.thm := rfl
@[simp] theorem setHeld_mgt (s : State) (off : Nat) (src : Iface) (v : Nat) : (s.setHeld off src v).mgt = s.mgt := rfl
@[simp] theorem setHeld_pins (s : State) (off : Nat) (src : Iface) (v : Nat) : (s.setHeld off src v).pins = s.pins := rfl
@[simp] theorem setHeld_boot (s : State) (off : Nat) (src : Iface) (v : Nat) : (s.setHeld off src v).boot = s.boot := rfl
@[simp] theorem setHeld_sky (s : State) (off : Nat) (src : Iface) (v : Nat) : (s.setHeld off src v).sky = s.sky := rfl
@[simp] theorem setHeld_flt (s : State) (off : Nat) (src : Iface) (v : Nat) : (s.setHeld off src v).flt = s.flt := rfl
@[simp] theorem setHeld_evf (s : State) (off : Nat) (src : Iface) (v : Nat) : (s.setHeld off src v).evf = s.evf := rfl
@[simp] theorem setHeld_out (s : State) (off : Nat) (src : Iface) (v : Nat) : (s.setHeld off src v).out = s.out := rfl
@[simp] theorem setHeld_free (s : State) (off : Nat) (src : Iface) (v : Nat) : (s.setHeld off src v).free = s.free := rfl
@[simp] theorem setHeld_get (s : State) (off : Nat) (src : Iface) (v : Nat) (h : Fld) (m n : Nat) : (s.setHeld off src v).get h m n = s.get h m n := rfl
@[simp] theorem setHeld_rd (s : State) (off : Nat) (src : Iface) (v : Nat) (z : Nat) : (s.setHeld off src v).rd z = s.rd z := rfl

end Sys2Proof.Laws
end

