-- ==== Sys2Proof/Laws/Ops.lean ====
section
/-! SUPPORT. What the shared operations do: register fields, the meanings' three shapes, counters, the event FIFO, the fault collector. -/

namespace Sys2Proof.Laws

open Sys2Proof Sys2Proof.Machine

/-! ## Register fields -/

/-- A field reads what was written to it, cut to its width. -/
@[simp] theorem get_set_same (s : State) (f : Fld) (v i j : Nat) : (s.set f v i j).get f i j = v % 2 ^ f.w := tabGet_put_same ..

/-- A field of another place reads as before. -/
theorem get_set_ne (s : State) (f g : Fld) (v i j k l : Nat) (h : g.key k l ≠ f.key i j) : (s.set f v i j).get g k l = s.get g k l :=
  tabGet_put_ne _ _ _ _ _ h

theorem isSet_iff (s : State) (f : Fld) (i j : Nat) : s.isSet f i j = true ↔ s.get f i j = 1 := by simp [State.isSet]

/-! ## The meanings' shapes -/

theorem live_next {s : State} {f : State → State} (h : s.alive = true) : live s f = .next (f s.fresh) := by simp [live, h]

theorem liveHub_next {s : State} {f : State → State} (h : s.on = true) : liveHub s f = .next (f s.fresh) := by simp [liveHub, h]

theorem live_dead {s : State} {f : State → State} (h : s.alive = false) : live s f = .next s.fresh := by simp [live, h]

theorem liveHub_dead {s : State} {f : State → State} (h : s.on = false) : liveHub s f = .next s.fresh := by simp [liveHub, h]

/-! ## Counters -/

theorem add_mem (s : State) (f : Fld) (n i j : Nat) : (s.add f n i j).mem = s.mem := by
  unfold State.add
  split <;> split <;> (try split) <;> rfl

theorem add_poison (s : State) (f : Fld) (n i j : Nat) : (s.add f n i j).poison = s.poison := by
  unfold State.add
  split <;> split <;> (try split) <;> rfl

theorem add_pending (s : State) (f : Fld) (n i j : Nat) : (s.add f n i j).pending = s.pending := by
  unfold State.add
  split <;> split <;> (try split) <;> rfl

/-- A frozen counter keeps its value (R76). -/
theorem add_frozen (s : State) (f : Fld) (n i j : Nat) (h : s.frozen f i = true) : (s.add f n i j).regs = s.regs := by
  unfold State.add
  split <;> (simp only [h, if_true]) <;> rfl

theorem add_get_ne (s : State) (f g : Fld) (n i j k l : Nat) (h : g.key k l ≠ f.key i j) : (s.add f n i j).get g k l = s.get g k l := by
  unfold State.add
  split <;> split <;> (try split) <;>
    first
    | rfl
    | exact get_set_ne _ _ _ _ _ _ _ _ h

/-! ## Memory -/

/-- A byte reads what was written to it. -/
@[simp] theorem rd_wr_same (s : State) (a : Nat) (b : Byte) : (s.wr a b).rd a = b := tabGet_put_same ..

/-- Every other byte reads as before. -/
theorem rd_wr_ne (s : State) (a x : Nat) (b : Byte) (h : x ≠ a) : (s.wr a b).rd x = s.rd x := tabGet_put_ne _ _ _ _ _ h

/-- Bytes outside the range written read as before. -/
theorem rd_wrN_out (bs : List Byte) : ∀ (s : State) (a x : Nat), x < a ∨ a + bs.length ≤ x → (s.wrN a bs).rd x = s.rd x := by
  induction bs with
  | nil => exact fun _ _ _ _ => rfl
  | cons b bs ih =>
    intro s a x h
    simp only [List.length_cons] at h
    simp only [State.wrN]
    rw [ih _ _ _ (by omega), rd_wr_ne _ _ _ _ (by omega)]

/-- A byte inside the range written reads what was written. -/
theorem rd_wrN_in (bs : List Byte) : ∀ (s : State) (a k : Nat) (h : k < bs.length), (s.wrN a bs).rd (a + k) = bs[k] := by
  induction bs with
  | nil => exact fun _ _ _ h => absurd h (Nat.not_lt_zero _)
  | cons b bs ih =>
    intro s a k h
    simp only [State.wrN]
    cases k with
    | zero =>
      rw [rd_wrN_out _ _ _ _ (by omega)]
      simp
    | succ k =>
      have := ih (s.wr a b) (a + 1) k (by simpa using h)
      rw [show a + (k + 1) = a + 1 + k by omega, this]
      simp

/-- The canonical form of memory (ascending addresses, no byte that an unlisted address reads as). -/
theorem wr_wf (s : State) (a : Nat) (b : Byte) (h : Memory.wf s.mem = true) : Memory.wf (s.wr a b).mem = true := tabPut_wf 0 a b h

theorem wrN_wf (bs : List Byte) : ∀ (s : State) (a : Nat), Memory.wf s.mem = true → Memory.wf (s.wrN a bs).mem = true := by
  induction bs with
  | nil => exact fun _ _ h => h
  | cons b bs ih => exact fun s a h => ih _ _ (wr_wf s a b h)

/-! ## The event FIFO and the fault collector -/

theorem record_mem (s : State) (a b c : Nat) : (s.record a b c).mem = s.mem := by
  unfold State.record
  simp only []
  split
  · split
    · unfold State.evfVector
      split <;> rfl
    · rfl
  · exact add_mem ..

theorem faultRecord_mem (s : State) (a b : Nat) : (s.faultRecord a b).mem = s.mem := by
  unfold State.faultRecord
  simp only []
  split
  · exact record_mem ..
  · exact record_mem ..

theorem note_mem (s : State) (a b : Nat) : (s.note a b).mem = s.mem := by
  unfold State.note
  simp only []
  split
  · rfl
  · split
    · rfl
    · exact faultRecord_mem ..

theorem raiseBasic_mem (s : State) (a : Nat) : (s.raiseBasic a).mem = s.mem := by
  unfold State.raiseBasic State.alert
  simp only [set_mem]
  split
  · rw [note_mem]
    exact add_mem ..
  · exact add_mem ..

theorem foldl_mem {α : Type} (g : State → α → State) (h : ∀ s x, (g s x).mem = s.mem) (l : List α) : ∀ s, (l.foldl g s).mem = s.mem := by
  induction l with
  | nil => exact fun _ => rfl
  | cons x l ih => exact fun s => (ih _).trans (h s x)

theorem releaseEls_mem (s : State) : s.releaseEls.mem = s.mem := foldl_mem (fun t n => t.set F.TWK_ELS_EN 0 n) (fun t _ => set_mem t _ _ _ _) _ _

theorem tellFault_mem (s : State) (a b : Nat) : (s.tellFault a b).mem = s.mem := faultRecord_mem ..

theorem addDump_mem (s : State) (a b : Nat) : (s.addDump a b).mem = s.mem := rfl

theorem alert_mem (s : State) : s.alert.mem = s.mem := by simp only [State.alert, set_mem]

theorem lateRecords_mem (s : State) : s.lateRecords.mem = s.mem := foldl_mem _ (fun _ _ => tellFault_mem ..) _ _

theorem enterFatal_mem (s : State) (a : Nat) : (s.enterFatal a).mem = s.mem := by
  simp only [State.enterFatal, lifeAdd_mem, addDump_mem, releaseEls_mem, set_mem]

theorem enterPatience_mem (s : State) (r : Nat) : (s.enterPatience r).mem = s.mem := by
  unfold State.enterPatience
  simp only []
  split <;> split <;>
    simp only [enterFatal_mem, tellFault_mem, alert_mem, lateRecords_mem, set_mem, add_mem, releaseEls_mem]

theorem startBoot_mem (s : State) : s.startBoot.mem = s.mem := by
  unfold State.startBoot
  simp only []
  split
  · rfl
  · split
    · exact enterPatience_mem ..
    · rfl

theorem domResetAll_mem (s : State) : s.domResetAll.mem = s.mem := by
  have one : ∀ (t : State) (d : Nat), (t.domReset d).mem = t.mem := by
    intro t d
    unfold State.domReset
    simp only [set_mem, add_mem]
    split <;> rfl
  unfold State.domResetAll
  simp only []
  rw [foldl_mem _ fun (t : State) k => by
      split
      · exact (foldl_mem _ (fun (t : State) u => set_mem t F.OMU_STAT_STATE 6 k u) _ _).trans (set_mem t F.SKY_STN_STATUS_STATE 6 k _)
      · exact set_mem t F.SKY_STN_STATUS_STATE 6 k _,
    foldl_mem (fun t k => t.set F.SKY_STN_STATUS_GEN 0 k) (fun t k => set_mem t _ _ _ _)]
  refine (foldl_mem _ ?_ _ _).trans ((foldl_mem _ (fun t d => set_mem t _ _ _ _) _ _).trans (foldl_mem _ one _ _))
  intro t d
  split <;> rfl

theorem resetAll_mem (s : State) (c : List Nat) : (s.resetAll c).mem = s.mem := by
  unfold State.resetAll
  simp only [lifeAdd_mem]
  rw [domResetAll_mem]
  unfold State.cutCharts
  simp only [set_mem]
  split <;> split <;> rfl

theorem deviceReset_mem (s : State) : s.deviceReset.mem = s.mem := by
  unfold State.deviceReset
  split
  · rw [enterPatience_mem, resetAll_mem]
  · rw [startBoot_mem, resetAll_mem]

theorem bootFail_mem (s : State) (r : Nat) : (s.bootFail r).mem = s.mem := by
  unfold State.bootFail
  split
  · rfl
  · split
    · rw [enterPatience_mem, lifeAdd_mem]
    · simp only []
      split <;> simp only [enterFatal_mem, raiseBasic_mem, deviceReset_mem, set_mem]

theorem enterFold_mem (s : State) (src : Nat) : (s.enterFold src).mem = s.mem := by
  unfold State.enterFold
  split
  · split
    · simp only [lifeAdd_mem, addDump_mem, set_mem]
    · exact bootFail_mem ..
  · rfl

/-- A raise leaves memory alone, whatever it leads to (R464 to R466, R477). -/
theorem raise_mem (s : State) (src : Nat) : (s.raise src).mem = s.mem := by
  unfold State.raise
  simp only []
  split
  · rfl
  · split
    · rw [enterFold_mem, raiseBasic_mem]
    · split
      · rw [enterFatal_mem, raiseBasic_mem]
      · exact raiseBasic_mem ..

theorem bump_mem (s : State) (f : Fld) (i j n : Nat) : (s.bump f i j n).mem = s.mem := by
  unfold State.bump
  split
  · rfl
  · split
    · rw [raise_mem, add_mem]
    · exact add_mem ..

end Sys2Proof.Laws
end

