-- ==== Sys2Proof/Laws/Memory.lean ====
section
/-! SUPPORT. Every operation on memory keeps its canonical form. -/

namespace Sys2Proof.Laws

open Sys2Proof Sys2Proof.Machine

/-- Memory in its canonical form. -/
def Ok (s : State) : Prop := Memory.wf s.mem = true

theorem ok_of_mem {s t : State} (h : t.mem = s.mem) (hs : Ok s) : Ok t := by
  unfold Ok at hs ⊢
  rw [h]
  exact hs

theorem reset_ok : Ok State.reset := rfl

theorem bump_ok {s : State} (f : Fld) (i j n : Nat) (h : Ok s) : Ok (s.bump f i j n) := ok_of_mem (bump_mem ..) h

theorem raise_ok {s : State} (src : Nat) (h : Ok s) : Ok (s.raise src) := ok_of_mem (raise_mem ..) h

theorem setPoison_ok {s : State} (g : Nat) (b : Bool) (h : Ok s) : Ok (s.setPoison g b) := h

theorem wrN_ok {s : State} (a : Nat) (bs : List Byte) (h : Ok s) : Ok (s.wrN a bs) := wrN_wf bs s a h

theorem foldl_ok {α : Type} (g : State → α → State) (hg : ∀ s x, Ok s → Ok (g s x)) (l : List α) : ∀ s, Ok s → Ok (l.foldl g s) := by
  induction l with
  | nil => exact fun _ h => h
  | cons x l ih => exact fun s h => ih _ (hg s x h)

theorem countCe_ok {s : State} (g : Nat) (h : Ok s) : Ok (s.countCe g) := by
  unfold State.countCe
  split
  · rename_i m _
    have h1 : Ok (s.bump F.MBD_CE m) := bump_ok _ _ _ _ h
    simp only []
    split <;> exact h1
  · exact bump_ok _ _ _ _ h
  · exact h

theorem countUe_ok {s : State} (g source : Nat) (h : Ok s) : Ok (s.countUe g source) := by
  unfold State.countUe
  simp only []
  split
  · exact raise_ok _ (ok_of_mem rfl (bump_ok F.MBD_UE _ _ _ (setPoison_ok g true h)))
  · exact raise_ok _ (ok_of_mem rfl (bump_ok F.CCH_UE _ _ _ (setPoison_ok g true h)))
  · exact h

theorem asRead_ok {s : State} (e : EccHit) (h : Ok s) : Ok (s.asRead e) :=
  foldl_ok _ (fun t _ ht => wr_wf t _ _ ht) _ _ h

theorem onDie_ok {s : State} (e : EccHit) (h : Ok s) : Ok (s.onDie e) := by
  unfold State.onDie
  split
  · split
    · exact bump_ok _ _ _ _ h
    · exact h
  · exact h

theorem eccHit_ok {s : State} (source : Nat) (hits : List EccHit) (e : EccHit) (h : Ok s) : Ok (s.eccHit source hits e) := by
  have h0 := onDie_ok e h
  have h1 (l : List EccHit) : Ok (l.foldl State.onDie (s.onDie e)) := foldl_ok _ (fun _ x ht => onDie_ok x ht) _ _ h0
  unfold State.eccHit
  simp only []
  split
  · split
    · split
      · exact countUe_ok _ _ (asRead_ok _ (h1 _))
      · split
        · refine bump_ok _ _ _ _ (setPoison_ok _ _ (wrN_ok _ _ ?_))
          split
          · exact countCe_ok _ (h1 _)
          · exact h1 _
        · exact h1 _
    · exact countUe_ok _ _ (asRead_ok _ h0)
  · split
    · exact countCe_ok _ h0
    · split
      · exact setPoison_ok _ _ h0
      · exact h0

theorem eccIn_ok {s : State} (a n source : Nat) (hits : List EccHit) (h : Ok s) : Ok (s.eccIn a n source hits) :=
  foldl_ok _ (fun _ e ht => eccHit_ok source hits e ht) _ _ h

theorem yieldSweep_ok {s : State} (a n : Nat) (h : Ok s) : Ok (s.yieldSweep a n) := by
  refine foldl_ok _ (fun t p ht => ?_) _ _ h
  simp only []
  split
  · exact bump_ok _ _ _ _ (ok_of_mem rfl ht)
  · exact ht

theorem partPoison_ok {s : State} (g : Nat) (h : Ok s) : Ok (s.partPoison g) := by
  unfold State.partPoison
  split
  · exact bump_ok _ _ _ _ h
  · exact h

/-- A store keeps the canonical form (R230, R231). -/
theorem store_ok {s : State} (a : Nat) (bs : List Byte) (pois : Nat → Bool) (hits : List EccHit) (h : Ok s) : Ok (s.store a bs pois hits) := by
  unfold State.store
  simp only []
  refine foldl_ok _ (fun t g ht => ?_) _ _ (yieldSweep_ok _ _ (wrN_ok _ _ (foldl_ok _ (fun _ e he => eccHit_ok 3 hits e he) _ _ h)))
  have h1 : ∀ c : Bool, Ok (if c then t.partPoison g else t) := fun c => by
    split
    · exact partPoison_ok g ht
    · exact ht
  split
  · exact setPoison_ok _ _ (h1 _)
  · split
    · exact h1 _
    · exact setPoison_ok _ _ (h1 _)

/-- A committed Sky or CXL write keeps the canonical form, its mirror copy too (R242). -/
theorem commitWrite_ok {s : State} (a : Nat) (bs : List Byte) (bad : Nat → Bool) (h : Ok s) : Ok (s.commitWrite a bs bad) := by
  unfold State.commitWrite
  exact foldl_ok _ (fun _ _ ht => store_ok _ _ _ _ ht) _ _ (store_ok _ _ _ _ h)

/-- A packet that rides the Sky moves counters alone. -/
theorem rides_ok {s : State} (a b op n : Nat) (why : Option Fld) (h : Ok s) : Ok (s.rides a b op n why) := by
  have pair : ∀ {t : State} (f g : Fld) (i j k : Nat), Ok t → Ok ((t.bump f i j).bump g i j k) := fun _ _ _ _ _ ht => bump_ok _ _ _ _ (bump_ok _ _ _ _ ht)
  have held : ∀ {t : State} (c : Prop) [Decidable c] (f g : Fld) (i j k : Nat), Ok t → Ok (if c then (t.bump f i j).bump g i j k else t) := fun c _ f g i j k ht => by
    split
    · exact pair f g i j k ht
    · exact ht
  unfold State.rides
  split
  · exact h
  · have h1 := pair F.SKY_INJ_PKT F.SKY_INJ_BYTE a 0 (({ op := op, len := ceilDiv n 16 } : Pkt).wire) h
    have h2 : ∀ u : State, Ok u → Ok (match why with
        | none => (u.bump F.SKY_EJ_PKT b).bump F.SKY_EJ_BYTE b 0 (({ op := op, len := ceilDiv n 16 } : Pkt).wire)
        | some f => (u.bump f b).bump F.SKY_REFUSED a) := fun u hu => by
      cases why
      · exact pair _ _ _ _ _ hu
      · exact bump_ok _ _ _ _ (bump_ok _ _ _ _ hu)
    refine h2 _ ?_
    split
    · exact held _ _ _ _ _ _ (held _ _ _ _ _ _ h1)
    · exact h1

theorem skyWrite_ok {s : State} (site a : Nat) (bs : List Byte) (bad : Nat → Bool) (h : Ok s) : Ok (s.skyWrite site a bs bad) :=
  foldl_ok _ (fun _ _ ht => rides_ok _ _ _ _ _ ht) _ _ (commitWrite_ok _ _ _ (rides_ok _ _ _ _ _ h))

/-- A packet refused on arrival moves counters alone. -/
theorem skyTurned_ok {s : State} (site a n : Nat) (f : Fld) (h : Ok s) : Ok (s.skyTurned site a n f) := by
  unfold State.skyTurned
  split
  · exact rides_ok _ _ _ _ _ h
  · exact h

theorem moveChunk_ok {s : State} (site a : Nat) (p : Piece) (c : Nat × Nat) (h : Ok s) : Ok (s.moveChunk site a p c).1 := by
  unfold State.moveChunk
  split
  · exact skyTurned_ok _ _ _ _ h
  · split
    · exact skyTurned_ok _ _ _ _ h
    · exact skyWrite_ok _ _ _ _ h

theorem hostChunk_ok {s : State} (site a : Nat) (p : Piece) (c : Nat × Nat) (h : Ok s) : Ok (s.hostChunk site a p c).1 := by
  unfold State.hostChunk
  split
  · exact skyTurned_ok _ _ _ _ h
  · exact ok_of_mem rfl (rides_ok site 42 0 c.2 none h)

/-- A mover's write keeps the canonical form. -/
theorem moveOut_ok {s : State} (a : Nat) (p : Piece) (n site : Nat) (h : Ok s) : Ok (s.moveOut a p n site).1 := by
  have gen : ∀ (one : State → Nat × Nat → State × Nat × List Nat) (_ : ∀ t c, Ok t → Ok (one t c).1) (l : List (Nat × Nat))
      (acc : State × Nat × List Nat), Ok acc.1 → Ok (l.foldl (fun (acc : State × Nat × List Nat) c =>
        let r := one acc.1 c
        (r.1, acc.2.1 + r.2.1, acc.2.2 ++ r.2.2)) acc).1 := by
    intro one h1 l
    induction l with
    | nil => exact fun _ h => h
    | cons c l ih => exact fun acc hacc => ih _ (h1 _ c hacc)
  unfold State.moveOut
  dsimp only
  split
  · exact h
  · refine gen (fun t c => if regionOf a = .host then t.hostChunk site a p c else t.moveChunk site a p c) (fun t c ht => ?_) _ (s, 0, []) h
    split
    · exact hostChunk_ok site a p c ht
    · exact moveChunk_ok site a p c ht

end Sys2Proof.Laws
end

