-- ==== Sys2Proof/Tests/Slice0.lean ====
section
/-! SUPPORT. The model's own tests: what a small state and each check of WellFormed answer, one step at a time, against the spec's words. The other
files beside this one show, for each statement, states and operands that meet its hypotheses together, clause by clause. -/

-- One theorem after the other: kernel evaluations that wait for each other would hold a thread and its stack each.
set_option Elab.async false

namespace Sys2Proof.Tests

open Sys2Proof.Machine

/-! ## Small states -/

/-- A partition of every site and deck. -/
def plain : Chart := { parts := [{ valid := true, sites := 2 ^ 44 - 1, decks := 2 ^ 64 - 1 }] }

/-- The part on, its boot over, its registers at their Reset column, a chart with one partition in force. -/
def up : State := ({ State.reset with power := .on, cht := { State.reset.cht with chart := plain } } : State).set F.FLT_BOOT_STEP 9

/-- Every site present. -/
def pres (s : State) : State := ((s.set F.MGT_SITE_PRESENT_TILE (2^24-1)).set F.MGT_SITE_PRESENT_MEM 4095).set F.MGT_SITE_PRESENT_XIO 15

/-- A source's severity. -/
def sev (src n : Nat) (s : State) : State := s.set F.FLT_SRC_SEV n src

/-- Another chart in force. -/
def charted (c : Chart) (s : State) : State := { s with cht := { s.cht with chart := c } }

/-- `mild` by running through the sources. -/
theorem mild_of {s : State} (h : ((List.range 248).all fun k => [224, 238, 239, 240].contains k || decide (s.get F.FLT_SRC_SEV k ≤ 2)) = true) : s.mild := by
  intro k hk hn
  have := List.all_eq_true.mp h k (List.mem_range.mpr hk)
  simp only [Bool.or_eq_true, List.contains_iff_mem, decide_eq_true_eq] at this
  exact this.resolve_left hn

/-- No shard has a mirror copy: nothing runs on into one. -/
theorem noMirror {s : State} (h : (s.shards.all fun p => decide (p.2.mirror = 0xFF)) = true) (a n : Nat) : s.mirrorRuns a n = [] := by
  unfold State.mirrorRuns
  rw [List.filterMap_eq_nil_iff]
  intro p hp
  have := List.all_eq_true.mp h p hp
  simp_all

/-- A fold that looks at its register before each byte, so that the kernel evaluates it byte by byte. -/
def foldSeen (f : Nat → Byte → Nat) : Nat → List Byte → Nat
  | r, [] => r
  | r, b :: bs => if r = 0 then foldSeen f (f r b) bs else foldSeen f (f r b) bs

theorem foldSeen_eq (f : Nat → Byte → Nat) (bs : List Byte) : ∀ r, foldSeen f r bs = bs.foldl f r := by
  induction bs with
  | nil => intro r; rfl
  | cons b bs ih => intro r; rw [foldSeen, ite_self, ih]; rfl

/-- CRC-32C byte by byte. -/
theorem crc32c_seen (bs : List Byte) : crc32c bs = foldSeen (crcRByte 0x82F63B78) 0xFFFFFFFF bs ^^^ 0xFFFFFFFF := by
  rw [foldSeen_eq]; rfl

/-! ## One step -/

/-- What a command answers, looked at. -/
def after (c : Instr) (s : State) (p : State → Bool) : Bool :=
  match exec c s with
  | .next t => p t
  | _ => false

/-- An empty queue: the model's tick (log entry 4). -/
theorem test_idle : (match step State.reset with
  | .next t => decide (t.now = 1)
  | _ => false) = true := by decide

/-- A step takes the front command and leaves the rest. -/
theorem test_step_takes_front : (match step (up.withPending [.heartbeat, .transitTick]) with
  | .next t => decide (t.pending = [.transitTick])
  | _ => false) = true := by decide +kernel

/-- CRC-16 of R54 over "123456789", its published check value. -/
theorem test_crc16 : crc16 [49, 50, 51, 52, 53, 54, 55, 56, 57] = 0x29B1 := by decide +kernel

/-- CRC-32C of R54 over "123456789", its published check value. -/
theorem test_crc32c : crc32c [49, 50, 51, 52, 53, 54, 55, 56, 57] = 0xE3069283 := by decide +kernel

/-- CRC-64 of R253 over "123456789", worked out bit by bit from the polynomial the rule writes (log entry 137). -/
theorem test_crc64 : crc64 [49, 50, 51, 52, 53, 54, 55, 56, 57] = 0x3558E8E979F60D7E := by decide +kernel

/-- SHA-256 of "abc" (FIPS 180-4): its first four bytes. -/
theorem test_sha256 : (sha256 [97, 98, 99]).take 4 = [0xBA, 0x78, 0x16, 0xBF] := by decide +kernel

/-- The example of spec/02, R57 to R66: the relays between T2 and M7 are T4, T12, T14, T16 and M8. -/
theorem test_relays_between : ((List.range 36).filter fun r => decide (0 < downstream 2 r) && decide (downstream 2 r < downstream 2 31)) = [4, 12, 14, 16, 32] := by decide +kernel

/-- The examples of spec/01 and spec/02: T5 to T17 and T2 to M7 are of class D3; a tile and its home memory are D0. -/
theorem test_classes : distClass 5 17 = 3 ∧ distClass 2 31 = 3 ∧ distClass 7 27 = 0 := by decide +kernel

/-- The example of R120: channel 6 lies 0.1 THz above channel 5, which is 390 codes. -/
theorem test_alias_codes : aliasCodes 1 = 390 := by decide +kernel

/-- The example of R253: 10 KiB at 0x2_0000_0800 are blocks of 2, 4 and 4 KiB; 10,270 bytes are hashed, the first ten with the block's DPA and SEQ0. -/
theorem test_fold_blocks : (foldBlocks 0x200000800 0x2800).map (fun b => b.2) = [2048, 4096, 4096] := by decide +kernel

theorem test_fold_head : (scanMessage true 7 0x200000800 (List.replicate 64 0)).take 10 = [0, 8, 0, 0, 2, 0, 0, 0, 7, 0] := by decide +kernel

/-- The example of R318: sites 9 and 33 with BLOCKS 0x02 take 2,656 bytes a capture. -/
theorem test_telemetry_size : telSize (2 ^ 9 + 2 ^ 33) 2 = 2656 := by decide +kernel

/-- The example of R499: bins 20 to 22 cover 95 to 110 °C (quarter degrees). -/
theorem test_bins : (binOf 380, binOf 400, binOf 439, binOf 440, binOf 379) = (20, 21, 22, 23, 19) := by decide +kernel

/-- R311: a doorbell of an enabled deck moves its tail; one at or beyond the ring's size is ERR 2. -/
theorem test_sqTail :
    after (.sqTail 1 5) (up.set F.DLR_DECK_STAT_STATE 1 1) (fun t => decide ((t.deck 1).sqTail = 5)) = true ∧
    after (.sqTail 1 65535) (up.set F.DLR_DECK_STAT_STATE 1 1) (fun t => decide (t.get F.DLR_DECK_STAT_ERR 1 = 2)) = true := by decide +kernel

/-- R423: a lost reference clock is held over, and TREF_OK reads 0. -/
theorem test_trefLoss : after .trefLoss up (fun t => decide (t.get F.CLK_STAT_TREF_OK = 0)) = true := by decide +kernel

/-- R106: an opened interlock shows in TWK_STAT. -/
theorem test_interlock : after .elsIntlkOpen up (fun t => decide (t.get F.TWK_STAT_INTLK = 0)) = true := by decide +kernel

/-- The example of R143 and R144: a sum of 150,000 is code 74 with RANGE 2, saturates at 127 with RANGE 3, and code 74 reads 4.625. -/
theorem test_omu_code : idealCode false 2 150000 = 74 ∧ idealCode false 3 150000 = 127 ∧ (codeY false 2 74).bits32 = 0x40940000 := by decide +kernel

/-! ## WellFormed refuses what is ill formed -/

def illFormed0 : List Instr := [
    .guestPacketSubmit 42 {}, .guestPacketSubmit 43 {}, .guestPacketSubmit 40 { dest := 64 }, .packetInject 44 { dest := 0, cls := 0, op := 0, agent := .engine },
    .packetInject 0 { dest := 64, cls := 0, op := 0, agent := .engine }, .channelFree 44 0, .channelFree 0 384, .deflectionTimeout 44 0 0, .deflectionTimeout 0 6 0,
    .deflectionTimeout 0 0 4, .relaySearch 44 0 0, .relaySearch 0 6 0, .relaySearch 0 0 4, .boundMiss 44 0 0, .boundMiss 0 6 0, .boundMiss 0 0 4,
    .packetReceive 44 0 {} [], .packetReceive 0 384 {} [], .packetReceive 0 0 { dest := 64 } [], .skyAck 44 0 {}, .skyAck 0 384 {}, .skyAck 0 0 { dest := 64 },
    .ackTimerExpiry 44 0, .ackTimerExpiry 0 44, .retransmitTimeout 44 0 0, .retransmitTimeout 0 44 0, .retransmitTimeout 0 0 (2 ^ 24), .retxLimit 44 0 0,
    .retxLimit 0 44 0, .retxLimit 0 0 (2 ^ 24), .skyDlvRestart .host 44 0, .skyDlvRestart .host 0 (2 ^ 32), .fenceIssue 44 .engine .all none,
    .fenceIssue 0 .engine (.one 44) none, .fenceComplete 44 0, .acceptFlagPublish 44, .barrierArrive 32 0, .barrierArrive 0 44, .railLoss 14, .perstNRelease 4]

theorem test_wf_refuses_0 : (illFormed0.all fun c => !c.wf) = true := by decide +kernel

def illFormed1 : List Instr := [
    .reset .host (2 ^ 32), .deviceResetRequest 512, .bootStepDone 0 {}, .bootStepDone 9 {}, .patienceRetry .host (2 ^ 32), .readLowHalf .host ⟨1, 0⟩,
    .readLowHalf .host ⟨0x4080000, 0⟩, .readLowHalf .host ⟨0, 2 ^ 64⟩, .writeLowHalf .host 1 0, .writeLowHalf .host 0x4080000 0, .writeLowHalf .host 0 (2 ^ 32), .writeHighHalf .host 8 0,
    .writeHighHalf .host 0x4080000 0, .writeHighHalf .host 4 (2 ^ 32), .registerWrite .host 0x4080000 true 0, .registerWrite .host 4 true 0,
    .registerWrite .host 2 false 0, .registerWrite .host 0 true (2 ^ 64), .registerWrite .host 0 false (2 ^ 32), .unmappedAccess .host 1 true,
    .unmappedAccess .host 0x4080000 true, .stoppedAccess .host 1 true, .stoppedAccess .host 0x4080000 true, .scheduleEntryStart (2 ^ 16) 0 [], .operatorComplete (2 ^ 16),
    .runPhaseEnd 44, .stnClear .host 44 0, .stnClear .host 0 (2 ^ 32), .trnClear .host (2 ^ 32), .cmtClear .host (2 ^ 32), .clkClear .host (2 ^ 32),
    .thmClear .host (2 ^ 32), .laserInterlockFault 8, .prewarmTimeout 44, .moduleWriteDone 8 0 0, .modulePoll 8 {}, .moduleDetect 8 {}, .fadeSample 6 0 [] [],
    .swapCrossbarMove 6, .swapTapCheck 6 [], .swapPauseEnd 6]

theorem test_wf_refuses_1 : (illFormed1.all fun c => !c.wf) = true := by decide +kernel

def illFormed2 : List Instr := [
    .swapGo .host (2 ^ 32), .fastSwapCrossbarMove 6, .fastSwapTapCheck 6 [], .fastSwapResume 6, .commission .host (2 ^ 32), .ringSweepDone 44 0 0 [],
    .ringSweepDone 0 1024 0 [], .toneDecodeDone 44 0 {}, .toneDecodeDone 0 1024 {}, .twinkleVisit 44 0 0 0 0, .twinkleVisit 0 16 0 0 0, .twinkleVisit 0 0 1024 0 0, .heaterFault 44 0 true,
    .heaterFault 0 1024 true, .relockTimeout 44 0, .relockTimeout 0 1024, .idRecheck 44 0 {}, .idRecheck 0 1024 {}, .omuPqTail .host 24 0, .omuPqTail .host 0 (2 ^ 32),
    .passStart 24, .guardSlotRecheck 24, .passComplete 24 0, .passComplete 0 5, .sentinelTrip 24 0, .sentinelTrip 0 4, .pilotSlot 24 0, .pilotSlot 0 4,
    .pilotNow .host 24 0, .pilotNow .host 0 (2 ^ 32), .pilotComplete 24 0 {}, .pilotComplete 0 4 {}, .pilotStale 24 0, .pilotStale 0 4, .gainTrimUpdate 24 0 0,
    .gainTrimUpdate 0 4 0, .hotPrefixReady 24 {}, .hotPrefixReady 0 { table := 65536 }, .shardRebuildDone 65536 0, .shardRebuildDone 0 65536, .engineJob 12 [] []]

theorem test_wf_refuses_2 : (illFormed2.all fun c => !c.wf) = true := by decide +kernel

def illFormed3 : List Instr := [
    .engineJobComplete 12 0, .jobCompletionReceive 24, .chkGo .host 2 0 0, .chkGo .host 0 8 0, .chkGo .host 0 0 (2 ^ 32), .chkAbort .host 2 0 0, .chkAbort .host 0 8 0,
    .chkAbort .host 0 0 (2 ^ 32), .checkScanDone 2 0 [] none [] none, .checkScanDone 0 8 [] none [] none, .cxlMemWrite 1 (List.replicate 64 0) true [],
    .cxlMemWrite 0 (List.replicate 63 0) true [], .cxlMemRead 1 [], .deckEnable .host 64 0, .deckEnable .host 0 (2 ^ 32), .deckDisable .host 64 0,
    .deckDisable .host 0 (2 ^ 32), .sqTail 64 0, .sqTail 0 65536, .cqHead 64 0, .cqHead 0 65536, .cardFetch 64 [] .ok, .dummyAck (2 ^ 48), .dummyAckTimeout (2 ^ 48),
    .mirrorWriteDone (2 ^ 48) true true, .nop (2 ^ 48), .infer (2 ^ 48), .gather (2 ^ 48), .score (2 ^ 48), .topk (2 ^ 48), .copy (2 ^ 48), .fill (2 ^ 48),
    .check (2 ^ 48), .handBegin (2 ^ 48), .handWrite (2 ^ 48), .handCommit (2 ^ 48), .handAbort (2 ^ 48), .fence (2 ^ 48), .chartLoad (2 ^ 48), .chartSwitch (2 ^ 48)]

theorem test_wf_refuses_3 : (illFormed3.all fun c => !c.wf) = true := by decide +kernel

def illFormed4 : List Instr := [
    .tableDefine (2 ^ 48), .telemetrySnapshot (2 ^ 48), .telemetryCapture (2 ^ 48) 0, .telemetryCapture 0 16, .cometBulk (2 ^ 48) [] true [],
    .moverDone (2 ^ 48) [] true [], .irqTimerExpiry 64, .flush .host (2 ^ 32), .takeover 3, .writeBackDone 32, .recover .host (2 ^ 32), .talWinSel .host (2 ^ 64),
    .cometWrite 32 {} true [], .cometWrite 0 { vid := 4096 } true [], .cometRead 32 {} true [], .cometRead 0 { vid := 4096 } true [], .readResp 32 {} true,
    .readResp 0 { vid := 4096 } true, .atomic 32 {} true [], .atomic 0 { vid := 4096 } true [], .atomicResp 32 {} true, .atomicResp 0 { vid := 4096 } true,
    .bulkWrite 32 {} true [], .bulkWrite 0 { vid := 4096 } true [], .bulkRead 32 {} true [], .bulkRead 0 { vid := 4096 } true [], .refuse 32 {} true,
    .refuse 0 { vid := 4096 } true, .ack 32 {} true, .ack 0 { vid := 4096 } true, .hello 32 {} true, .hello 0 { vid := 4096 } true, .timing 32 {} true,
    .timing 0 { vid := 4096 } true, .barrier 32 {} true, .barrier 0 { vid := 4096 } true, .atomicRequest 44, .writePackTimeout 4096, .cometRto 4096 0 0, .cometRto 0 9 0]

theorem test_wf_refuses_4 : (illFormed4.all fun c => !c.wf) = true := by decide +kernel

def illFormed5 : List Instr := [
    .cometRto 0 0 (2 ^ 32), .helloRetry 4096, .peerLost 4096, .gatewayFlush 256 0, .gatewayFlush 0 44, .portDown 32, .retrainAttempt 32 true 0,
    .retrainAttempt 0 true 256, .retrain .host 32 0, .retrain .host 0 (2 ^ 64), .alogQuery .host (2 ^ 64), .arm .host (2 ^ 32), .monitorSample 60 true,
    .ceilRestore .host (2 ^ 32), .droopTrip 24 0, .droopTrip 0 4, .droopClear 24 0, .droopClear 0 4, .seamSlowSwitch 2, .seamRelease 2, .seamCapClear 2,
    .hbmTempRead 12 [], .canaryRead 24 0 0, .limitExceed 24, .clusterLevelReport 24 (List.replicate 4 0), .clusterLevelReport 0 (List.replicate 3 0), .tileStackReset 24,
    .firmamentSiteReset 44, .stationReset 44, .mbdReset 12, .ioChipletReset 4, .frontEndReset 2, .domainResetEnd 132, .tileHang 24, .reinstate .host (2 ^ 32),
    .clearAll .host (2 ^ 32), .almCmdDone 8, .getIdentity .smbus (2 ^ 32) 0, .getIdentity .smbus 0 65536, .getIdentity .host 0 0]

theorem test_wf_refuses_5 : (illFormed5.all fun c => !c.wf) = true := by decide +kernel

def illFormed6 : List Instr := [
    .quoteStart .smbus (List.replicate 31 0), .quoteStart .host (List.replicate 32 0), .quoteRead .smbus (2 ^ 32) 0, .quoteRead .smbus 0 65536, .quoteRead .host 0 0,
    .regRead .smbus ⟨2 ^ 32, 0⟩ 4, .regRead .smbus ⟨0, 0⟩ 6, .regRead .smbus ⟨0, 0⟩ 10, .regRead .host ⟨0, 0⟩ 4, .regWrite .smbus (2 ^ 32) 4 0, .regWrite .smbus 0 6 0,
    .regWrite .smbus 0 10 0, .regWrite .smbus 0 4 (2 ^ 32), .regWrite .smbus 0 8 (2 ^ 64), .regWrite .host 0 4 0, .setEndpointId .smbus 0 256, .setEndpointId .host 0 0,
    .getEndpointId .host, .getMctpVersionSupport .smbus 256, .getMctpVersionSupport .host 0, .getMessageTypeSupport .host, .frameTransmitDone 32,
    .escalationWindowExpiry 132]

theorem test_wf_refuses_6 : (illFormed6.all fun c => !c.wf) = true := by decide +kernel

def wellFormed0 : List Instr := [
    .guestPacketSubmit 40 {}, .packetInject 0 { dest := 0, cls := 0, op := 0, agent := .engine }, .channelFree 0 0, .deflectionTimeout 0 0 0, .relaySearch 0 0 0,
    .boundMiss 0 0 0, .packetReceive 0 0 {} [], .skyAck 0 0 {}, .ackTimerExpiry 0 0, .retransmitTimeout 0 0 0, .retxLimit 0 0 0, .skyDlvRestart .host 0 0,
    .spaceRestartReopen, .fenceIssue 0 .engine .all none, .fenceComplete 0 0, .acceptFlagPublish 0, .barrierArrive 0 0, .coldPowerOn true true {}, .pgInDeassert,
    .railLoss 0, .perstNAssert, .perstNRelease 0, .reset .host 0, .deviceResetRequest 0, .bootStepDone 1 {}, .bootWatchdogExpiry, .patienceRetry .host 0,
    .readLowHalf .host ⟨0, 0⟩, .writeLowHalf .host 0 0, .writeHighHalf .host 4 0, .registerWrite .host 0 true 0, .changeLogFlush, .unmappedAccess .host 0 true,
    .stoppedAccess .host 0 true, .transitTick, .dealPhase, .runPhaseStart, .scheduleEntryStart 0 0 [], .operatorComplete 0, .runPhaseEnd 0, .settleStart,
    .quietWindowOpen {}, .drainComplete, .mapSwitchResume, .drainPostpone, .tsyncFrame {}, .tsyncTimeout, .holdoverExpiry, .successorTakeover, .poleListenDone true,
    .chartCopyDone [] true [], .switchPrepareDone [], .stnClear .host 0 0, .trnClear .host 0, .cmtClear .host 0, .clkClear .host 0, .thmClear .host 0, .elsIntlkOpen,
    .laserInterlockFault 0, .lightStart [] true]

theorem test_wf_accepts_0 : (wellFormed0.all fun c => c.wf) = true := by decide +kernel

def wellFormed1 : List Instr := [
    .lightStartRetry [] true, .prewarmTimeout 0, .moduleWriteDone 0 0 0, .modulePoll 0 {}, .spareCheck [], .moduleDetect 0 {}, .fadeSample 0 0 [] [],
    .swapCrossbarMove 0, .swapTapCheck 0 [], .swapPauseEnd 0, .swapGo .host 0, .fastSwapCrossbarMove 0, .fastSwapTapCheck 0 [], .fastSwapResume 0,
    .commission .host 0, .ringSweepDone 0 0 0 [], .toneDecodeDone 0 0 {}, .twinkleVisit 0 0 0 0 0, .heaterFault 0 0 true, .relockTimeout 0 0, .idRecheck 0 0 {},
    .omuPqTail .host 0 0, .passStart 0, .guardSlotRecheck 0, .passComplete 0 0, .sentinelTrip 0 0, .pilotSlot 0 0, .pilotNow .host 0 0, .pilotComplete 0 0 {},
    .pilotStale 0 0, .gainTrimUpdate 0 0 0, .sweepRead 0 [], .hotPrefixReady 0 {}, .shardRebuildDone 0 0, .engineJob 0 [] [], .engineJobComplete 0 0,
    .jobCompletionReceive 0, .chkGo .host 0 0 0, .chkAbort .host 0 0 0, .checkScanDone 0 0 [] none [] none, .cxlMemWrite 0 (List.replicate 64 0) true [],
    .cxlMemRead 0 [], .cxlLinkDown, .cxlLinkUp, .deckEnable .host 0 0, .deckDisable .host 0 0, .sqTail 0 0, .cqHead 0 0, .cardFetch 0 [] .ok, .dummyAck 0,
    .dummyAckTimeout 0, .mirrorWriteDone 0 true true, .nop 0, .infer 0, .gather 0, .score 0, .topk 0, .copy 0, .fill 0, .check 0]

theorem test_wf_accepts_1 : (wellFormed1.all fun c => c.wf) = true := by decide +kernel

def wellFormed2 : List Instr := [
    .handBegin 0, .handWrite 0, .handCommit 0, .handAbort 0, .fence 0, .chartLoad 0, .chartSwitch 0, .tableDefine 0, .telemetrySnapshot 0, .telemetryCapture 0 0,
    .cometBulk 0 [] true [], .moverDone 0 [] true [], .irqTimerExpiry 0, .evfDataRead .host 1, .flush .host 0, .stateCopyAck, .heartbeat, .takeover 0,
    .takeoverTimeout, .standbyResync, .standbyResyncDone, .writeBackDone 0, .recover .host 0, .recoveryDone [] true, .talWinSel .host 0, .cometWrite 0 {} true [],
    .cometRead 0 {} true [], .readResp 0 {} true, .atomic 0 {} true [], .atomicResp 0 {} true, .bulkWrite 0 {} true [], .bulkRead 0 {} true [], .refuse 0 {} true,
    .ack 0 {} true, .hello 0 {} true, .timing 0 {} true, .barrier 0 {} true, .atomicRequest 0, .writePackTimeout 0, .cometRto 0 0 0, .helloRetry 0, .peerLost 0,
    .gatewayFlush 0 0, .timingExchange, .portDown 0, .retrainAttempt 0 true 0, .retrain .host 0 0, .alogQuery .host 0, .alogQueryDone, .trefLoss, .trefHoldoverEnd,
    .arm .host 0, .monitorSample 0 true, .ceilRestore .host 0, .droopTrip 0 0, .droopClear 0 0, .seamSlowSwitch 0, .seamRelease 0, .seamCapClear 0, .sensorSample {}]

theorem test_wf_accepts_2 : (wellFormed2.all fun c => c.wf) = true := by decide +kernel

def wellFormed3 : List Instr := [
    .hbmTempRead 0 [], .canaryRead 0 0 0, .limitExceed 0, .powerSample [], .clusterLevelReport 0 (List.replicate 4 0), .crashDumpDone, .tileStackReset 0,
    .firmamentSiteReset 0, .stationReset 0, .mbdReset 0, .ioChipletReset 0, .frontEndReset 0, .croupierWatchdog, .domainResetEnd 0, .tileHang 0, .reinstate .host 0,
    .clearAll .host 0, .guardCheck {}, .read .host, .program .host, .verifyFw .host, .activateFw .host, .guardUpdate .host, .saveLife .host, .clearLog .host,
    .clearDump .host, .eraseImage .host, .almCmdDone 0, .lifetimeRecord, .getIdentity .smbus 0 0, .quoteStart .smbus (List.replicate 32 0), .quoteSigned [],
    .quoteRead .smbus 0 0, .regRead .smbus ⟨0, 0⟩ 4, .regWrite .smbus 0 4 0, .setEndpointId .smbus 0 0, .getEndpointId .smbus, .getMctpVersionSupport .smbus 0,
    .getMessageTypeSupport .smbus, .bondCheck true, .elsIntlkClose, .trefReturn, .cxlSnoop 0, .hostAccessComplete 0 [] 0, .frameTransmitDone 0, .escalationWindowExpiry 0,
    .takeoverReplay [] [] true]

theorem test_wf_accepts_3 : (wellFormed3.all fun c => c.wf) = true := by decide +kernel

theorem test_wf_pkt : (([
    { dest := 64 }, { src := 64 }, { cls := 4 }, { vc := 2 }, { defl := 4 }, { op := 8 }, { len := 32 }, { part := 4 }, { poison := 16 }, { rsv31 := 2 },
    { seq := 2 ^ 24 }, { gen := 256 }, { addr := 2 ^ 52 }, { rtag := 4096 }, { aux := 2 ^ 52 }, { birth := 65536 }, { pcrc := 2 ^ 32 }, { rsv228 := 4096 },
    { hcrc := 65536 }, { payload := List.replicate 257 0 }] : List Pkt).all fun p => !p.wf) = true := by decide +kernel

theorem test_wf_frame : (([
    { dmac := 2 ^ 48 }, { smac := 2 ^ 48 }, { pcp := 8 }, { vid := 4096 }, { etype := 65536 }, { ver := 16 }, { kind := 16 }, { op := 16 }, { space := 16 },
    { srcPart := 4096 }, { dstPart := 4096 }, { len := 8192 }, { seq := 2 ^ 32 }, { ack := 2 ^ 32 }, { addr := 2 ^ 52 }, { rtag := 65536 }, { aop := 4 }, { atype := 8 },
    { epoch := 65536 }, { aux := 65536 }, { pcrc := 2 ^ 32 }, { payload := List.replicate 4097 0 }] : List Frame).all fun f => !f.wf) = true := by decide +kernel

theorem test_wf_request : (([
    { dest := 64, cls := 0, op := 0, agent := .engine }, { dest := 0, cls := 4, op := 0, agent := .engine }, { dest := 0, cls := 0, op := 8, agent := .engine },
    { dest := 0, cls := 0, op := 0, agent := .engine, len := 32 }, { dest := 0, cls := 0, op := 0, agent := .engine, addr := 2 ^ 52 },
    { dest := 0, cls := 0, op := 0, agent := .engine, aux := 2 ^ 52 }, { dest := 0, cls := 0, op := 0, agent := .engine, rtag := 4096 },
    { dest := 0, cls := 0, op := 0, agent := .engine, poison := 16 }, { dest := 0, cls := 0, op := 0, agent := .engine, payload := List.replicate 257 0 }] : List SendReq).all fun r => !r.wf) = true := by decide +kernel

end Sys2Proof.Tests
end

