-- ==== Sys2Proof/Tests/Hypotheses1.lean ====
section
/-! SUPPORT. For each statement, states and operands that meet its hypotheses together, clause by clause. -/

-- One theorem after the other: kernel evaluations that wait for each other would hold a thread and its stack each.
set_option Elab.async false

namespace Sys2Proof.Tests

open Sys2Proof.Machine

/-! ## The block as a whole -/

theorem test_hypotheses_StepRunsFront : (State.reset.withPending [.heartbeat]).pending = .heartbeat :: [] := rfl

theorem test_hypotheses_IdleStepCounts : State.reset.pending = [] := rfl

/-- A part in FATAL. -/
def fatal : State := up.set F.FLT_STAT_STATE 2

theorem test_hypotheses_StandingUnitsIgnoreCommands :
    (State.reset.on = false ∧ actsUnpowered .heartbeat = false) ∧ (fatal.fatal = true ∧ servedInFatal .heartbeat = false) := by decide +kernel

theorem test_hypotheses_FatalIsFinal :
    let s := fatal.withPending [.heartbeat, .transitTick]
    (s.on = true ∧ s.fatal = true ∧ s.pending = .heartbeat :: [.transitTick] ∧ powerCycles .heartbeat = false) ∧ ∃ t, step s = .next t :=
  ⟨by decide +kernel, _, rfl⟩

theorem test_hypotheses_UnpoweredStays :
    let s := State.reset.withPending [.heartbeat]
    s.unpowered ∧ s.pending = .heartbeat :: [] ∧ (∀ intlk loads, Instr.heartbeat ≠ .coldPowerOn true intlk loads) ∧ ∃ t, step s = .next t :=
  ⟨⟨rfl, fun _ => ⟨rfl, rfl⟩, rfl, rfl, rfl, fun _ _ _ => rfl⟩, rfl, (by intro _ _ h; cases h), _, rfl⟩

/-! ## Registers -/

namespace HalfAccesses

def reg64 : Reg := ⟨"x",0,1,0,1,0,true,false,.dev,[]⟩
def gr (o : Nat) : Reg := ((regAt o).map (·.1)).getD reg64
def held1 : State := up.setHeld 0x20020 .host 6

theorem test_hypotheses_HalfAccesses :
    (up.on = true ∧ up.barUp = true ∧ regAt 131104 = some (gr 131104, 0, 0) ∧ (gr 131104).wide = true ∧ (gr 131104).base ≠ 65536 ∧ up.stopped (gr 131104) 0 = false) ∧
    (held1.on = true ∧ held1.barUp = true ∧ spotAt (131104 + 4) = some (gr 131104, 0, 0, true) ∧ (gr 131104).wide = true ∧ held1.stopped (gr 131104) 0 = false ∧
    5 < 2 ^ 32 ∧ tabGet 0 held1.halves.held (131104 * 4 + Iface.code Iface.host) = 5 + 1) ∧
    (up.on = true ∧ up.barUp = true ∧ spotAt (131104 + 4) = some (gr 131104, 0, 0, true) ∧ (gr 131104).wide = true ∧ up.stopped (gr 131104) 0 = false ∧
    tabGet 0 up.halves.held (131104 * 4 + Iface.code Iface.host) = 0) ∧
    (up.on = true ∧ up.barUp = true ∧ spotAt 131104 = some (gr 131104, 0, 0, false) ∧ spotAt (131104 + 4) = some (gr 131104, 0, 0, true) ∧
    up.stopped (gr 131104) 0 = false) :=
  ⟨by decide +kernel, by decide +kernel, by decide +kernel, by decide +kernel⟩

end HalfAccesses

namespace FieldWrites

def reg64 : Reg := ⟨"x",0,1,0,1,0,true,false,.dev,[]⟩
def gr (o : Nat) : Reg := ((regAt o).map (·.1)).getD reg64

theorem test_hypotheses_FieldWrites :
    (up.on = true ∧ up.barUp = true ∧ regAt 31457292 = some (gr 31457292, 0, 0) ∧ (gr 31457292).wide = false ∧ (gr 31457292).cfg = false ∧
    up.stopped (gr 31457292) 0 = false ∧ (gr 31457292).base ∈ [31457292, 37748744, 37748748, 37814272, 25165840, 22020108]) ∧
    (up.on = true ∧ up.barUp = true ∧ regAt (22020112 + 5 * 0x1000) = some (gr 22020112, 5, 0) ∧ (gr 22020112).base = 22020112 ∧ up.stopped (gr 22020112) 5 = false) := by decide +kernel

end FieldWrites

namespace AbsentRegisters

def reg64 : Reg := ⟨"x",0,1,0,1,0,true,false,.dev,[]⟩
def gr (o : Nat) : Reg := ((regAt o).map (·.1)).getD reg64

theorem test_hypotheses_AbsentRegisters :
    (up.on = true ∧ up.barUp = true ∧ spotAt 24 = none) ∧
    ((up.set F.FLT_BOOT_STEP 3).on = true ∧ (up.set F.FLT_BOOT_STEP 3).barUp = true ∧ spotAt 131104 = some (gr 131104, 0, 0, false) ∧
    (up.set F.FLT_BOOT_STEP 3).stopped (gr 131104) 0 = true) ∧
    ((up.set F.FLT_BOOT_STEP 3).on = true ∧ (up.set F.FLT_BOOT_STEP 3).barUp = true ∧ spotAt 0x1D00020 = some (gr 0x1D00020, 0, 0, false) ∧
    (up.set F.FLT_BOOT_STEP 3).stopped (gr 0x1D00020) 0 = true ∧ (gr 0x1D00020).cfg = true ∧ (gr 0x1D00020).wide = false ∧ 0x1D00020 < 2 ^ 26 ∧
    (up.set F.FLT_BOOT_STEP 3).logFull = false) := by decide +kernel

end AbsentRegisters

namespace ConfigurationWritesAreLogged

def reg64 : Reg := ⟨"x",0,1,0,1,0,true,false,.dev,[]⟩
def gr (o : Nat) : Reg := ((regAt o).map (·.1)).getD reg64
def full : State := { up with mgt := { up.mgt with pend := List.replicate 1024 [] } }

theorem test_hypotheses_ConfigurationWritesAreLogged :
    (up.on = true ∧ up.barUp = true ∧ regAt 30408736 = some (gr 30408736, 0, 0) ∧ (gr 30408736).wide = false ∧ (gr 30408736).cfg = true ∧
    (gr 30408736).base ∈ [30408736, 26214400, 36700192] ∧ up.stopped (gr 30408736) 0 = false ∧ up.logFull = false) ∧
    (full.on = true ∧ full.barUp = true ∧ regAt 30408736 = some (gr 30408736, 0, 0) ∧ (gr 30408736).wide = false ∧ (gr 30408736).cfg = true ∧
    (gr 30408736).base ∈ [30408736, 26214400, 36700192] ∧ full.stopped (gr 30408736) 0 = false ∧ full.logFull = true) := by decide +kernel

end ConfigurationWritesAreLogged

namespace ClearsCounters

def cnt : State := ((((up.set F.TRN_LATE 5).set F.SKY_HDR_CRC 3 2).set F.CMT_RETX 4).set F.CLK_STAT_STOPPED_ACC 7).set F.CMT_CTRL_FREEZE 1

theorem test_hypotheses_ClearsCounters :
    (2 < 44 ∧ cnt.on = true ∧ cnt.barUp = true ∧ cnt.fatal = false ∧ 4 ≤ cnt.get F.FLT_BOOT_STEP ∧ cnt.domStopped (84 + 2) = false ∧ cnt.domStopped (24 + 2) = false) ∧
    (((Instr.cmtClear Iface.host 2, Frz.cmt, 31457280) ∈ [(Instr.cmtClear Iface.host 2, Frz.cmt, 31457280), (Instr.clkClear Iface.host 2, Frz.clk, 33554432), (Instr.thmClear Iface.host 2, Frz.thm, 34603008)] ∧
    cnt.logFull = false ∧ 2 < 2 ^ 32 ∧ bit 2 1 = true) ∧ cnt.clocked ∧ (Frz.cmt = Frz.clk → bit 2 2 = false)) :=
  ⟨by decide +kernel,
   ⟨by decide +kernel, by unfold State.clocked; decide +kernel, by decide +kernel⟩⟩

end ClearsCounters

/-! ## Faults, Almanac, management, events -/

namespace FaultControl

def raised : State := (up.fresh.raise 5).set F.FLT_DOM0_STATE 3 128 |>.set F.FLT_DOM0_STATE 3 130 |>.set F.FLT_RETIRED_FE 1 |>.set F.MGT_STAT_CROUPIER 2
def full : State := { up with mgt := { up.mgt with pend := List.replicate 1024 [] } }
/-- Tile 3 retired with its site. -/
def gone : State :=
  ((((((pres up).set F.FLT_DOM0_STATE 3 3).set F.FLT_DOM0_STATE 3 27).set F.FLT_DOM0_STATE 3 87).set F.FLT_RETIRED_TILE 8).set F.SKY_STN_STATUS_STATE 6 3).set F.OMU_STAT_STATE 6 3 0

theorem test_hypotheses_FaultControl :
    (raised.barUp = true ∧ raised.logFull = false ∧ 2 ^ 18 < 2 ^ 32 ∧ bit (2 ^ 18) 18 = true ∧ bit (2 ^ 18) 16 = false ∧ bit (2 ^ 18) 17 = false ∧ 2 ^ 18 % 256 ≠ 165) ∧
    (full.barUp = true ∧ full.logFull = true) ∧
    (raised.barUp = true ∧ raised.logFull = false ∧ 2 ^ 16 + 129 * 256 < 2 ^ 32 ∧ bit (2 ^ 16 + 129 * 256) 16 = true ∧ bit (2 ^ 16 + 129 * 256) 17 = false ∧
    bit (2 ^ 16 + 129 * 256) 18 = false ∧ (2 ^ 16 + 129 * 256) % 256 ≠ 165 ∧ (2 ^ 16 + 129 * 256) / 256 % 256 = 129 ∧ raised.get F.FLT_DOM0_STATE 129 ≠ 3) ∧
    (raised.barUp = true ∧ raised.logFull = false ∧ 2 ^ 16 + 128 * 256 < 2 ^ 32 ∧ bit (2 ^ 16 + 128 * 256) 16 = true ∧ bit (2 ^ 16 + 128 * 256) 17 = false ∧
    bit (2 ^ 16 + 128 * 256) 18 = false ∧ (2 ^ 16 + 128 * 256) % 256 ≠ 165 ∧ (2 ^ 16 + 128 * 256) / 256 % 256 = 128 ∧ 128 ∈ [128, 129, 130] ∧
    raised.get F.FLT_DOM0_STATE 128 = 3) ∧
    ((gone.alive = true ∧ gone.barUp = true ∧ gone.logFull = false ∧ 2 ^ 16 + 3 * 256 < 2 ^ 32 ∧ bit (2 ^ 16 + 3 * 256) 16 = true ∧ bit (2 ^ 16 + 3 * 256) 17 = false ∧
    bit (2 ^ 16 + 3 * 256) 18 = false ∧ (2 ^ 16 + 3 * 256) % 256 ≠ 165 ∧ (2 ^ 16 + 3 * 256) / 256 % 256 = 3 ∧ domSite 3 = some 3 ∧ gone.get F.FLT_DOM0_STATE 3 = 3) ∧ gone.mild) ∧
    (gone.get F.OMU_STAT_STATE 3 0 = 6 ∧ gone.ringsLit = false ∧ (gone.set F.TWK_STAT_LIGHT 2).ringsLit = true ∧ gone.cmp.passes = []) :=
  ⟨by decide +kernel, by decide +kernel, by decide +kernel, by decide +kernel, ⟨by decide +kernel, mild_of (by decide +kernel)⟩, by decide +kernel⟩

end FaultControl

namespace AlmanacCommandsStart

def busy : State := up.set F.ALM_STAT_STATE 1

theorem test_hypotheses_AlmanacCommandsStart :
    ((1, Instr.read Iface.host) ∈ [(1, Instr.read Iface.host), (2, Instr.program Iface.host), (3, Instr.verifyFw Iface.host), (4, Instr.activateFw Iface.host), (5, Instr.guardUpdate Iface.host), (6, Instr.saveLife Iface.host), (7, Instr.clearLog Iface.host), (8, Instr.clearDump Iface.host), (9, Instr.eraseImage Iface.host)] ∧
    up.barUp = true ∧ up.logFull = false ∧ up.get F.ALM_STAT_STATE = 0) ∧
    ((1, Instr.read Iface.host) ∈ [(1, Instr.read Iface.host), (2, Instr.program Iface.host), (3, Instr.verifyFw Iface.host), (4, Instr.activateFw Iface.host), (5, Instr.guardUpdate Iface.host), (6, Instr.saveLife Iface.host), (7, Instr.clearLog Iface.host), (8, Instr.clearDump Iface.host), (9, Instr.eraseImage Iface.host)] ∧
    busy.barUp = true ∧ busy.logFull = false ∧ busy.get F.ALM_STAT_STATE ≠ 0) := by decide +kernel

end AlmanacCommandsStart

namespace AlmanacRecords

def a0 : State := up.set F.THM_STAT_ALM_OK 1

theorem test_hypotheses_AlmanacRecords :
    (up.on = true ∧ up.almUp = false) ∧
    (a0.on = true ∧ a0.almUp = true) ∧
    (a0.alive = true ∧ a0.almUp = true) ∧
    (up.alive = true ∧ up.almUp = false) := by decide +kernel

end AlmanacRecords

namespace ManagementRequests

def u0 : State := up.set F.MGT_IDSTATE_STATE 1
def qt (g : Option (List Byte)) : State := { u0 with mgt := { u0.mgt with quote := some { body := List.replicate 100 1, sig := g } } }
def reg64 : Reg := ⟨"x",0,1,0,1,0,true,false,.dev,[]⟩
def gr (o : Nat) : Reg := ((regAt o).map (·.1)).getD reg64
def smpQuote_0 : Quote := { body := List.replicate 100 1, sig := none }
def smpQuote_1 : Quote := { body := List.replicate 100 1, sig := some (List.replicate 32 1) }

theorem test_hypotheses_ManagementRequests_0 :
    (u0.barUp = true ∧ Iface.mctp Iface.smbus = true ∧ u0.get F.MGT_STAT_CROUPIER = 0 ∧ u0.get F.MGT_IDSTATE_STATE = 1 ∧ 0 ≤ 1024 ∧ 0 + 0 ≤ 16352) ∧
    (u0.barUp = true ∧ Iface.mctp Iface.smbus = true ∧ u0.get F.MGT_STAT_CROUPIER = 0 ∧ u0.get F.MGT_IDSTATE_STATE = 1 ∧ (1024 < 131104 ∨ 16352 < 0 + 131104)) ∧
    ((u0.barUp = true ∧ Iface.mctp Iface.smbus = true ∧ u0.get F.MGT_STAT_CROUPIER = 0 ∧ u0.get F.MGT_IDSTATE_STATE = 1 ∧ (List.replicate 32 1).length = 32) ∧
    (∀ (q : Quote), u0.mgt.quote = some q → q.sig.isSome = true)) ∧
    ((qt none).barUp = true ∧ Iface.mctp Iface.smbus = true ∧ (qt none).get F.MGT_STAT_CROUPIER = 0 ∧ (qt none).get F.MGT_IDSTATE_STATE = 1 ∧
    (List.replicate 32 1).length = 32 ∧ (qt none).mgt.quote = some smpQuote_0 ∧ smpQuote_0.sig = none) ∧
    ((qt (some (List.replicate 32 1))).barUp = true ∧ Iface.mctp Iface.smbus = true ∧ (qt (some (List.replicate 32 1))).get F.MGT_STAT_CROUPIER = 0 ∧
    (qt (some (List.replicate 32 1))).get F.MGT_IDSTATE_STATE = 1 ∧ (qt (some (List.replicate 32 1))).mgt.quote = some smpQuote_1 ∧
    smpQuote_1.sig = some (List.replicate 32 1) ∧ 0 ≤ 1024 ∧ 0 + 0 ≤ (smpQuote_1.body ++ List.replicate 32 1).length) ∧
    ((u0.barUp = true ∧ Iface.mctp Iface.smbus = true ∧ u0.get F.MGT_STAT_CROUPIER = 0 ∧ u0.get F.MGT_IDSTATE_STATE = 1) ∧
    (∀ (q : Quote), u0.mgt.quote = some q → q.sig = none)) ∧
    ((qt none).barUp = true ∧ Iface.mctp Iface.smbus = true ∧ (qt none).mgt.quote = some smpQuote_0 ∧ smpQuote_0.sig = none ∧ (List.replicate 17088 0).length = 17088) ∧
    ((up.set F.FLT_BOOT_STEP 2).on = true ∧ (up.set F.FLT_BOOT_STEP 2).barUp = false) ∧
    (u0.barUp = true ∧ Iface.mctp Iface.smbus = true ∧ 0 ≤ 1 ∧ 0 < 4 ∧ 4 < 255) ∧
    (u0.barUp = true ∧ Iface.mctp Iface.smbus = true ∧ (1 < 0 ∨ 0 = 0 ∨ 255 ≤ 0)) ∧
    (u0.barUp = true ∧ Iface.mctp Iface.smbus = true ∧ (¬4 ∈ [255, 0, 126])) ∧
    (u0.barUp = true ∧ Iface.mctp Iface.smbus = true ∧ regAt 37748744 = some (gr 37748744, 0, 0) ∧ (gr 37748744).wide = false ∧ u0.stopped (gr 37748744) 0 = false ∧
    37748744 % 4 = 0 ∧ 37748744 < 67108864) ∧
    (u0.barUp = true ∧ Iface.mctp Iface.smbus = true ∧ regAt 131104 = some (gr 131104, 0, 0) ∧ (gr 131104).wide = true ∧ (gr 131104).base ≠ 65536 ∧
    u0.stopped (gr 131104) 0 = false ∧ 131104 % 8 = 0 ∧ 131104 < 67108864 ∧ spotAt (131104 + 4) = some (gr 131104, 0, 0, true)) := by
  and_intros <;> decide +kernel

theorem test_hypotheses_ManagementRequests_1 :
    (u0.barUp = true ∧ Iface.mctp Iface.smbus = true ∧ (0 ≠ 4 ∧ 0 ≠ 8 ∨ 0 % 0 ≠ 0 ∨ 67108864 ≤ 0)) := by decide +kernel

end ManagementRequests

namespace EventFifo

def ev (n : Nat) : State := (List.range n).foldl (fun s k => s.record 2 1 k) up
def one : State := { (ev 1) with evf := { (ev 1).evf with words := (ev 1).evf.words.drop 1 } }
def w0 : Nat := (ev 1).evf.words.headD 0

theorem test_hypotheses_EventFifo :
    ((ev 1).barUp = true ∧ (ev 1).evf.lost = 0 ∧ (ev 1).get F.EVF_STAT_FLUSHING = 0 ∧ (ev 1).evf.words = [w0, 0] ∧ evfFails 1 = true ∧ evfFails 3 = false) ∧
    (up.barUp = true ∧ up.evf.lost = 0 ∧ up.get F.EVF_STAT_FLUSHING = 0 ∧ up.evf.words = []) ∧
    ((up.barUp = true ∧ up.evf.lost = 0 ∧ up.get F.EVF_STAT_FLUSHING = 0 ∧ bit 1 0 = true ∧ 1 < 2 ^ 32) ∧
    (∀ (w : Nat) (ws : List Nat), up.evf.words = w :: ws → firstWord w = true)) ∧
    (one.barUp = true ∧ one.evf.lost = 0 ∧ one.get F.EVF_STAT_FLUSHING = 0 ∧ bit 1 0 = true ∧ 1 < 2 ^ 32 ∧ one.evf.words = [0] ∧ firstWord 0 = false) :=
  ⟨by decide +kernel,
   by decide +kernel,
   ⟨by decide +kernel, fun _ _ h => by cases h⟩,
   by decide +kernel⟩

end EventFifo

namespace EventRecords

def lost (n : Nat) : State := { up with evf := { up.evf with words := List.replicate n 3, lost := 9 } }

theorem test_hypotheses_EventRecords :
    ((lost 2).barUp = true ∧ (lost 2).evf.words = [3, 3] ∧ 0 < (lost 2).evf.lost ∧ (lost 2).get F.EVF_STAT_FLUSHING = 0 ∧ [3].length + 2 ≤ 4096) ∧
    ((lost 4096).barUp = true ∧ (lost 4096).evf.words = 3 :: List.replicate 4095 3 ∧ 0 < (lost 4096).evf.lost ∧ (lost 4096).get F.EVF_STAT_FLUSHING = 0 ∧
    4096 < (List.replicate 4095 3).length + 2) :=
  ⟨by decide +kernel,
   by decide +kernel, List.replicate_succ, by decide +kernel, by decide +kernel, by rw [List.length_replicate]; decide⟩

end EventRecords

/-! ## Power, resets, boot, domains -/

namespace PowerOnAndLoss

def pgOn : State := { up with pins := { up.pins with pgIn := true } }
def cut (n : Nat) : State := ({ pgOn with mgt := { pgOn.mgt with cmd := some (n, false) } }.set F.ALM_STAT_STATE 1).set F.GRD_WP_FW_UPDATE 1
def cutP : State := (cut 2).set F.ALM_ADDR (imageBase (cut 2).idle)
def smpPower_0 : Power := .waiting
def smpInstr_0 : Instr := .pgInDeassert

theorem test_hypotheses_PowerOnAndLoss :
    (State.reset.pins.pgIn = false) ∧
    (pgOn.pins.pgIn = true) ∧
    (pgOn.on = true ∧ (smpInstr_0 = Instr.pgInDeassert ∧ smpPower_0 = Power.waiting ∨ ∃ (rail : Nat), rail < 14 ∧ smpInstr_0 = Instr.railLoss rail ∧
    smpPower_0 = Power.stopped)) ∧
    ((cut 6).on = true ∧ (cut 6).get F.ALM_STAT_STATE = 1 ∧ (cut 6).mgt.cmd = some (6, false)) ∧
    (cutP.on = true ∧ cutP.get F.ALM_STAT_STATE = 1 ∧ cutP.mgt.cmd = some (2, false) ∧ cutP.boot.frozen = none ∧ cutP.isSet F.GRD_WP_FW_UPDATE = true ∧
      cutP.get F.ALM_LEN ≤ 65536 ∧ imageBase cutP.idle ≤ cutP.get F.ALM_ADDR ∧
      cutP.get F.ALM_ADDR + cutP.get F.ALM_LEN ≤ imageBase cutP.idle + 0x3000000) := by decide +kernel

end PowerOnAndLoss

namespace DeviceResets

def busy : State := ((((up.wr 100 3).set F.TRN_NUM 7).set F.TWK_ELS_EN 1 2).set F.FLT_DOM0_GEN 9 30).set F.SKY_STN_STATUS_STATE 3 4
def al (s : State) : State := { s with boot := { s.boot with almOk := true } }
def inP : State := al ({ up with pins := { up.pins with perst := true } }.set F.FLT_BOOT_STEP 0)
def pat : State := al (up.set F.FLT_STAT_STATE 3)
def np (s : State) : State := al { s with pins := { s.pins with perst := false } }

theorem test_hypotheses_DeviceResets :
    ((np busy).on = true ∧ (np busy).get F.FLT_STAT_STATE = 0 ∧ (np busy).pins.perst = false ∧ (np busy).flt.asked = none ∧ (np busy).boot.counted.length < 3) ∧
    (inP.on = true ∧ inP.fatal = false ∧ inP.pins.perst = true ∧ inP.get F.FLT_BOOT_STEP = 0 ∧ inP.get F.FLT_STAT_STATE = 0 ∧ inP.boot.almOk = true ∧
    (inP.boot.cold = true ∨ inP.get F.FLT_BOOT_FAILS < 3)) ∧
    ((np busy).on = true ∧ (np busy).barUp = true ∧ (np busy).logFull = false ∧ (np busy).get F.FLT_STAT_STATE = 0 ∧ (np busy).flt.asked = none ∧ (np busy).boot.counted.length < 3 ∧
    (np busy).pins.perst = false ∧ (np busy).boot.almOk = true ∧ (np busy).get F.FLT_BOOT_FAILS < 3 ∧ 165 = 165) ∧
    ((np pat).on = true ∧ (np pat).logFull = false ∧ (np pat).patience = true ∧ 131072 = 131072 ∧ (np pat).pins.perst = false ∧ (np pat).boot.almOk = true) ∧
    (up.barUp = true ∧ up.logFull = false ∧ up.patience = false ∧ 131072 = 131072) := by decide +kernel

end DeviceResets

namespace DumpsAndRequests

def al (s : State) : State := { s with boot := { s.boot with almOk := true } }
def d1 : Dump := { src := 700, kind := 3, transit := 9 }
def d2 : Dump := { src := 5, kind := 2, transit := 9 }
def wd (ds : List Dump) (asked : Option Nat) (s : State) : State := { s with flt := { s.flt with dumps := ds, asked := asked } }
def np (s : State) : State := al { s with pins := { s.pins with perst := false } }
def late (s : State) : State := { s.set F.MGT_STAT_CROUPIER 1 with now := 3000000000 }

theorem test_hypotheses_DumpsAndRequests :
    (up.on = true ∧ up.get F.FLT_STAT_STATE = 0 ∧ up.flt.asked = none) ∧
    ((np (wd [d2] none up)).on = true ∧ (np (wd [d2] none up)).flt.dumps = [d2] ∧ (np (wd [d2] none up)).get F.MGT_STAT_CROUPIER = 0 ∧ (np (wd [d2] none up)).flt.asked = none) ∧
    ((np (wd [d1, d2] (some 3) up)).flt.dumps = [d1, d2] ∧ [d2] ≠ [] ∧ d1.kind ≠ 2 ∧ (np (wd [d1, d2] (some 3) up)).get F.FLT_DUMP_VALID ≠ 1 ∧
    (np (wd [d1, d2] (some 3) up)).retired 24 = false) ∧
    ((np (wd [d1] (some 3) up)).on = true ∧ (np (wd [d1] (some 3) up)).flt.dumps = [d1] ∧ (np (wd [d1] (some 3) up)).get F.MGT_STAT_CROUPIER = 0 ∧
    (np (wd [d1] (some 3) up)).flt.asked = some 3 ∧ (np (wd [d1] (some 3) up)).get F.FLT_STAT_STATE = 0 ∧ (np (wd [d1] (some 3) up)).get F.FLT_DUMP_VALID = 0 ∧
    (np (wd [d1] (some 3) up)).retired 24 = false ∧ (np (wd [d1] (some 3) up)).boot.counted.length < 2 ∧ (np (wd [d1] (some 3) up)).pins.perst = false ∧
    (np (wd [d1] (some 3) up)).boot.almOk = true ∧ (np (wd [d1] (some 3) up)).get F.FLT_BOOT_FAILS < 3) ∧
    ((late (np (wd [d1] (some 3) up))).on = true ∧ (late (np (wd [d1] (some 3) up))).flt.dumps ≠ [] ∧ (late (np (wd [d1] (some 3) up))).get F.MGT_STAT_CROUPIER ≠ 0 ∧
    (late (np (wd [d1] (some 3) up))).flt.asked = some 3 ∧ 3 + 2000000000 ≤ (late (np (wd [d1] (some 3) up))).now ∧ (late (np (wd [d1] (some 3) up))).boot.counted.length < 2 ∧
    (late (np (wd [d1] (some 3) up))).boot.almOk = true ∧ (late (np (wd [d1] (some 3) up))).get F.FLT_BOOT_FAILS < 3) ∧
    (up.on = true ∧ up.flt.dumps = []) ∧ ((late (np (wd [d1] none up))).get F.MGT_STAT_CROUPIER ≠ 0 ∧ (late (np (wd [d1] none up))).flt.asked = none) := by decide +kernel

end DumpsAndRequests

namespace BootSteps

def at_ (k : Nat) (s : State) : State := { (s.set F.FLT_BOOT_STEP k) with boot := { s.boot with done := List.range k } }
def bs : State := (up.wr 64 7)
def cold (s : State) : State := { s with boot := { s.boot with cold := true } }
def warmed (s : State) : State := { s with boot := { s.boot with cold := false } }
def f3 (s : State) : State := s.set F.FLT_BOOT_FAILS 3
/-- No copy of the guard record holds: both stand erased. -/
def noGuard : State := { bs with mgt := { bs.mgt with erased := [0x10, 0x18] } }
/-- The light on, and the OMUs of tile 0 lit and warm. -/
def lit4 : State :=
  (List.range 64).foldl (fun s i => s.set F.TWK_RING_STATE 4 0 (768 + i)) (((at_ 4 (pres bs)).set F.TWK_STAT_LIGHT 2).set F.OMU_STAT_TEMP_OK 1 0 0)
def piloted : State := { at_ 5 bs with omus := { bs.omus with pilots := [(0, 5, true)] } }
def smpBootReport_0 : BootReport := {}
def smpBootReport_1 : BootReport := {imgA := false}
def smpBootReport_2 : BootReport := {imgA := false, imgB := false}

theorem test_hypotheses_BootSteps :
    ((at_ 1 bs).alive = true ∧ (at_ 1 bs).stepRuns 1 = true ∧ smpBootReport_0.hubOk = true ∧ (at_ 1 bs).get F.FLT_STAT_BOOT_MODE ≠ 3 ∧
    0 = (if (at_ 1 bs).get F.FLT_STAT_BOOT_MODE = 1 then 1 - (at_ 1 bs).get F.ALM_STAT_NEXT else (at_ 1 bs).get F.ALM_STAT_NEXT) ∧ 0 ≤ 1 ∧
    (if 0 = 0 then smpBootReport_0.imgA else smpBootReport_0.imgB) = true) ∧
    ((at_ 1 bs).alive = true ∧ (at_ 1 bs).stepRuns 1 = true ∧ smpBootReport_1.hubOk = true ∧ (at_ 1 bs).get F.FLT_STAT_BOOT_MODE ≠ 3 ∧
    (246 < 248 ∧ (at_ 1 bs).get F.FLT_SRC_SEV 246 ≤ 2) ∧
    0 = (if (at_ 1 bs).get F.FLT_STAT_BOOT_MODE = 1 then 1 - (at_ 1 bs).get F.ALM_STAT_NEXT else (at_ 1 bs).get F.ALM_STAT_NEXT) ∧ 0 ≤ 1 ∧
    (if 0 = 0 then smpBootReport_1.imgA else smpBootReport_1.imgB) = false ∧ (if 0 = 0 then smpBootReport_1.imgB else smpBootReport_1.imgA) = true) ∧
    ((f3 (at_ 1 bs)).alive = true ∧ (f3 (at_ 1 bs)).stepRuns 1 = true ∧ smpBootReport_2.hubOk = true ∧ (f3 (at_ 1 bs)).get F.FLT_STAT_BOOT_MODE ≠ 3 ∧
    smpBootReport_2.imgA = false ∧ smpBootReport_2.imgB = false ∧ 3 ≤ (f3 (at_ 1 bs)).get F.FLT_BOOT_FAILS ∧ (f3 (at_ 1 bs)).get F.FLT_SRC_SEV 246 ≠ 4) ∧
    (((f3 (at_ 1 bs)).alive = true ∧ (f3 (at_ 1 bs)).get F.FLT_STAT_STATE = 0 ∧ 1 ≤ (f3 (at_ 1 bs)).get F.FLT_BOOT_STEP ∧ (f3 (at_ 1 bs)).get F.FLT_BOOT_STEP < 9 ∧
    (f3 (at_ 1 bs)).boot.suspend = false ∧ 3 ≤ (f3 (at_ 1 bs)).get F.FLT_BOOT_FAILS) ∧
    ((f3 (at_ 1 bs)).get F.FLT_BOOT_STEP = 1 → (f3 (at_ 1 bs)).get F.FLT_STAT_BOOT_MODE ≠ 3)) ∧
    ((f3 (cold (at_ 4 bs))).alive = true ∧ (f3 (cold (at_ 4 bs))).stepRuns 6 = true ∧ smpBootReport_0.hubOk = true ∧ smpBootReport_0.dummyOk = true ∧
    smpBootReport_0.bad = [] ∧ (f3 (cold (at_ 4 bs))).boot.cold = true ∧ ((f3 (cold (at_ 4 bs))).retired 24 = false ∨ (f3 (cold (at_ 4 bs))).retired 30 = false)) ∧
    ((at_ 8 bs).alive = true ∧ (at_ 8 bs).stepRuns 8 = true ∧ smpBootReport_0.hubOk = true ∧ smpBootReport_0.dummyOk = true ∧ smpBootReport_0.bad = []) ∧
    ((f3 (at_ 2 noGuard)).alive = true ∧ (f3 (at_ 2 noGuard)).mild ∧ (f3 (at_ 2 noGuard)).stepRuns 2 = true ∧ (f3 (at_ 2 noGuard)).get F.FLT_STAT_BOOT_MODE ≠ 2 ∧
    3 ≤ (f3 (at_ 2 noGuard)).get F.FLT_BOOT_FAILS ∧ (f3 (at_ 2 noGuard)).bootGuard.isNone = true) ∧
    ((warmed (at_ 3 bs)).mild ∧ (warmed (at_ 3 bs)).stepRuns 3 = true ∧ (at_ 3 bs).clk.rails = [] ∧ (cold (at_ 3 bs)).mild ∧ (cold (at_ 3 bs)).stepRuns 3 = true ∧ (f3 (at_ 3 bs)).mild ∧
    (f3 (at_ 3 bs)).stepRuns 3 = true ∧ (f3 (at_ 3 bs)).get F.FLT_SRC_SEV 246 ≠ 4) ∧
    (lit4.mild ∧ lit4.stepRuns 4 = true ∧ lit4.get F.TWK_STAT_LIGHT = 2 ∧ lit4.present 0 = true ∧ lit4.retired 0 = false ∧ lit4.get F.OMU_STAT_STATE 0 0 = 0 ∧
    lit4.omuLit 0 0 = true ∧ lit4.isSet F.OMU_STAT_TEMP_OK 0 0 = true ∧ lit4.omus.uncal = [] ∧ lit4.omus.retry = [] ∧ lit4.omus.pilots = [] ∧ lit4.cmp.passes = [] ∧
    (at_ 4 bs).mild ∧ (at_ 4 bs).stepRuns 4 = true ∧ (at_ 4 bs).get F.TWK_STAT_LIGHT = 0) ∧
    ((at_ 5 bs).mild ∧ (at_ 5 bs).stepRuns 5 = true ∧ (at_ 5 bs).omus.pilots = [] ∧ piloted.mild ∧ piloted.stepRuns 5 = true ∧ ∃ p ∈ piloted.omus.pilots, p.2.2 = true) ∧
    ((warmed (at_ 4 bs)).mild ∧ (warmed (at_ 4 bs)).stepRuns 6 = true ∧ (warmed (at_ 4 bs)).retired 24 = false ∧ regionOf 64 = .hbm 0) ∧
    ((warmed (at_ 7 bs)).mild ∧ (warmed (at_ 7 bs)).stepRuns 7 = true ∧ (warmed (at_ 7 bs)).isSet F.CHT_ACTIVE_DEFAULT = false ∧ (at_ 7 bs).mild ∧ (at_ 7 bs).stepRuns 7 = true ∧
    leNat ((warmed (at_ 7 bs)).rdN (slotBase ((warmed (at_ 7 bs)).slotStack 0) ((warmed (at_ 7 bs)).get F.CHT_ACTIVE_SLOT) + 16) 8) < 64) := by
  and_intros <;> (first | exact mild_of (by decide +kernel) | exact ⟨_, List.mem_cons_self, rfl⟩ | decide +kernel)

end BootSteps

namespace FatalSources

def sv (s : State) (k : Nat) : State := s.set F.FLT_SRC_SEV 4 k
def base : State := (sv (sv (sv up 224) 239) 240).set F.TWK_ELS_EN 1 2
def ld : State := base.set F.GRD_STAT_LOADED 1
def smpGuardReport_0 : GuardReport := {}
def smpGuardReport_1 : GuardReport := { shadow := true }
def far : State := { ld with cmt := { ld.cmt with egress := 1000 } }
def hot : State := { ld with thm := { ld.thm with excess := [(0, 1)] }, now := 1000000 }
def rails : List (Nat × Nat × Bool) := (List.range 14).map fun k => (900, 100 * (k + 4), false)

theorem test_hypotheses_FatalSources :
    (base.alive = true ∧ base.get F.FLT_SRC_SEV 240 = 4) ∧
    (ld.alive = true ∧ ld.isSet F.GRD_STAT_LOADED = true ∧ ld.get F.FLT_SRC_SEV 239 = 4 ∧
    smpGuardReport_1.shadow = true) ∧
    (far.alive = true ∧ far.isSet F.GRD_STAT_LOADED = true ∧ far.get F.FLT_SRC_SEV 239 = 4 ∧ 105 * far.get F.GRD_LIMITS_EGRESS * 1000000 < 100 * 8 * far.cmt.egress) ∧
    (base.alive = true ∧ 100 * 8 * base.cmt.egress ≤ 105 * base.get F.GRD_LIMITS_EGRESS * 1000000 ∧ smpGuardReport_0.shadow = false) ∧
    (hot.alive = true ∧ rails.length = 14 ∧ (237 < 248 ∧ hot.get F.FLT_SRC_SEV 237 ≤ 2) ∧ hot.get F.FLT_SRC_SEV 239 = 4 ∧ hot.isSet F.GRD_STAT_LOADED = true ∧
    105 * max 1000 (hot.get F.GRD_LIMITS_HTR_CAP) < 100 * (rails.getD 7 (0, 0, false)).2.1 ∧ tabGet 0 hot.thm.excess 0 = 0 + 1 ∧ 0 + 1000000 ≤ hot.now) ∧
    (base.on = true) ∧
    (base.alive = true ∧ base.get F.FLT_SRC_SEV 224 = 4) := by decide +kernel

end FatalSources

namespace InterlockOpens

def sv (s : State) (k : Nat) : State := s.set F.FLT_SRC_SEV 4 k
def base : State := (sv (sv (sv up 224) 239) 240).set F.TWK_ELS_EN 1 2
def four (s : State) : State := (s.set F.FLT_BOOT_STEP 4).set F.TWK_STAT_INTLK 0

theorem test_hypotheses_InterlockOpens :
    ((base.on = true ∧ base.get F.FLT_SRC_SEV 224 = 4) ∧ (∃ (n : Nat), n < 8 ∧ base.get F.TWK_ELS_EN n = 1)) ∧
    (up.on = true ∧ (∀ (n : Nat), n < 8 → up.get F.TWK_ELS_EN n ≠ 1)) ∧
    ((four up).alive = true ∧ (four up).get F.FLT_BOOT_STEP = 4 ∧ (four up).light.step = 0 ∧ (four up).get F.MGT_STAT_CROUPIER = 0 ∧ (four up).get F.FLT_STAT_STATE = 0 ∧
    (four up).get F.TWK_STAT_INTLK = 0) :=
  ⟨⟨by decide +kernel, by decide +kernel⟩,
   by decide +kernel,
   by decide +kernel⟩

end InterlockOpens

namespace DieResets

def sv (s : State) (k v : Nat) : State := s.set F.FLT_SRC_SEV v k
def base : State := { (sv (sv (up.set F.FLT_DOM0_GEN 7 3) 44 2) 80 1) with now := 500 }
def esc : State := pres (((base.set F.FLT_DOM0_WINDOW 2 3).set F.FLT_DOM0_WINDOW 2 81).set F.FLT_DOM0_WINDOW 2 68)
def smpInstr_0 : Instr := .tileStackReset 3
def fenced : State := base.set F.FLT_DOM0_STATE 2 3
/-- Out of reset next: domain `d`. -/
def out (d : Nat) : State := base.set F.FLT_DOM0_STATE 1 d
def named : State := charted { plain with constell := some { peers := [⟨1, false, true, 0, 0, [(2, 0)]⟩] } } (out 80)

theorem test_hypotheses_DieResets :
    ((((∃ (i : Nat), i < 24 ∧ smpInstr_0 = Instr.tileStackReset i ∧ 3 = i ∧ 3 = i ∧ 47 = 44 + i) ∨ (∃ (i : Nat), i < 12 ∧ smpInstr_0 = Instr.mbdReset i ∧ 3 = 68 + i ∧
    3 = 24 + i ∧ 47 = 68 + i) ∨ ∃ (i : Nat), i < 4 ∧ smpInstr_0 = Instr.ioChipletReset i ∧ 3 = 80 + i ∧ 3 = 36 + i ∧ 47 = 80 + i) ∧ base.alive = true ∧
    base.patience = false ∧ base.get F.FLT_DOM0_STATE 3 = 0 ∧ base.get F.FLT_DOM0_WINDOW 3 < 2) ∧ base.mild) ∧
    ((((∃ (i : Nat), i < 24 ∧ smpInstr_0 = Instr.tileStackReset i ∧ 3 = i ∧ 3 = i ∧ 47 = 44 + i) ∨ (∃ (i : Nat), i < 12 ∧ smpInstr_0 = Instr.mbdReset i ∧ 3 = 68 + i ∧
    3 = 24 + i ∧ 47 = 68 + i) ∨ ∃ (i : Nat), i < 4 ∧ smpInstr_0 = Instr.ioChipletReset i ∧ 3 = 80 + i ∧ 3 = 36 + i ∧ 47 = 80 + i) ∧ esc.alive = true ∧
    esc.patience = false ∧ esc.get F.FLT_DOM0_STATE 3 = 0 ∧ 2 ≤ esc.get F.FLT_DOM0_WINDOW 3 ∧ esc.present 3 = true ∧ esc.get F.SKY_STN_STATUS_STATE 3 ≠ 6) ∧ esc.mild) ∧
    (fenced.get F.FLT_DOM0_STATE 3 = 2 ∧ fenced.alive = true ∧ fenced.patience = false ∧ fenced.get F.FLT_DOM0_WINDOW 3 < 2 ∧ fenced.mild) ∧
    (dieDom 24 = some 68 ∧ (out 68).alive = true ∧ (out 68).get F.FLT_DOM0_STATE 68 = 1 ∧ (out 68).get F.FLT_DOM0_STATE (24 + 24) = 0 ∧ (out 68).siteLocked 24 = true) ∧
    (dieDom 3 = some 3 ∧ (out 3).alive = true ∧ (out 3).get F.FLT_DOM0_STATE 3 = 1 ∧ (out 3).siteLocked 3 = false) ∧
    (dieDom 36 = some 80 ∧ named.alive = true ∧ named.get F.FLT_DOM0_STATE 80 = 1 ∧ 2 / 8 = 36 - 36 ∧ named.portNamed 2 = true) :=
  ⟨⟨by decide +kernel, mild_of (by decide +kernel)⟩,
   ⟨by decide +kernel, mild_of (by decide +kernel)⟩,
   ⟨by decide +kernel, by decide +kernel, by decide +kernel, by decide +kernel, mild_of (by decide +kernel)⟩,
   by decide +kernel,
   by decide +kernel,
   by decide +kernel⟩

end DieResets

namespace HubDomains

def base : State := { (up.set F.FLT_DOM0_GEN 7 129) with now := 500 }
def rs (d : Nat) : State := base.set F.FLT_DOM0_STATE 1 d
/-- With its rings lit, a domain in reset. -/
def shone (d : Nat) : State := (rs d).set F.TWK_STAT_LIGHT 2
def taking : State := { base with tally := { base.tally with takeover := some 60 } }
def win : State := { (base.set F.FLT_DOM0_WINDOW 2 3) with flt := { base.flt with window := [(2,4),(3,6),(3,9)] } }

theorem test_hypotheses_HubDomains :
    ((1 < 2 ∧ base.alive = true ∧ base.patience = false ∧ base.get F.FLT_DOM0_STATE (128 + 1) = 0 ∧ base.get F.FLT_DOM0_WINDOW (128 + 1) < 2 ∧
    base.get F.TAL_STAT_DEALER_HUB ≠ 1) ∧ base.mild) ∧
    ((0 < 2 ∧ base.alive = true ∧ base.patience = false ∧ base.get F.FLT_DOM0_STATE (128 + 0) = 0 ∧ base.get F.FLT_DOM0_WINDOW (128 + 0) < 2 ∧
    base.get F.TAL_STAT_DEALER_HUB = 0 ∧ base.tally.takeover = none ∧ taking.alive = true ∧ taking.get F.TAL_STAT_DEALER_HUB = 0 ∧ taking.tally.takeover ≠ none) ∧ base.mild ∧ taking.mild) ∧
    ((base.alive = true ∧ base.patience = false ∧ base.get F.FLT_DOM0_STATE 130 = 0 ∧ base.get F.FLT_DOM0_WINDOW 130 < 2) ∧ base.calm 243) ∧
    ((rs 130).alive = true ∧ (rs 130).get F.FLT_DOM0_STATE 130 = 1) ∧
    (1 < 2 ∧ (rs 129).alive = true ∧ (rs 129).get F.FLT_DOM0_STATE (128 + 1) = 1) ∧
    (base.alive = true ∧ base.get F.FLT_DOM0_STATE ≠ 1) ∧
    (3 < 44 ∧ (rs 87).alive = true ∧ (rs 87).get F.FLT_DOM0_STATE (84 + 3) = 1 ∧ (rs 87).get F.FLT_DOM0_STATE (24 + 3) ≠ 1 ∧ (rs 87).ringsLit = false) ∧
    ((shone 87).alive = true ∧ (shone 87).get F.FLT_DOM0_STATE (84 + 3) = 1 ∧ (shone 87).get F.FLT_DOM0_STATE (24 + 3) ≠ 1 ∧ (shone 87).ringsLit = true) ∧
    (win.alive = true ∧ List.find? (fun (p : Nat × Nat) => decide (p.fst = 3)) win.flt.window = some (3, 6)) :=
  ⟨⟨by decide +kernel, mild_of (by decide +kernel)⟩,
   ⟨by decide +kernel, mild_of (by decide +kernel), mild_of (by decide +kernel)⟩,
   ⟨by decide +kernel, by unfold State.calm; decide +kernel⟩,
   by decide +kernel,
   by decide +kernel,
   by decide +kernel,
   by decide +kernel,
   by decide +kernel,
   by decide +kernel⟩

end HubDomains

/-! ## Temperature, power, clocks -/

namespace SensorsAndPower

def b : State := sev 238 4 (pres up)

/-- A sample with readings of a tile's compute die and site, of a stack's MBD and of the Almanac. -/
def smpReads : SensorReport := { dies := [(0, [200, 204]), (48, [180, 190]), (92, [200]), (122, [180])] }

theorem test_hypotheses_SensorsAndPower :
    ((b.alive = true ∧ b.get F.FLT_SRC_SEV 238 = 4) ∧ b.mild) ∧
    ((0, [200, 204]) ∈ smpReads.dies ∧ (smpReads.dies.map fun p => p.1).Nodup ∧ [200, 204].length ≤ 256 ∧ b.goodReads 0 [200, 204] ≠ [] ∧
    (48, [180, 190]) ∈ smpReads.dies ∧ (92, [200]) ∈ smpReads.dies ∧ (122, [180]) ∈ smpReads.dies ∧ b.goodReads 48 [180, 190] ≠ [] ∧ b.goodReads 92 [200] ≠ [] ∧
    b.present 0 = true ∧ b.retired 0 = false ∧ b.present 24 = true ∧ b.retired 24 = false) ∧
    ((0 < 12 ∧ [200] ≠ [] ∧ [200].length ≤ 256 ∧ b.alive = true ∧ b.goodReads 104 [200] ≠ [] ∧ (b.thm.failed = [] ∧ ∀ x ∈ [200], -80 ≤ x ∧ x ≤ 600 ∧ (2 * x - medianTwice [200]).natAbs ≤ 80) ∧
    highest (b.goodReads 104 [200]) < b.tripAt F.GRD_TRIP_HBM 105) ∧ b.calm 234 ∧ b.calm 235) ∧
    ((0 < 12 ∧ [420, 700] ≠ [] ∧ [420, 700].length ≤ 256 ∧ b.alive = true ∧ b.goodReads 104 [420, 700] ≠ [] ∧ ([420, 700][1]? = some 700 ∧ 600 < 700) ∧
    b.tripAt F.GRD_TRIP_HBM 105 ≤ highest (b.goodReads 104 [420, 700]) ∧ b.get F.FLT_SRC_SEV 238 = 4) ∧ b.calm 234 ∧ b.calm 235) ∧
    (0 < 24 ∧ b.alive = true ∧ 0 < 16 ∧ 0 < 3) ∧
    (0 < 24 ∧ b.alive = true ∧ 16 ≤ 16 ∧ b.get F.FLT_SRC_SEV 238 = 4) ∧
    ((0 < 24 ∧ b.alive = true) ∧ b.calm (44 + 0)) ∧
    ((b.alive = true ∧ (List.replicate 14 (750, 3000, true)).length = 14) ∧ b.calm 237) :=
  ⟨⟨by decide +kernel, mild_of (by decide +kernel)⟩,
   by decide +kernel,
   ⟨by decide +kernel, by unfold State.calm; decide +kernel⟩,
   ⟨by decide +kernel, by unfold State.calm; decide +kernel⟩,
   by decide +kernel,
   by decide +kernel,
   ⟨by decide +kernel, by unfold State.calm; decide +kernel⟩,
   ⟨by decide +kernel, by unfold State.calm; decide +kernel⟩⟩

end SensorsAndPower

namespace DroopAndReference

def b : State := { up with now := 1000 }
def dr : State := { (b.set F.CLK_DIE_DROOP 2 3) with clk := { b.clk with stretch := [(3, 55440001)] } }
def tr : State := { b with clk := { b.clk with trefAt := some 7 } }

theorem test_hypotheses_DroopAndReference :
    ((0 < 24 ∧ 0 < 4 ∧ b.alive = true ∧ bit (b.get F.CLK_DIE_DROOP) 0 = false) ∧ b.calm 0) ∧
    (3 < 24 ∧ 1 < 4 ∧ dr.alive = true ∧ dr.get F.CLK_DIE_DROOP 3 = 2 ^ 1 ∧ (∀ (d : Nat × Nat), d ∈ dr.clk.drops → d.fst % 32 ≠ 3)) ∧
    (b.alive = true ∧ b.calm 232) ∧
    (b.alive = true ∧ b.get F.CLK_STAT_TREF_OK ≠ 1) ∧
    (tr.alive = true ∧ tr.clk.trefAt = some 7) :=
  ⟨⟨by decide +kernel, by unfold State.calm; decide +kernel⟩,
   by decide +kernel,
   ⟨by decide +kernel, by unfold State.calm; decide +kernel⟩,
   by decide +kernel,
   by decide +kernel⟩

end DroopAndReference

namespace SpeedSteps

def b : State := { up with now := 1000 }
def thm (h c : List (Nat × Nat)) : State := { b with thm := { b.thm with half := h, cool := c } }
def mon (n : Nat) : State := { ((b.set F.CLK_DIE_CEIL_FIELD 5 3).set F.CLK_DIE_EFF 6 3) with clk := { b.clk with mon := [(3, List.replicate n true)] } }
/-- `n` failures among the samples of a region. -/
def monAt (r n : Nat) : State := { b with clk := { b.clk with mon := [(r, List.replicate n true)] } }

theorem test_hypotheses_SpeedSteps :
    (0 < 2 ∧ (thm [(0, 8)] []).alive = true ∧ tabGet 0 (thm [(0, 8)] []).thm.half 0 = 7 + 1 ∧ (thm [(0, 8)] []).get (slowFld 0) ≠ 1) ∧
    (0 < 2 ∧ ((thm [(0, 8)] [(0, 8)]).set (slowFld 0) 1).alive = true ∧ tabGet 0 ((thm [(0, 8)] [(0, 8)]).set (slowFld 0) 1).thm.half 0 = 7 + 1 ∧
    tabGet 0 ((thm [(0, 8)] [(0, 8)]).set (slowFld 0) 1).thm.cool 0 = 7 + 1 ∧ ((thm [(0, 8)] [(0, 8)]).set (slowFld 0) 1).get (slowFld 0) = 1) ∧
    (1 < 2 ∧ (thm [(3, 8)] []).alive = true ∧ tabGet 0 (thm [(3, 8)] []).thm.half (2 + 1) = 7 + 1) ∧
    (0 < 60 ∧ (((b.set F.CLK_DIE_CEIL_TRIM 5 3).set F.CLK_DIE_EFF 6 3).set F.CLK_DIE_PLAN 7 3).alive = true) ∧
    ((((b.set F.CLK_DIE_CEIL_TRIM 5 3).set F.CLK_DIE_EFF 6 3).set F.CLK_DIE_PLAN 7 3).calm 0 ∧ 0 < 24 ∧ (((b.set F.CLK_DIE_CEIL_TRIM 5 3).set F.CLK_DIE_EFF 6 3).set F.CLK_DIE_PLAN 7 3).alive = true ∧
    (tabGet [] (((b.set F.CLK_DIE_CEIL_TRIM 5 3).set F.CLK_DIE_EFF 6 3).set F.CLK_DIE_PLAN 7 3).clk.mon 0).length < 100 ∧
    (List.filter id (tabGet [] (((b.set F.CLK_DIE_CEIL_TRIM 5 3).set F.CLK_DIE_EFF 6 3).set F.CLK_DIE_PLAN 7 3).clk.mon 0)).length < 2) ∧
    ((3 < 24 ∧ (mon 2).alive = true ∧ (tabGet [] (mon 2).clk.mon 3).length < 100 ∧ 2 ≤ (List.filter id (tabGet [] (mon 2).clk.mon 3)).length ∧
    0 < (mon 2).get F.CLK_DIE_CEIL_FIELD 3 ∧ (mon 2).get F.CLK_DIE_CEIL_FIELD 3 < 8) ∧ (mon 2).calm 3 ∧ (mon 2).calm 233) ∧
    ((((mon 2).set F.CLK_DIE_CEIL_FIELD 0 3).alive = true ∧ (tabGet [] ((mon 2).set F.CLK_DIE_CEIL_FIELD 0 3).clk.mon 3).length < 100 ∧
    2 ≤ (List.filter id (tabGet [] ((mon 2).set F.CLK_DIE_CEIL_FIELD 0 3).clk.mon 3)).length ∧ ((mon 2).set F.CLK_DIE_CEIL_FIELD 0 3).get F.CLK_DIE_CEIL_FIELD 3 = 0 ∧
    tabGet 0 ((mon 2).set F.CLK_DIE_CEIL_FIELD 0 3).clk.stretch 3 = 0) ∧ ((mon 2).set F.CLK_DIE_CEIL_FIELD 0 3).calm 3 ∧ ((mon 2).set F.CLK_DIE_CEIL_FIELD 0 3).calm 233) ∧
    ((monAt 27 0).alive = true ∧ (List.filter id (tabGet [] (monAt 27 0).clk.mon (24 + 3))).length < 2 ∧ 2 ≤ (List.filter id (tabGet [] (monAt 27 2).clk.mon (24 + 3))).length ∧
    2 ≤ (List.filter id (tabGet [] (monAt 59 2).clk.mon (48 + 11))).length ∧ (tabGet [] (monAt 59 2).clk.mon (48 + 11)).length < 100) ∧
    ((monAt 27 0).calm 3 ∧ (monAt 27 2).calm 3 ∧ (monAt 27 2).calm 233 ∧ (monAt 59 2).calm (24 + 11) ∧ (monAt 59 2).calm 233) ∧
    (((b.set F.CLK_PLAN_AT_AT 40).logFull = false ∧ 256 < 2 ^ 32 ∧ bit 256 8 = true ∧
    (b.set F.CLK_PLAN_AT_AT 40).get F.TRN_NUM + 2 ≤ (b.set F.CLK_PLAN_AT_AT 40).get F.CLK_PLAN_AT_AT) ∧ (b.set F.CLK_PLAN_AT_AT 40).clocked) ∧
    (((((b.set F.CLK_DIE_CEIL_TRIM 5 3).set F.CLK_DIE_EFF 6 3).set F.CLK_DIE_PLAN 7 3).logFull = false ∧ 256 < 2 ^ 32 ∧ bit 256 8 = true ∧
    (((b.set F.CLK_DIE_CEIL_TRIM 5 3).set F.CLK_DIE_EFF 6 3).set F.CLK_DIE_PLAN 7 3).get F.CLK_PLAN_AT_AT < (((b.set F.CLK_DIE_CEIL_TRIM 5 3).set F.CLK_DIE_EFF 6 3).set F.CLK_DIE_PLAN 7 3).get F.TRN_NUM + 2) ∧
    (((b.set F.CLK_DIE_CEIL_TRIM 5 3).set F.CLK_DIE_EFF 6 3).set F.CLK_DIE_PLAN 7 3).clocked) ∧
    (((((b.set F.CLK_DIE_CEIL_TRIM 5 3).set F.CLK_DIE_EFF 6 3).set F.CLK_DIE_PLAN 7 3).logFull = false ∧ 4 < 2 ^ 32 ∧ bit 4 2 = true ∧ bit 4 1 = false) ∧
    (((b.set F.CLK_DIE_CEIL_TRIM 5 3).set F.CLK_DIE_EFF 6 3).set F.CLK_DIE_PLAN 7 3).clocked) :=
  ⟨by decide +kernel,
   by decide +kernel,
   by decide +kernel,
   by decide +kernel,
   ⟨by unfold State.calm; decide +kernel, by decide +kernel⟩,
   ⟨by decide +kernel, by unfold State.calm; decide +kernel⟩,
   ⟨by decide +kernel, by unfold State.calm; decide +kernel⟩,
   by decide +kernel,
   by unfold State.calm; decide +kernel,
   ⟨by decide +kernel, by unfold State.clocked; decide +kernel⟩,
   ⟨by decide +kernel, by unfold State.clocked; decide +kernel⟩,
   ⟨by decide +kernel, by unfold State.clocked; decide +kernel⟩⟩

end SpeedSteps

/-! ## Light and rings -/

namespace LightStarts

def four (s : State) : State := (s.set F.FLT_BOOT_STEP 4).set F.TWK_STAT_INTLK 1
def goodMods : List ModRead := (List.range 8).map fun n => { taps := [n] }
def lt (s : State) (n : Nat) : State := { s with light := { s.light with step := n, since := 55 } }
def pw : State := { pres up with thm := { up.thm with prewarm := some 9 } }

theorem test_hypotheses_LightStarts :
    ((four (pres up)).alive = true ∧ (four (pres up)).get F.FLT_BOOT_STEP = 4 ∧ (four (pres up)).light.step = 0 ∧ (four (pres up)).get F.MGT_STAT_CROUPIER = 0 ∧
    (four (pres up)).get F.FLT_STAT_STATE = 0 ∧ (four (pres up)).light.keep = false ∧ (four (pres up)).get F.TWK_STAT_INTLK = 1 ∧ (four (pres up)).sitesWarm = false ∧
    (∀ (n : Nat), n < 8 → (goodMods.getD n { }).answers = true ∧ (goodMods.getD n { }).type = 19539 ∧ (goodMods.getD n { }).intlk = true ∧
    15 ≤ (goodMods.getD n { }).temp ∧ (goodMods.getD n { }).temp ≤ 70 ∧ (goodMods.getD n { }).taps = [n] ∧ (goodMods.getD n { }).grid = true ∧
    tonesOk (goodMods.getD n { }) = true)) ∧
    (((four up).set F.TWK_STAT_INTLK 0).alive = true ∧ ((four up).set F.TWK_STAT_INTLK 0).get F.FLT_BOOT_STEP = 4 ∧ ((four up).set F.TWK_STAT_INTLK 0).light.step = 0 ∧
    ((four up).set F.TWK_STAT_INTLK 0).get F.MGT_STAT_CROUPIER = 0 ∧ ((four up).set F.TWK_STAT_INTLK 0).get F.FLT_STAT_STATE = 0 ∧
    ((four up).set F.TWK_STAT_INTLK 0).get F.TWK_STAT_INTLK ≠ 1) ∧
    ((lt (four (pres up)) 3).alive = true ∧ (lt (four (pres up)) 3).patience = false ∧ ((lt (four (pres up)) 3).light.step = 1 ∨ (lt (four (pres up)) 3).light.step = 3) ∧
    (lt (four (pres up)) 3).light.keep = false ∧ (lt (four (pres up)) 3).get F.TWK_STAT_INTLK = 1 ∧ (lt (four (pres up)) 3).sitesWarm = false) ∧
    (((lt (four up) 1).set F.TWK_STAT_INTLK 0).alive = true ∧ ((lt (four up) 1).set F.TWK_STAT_INTLK 0).patience = false ∧
    (((lt (four up) 1).set F.TWK_STAT_INTLK 0).light.step = 1 ∨ ((lt (four up) 1).set F.TWK_STAT_INTLK 0).light.step = 3) ∧
    ((lt (four up) 1).set F.TWK_STAT_INTLK 0).get F.TWK_STAT_INTLK ≠ 1) ∧
    (((four (pres up)).set F.FLT_BOOT_FAILS 3).alive = true ∧ ((four (pres up)).set F.FLT_BOOT_FAILS 3).get F.FLT_BOOT_STEP = 4 ∧
    ((four (pres up)).set F.FLT_BOOT_FAILS 3).light.step = 0 ∧ ((four (pres up)).set F.FLT_BOOT_FAILS 3).get F.MGT_STAT_CROUPIER = 0 ∧
    ((four (pres up)).set F.FLT_BOOT_FAILS 3).get F.FLT_STAT_STATE = 0 ∧ ((four (pres up)).set F.FLT_BOOT_FAILS 3).light.keep = false ∧
    ((four (pres up)).set F.FLT_BOOT_FAILS 3).get F.TWK_STAT_INTLK = 1 ∧ ((List.replicate 8 ({ answers := false } : ModRead)).getD 0 { }).answers = false ∧
    3 ≤ ((four (pres up)).set F.FLT_BOOT_FAILS 3).get F.FLT_BOOT_FAILS) ∧
    ((0 < 40 ∧ pw.alive = true ∧ pw.thm.prewarm = some 9 ∧ pw.present 0 = true ∧ pw.get F.FLT_DOM0_STATE (24 + 0) < 3 ∧ pw.get F.SKY_STN_STATUS_STATE ≠ 6 ∧
    pw.thm.warmed.contains 0 = false) ∧ pw.mild) :=
  ⟨by decide +kernel,
   by decide +kernel,
   by decide +kernel,
   by decide +kernel,
   by decide +kernel,
   ⟨by decide +kernel, mild_of (by decide +kernel)⟩⟩

end LightStarts

namespace LaserModules

def lit : State := (((List.range 6).foldl (fun (s : State) n => ((s.set F.TWK_ELS_ROLE 3 n).set F.TWK_ELS_FEED n n).set F.TWK_ELS_EN 1 n) (pres up)).set F.TWK_ELS_ROLE 4 6).set F.TWK_ELS_EN 1 6
def ones : State := ((pres up).set F.TWK_STAT_INTLK 1).set F.TWK_ELS_ROLE 1 2
def smpModRead_0 : ModRead := { taps := [2] }
def smpModRead_1 : ModRead := { temp := 71, taps := [6] }
def gone : ModRead := { answers := false }
def w6 : Swap := { feed := 1, fast := false, step := 1, old := 1, spare := 6, since := 77 }
def swapping : State := { lit with light := { lit.light with swaps := [w6] } }

theorem test_hypotheses_LaserModules :
    ((lit.set F.FLT_BOOT_STEP 3).alive = true ∧ (lit.set F.FLT_BOOT_STEP 3).get F.FLT_BOOT_STEP < 4) ∧
    (0 < 8 ∧ lit.alive = true ∧ 4 ≤ lit.get F.FLT_BOOT_STEP ∧ smpModRead_0.answers = true ∧ -128 ≤ smpModRead_0.temp ∧ smpModRead_0.temp < 70 ∧
    (lit.get F.TWK_ELS_ROLE ≠ 3 ∨ 6 ≤ lit.get F.TWK_ELS_FEED ∨ smpModRead_0.grid = true ∧ smpModRead_0.fault = false ∧ smpModRead_0.intlk = true ∧ smpModRead_0.temp < 67)) ∧
    (0 < 8 ∧ lit.alive = true ∧ gone.answers = false) ∧
    (6 < 8 ∧ lit.alive = true ∧ smpModRead_1.answers = true ∧ 70 ≤ smpModRead_1.temp ∧ lit.get F.TWK_ELS_ROLE 6 ≠ 3) ∧
    (lit.alive = true ∧ (within1dB (3 - lit.dumpRef 0) = true ∨ 0 ≠ 2 ∨ ∀ (w : Swap), w ∈ lit.light.swaps → w.spare ≠ 0)) ∧
    ((6 < 8 ∧ swapping.alive = true ∧ within1dB (-130 - swapping.dumpRef 6) = false ∧
    swapping.light.swaps.find? (fun w => decide (w.spare = 6) && !w.fast && w.step = 1 && w.donor.isNone) = some w6) ∧ swapping.mild) ∧
    (lit.alive = true ∧ lit.get F.MGT_STAT_CROUPIER ≠ 1 ∧ ([(6, smpModRead_1)].map fun p => p.1).Nodup) ∧
    (2 < 8 ∧ ones.alive = true ∧ ones.get F.TWK_ELS_ROLE 2 ∈ [0, 1, 5] ∧ ones.get F.MGT_STAT_CROUPIER ≠ 1 ∧ ones.get F.TWK_STAT_INTLK = 1 ∧
    smpModRead_0.answers = true ∧ smpModRead_0.type = 19539 ∧ smpModRead_0.intlk = true ∧ 15 ≤ smpModRead_0.temp ∧ smpModRead_0.temp ≤ 70 ∧ smpModRead_0.taps = [2] ∧
    smpModRead_0.grid = true ∧ tonesOk smpModRead_0 = true ∧ ones.light.net.length = 8) ∧
    (2 < 8 ∧ (ones.set F.TWK_STAT_INTLK 0).alive = true ∧ (ones.set F.TWK_STAT_INTLK 0).get F.TWK_ELS_ROLE 2 ∈ [0, 1, 5] ∧
    (ones.set F.TWK_STAT_INTLK 0).get F.MGT_STAT_CROUPIER ≠ 1 ∧ (ones.set F.TWK_STAT_INTLK 0).get F.TWK_STAT_INTLK ≠ 1) := by
  and_intros <;> (first | exact mild_of (by decide +kernel) | decide +kernel)

end LaserModules

namespace LaserSwaps

def lit : State := (((List.range 6).foldl (fun (s : State) n => (((s.set F.TWK_ELS_ROLE 3 n).set F.TWK_ELS_FEED n n).set F.TWK_ELS_EN 1 n).set F.TWK_FEED_SLOT n n) (pres up)).set F.TWK_ELS_ROLE 4 6).set F.TWK_ELS_EN 1 6
def sw (l : List Swap) (s : State := lit) : State := { s with light := { s.light with swaps := l } }
def w (f : Nat) (fast : Bool) (step : Nat) (again : Bool := false) : Swap := { feed := f, fast := fast, step := step, old := f, spare := 6, again := again, since := 77 }

def fallen : State := { lit with light := { lit.light with samples := [(1, [-5, -10])], fades := [(1, [(3, -5), (7, -7)])] } }

theorem test_hypotheses_LaserSwaps_0 :
    (1 < 6 ∧ lit.alive = true ∧ lit.get F.TWK_FEED_STATE 1 ≠ 5 ∧ 1 = lit.get F.TWK_FEED_SLOT 1 ∧ -100 < (lit.sampleTap 1 (-20)).fadeOf 1 ∧
    (lit.sampleTap 1 (-20)).fallOf 1 < 300) ∧
    ((lit.get F.TWK_FEED_STATE 1 = 0 ∧ -200 < (lit.sampleTap 1 (-150)).fadeOf 1 ∧ (lit.sampleTap 1 (-150)).fadeOf 1 ≤ -100 ∧ (lit.sampleTap 1 (-150)).fallOf 1 < 300) ∧
    lit.calm 226) ∧
    (lit.swapOf 1 = none ∧ lit.spares = [6] ∧ (lit.sampleTap 1 (-300)).fadeOf 1 ≤ -200 ∧ -500 ≤ (lit.sampleTap 1 (-300)).slopeOf 1 ∧ (lit.sampleTap 1 (-300)).fallOf 1 < 300) ∧
    ((fallen.alive = true ∧ fallen.get F.TWK_FEED_STATE 1 ≠ 5 ∧ 1 = fallen.get F.TWK_FEED_SLOT 1 ∧ fallen.swapOf 1 = none ∧ fallen.spares = [6] ∧
    300 ≤ (fallen.sampleTap 1 (-310)).fallOf 1) ∧ fallen.mild) ∧
    ((lit.logFull = false ∧ 20 < 2 ^ 32 ∧ bit 20 2 = true ∧ bit 20 1 = false ∧ 20 / 16 % 8 = 1 ∧ 1 < 6 ∧ lit.swapOf 1 = none ∧ lit.spares = [6]) ∧ lit.clocked) ∧
    (((sw [w 1 false 2, w 1 true 3]).logFull = false ∧ 4 < 2 ^ 32 ∧ bit 4 2 = true ∧ bit 4 1 = false ∧ (6 ≤ 4 / 16 % 8 ∨ (sw [w 1 false 2, w 1 true 3]).spares = [])) ∧
    (sw [w 1 false 2, w 1 true 3]).clocked) ∧
    ((lit.logFull = false ∧ 2 < 2 ^ 32 ∧ bit 2 2 = false ∧ bit 2 1 = true) ∧ lit.clocked) ∧
    ((1 < 6 ∧ (sw [w 1 false 2, w 1 true 3]).alive = true ∧ (sw [w 1 false 2, w 1 true 3]).swapOf 1 = some (w 1 false 2) ∧ (w 1 false 2).feed = 1 ∧
    (w 1 false 2).old < 8 ∧ (w 1 false 2).spare < 8 ∧ (w 1 false 2).old ≠ (w 1 false 2).spare ∧ (sw [w 1 false 2, w 1 true 3]).light.net.length = 8 ∧
    (w 1 false 2).fast = false ∧ (w 1 false 2).step = 2) ∧ (sw [w 1 false 2, w 1 true 3]).mild) ∧
    ((4 < 6 ∧ (sw [w 4 true 1]).alive = true ∧ (sw [w 4 true 1]).swapOf 4 = some (w 4 true 1) ∧ (w 4 true 1).feed = 4 ∧ (w 4 true 1).old < 8 ∧ (w 4 true 1).spare < 8 ∧
    (w 4 true 1).old ≠ (w 4 true 1).spare ∧ (sw [w 4 true 1]).light.net.length = 8 ∧ (w 4 true 1).fast = true ∧ (w 4 true 1).step = 1) ∧ (sw [w 4 true 1]).mild) ∧
    ((1 < 6 ∧ (sw [w 1 false 3, w 2 true 4]).alive = true ∧ (sw [w 1 false 3, w 2 true 4]).swapOf 1 = some (w 1 false 3) ∧ (w 1 false 3).feed = 1 ∧
    (w 1 false 3).old < 8 ∧ (w 1 false 3).spare < 8 ∧ (w 1 false 3).old ≠ (w 1 false 3).spare ∧ (sw [w 1 false 3, w 2 true 4]).light.net.length = 8 ∧
    (w 1 false 3).fast = false ∧ (w 1 false 3).step = 3 ∧ (w 1 false 3).again = false) ∧ (sw [w 1 false 3, w 2 true 4]).mild) ∧
    ((1 < 6 ∧ (sw [w 1 false 3 true]).alive = true ∧ (sw [w 1 false 3 true]).swapOf 1 = some (w 1 false 3 true) ∧ (w 1 false 3 true).feed = 1 ∧
    (w 1 false 3 true).old < 8 ∧ (w 1 false 3 true).spare < 8 ∧ (w 1 false 3 true).old ≠ (w 1 false 3 true).spare ∧ (sw [w 1 false 3 true]).light.net.length = 8 ∧
    (w 1 false 3 true).fast = false ∧ (w 1 false 3 true).step = 3 ∧ (w 1 false 3 true).again = true) ∧ (sw [w 1 false 3 true]).mild) ∧
    ((1 < 6 ∧ (sw [w 1 true 3]).alive = true ∧ (sw [w 1 true 3]).swapOf 1 = some (w 1 true 3) ∧ (w 1 true 3).feed = 1 ∧ (w 1 true 3).old < 8 ∧ (w 1 true 3).spare < 8 ∧
    (w 1 true 3).old ≠ (w 1 true 3).spare ∧ (sw [w 1 true 3]).light.net.length = 8 ∧ (w 1 true 3).fast = true ∧ (w 1 true 3).step = 3 ∧ (w 1 true 3).again = false) ∧
    (sw [w 1 true 3]).mild) :=
  ⟨by decide +kernel,
   ⟨by decide +kernel, by unfold State.calm; decide +kernel⟩,
   by decide +kernel,
   ⟨by decide +kernel, mild_of (by decide +kernel)⟩,
   ⟨by decide +kernel, by unfold State.clocked; decide +kernel⟩,
   ⟨by decide +kernel, by unfold State.clocked; decide +kernel⟩,
   ⟨by decide +kernel, by unfold State.clocked; decide +kernel⟩,
   ⟨by decide +kernel, mild_of (by decide +kernel)⟩,
   ⟨by decide +kernel, mild_of (by decide +kernel)⟩,
   ⟨by decide +kernel, mild_of (by decide +kernel)⟩,
   ⟨by decide +kernel, mild_of (by decide +kernel)⟩,
   ⟨by decide +kernel, mild_of (by decide +kernel)⟩⟩

def tap1 (x : Int) : List (Tap × Int) := (checkTaps 1).map fun p => (p, x)

theorem test_hypotheses_LaserSwaps_1 :
    ((1 < 6 ∧ (sw [w 1 false 5]).alive = true ∧ (sw [w 1 false 5]).swapOf 1 = some (w 1 false 5) ∧ (w 1 false 5).feed = 1 ∧ (w 1 false 5).old < 8 ∧
    (w 1 false 5).spare < 8 ∧ (w 1 false 5).old ≠ (w 1 false 5).spare ∧ (sw [w 1 false 5]).light.net.length = 8 ∧ (w 1 false 5).step = 5 ∧ (w 1 false 5).fast = false) ∧
    (sw [w 1 false 5]).mild) ∧
    ((1 < 6 ∧ (sw [w 1 false 4]).alive = true ∧ (sw [w 1 false 4]).swapOf 1 = some (w 1 false 4) ∧ (w 1 false 4).feed = 1 ∧ (w 1 false 4).old < 8 ∧
    (w 1 false 4).spare < 8 ∧ (w 1 false 4).old ≠ (w 1 false 4).spare ∧ (sw [w 1 false 4]).light.net.length = 8 ∧ (w 1 false 4).step = 4 ∧ (w 1 false 4).donor = none) ∧
    (sw [w 1 false 4]).mild) ∧
    ((1 < 6 ∧ (sw [w 1 false 6]).alive = true ∧ (sw [w 1 false 6]).swapOf 1 = some (w 1 false 6) ∧ (w 1 false 6).feed = 1 ∧ (w 1 false 6).old < 8 ∧
    (w 1 false 6).spare < 8 ∧ (w 1 false 6).old ≠ (w 1 false 6).spare ∧ (sw [w 1 false 6]).light.net.length = 8 ∧ (w 1 false 6).step = 6 ∧ (w 1 false 6).fast = false) ∧
    (sw [w 1 false 6]).mild) ∧
    ((sw [w 1 false 3]).tapsGood 1 (tap1 100) = true ∧ (sw [w 1 false 3]).tapsGood 1 (tap1 (-130)) = false) :=
  ⟨⟨by decide +kernel, mild_of (by decide +kernel)⟩,
   ⟨by decide +kernel, mild_of (by decide +kernel)⟩,
   ⟨by decide +kernel, mild_of (by decide +kernel)⟩,
   by decide +kernel⟩

/-- No spare left. -/
def bare (s : State := lit) : State := s.set F.TWK_ELS_ROLE 5 6
/-- No bulk orbit lit. -/
def unlit : State := ((bare.set F.TWK_FEED_STATE 5 1).set F.TWK_FEED_STATE 5 2).set F.TWK_FEED_STATE 5 3
/-- A feed whose fade has run away. -/
def steep (f : Nat) (s : State := lit) : State := { s with light := { s.light with samples := [(f, [-210])], fades := [(f, [(3, -5), (7, -7)])] } }
/-- A fast swap of feed 1 before its repeated check. -/
def twice (s : State := lit) : State := sw [w 1 true 3 true] s

theorem test_hypotheses_LaserSwaps_2 :
    (((steep 1).alive = true ∧ (steep 1).get F.TWK_FEED_STATE 1 ≠ 5 ∧ 1 = (steep 1).get F.TWK_FEED_SLOT 1 ∧ (steep 1).swapOf 1 = none ∧ (steep 1).spares = [6] ∧
    ((steep 1).sampleTap 1 (-300)).fadeOf 1 ≤ -200 ∧ ((steep 1).sampleTap 1 (-300)).slopeOf 1 < -500 ∧ ((steep 1).sampleTap 1 (-300)).fallOf 1 < 300) ∧ (steep 1).mild) ∧
    ((bare.alive = true ∧ bare.get F.TWK_FEED_STATE 1 ≠ 5 ∧ 1 = bare.get F.TWK_FEED_SLOT 1 ∧ bare.spares = [] ∧ bare.light.swaps = [] ∧
    ¬(300 ≤ (bare.sampleTap 1 (-300)).fallOf 1 ∨ ((bare.sampleTap 1 (-300)).fadeOf 1 ≤ -200 ∧ (bare.sampleTap 1 (-300)).slopeOf 1 < -500)) ∧
    -350 < (bare.sampleTap 1 (-300)).fadeOf 1 ∧ (bare.sampleTap 1 (-300)).fadeOf 1 ≤ -200 ∧ (bare.sampleTap 1 (-400)).fadeOf 1 ≤ -350 ∧
    0 = bare.get F.TWK_FEED_SLOT 0 ∧ bare.donorOrbit = some 3 ∧ (bare.sampleTap 0 (-300)).fadeOf 0 ≤ -200) ∧ bare.mild) ∧
    ((unlit.alive = true ∧ unlit.get F.TWK_FEED_STATE 0 ≠ 5 ∧ 0 = unlit.get F.TWK_FEED_SLOT 0 ∧ unlit.spares = [] ∧ unlit.light.swaps = [] ∧ unlit.donorOrbit = none ∧
    unlit.inService = true ∧ unlit.get F.FLT_STAT_STATE = 0 ∧ (unlit.sampleTap 0 (-400)).fadeOf 0 ≤ -350 ∧
    ¬(300 ≤ (unlit.sampleTap 0 (-300)).fallOf 0 ∨ ((unlit.sampleTap 0 (-300)).fadeOf 0 ≤ -200 ∧ (unlit.sampleTap 0 (-300)).slopeOf 0 < -500)) ∧
    -350 < (unlit.sampleTap 0 (-300)).fadeOf 0 ∧ (unlit.sampleTap 0 (-300)).fadeOf 0 ≤ -200) ∧ unlit.mild) ∧
    ((twice.alive = true ∧ twice.swapOf 1 = some (w 1 true 3 true) ∧ (w 1 true 3 true).donor = none ∧ twice.light.swaps = [w 1 true 3 true] ∧ twice.light.net.length = 8 ∧
    twice.tapsGood 1 (tap1 (-130)) = false ∧ twice.spares = [] ∧ (twice (lit.set F.TWK_ELS_ROLE 4 7)).spares = [7]) ∧ twice.mild ∧ (twice (lit.set F.TWK_ELS_ROLE 4 7)).mild) :=
  ⟨⟨by decide +kernel, mild_of (by decide +kernel)⟩,
   ⟨by decide +kernel, mild_of (by decide +kernel)⟩,
   ⟨by decide +kernel, mild_of (by decide +kernel)⟩,
   ⟨by decide +kernel, mild_of (by decide +kernel), mild_of (by decide +kernel)⟩⟩

end LaserSwaps

namespace Rings

def ch0 : Chan := { orbit := 0, wg := 0, lambda := 5, writer := 3, reader := 4, allpairs := false, wring := 7, rring := 9 }
def mapped : State := { (pres up) with sky := { up.sky with chans := [ch0, { ch0 with lambda := 6, reader := 5 }, {ch0 with writer := 4, reader := 3, wring := 9, rring := 7 }] }, light := { up.light with relocks := [⟨3079, 4, []⟩, ⟨3841, 6, [(1, 2), (2, 3), (3, 6)]⟩], sums := [(3079, 300), (3841, 50)], reading := [3079, 3841], aims := [(3079, 600)] } }
def rst (n : Nat) (s : State := mapped) : State := (((s.set F.TWK_RING_STATE n 3 7).set F.TWK_RING_STATE n 3 769).set F.TWK_RING_HEATER 5000 3 7).set F.TWK_RING_HEATER 16200 3 769
def psd (s : State) : State := { s with light := { s.light with stopped := [0], again := [3841] } }
def spent : Relock := ⟨3841, 6, [(1, 2), (2, 3), (3, 6)]⟩
def young : Relock := ⟨3079, 4, []⟩
/-- A window that shows a tone of depth `x` on channel `n`, of depth `y` on channel 30, and nothing else. -/
def tone (n x y : Nat) : ToneRead := { tones := (List.range 32).map fun i => if i = n then x else if i = 30 then y else 0, level := 9 }

theorem test_hypotheses_Rings_0 :
    ((3 < 44 ∧ 7 < 1024 ∧ (rst 2).alive = true ∧ ((rst 2).light.rest = false ∨ ringO0 7 = true) ∧ (rst 2).get F.TWK_RING_STATE 3 7 = 2 ∧
    (∃ p ∈ [500, 300, 7, 900], p < 2 ^ 14 ∧ apart p ((rst 2).sweepAim 3 7).1 ≤ ((rst 2).sweepAim 3 7).2)) ∧ (rst 2).mild) ∧
    ((3 < 44 ∧ 7 < 1024 ∧ (rst 2).alive = true ∧ (rst 2).get F.TWK_RING_STATE 3 7 = 2 ∧
    (∀ p ∈ [300, 900], 2 ^ 14 ≤ p ∨ ((rst 2).sweepAim 3 7).2 < apart p ((rst 2).sweepAim 3 7).1)) ∧ (rst 2).mild) ∧
    ((3 < 44 ∧ 7 < 1024 ∧ (rst 3).alive = true ∧ (rst 3).get F.TWK_RING_STATE 3 7 = 3 ∧ (rst 3).light.reading.contains (ringKey 3 7) = true ∧ 5 = (rst 3).ringTarget 3 7 ∧
    50 ≤ (tone 5 60 2).tones.getD 5 0 ∧ (∀ m, m < 32 → m ≠ 5 → below12dB ((tone 5 60 2).tones.getD m 0) ((tone 5 60 2).tones.getD 5 0) = true)) ∧ (rst 3).mild) ∧
    ((rst 3).light.reading.contains (ringKey 3 7) = true ∧ 5 = (rst 3).ringTarget 3 7 ∧ 50 ≤ (tone 5 60 59).tones.getD 5 0 ∧
    (∀ m, m < 32 → (tone 5 60 59).tones.getD m 0 ≤ (tone 5 60 59).tones.getD 5 0) ∧
    (∃ m, m < 32 ∧ m ≠ 5 ∧ below12dB ((tone 5 60 59).tones.getD m 0) ((tone 5 60 59).tones.getD 5 0) = false) ∧ (rst 3).light.again.contains (ringKey 3 7) = false) ∧
    ((∃ m, m < 32 ∧ 50 ≤ (tone 1 50 0).tones.getD m 0 ∧ (tone 1 50 0).tones.getD 5 0 < (tone 1 50 0).tones.getD m 0) ∧ (rst 3).get F.TWK_RING_ALIASES 3 7 < 2) ∧
    ((3 < 44 ∧ 769 < 1024 ∧ ((rst 3).set F.TWK_RING_ALIASES 2 3 769).alive = true ∧ ((rst 3).set F.TWK_RING_ALIASES 2 3 769).get F.TWK_RING_STATE 3 769 = 3 ∧
    ((rst 3).set F.TWK_RING_ALIASES 2 3 769).light.reading.contains (ringKey 3 769) = true ∧ 1 = ((rst 3).set F.TWK_RING_ALIASES 2 3 769).ringTarget 3 769 ∧
    (∃ m, m < 32 ∧ 50 ≤ (tone 5 60 0).tones.getD m 0 ∧ (tone 5 60 0).tones.getD 1 0 < (tone 5 60 0).tones.getD m 0) ∧
    ((rst 3).set F.TWK_RING_ALIASES 2 3 769).get F.TWK_RING_ALIASES 3 769 = 2) ∧ ((rst 3).set F.TWK_RING_ALIASES 2 3 769).mild) ∧
    ((∀ m, m < 32 → (tone 5 49 0).tones.getD m 0 < 50) ∧ (rst 3).ringPaused 3 7 = false ∧ (psd (rst 3)).ringPaused 3 7 = true ∧
    (psd (rst 3)).light.reading.contains (ringKey 3 7) = true) := by
  and_intros <;> (first | exact mild_of (by decide +kernel) | decide +kernel)

theorem test_hypotheses_Rings_1 :
    ((3 < 44 ∧ 7 < 1024 ∧ (rst 3).alive = true ∧ (rst 3).turn 3 7 = some 7 ∧
    ((rst 3).get F.TWK_RING_STATE 3 7 ≠ 4 ∨ tabGet 0 (rst 3).light.sums (ringKey 3 7) ≤ 2 * (3 + 3)) ∧ codeMin < (rst 3).get F.TWK_RING_HEATER 3 7 ∧
    (rst 3).get F.TWK_RING_HEATER 3 7 < codeMax) ∧ (rst 3).mild) ∧
    ((3 < 44 ∧ 769 < 1024 ∧ (rst 3).alive = true ∧ (rst 3).turn 3 1 = some 769 ∧
    ((rst 3).get F.TWK_RING_STATE 3 769 ≠ 4 ∨ tabGet 0 (rst 3).light.sums (ringKey 3 769) ≤ 2 * (1 + 0)) ∧ codeMax ≤ (rst 3).get F.TWK_RING_HEATER 3 769) ∧
    0 < (rst 3).loopMove 3 769 1 0) ∧
    ((3 < 44 ∧ 7 < 1024 ∧ (rst 4).alive = true ∧ (rst 4).turn 3 7 = some 7 ∧ (rst 4).get F.TWK_RING_STATE 3 7 = 4 ∧
    2 * (3 + 3) < tabGet 0 (rst 4).light.sums (ringKey 3 7) ∧ (rst 4).ringPaused 3 7 = false) ∧ (rst 4).mild) ∧
    (((psd (rst 4)).turn 3 7 = some 7 ∧ (psd (rst 4)).get F.TWK_RING_STATE 3 7 = 4 ∧
    2 * (3 + 3) < tabGet 0 (psd (rst 4)).light.sums (ringKey 3 7) ∧ (psd (rst 4)).ringPaused 3 7 = true) ∧ (psd (rst 4)).mild) ∧
    ((rst 4).turn 3 8 ≠ some 7) ∧
    ((3 < 44 ∧ 3 < 1024 ∧ (rst 0 (psd mapped)).alive = true ∧ (rst 0 (psd mapped)).hasRing 3 3 = true ∧ (rst 0 (psd mapped)).get F.TWK_RING_STATE 3 3 ≠ 6 ∧
    (rst 0 (psd mapped)).ringPaused 3 3 = true) ∧ (rst 0 (psd mapped)).mild) ∧
    ((rst 0 mapped).alive = true ∧ ((rst 0 mapped).light.rest = false ∨ ringO0 3 = true) ∧ (rst 0 mapped).hasRing 3 3 = true ∧ (rst 0 mapped).get F.TWK_RING_STATE 3 3 ≠ 6 ∧
    (rst 0 mapped).ringPaused 3 3 = false) ∧
    (List.find? (fun (r : Relock) => decide (r.ring = ringKey 3 769)) (rst 0 (psd mapped)).light.relocks = some spent ∧ spent.spent = true ∧ (rst 0 (psd mapped)).light.rest = false) ∧
    (List.find? (fun (r : Relock) => decide (r.ring = ringKey 3 7)) (rst 0 (psd mapped)).light.relocks = some young ∧ young.spent = false) ∧
    ((rst 4).get F.TWK_RING_STATE 3 7 = 4 ∧ ((rst 4).light.reading.filter fun x => decide (x / 1024 = 3)).length < 64 ∧ 5 = (rst 4).ringTarget 3 7 ∧ 5 < 32 ∧
    50 ≤ (tone 5 60 2).tones.getD 5 0 ∧ (∀ m, m < 32 → m ≠ 5 → below12dB ((tone 5 60 2).tones.getD m 0) ((tone 5 60 2).tones.getD 5 0) = true)) ∧
    ((tone 5 49 0).tones.getD 5 0 < 50 ∧ (rst 4).ringPaused 3 7 = false) :=
  ⟨⟨by decide +kernel, mild_of (by decide +kernel)⟩,
   ⟨by decide +kernel, by
     have h : tabGet none (rst 3).light.visitT (ringKey 3 769) = none := by decide +kernel
     simp [State.loopMove, h]⟩,
   ⟨by decide +kernel, mild_of (by decide +kernel)⟩,
   ⟨by decide +kernel, mild_of (by decide +kernel)⟩,
   by decide +kernel,
   ⟨by decide +kernel, mild_of (by decide +kernel)⟩,
   by and_intros <;> decide +kernel⟩

end Rings

end Sys2Proof.Tests
end

