-- ==== Sys2Proof/Tests/Hypotheses2.lean ====
section
/-! SUPPORT. For each statement, states and operands that meet its hypotheses together, clause by clause. -/

-- One theorem after the other: kernel evaluations that wait for each other would hold a thread and its stack each.
set_option Elab.async false

namespace Sys2Proof.Tests

open Sys2Proof.Machine

/-! ## Optical matrix units -/

namespace PassesStart

def desc (fl : Nat) (nvec : Nat) (extra : Nat := 0) : List Byte :=
  natLe 2 fl ++ natLe 2 extra ++ natLe 4 nvec ++ natLe 4 0x10000 ++ natLe 4 0x20000 ++ natLe 4 64 ++ natLe 4 0x30000 ++ natLe 4 128 ++ natLe 4 0x40000 ++ natLe 8 0x1234 ++ List.replicate 24 0
/-- Four bytes of ones: after them the register of a CRC-32C stands at 0 and zeros leave it there. -/
def ones : List Byte := List.replicate 4 255
def rdy : State := { ((((List.range 4).foldl (fun (s : State) o => (s.set F.OMU_STAT_STATE 1 3 o).set F.OMU_STAT_TEMP_OK 1 3 o) (pres up)).wrN (cacheAt 3 0x10000) ones).wrN (cacheAt 3 (0x10000 + 4100)) ones) with now := 400 }
def wd (l : List (List Byte)) (s : State := rdy) : State := (s.wrN (cacheAt 3 0) l.flatten).set F.OMU_PQ_TAIL l.length 3
def slots (s : State) : State := charted { plain with activity := [(255, { slotNs := 1 })] } s
def hot (s : State) : State := slots { s with omus := { s.omus with levels := [(12, 3), (13,3)] } }
def held (s : State) : State := { s with omus := { s.omus with guard := [3] } }
def badc : List Byte := (desc 0x800 2).take 28 ++ natLe 4 0xFFFFFFF ++ (desc 0x800 2).drop 32
def smpInstr_0 : Instr := .passStart 3
def others : List State := [wd [desc 3 2], wd [desc 3 0, desc 3 2], wd [desc 0 2], wd [desc 3 2] ((pres up)), hot (wd [desc 3 9]), held (wd [desc 3 2, desc 3 2]), held (wd [desc 0x800 2]), held (hot (wd [desc 3 9])), wd [badc]]
def smp_State : List State := (others.flatMap fun s => [("s",s), ("u", s.fresh), ("v", s.fresh.atLeast s.nextSlot)]).map (·.2)

theorem crc_zeros (n : Nat) : (List.replicate n (0 : Byte)).foldl (crcRByte 0x82F63B78) 0 = 0 := by
  induction n with
  | zero => rfl
  | succ n ih => rw [List.replicate_succ, List.foldl_cons, show crcRByte 0x82F63B78 0 0 = 0 by decide]; exact ih

theorem rdN_append (s : State) (n m : Nat) : ∀ a, s.rdN a (n + m) = s.rdN a n ++ s.rdN (a + n) m := by
  induction n with
  | zero => intro a; rw [Nat.zero_add]; rfl
  | succ n ih => intro a; rw [Nat.succ_add, State.rdN, State.rdN, ih, List.cons_append, Nat.add_assoc, Nat.add_comm 1 n]

theorem tabGet_absent (m : List (Nat × Byte)) (k : Nat) (h : ∀ p ∈ m, p.1 ≠ k) : tabGet 0 m k = 0 := by
  induction m with
  | nil => rfl
  | cons p m ih => rw [tabGet, if_neg (h p List.mem_cons_self)]; exact ih fun q hq => h q (List.mem_cons_of_mem p hq)

theorem rdN_absent (s : State) (n : Nat) : ∀ a, (∀ p ∈ s.mem, p.1 < a ∨ a + n ≤ p.1) → s.rdN a n = List.replicate n 0 := by
  induction n with
  | zero => intro a _; rfl
  | succ n ih =>
    intro a h
    rw [State.rdN, List.replicate_succ, ih (a + 1) fun p hp => by have := h p hp; omega]
    exact congrArg (· :: _) (tabGet_absent _ _ fun p hp => by have := h p hp; omega)

theorem slice_left (x y : List Byte) : slice (x ++ y) 0 x.length = x := by simp [slice]

theorem slice_right (x y z : List Byte) : slice (x ++ (y ++ z)) x.length y.length = y := by simp [slice]

/-- The weight block of the last clause: ones, 4,096 zeros, and the CRC that this leaves. -/
theorem rdy_block : blockCrcOk ((smp_State.getD 0 up).rdN (cacheAt 3 (dOff (desc 3 2) 8)) 4160) = true := by
  have h : (smp_State.getD 0 up).rdN (cacheAt 3 (dOff (desc 3 2) 8)) 4160 = ones ++ List.replicate 4096 0 ++ (ones ++ List.replicate 56 0) := by
    rw [show (4160 : Nat) = 4 + 4096 + (4 + 56) from rfl, rdN_append, rdN_append, rdN_append]
    refine congr (congrArg _ (congr (congrArg _ (by decide +kernel)) (rdN_absent _ _ _ (by decide +kernel)))) (congr (congrArg _ (by decide +kernel)) (rdN_absent _ _ _ (by decide +kernel)))
  have hl : (ones ++ List.replicate 4096 (0 : Byte)).length = 4100 := by rw [List.length_append, List.length_replicate]; rfl
  have h1 : slice (ones ++ List.replicate 4096 0 ++ (ones ++ List.replicate 56 0)) 0 4100 = ones ++ List.replicate 4096 0 := hl ▸ slice_left _ _
  have h2 : slice (ones ++ List.replicate 4096 0 ++ (ones ++ List.replicate 56 0)) 4100 4 = ones := hl ▸ slice_right _ ones _
  rw [h, blockCrcOk, leAt, h1, h2, crc32c, List.foldl_append, show ones.foldl (crcRByte 0x82F63B78) 0xFFFFFFFF = 0 by decide +kernel, crc_zeros]
  decide

theorem test_hypotheses_PassesStart :
    ((3 < 24 ∧ (smp_State.getD 6 up).alive = true ∧ (smpInstr_0 = Instr.passStart 3 ∧ smp_State.getD 6 up = (smp_State.getD 6 up).fresh ∧
    (smp_State.getD 6 up).omus.guard.contains 3 = false ∨ smpInstr_0 = Instr.guardSlotRecheck 3 ∧
    smp_State.getD 6 up = (smp_State.getD 6 up).fresh.atLeast (smp_State.getD 6 up).nextSlot ∧ (smp_State.getD 6 up).omus.guard.contains 3 = true ∧ ∀ p ∈ (smp_State.getD 6 up).cmp.passes, p.tile = 3 → p.waits = false) ∧
    (∀ r ∈ (smp_State.getD 6 up).cmp.runs, r.tile = 3 → r.todo = []) ∧
    (smp_State.getD 6 up).get F.OMU_TILE_CTRL_HALT 3 ≠ 1 ∧ (smp_State.getD 6 up).groupAt 3 = some [desc 0 2] ∧ descBad (desc 0 2) = true ∧ cplOk (desc 0 2) = true ∧
    (smp_State.getD 6 up).mirrorRuns (cacheAt 3 (dOff (desc 0 2) 28)) 32 = []) ∧ (smp_State.getD 6 up).mild ∧
    (dWait (desc 0 2) = true → ∀ (p : Pass), p ∈ (smp_State.getD 6 up).cmp.passes → p.tile ≠ 3)) ∧
    ((3 < 24 ∧ (smp_State.getD 24 up).alive = true ∧ (smpInstr_0 = Instr.passStart 3 ∧ smp_State.getD 24 up = (smp_State.getD 24 up).fresh ∧
    (smp_State.getD 24 up).omus.guard.contains 3 = false ∨ smpInstr_0 = Instr.guardSlotRecheck 3 ∧
    smp_State.getD 24 up = (smp_State.getD 24 up).fresh.atLeast (smp_State.getD 24 up).nextSlot ∧ (smp_State.getD 24 up).omus.guard.contains 3 = true ∧ ∀ p ∈ (smp_State.getD 24 up).cmp.passes, p.tile = 3 → p.waits = false) ∧
    (∀ r ∈ (smp_State.getD 24 up).cmp.runs, r.tile = 3 → r.todo = []) ∧
    (smp_State.getD 24 up).get F.OMU_TILE_CTRL_HALT 3 ≠ 1 ∧ (smp_State.getD 24 up).groupAt 3 = some [badc] ∧ descBad badc = true ∧ cplOk badc = false) ∧
    (smp_State.getD 24 up).mild ∧ (dWait badc = true → ∀ (p : Pass), p ∈ (smp_State.getD 24 up).cmp.passes → p.tile ≠ 3)) ∧
    ((3 < 24 ∧ (smp_State.getD 3 up).alive = true ∧ (smpInstr_0 = Instr.passStart 3 ∧ smp_State.getD 3 up = (smp_State.getD 3 up).fresh ∧
    (smp_State.getD 3 up).omus.guard.contains 3 = false ∨ smpInstr_0 = Instr.guardSlotRecheck 3 ∧
    smp_State.getD 3 up = (smp_State.getD 3 up).fresh.atLeast (smp_State.getD 3 up).nextSlot ∧ (smp_State.getD 3 up).omus.guard.contains 3 = true ∧ ∀ p ∈ (smp_State.getD 3 up).cmp.passes, p.tile = 3 → p.waits = false) ∧
    (∀ r ∈ (smp_State.getD 3 up).cmp.runs, r.tile = 3 → r.todo = []) ∧
    (smp_State.getD 3 up).get F.OMU_TILE_CTRL_HALT 3 ≠ 1 ∧ (smp_State.getD 3 up).groupAt 3 = some [desc 3 0] ∧ descBad (desc 3 0) = false ∧ dNvec (desc 3 0) = 0 ∧
    (smp_State.getD 3 up).mirrorRuns (cacheAt 3 (dOff (desc 3 0) 28)) 32 = []) ∧ (smp_State.getD 3 up).mild ∧
    (dWait (desc 3 0) = true → ∀ (p : Pass), p ∈ (smp_State.getD 3 up).cmp.passes → p.tile ≠ 3)) ∧
    ((3 < 24 ∧ (smp_State.getD 9 up).alive = true ∧ (smpInstr_0 = Instr.passStart 3 ∧ smp_State.getD 9 up = (smp_State.getD 9 up).fresh ∧
    (smp_State.getD 9 up).omus.guard.contains 3 = false ∨ smpInstr_0 = Instr.guardSlotRecheck 3 ∧
    smp_State.getD 9 up = (smp_State.getD 9 up).fresh.atLeast (smp_State.getD 9 up).nextSlot ∧ (smp_State.getD 9 up).omus.guard.contains 3 = true ∧ ∀ p ∈ (smp_State.getD 9 up).cmp.passes, p.tile = 3 → p.waits = false) ∧
    (∀ r ∈ (smp_State.getD 9 up).cmp.runs, r.tile = 3 → r.todo = []) ∧
    (smp_State.getD 9 up).get F.OMU_TILE_CTRL_HALT 3 ≠ 1 ∧ (smp_State.getD 9 up).groupAt 3 = some [desc 3 2] ∧ descBad (desc 3 2) = false ∧ dNvec (desc 3 2) ≠ 0 ∧
    (∀ (v : Nat), v ∈ bitList 4 (dMask (desc 3 2)) → (smp_State.getD 9 up).omuServes 3 v = false) ∧ dFallback (desc 3 2) = false ∧
    (smp_State.getD 9 up).mirrorRuns (cacheAt 3 (dOff (desc 3 2) 28)) 32 = []) ∧ (smp_State.getD 9 up).mild ∧
    (dWait (desc 3 2) = true → ∀ (p : Pass), p ∈ (smp_State.getD 9 up).cmp.passes → p.tile ≠ 3)) ∧
    ((3 < 24 ∧ (smp_State.getD 12 up).alive = true ∧ (smpInstr_0 = Instr.passStart 3 ∧ smp_State.getD 12 up = (smp_State.getD 12 up).fresh ∧
    (smp_State.getD 12 up).omus.guard.contains 3 = false ∨ smpInstr_0 = Instr.guardSlotRecheck 3 ∧
    smp_State.getD 12 up = (smp_State.getD 12 up).fresh.atLeast (smp_State.getD 12 up).nextSlot ∧ (smp_State.getD 12 up).omus.guard.contains 3 = true ∧ ∀ p ∈ (smp_State.getD 12 up).cmp.passes, p.tile = 3 → p.waits = false) ∧
    (∀ r ∈ (smp_State.getD 12 up).cmp.runs, r.tile = 3 → r.todo = []) ∧
    (smp_State.getD 12 up).get F.OMU_TILE_CTRL_HALT 3 ≠ 1 ∧ (smp_State.getD 12 up).groupAt 3 = some [desc 3 9] ∧ descBad (desc 3 9) = false ∧ dNvec (desc 3 9) ≠ 0 ∧
    (smp_State.getD 12 up).omuFor 3 (desc 3 9) = some 0 ∧ (smp_State.getD 12 up).admits 3 [desc 3 9] = true ∧ (smp_State.getD 12 up).guarded 3 0 (desc 3 9) = true) ∧
    (smp_State.getD 12 up).mild ∧ (dWait (desc 3 9) = true → ∀ (p : Pass), p ∈ (smp_State.getD 12 up).cmp.passes → p.tile ≠ 3)) ∧
    ((3 < 24 ∧ (smp_State.getD 0 up).alive = true ∧ (smpInstr_0 = Instr.passStart 3 ∧ smp_State.getD 0 up = (smp_State.getD 0 up).fresh ∧
    (smp_State.getD 0 up).omus.guard.contains 3 = false ∨ smpInstr_0 = Instr.guardSlotRecheck 3 ∧
    smp_State.getD 0 up = (smp_State.getD 0 up).fresh.atLeast (smp_State.getD 0 up).nextSlot ∧ (smp_State.getD 0 up).omus.guard.contains 3 = true ∧ ∀ p ∈ (smp_State.getD 0 up).cmp.passes, p.tile = 3 → p.waits = false) ∧
    (∀ r ∈ (smp_State.getD 0 up).cmp.runs, r.tile = 3 → r.todo = []) ∧
    (smp_State.getD 0 up).get F.OMU_TILE_CTRL_HALT 3 ≠ 1 ∧ (smp_State.getD 0 up).groupAt 3 = some [desc 3 2] ∧ descBad (desc 3 2) = false ∧ dNvec (desc 3 2) ≠ 0 ∧
    (smp_State.getD 0 up).omuFor 3 (desc 3 2) = some 0 ∧ (smp_State.getD 0 up).admits 3 [desc 3 2] = true ∧ (smp_State.getD 0 up).guarded 3 0 (desc 3 2) = false ∧
    (smp_State.getD 0 up).get F.OMU_STAT_TEMP_OK 3 = 1 ∧ (smp_State.getD 0 up).anyPoison (cacheAt 3 (dOff (desc 3 2) 8)) 4160 = false ∧
    blockCrcOk ((smp_State.getD 0 up).rdN (cacheAt 3 (dOff (desc 3 2) 8)) 4160) = true) ∧ (smp_State.getD 0 up).mild ∧
    (dWait (desc 3 2) = true → ∀ (p : Pass), p ∈ (smp_State.getD 0 up).cmp.passes → p.tile ≠ 3)) := by
  and_intros <;> (first | with_reducible exact rdy_block | with_reducible exact mild_of (by decide +kernel) | decide +kernel)

end PassesStart

namespace PassesEnd

def desc (fl : Nat) (nvec : Nat) (extra : Nat := 0) : List Byte :=
  natLe 2 fl ++ natLe 2 extra ++ natLe 4 nvec ++ natLe 4 0x10000 ++ natLe 4 0x20000 ++ natLe 4 64 ++ natLe 4 0x30000 ++ natLe 4 128 ++ natLe 4 0x40000 ++ natLe 8 0x1234 ++ List.replicate 24 0
def pa : Pass := { tile := 3, omu := 1, slot := 5, desc := desc 3 2, start := 100, outs := [⟨cacheAt 3 0x30000, List.replicate 4 7, []⟩] }
def pb : Pass := { pa with omu := 4, drops := 1 }
def wp (l : List Pass) : State := { ((pres up).set F.OMU_STAT_STATE 2 3 1) with cmp := { up.cmp with passes := l } }

theorem test_hypotheses_PassesEnd :
    ((3 < 24 ∧ (wp [pa]).alive = true ∧ (wp [pa]).cmp.passes = [pa] ∧ pa.tile = 3 ∧ pa.omu = 1 ∧ pa.waits = false ∧ cplOk pa.desc = true ∧ 1 < 4 ∧ 0 < dNvec pa.desc ∧
    (wp [pa]).omus.want.contains (4 * 3 + 1) = false ∧ (wp [pa]).omus.due.contains (4 * 3 + 1) = false) ∧
    (wp [pa]).mild ∧ (∀ (a n : Nat), (wp [pa]).mirrorRuns a n = [])) ∧
    ((3 < 24 ∧ (wp [pb]).alive = true ∧ (wp [pb]).cmp.passes = [pb] ∧ pb.tile = 3 ∧ pb.omu = 4 ∧ pb.waits = false ∧ cplOk pb.desc = true ∧ 4 = 4) ∧ (wp [pb]).mild ∧
    (∀ (a n : Nat), (wp [pb]).mirrorRuns a n = [])) :=
  ⟨⟨by decide +kernel, mild_of (by decide +kernel), noMirror (by decide +kernel)⟩,
   ⟨by decide +kernel, mild_of (by decide +kernel), noMirror (by decide +kernel)⟩⟩

end PassesEnd

namespace PilotsRun

def base : State := (((pres up).set F.OMU_STAT_STATE 1 3 1).set F.OMU_STAT_TEMP_OK 1 3 1).set F.OMU_PILOT_CFG_EVERY 4 3
def wo (o : Omus) (s : State := base) : State := { s with omus := o }
def off : State := wo { retry := [13] } ((List.range 64).foldl (fun (s : State) i => s.set F.TWK_RING_STATE 4 3 (832 + i)) (base.set F.OMU_STAT_STATE 0 3 1))
def smpPilotReport_0 : PilotReport := { offtab := [5,6], fast := 9, gain := 2}
def smpPilotReport_1 : PilotReport := {gain := 100000}

theorem test_hypotheses_PilotsRun :
    ((3 < 24 ∧ 1 < 4 ∧ base.alive = true ∧ base.get F.OMU_PILOT_CFG_EVERY 3 ≠ 0 ∧ base.get F.TRN_NUM % base.get F.OMU_PILOT_CFG_EVERY 3 = base.get F.OMU_PILOT_PHASE 3 1 ∧
    base.get F.OMU_STAT_STATE 3 1 = 1 ∧ base.get F.OMU_STAT_TEMP_OK 3 1 = 1 ∧ (∀ (p : Pass), p ∈ base.cmp.passes → p.tile = 3 → p.omu = 1 → p.waits = true)) ∧ base.mild) ∧
    ((3 < 24 ∧ 1 < 4 ∧ (base.set F.OMU_STAT_STATE 2 3 1).alive = true ∧ (base.set F.OMU_STAT_STATE 2 3 1).get F.OMU_PILOT_CFG_EVERY 3 ≠ 0 ∧
    (base.set F.OMU_STAT_STATE 2 3 1).get F.TRN_NUM % (base.set F.OMU_STAT_STATE 2 3 1).get F.OMU_PILOT_CFG_EVERY 3 = (base.set F.OMU_STAT_STATE 2 3 1).get F.OMU_PILOT_PHASE 3 1 ∧
    (base.set F.OMU_STAT_STATE 2 3 1).get F.OMU_STAT_STATE 3 1 = 2 ∧ (base.set F.OMU_STAT_STATE 2 3 1).get F.OMU_STAT_TEMP_OK 3 1 = 1) ∧
    (base.set F.OMU_STAT_STATE 2 3 1).mild) ∧
    ((3 < 24 ∧ 1 < 4 ∧ (base.set F.OMU_STAT_TEMP_OK 0 3 1).alive = true ∧ (base.set F.OMU_STAT_TEMP_OK 0 3 1).get F.OMU_PILOT_CFG_EVERY 3 ≠ 0 ∧
    (base.set F.OMU_STAT_TEMP_OK 0 3 1).get F.TRN_NUM % (base.set F.OMU_STAT_TEMP_OK 0 3 1).get F.OMU_PILOT_CFG_EVERY 3 = (base.set F.OMU_STAT_TEMP_OK 0 3 1).get F.OMU_PILOT_PHASE 3 1 ∧
    ((base.set F.OMU_STAT_TEMP_OK 0 3 1).get F.OMU_STAT_STATE 3 1 = 1 ∨ (base.set F.OMU_STAT_TEMP_OK 0 3 1).get F.OMU_STAT_STATE 3 1 = 2) ∧
    (base.set F.OMU_STAT_TEMP_OK 0 3 1).get F.OMU_STAT_TEMP_OK 3 1 ≠ 1) ∧ (base.set F.OMU_STAT_TEMP_OK 0 3 1).mild) ∧
    ((3 < 24 ∧ 1 < 4 ∧ base.alive = true ∧ base.barUp = true ∧ 4 ≤ base.get F.FLT_BOOT_STEP ∧ base.domStopped (24 + 3) = false ∧ base.get F.OMU_STAT_STATE 3 1 = 1 ∧
    base.get F.OMU_STAT_TEMP_OK 3 1 = 1 ∧ (∀ (p : Pass), p ∈ base.cmp.passes → p.tile = 3 → p.omu = 1 → p.waits = true)) ∧ base.mild) ∧
    ((3 < 24 ∧ 1 < 4 ∧ (wo { pilots := [(13, 100, false)] }).alive = true ∧
    List.find? (fun (p : Nat × Nat × Bool) => decide (p.fst = 4 * 3 + 1)) (wo { pilots := [(13, 100, false)] }).omus.pilots = some (4 * 3 + 1, 100, false) ∧
    (∀ (p : Pass), p ∈ (wo { pilots := [(13, 100, false)] }).cmp.passes → p.tile ≠ 3) ∧ (wo { pilots := [(13, 100, false)] }).omus.want.contains (4 * 3 + 1) = false ∧ (wo { pilots := [(13, 100, false)] }).omus.due.contains (4 * 3 + 1) = false ∧
    pilotOk smpPilotReport_0 = true) ∧ (wo { pilots := [(13, 100, false)] }).mild) ∧
    ((3 < 24 ∧ 1 < 4 ∧ (wo { pilots := [(13, 100, false)] }).alive = true ∧
    List.find? (fun (p : Nat × Nat × Bool) => decide (p.fst = 4 * 3 + 1)) (wo { pilots := [(13, 100, false)] }).omus.pilots = some (4 * 3 + 1, 100, false) ∧
    (∀ (p : Pass), p ∈ (wo { pilots := [(13, 100, false)] }).cmp.passes → p.tile ≠ 3) ∧ (wo { pilots := [(13, 100, false)] }).omus.want.contains (4 * 3 + 1) = false ∧ (wo { pilots := [(13, 100, false)] }).omus.due.contains (4 * 3 + 1) = false ∧
    pilotOk smpPilotReport_1 = false ∧ false = false) ∧ (wo { pilots := [(13, 100, false)] }).mild) ∧
    ((3 < 24 ∧ 1 < 4 ∧ (wo { pilots := [(13, 100, true), (13, 3, false)], fails := [(13, 1)] }).alive = true ∧
    List.find? (fun (p : Nat × Nat × Bool) => decide (p.fst = 4 * 3 + 1)) (wo { pilots := [(13, 100, true), (13, 3, false)], fails := [(13, 1)] }).omus.pilots = some (4 * 3 + 1, 100, true) ∧
    (∀ (p : Pass), p ∈ (wo { pilots := [(13, 100, true), (13, 3, false)], fails := [(13, 1)] }).cmp.passes → p.tile ≠ 3) ∧
    (wo { pilots := [(13, 100, true), (13, 3, false)], fails := [(13, 1)] }).omus.want.contains (4 * 3 + 1) = false ∧ pilotOk smpPilotReport_1 = false ∧ true = true ∧
    (wo { pilots := [(13, 100, true), (13, 3, false)], fails := [(13, 1)] }).omus.due.contains (4 * 3 + 1) = false ∧
    tabGet 0 (wo { pilots := [(13, 100, true), (13, 3, false)], fails := [(13, 1)] }).omus.fails (4 * 3 + 1) = 1) ∧
    (wo { pilots := [(13, 100, true), (13, 3, false)], fails := [(13, 1)] }).mild) ∧
    (3 < 24 ∧ 1 < 4 ∧ off.alive = true ∧ off.get F.OMU_PILOT_CFG_EVERY 3 ≠ 0 ∧ off.get F.TRN_NUM % off.get F.OMU_PILOT_CFG_EVERY 3 = off.get F.OMU_PILOT_PHASE 3 1 ∧
    off.get F.OMU_STAT_STATE 3 1 = 0 ∧ off.get F.OMU_STAT_TEMP_OK 3 1 = 1 ∧ off.omus.retry.contains 13 = true ∧ off.omuLit 3 1 = true ∧ off.omus.uncal.contains 13 = false ∧
    (∀ p ∈ off.omus.pilots, p.1 ≠ 13) ∧ 5 ≤ off.get F.FLT_BOOT_STEP) := by
  and_intros <;> (first | exact mild_of (by decide +kernel) | decide +kernel)

end PilotsRun

namespace OmuUpkeep

def base : State := (((pres up).set F.OMU_STAT_STATE 1 3 1).set F.OMU_STAT_TEMP_OK 1 3 1).set F.OMU_PILOT_CFG_EVERY 4 3
def full : State := { (base.set F.OMU_STAT_STATE 0 3 1) with omus := { base.omus with pilots := [(13, 100, true)] } }
def back : State := (List.range 64).foldl (fun (s : State) i => s.set F.TWK_RING_STATE 4 3 (832 + i)) (base.set F.OMU_STAT_STATE 4 3 1)
def pa : Pass := { tile := 3, omu := 1, slot := 5, desc := List.replicate 64 0, start := 100, outs := [⟨cacheAt 3 0x30000, List.replicate 4 7, []⟩] }
def wp (l : List Pass) (s : State := base) : State := { (s.set F.OMU_STAT_STATE 2 3 1) with cmp := { up.cmp with passes := l } }
def busy : State := charted { plain with activity := [(255, { slotNs := 1, words := List.replicate 48 255 })] } (wp [{ pa with desc := natLe 2 3 ++ natLe 2 0 ++ natLe 4 2000 ++ List.replicate 56 0 }])

theorem test_hypotheses_OmuUpkeep :
    ((3 < 24 ∧ 1 < 4 ∧ base.alive = true ∧ base.get F.OMU_STAT_STATE 3 1 ∈ [1, 2, 3] ∧ (∀ (p : Pass), p ∈ base.cmp.passes → p.drops < 2)) ∧ base.mild) ∧
    ((3 < 24 ∧ 1 < 4 ∧ full.alive = true ∧ full.get F.OMU_STAT_STATE 3 1 = 0 ∧ (∃ p ∈ full.omus.pilots, p.1 = 4 * 3 + 1)) ∧ full.mild) ∧
    (3 < 24 ∧ 3 < 4 ∧ (base.set F.TRN_NUM 50).alive = true ∧ (base.set F.TRN_NUM 50).get F.OMU_PILOT_CFG_EVERY 3 ≠ 0 ∧
    (base.set F.TRN_NUM 50).get F.OMU_PILOT_CFG_EVERY 3 ≤ (base.set F.TRN_NUM 50).pilotAge 3 3) ∧
    (3 < 24 ∧ 3 < 4 ∧ base.alive = true ∧ base.pilotAge 3 3 < base.get F.OMU_PILOT_CFG_EVERY 3) ∧
    (3 < 24 ∧ 1 < 4 ∧ base.alive = true ∧ base.get F.OMU_STAT_STATE 3 1 ∉ [0, 4]) ∧
    (3 < 24 ∧ 1 < 4 ∧ back.alive = true ∧ back.get F.OMU_STAT_STATE 3 1 = 4 ∧ back.omuLit 3 1 = true ∧ back.get F.OMU_STAT_TEMP_OK 3 1 = 1 ∧
    back.omus.relock.contains (4 * 3 + 1) = false ∧ back.omus.due.contains (4 * 3 + 1) = false ∧ (∀ p ∈ back.cmp.passes, p.tile ≠ 3)) ∧
    ((3 < 24 ∧ 1 < 4 ∧
    busy.alive = true ∧
    75 ≤ [80, 90, 10, 30].getD 1 0 ∧
    tabGet 0 busy.omus.levels (4 * 3 + 1) < 3 ∧
    busy.runsHot 3 1 = true) ∧
    (∀ (u : Nat), u < 4 → u ≠ 1 → busy.runsHot 3 u = false)) ∧
    (3 < 24 ∧ 3 < 4 ∧ base.alive = true ∧ base.barUp = true ∧ 4 ≤ base.get F.FLT_BOOT_STEP ∧ base.domStopped (24 + 3) = false) := by
  and_intros <;> (first | exact mild_of (by decide +kernel) | decide +kernel)

end OmuUpkeep

/-! ## Memory and its engines -/

namespace ScansRun

def b : State := { (pres up).wrN 100 [1,2,3,4] with power := .on }
def scn (l : List Scan) (s : State := b) : State := { (s.set F.CHK_STATUS_STATE 1 1 2) with cmp := { s.cmp with scans := l } }
def sc : Scan := { ctx := 10, start := 64, len := 128, algo := 1, fold := true, seq0 := 4, seq := none }
def far : Scan := { sc with start := 0x800000000000 }
def card (a n algo : Nat) : List Byte := (natLe 1 7) ++ List.replicate 15 0 ++ natLe 1 (algo * 16 + 1 + 4) ++ [0,9,0,0,0,0,0] ++ natLe 8 a ++ natLe 8 n ++ List.replicate 24 0
def crd (c : List Byte) (st : Bool) (s : State := b) : State := s.setEnt 5 { deck := 1, state := 2, opcode := 7, card := c, started := st }
def reg (a n : Nat) : State := (b.set F.CHK_START a 1 2).set F.CHK_LEN n 1 2
def smpScan_1 : Scan := { sc with seq := some 5 }

theorem test_hypotheses_ScansRun :
    (1 < 2 ∧ 2 < 8 ∧ (reg 64 128).alive = true ∧ (reg 64 128).barUp = true ∧ 4 ≤ (reg 64 128).get F.FLT_BOOT_STEP ∧ (reg 64 128).domStopped (128 + 1) = false ∧
    bit 1 0 = true ∧ bit 1 1 = false ∧ (reg 64 128).get F.CHK_STATUS_STATE 1 2 = 0 ∧
    (reg 64 128).scanErr (1 / 4 % 4) ((reg 64 128).get F.CHK_START 1 2) ((reg 64 128).get F.CHK_LEN 1 2) = 0 ∧ 0 < (reg 64 128).get F.CHK_LEN 1 2) ∧
    (1 < 2 ∧ 1 < 8 ∧ (reg 64 128).alive = true ∧ (reg 64 128).barUp = true ∧ 4 ≤ (reg 64 128).get F.FLT_BOOT_STEP ∧ (reg 64 128).domStopped (128 + 1) = false ∧
    bit 13 0 = true ∧ bit 13 1 = false ∧ (reg 64 128).get F.CHK_STATUS_STATE 1 1 = 0 ∧ (reg 64 128).scanOf 1 1 = none ∧
    (reg 64 128).scanErr (13 / 4 % 4) ((reg 64 128).get F.CHK_START 1 1) ((reg 64 128).get F.CHK_LEN 1 1) ≠ 0) ∧
    (1 < 2 ∧ 1 < 8 ∧ (reg 64 128).alive = true ∧ (reg 64 128).barUp = true ∧ 4 ≤ (reg 64 128).get F.FLT_BOOT_STEP ∧ (reg 64 128).domStopped (128 + 1) = false ∧
    bit 1 0 = true ∧ bit 1 1 = false ∧ (reg 64 128).get F.CHK_STATUS_STATE 1 1 = 0 ∧ (reg 64 128).scanOf 1 1 = none ∧
    (reg 64 128).scanErr (1 / 4 % 4) ((reg 64 128).get F.CHK_START 1 1) ((reg 64 128).get F.CHK_LEN 1 1) = 0 ∧ (reg 64 128).get F.CHK_LEN 1 1 = 0) ∧
    (1 < 2 ∧ 2 < 8 ∧ (scn [sc, sc] (reg 64 128)).alive = true ∧ (scn [sc, sc] (reg 64 128)).barUp = true ∧ 4 ≤ (scn [sc, sc] (reg 64 128)).get F.FLT_BOOT_STEP ∧
    (scn [sc, sc] (reg 64 128)).domStopped (128 + 1) = false ∧ bit 1 0 = true ∧ bit 1 1 = false ∧ (scn [sc, sc] (reg 64 128)).get F.CHK_STATUS_STATE 1 2 = 1) ∧
    (1 < 2 ∧ 2 < 8 ∧ (scn [sc, sc] (reg 64 128)).alive = true ∧ (scn [sc, sc] (reg 64 128)).barUp = true ∧ 4 ≤ (scn [sc, sc] (reg 64 128)).get F.FLT_BOOT_STEP ∧
    (scn [sc, sc] (reg 64 128)).domStopped (128 + 1) = false ∧ bit 2 0 = false ∧ bit 2 1 = true ∧ (scn [sc, sc] (reg 64 128)).scanOf 1 2 = some sc ∧ sc.seq = none) ∧
    (1 < 2 ∧ 2 < 8 ∧ (scn [sc, sc] (reg 64 128)).alive = true ∧ (scn [sc, sc] (reg 64 128)).scanOf 1 2 = some sc ∧ sc.len < 2 ^ 48 ∧ sc.start + sc.len < 2 ^ 52 ∧
    (if regionOf sc.start = Region.host then (none : Option Nat) = none else (scn [sc, sc] (reg 64 128)).anyPoison sc.start sc.len = false) ∧ sc.seq = none) ∧
    (1 < 2 ∧ 2 < 8 ∧
    (scn [smpScan_1] (crd (card 64 128 1) true)).alive = true ∧
    (scn [smpScan_1] (crd (card 64 128 1) true)).scanOf 1 2 = some smpScan_1 ∧
    smpScan_1.len < 2 ^ 48 ∧ smpScan_1.start + smpScan_1.len < 2 ^ 52 ∧
    (if regionOf smpScan_1.start = Region.host then (none : Option Nat) = none else (scn [smpScan_1] (crd (card 64 128 1) true)).anyPoison smpScan_1.start smpScan_1.len = false) ∧
    smpScan_1.seq = some 5 ∧
    ((scn [smpScan_1] (crd (card 64 128 1) true)).ent 5).state = 2 ∧
    leAt ((scn [smpScan_1] (crd (card 64 128 1) true)).ent 5).card 40 8 = 0) ∧
    (1 < 2 ∧ 2 < 8 ∧ (scn [sc] (b.setPoison 2 true)).alive = true ∧ (scn [sc] (b.setPoison 2 true)).scanOf 1 2 = some sc ∧ sc.len < 2 ^ 48 ∧ sc.start + sc.len < 2 ^ 52 ∧
    (regionOf sc.start = Region.host) = False ∧ (scn [sc] (b.setPoison 2 true)).anyPoison sc.start sc.len = true) ∧
    (1 < 2 ∧ 2 < 8 ∧ (scn [far]).alive = true ∧ (scn [far]).scanOf 1 2 = some far ∧ far.len < 2 ^ 48 ∧ far.start + far.len < 2 ^ 52 ∧ regionOf far.start = Region.host ∧ 5 < far.len) ∧
    (1 < 2 ∧ 2 < 8 ∧ (crd (card 64 128 1) false).alive = true ∧ ((crd (card 64 128 1) false).ent 5).state = 2 ∧ ((crd (card 64 128 1) false).ent 5).opcode = 7 ∧
    ((crd (card 64 128 1) false).ent 5).started = false ∧ ((crd (card 64 128 1) false).ent 5).finished = false ∧
    checkCtx ((crd (card 64 128 1) false).ent 5).card = (1, 2) ∧ (crd (card 64 128 1) false).get F.CHK_STATUS_STATE 1 2 ≠ 1 ∧
    (crd (card 64 128 1) false).scanErr (leAt ((crd (card 64 128 1) false).ent 5).card 16 1 / 16 % 4) (leAt ((crd (card 64 128 1) false).ent 5).card 24 8 % 2 ^ 52) (leAt ((crd (card 64 128 1) false).ent 5).card 32 8 % 2 ^ 48) = 0 ∧
    0 < leAt ((crd (card 64 128 1) false).ent 5).card 32 8 % 2 ^ 48) ∧
    (1 < 2 ∧ 2 < 8 ∧ (crd (card (2 ^ 50) 128 0) false).alive = true ∧ ((crd (card (2 ^ 50) 128 0) false).ent 5).state = 2 ∧
    ((crd (card (2 ^ 50) 128 0) false).ent 5).opcode = 7 ∧ ((crd (card (2 ^ 50) 128 0) false).ent 5).started = false ∧
    ((crd (card (2 ^ 50) 128 0) false).ent 5).finished = false ∧ checkCtx ((crd (card (2 ^ 50) 128 0) false).ent 5).card = (1, 2) ∧
    (crd (card (2 ^ 50) 128 0) false).get F.CHK_STATUS_STATE 1 2 ≠ 1 ∧
    (crd (card (2 ^ 50) 128 0) false).scanErr (leAt ((crd (card (2 ^ 50) 128 0) false).ent 5).card 16 1 / 16 % 4) (leAt ((crd (card (2 ^ 50) 128 0) false).ent 5).card 24 8 % 2 ^ 52) (leAt ((crd (card (2 ^ 50) 128 0) false).ent 5).card 32 8 % 2 ^ 48) ≠ 0 ∧
    (crd (card (2 ^ 50) 128 0) false).scanOf 1 2 = none) ∧
    (1 < 2 ∧ 2 < 8 ∧ (scn [sc] (crd (card 64 128 1) false)).alive = true ∧ ((scn [sc] (crd (card 64 128 1) false)).ent 5).state = 2 ∧
    ((scn [sc] (crd (card 64 128 1) false)).ent 5).opcode = 7 ∧ ((scn [sc] (crd (card 64 128 1) false)).ent 5).started = false ∧
    ((scn [sc] (crd (card 64 128 1) false)).ent 5).finished = false ∧ checkCtx ((scn [sc] (crd (card 64 128 1) false)).ent 5).card = (1, 2) ∧
    (scn [sc] (crd (card 64 128 1) false)).get F.CHK_STATUS_STATE 1 2 = 1) := by
  and_intros <;> decide +kernel

end ScansRun

namespace MemoryIsKept

def b : State := { ((pres up).wrN 4096 [1,2,3,4]).setPoison 64 true with boot := { up.boot with done := List.range 10 } }
def sh : Shard := { firstRow := 0, nrows := 4, engine := 0, mirror := 1, state := 3, base := 4096, mbase := 4096 * 2 }
def tb : Table := { id := 5, fmt := 0, part := 0, d := 16, stride := 64, rows := 4, hotRows := 2, hotTiles := 15, shards := [sh] }
def wt (l : List Table) (s : State := b) : State := { s with mems := { s.mems with tables := l, ready := [8197], sweeping := [(0,0),(7,0)], ceSeen := [(3,2), (stackGranules+4, 2)] } }

def one : EccKind := { syms := [(3, 7)], odecc := true }
def two : EccKind := { syms := [(3, 7), (66, 1)] }
def ht : Table := { tb with shards := [{ sh with state := 0, mirror := 0xFF }] }
/-- Tile 0 keeps a row cache. -/
def hot : State := { wt [ht] (charted { plain with layouts := [(255, List.replicate 24 { rowMib := 64 })] } b) with hands := {} }

theorem test_hypotheses_MemoryIsKept :
    ((wt [] (b.set F.MBD_SWEEP_POS (stackGranules - 1) 1)).alive = true ∧ 1 < 12 ∧ (wt [] (b.set F.MBD_SWEEP_POS (stackGranules - 1) 1)).boot.done.contains 6 = true ∧
    (wt [] (b.set F.MBD_SWEEP_POS (stackGranules - 1) 1)).mbdUp 1 = true ∧
    stackGranules ≤ (wt [] (b.set F.MBD_SWEEP_POS (stackGranules - 1) 1)).get F.MBD_SWEEP_POS 1 + 1) ∧
    ((b.alive = true ∧ 0 < 12 ∧ b.boot.done.contains 6 = true ∧ b.mbdUp 0 = true ∧ b.get F.MBD_SWEEP_POS + 1 < stackGranules ∧
    b.uncorrectable ⟨0 * stackGranules + b.get F.MBD_SWEEP_POS, two⟩ = true ∧ b.otherCopy ((0 * stackGranules + b.get F.MBD_SWEEP_POS) * 64) = none ∧
    symbolErrors one = 1 ∧ b.poisoned (0 * stackGranules + b.get F.MBD_SWEEP_POS) = false) ∧ b.mild) ∧
    (b.alive = true ∧ 0 < 24 ∧ b.boot.done.contains 6 = true ∧ b.present 0 = true ∧ b.retired 0 = false ∧ b.get F.FLT_DOM0_STATE = 0) ∧
    (hot.alive = true ∧ hot.table 5 = some ht ∧ 5 < 4096 ∧ ht.hotRows ≠ 0 ∧ bit ht.hotTiles 0 = true ∧ 0 < 24 ∧ hot.present 0 = true ∧
    hot.retired 0 = false ∧ (hot.hotAt 0 ht).isSome = true ∧ ht.shards = [{ sh with state := 0, mirror := 0xFF }] ∧ sh.firstRow = 0 ∧ ht.hotRows ≤ sh.nrows ∧
    sh.lost = 0 ∧ hot.hands.slots = [] ∧ Memory.wf hot.mem = true) ∧
    ((wt [tb]).alive = true ∧ (wt [tb]).table 5 = some tb ∧ tb.shards[0]? = some sh ∧ sh.state = 3 ∧ sh.mirror ≠ 255 ∧ (wt [tb]).mbdUp sh.engine = true ∧
    (wt [tb]).mbdUp sh.mirror = true ∧ Memory.wf (wt [tb]).mem = true) :=
  ⟨by decide +kernel,
   ⟨by decide +kernel, mild_of (by decide +kernel)⟩,
   by decide +kernel,
   by decide +kernel,
   by decide +kernel⟩

end MemoryIsKept

namespace EngineJobsRun_0

def b : State := (((pres up).wrN 4096 [1,2,3,4]).setPoison 64 true)
def sh : Shard := { firstRow := 0, nrows := 4, engine := 1, mirror := 0xFF, state := 0, base := 4096 * 64, mbase := 0 }
def tb : Table := { id := 5, fmt := 0, part := 0, d := 16, stride := 64, rows := 4, hotRows := 0, hotTiles := 0, shards := [sh] }
def job (rows : List Nat) (tab : Nat) (flags : Nat := 0) : List Byte :=
  natLe 2 tab ++ natLe 1 flags ++ natLe 1 0 ++ natLe 4 1 ++ natLe 4 rows.length ++ natLe 1 rows.length ++ natLe 3 0 ++ natLe 8 0 ++ natLe 8 (cacheAt 3 4096) ++ natLe 4 4 ++ natLe 2 (3 + 64*0) ++ natLe 2 0 ++ natLe 8 77 ++ List.replicate 16 0 ++ rows.flatMap (natLe 4)
def mb (site : Nat) (l : List (Nat × Nat × List Byte)) (s : State := b) : State := s.setStn site { s.stn site with mailbox := l }
def wt (l : List Table) (s : State) : State := { s with mems := { s.mems with tables := l } }
def j0 : Job := { id := 4, mbd := 1, src := 3, notify := 3, box := 0, tag := 77, status := 0, rows := 2, oob := 1, gran := 3, bags := 1, empty := 1 }
def jobs (l : List Job) (s : State) : State := { s with cmp := { s.cmp with jobs := l } }
def J1 := mb 25 [(3,1,job [1,2] 5),(3,1,job [1,9] 5)]
def J2 := wt [tb] (mb 25 [(3,0,[1]),(3,1,job [1,9] 5),(3,1,job [2] 5)])
def B1 : Bags := ((J2.jobBags [] (job [1,9] 5)).1.getD [])
def U1 : State := ((J1.fresh.popBox 25 1).map (·.2)).getD up
def U2 : State := ((J2.fresh.popBox 25 1).map (·.2)).getD up
def J3 : State := wt [tb] (jobs (List.replicate 64 j0) J2)
def U3 : State := ((J3.fresh.popBox 25 1).map (·.2)).getD up

theorem test_hypotheses_EngineJobsRun_0 :
    ((1 < 12 ∧ J3.alive = true ∧ J3.get F.FLT_DOM0_STATE (68 + 1) = 0 ∧ J3.fresh.popBox (24 + 1) 1 = some ((3, job [1, 9] 5), U3) ∧
    64 ≤ (List.filter (fun (j : Job) => decide (j.mbd = 1) && decide (j.src = 3)) J3.cmp.jobs).length) ∧ J3.mild) ∧
    ((1 < 12 ∧ J1.alive = true ∧ J1.get F.FLT_DOM0_STATE (68 + 1) = 0 ∧ J1.fresh.popBox (24 + 1) 1 = some ((3, job [1, 2] 5), U1) ∧
    (List.filter (fun (j : Job) => decide (j.mbd = 1) && decide (j.src = 3)) J1.cmp.jobs).length < 64 ∧ J1.table (leAt (job [1, 2] 5) 0 2 % 4096) = none) ∧ J1.mild) ∧
    ((1 < 12 ∧ J2.alive = true ∧ J2.get F.FLT_DOM0_STATE (68 + 1) = 0 ∧ J2.fresh.popBox (24 + 1) 1 = some ((3, job [1, 9] 5), U2) ∧
    (List.filter (fun (j : Job) => decide (j.mbd = 1) && decide (j.src = 3)) J2.cmp.jobs).length < 64 ∧ J2.table (leAt (job [1, 9] 5) 0 2 % 4096) = some tb ∧
    jobBad (job [1, 9] 5) (job [1, 9] 5).length tb.d = false ∧ served tb (leAt (job [1, 9] 5) 0 2 / 4096) 1 (bit (leAt (job [1, 9] 5) 2 1) 3) = some sh ∧ sh.state ≠ 4 ∧
    U2.jobBags [] (job [1, 9] 5) = (some B1, false)) ∧ J2.mild ∧
    (∀ (g : List (Nat × Fv)), g ∈ B1 → ∀ (p : Nat × Fv), p ∈ g → p.fst ≠ 4294967295 → p.fst < tb.rows → sh.firstRow ≤ p.fst ∧ p.fst < sh.firstRow + sh.nrows)) :=
  ⟨⟨by decide +kernel, mild_of (by decide +kernel)⟩,
   ⟨by decide +kernel, mild_of (by decide +kernel)⟩,
   ⟨by decide +kernel, mild_of (by decide +kernel), by decide +kernel⟩⟩

end EngineJobsRun_0

namespace EngineJobsRun_1

def b : State := (((pres up).wrN 4096 [1,2,3,4]).setPoison 64 true)
def j0 : Job := { id := 4, mbd := 1, src := 3, notify := 3, box := 0, tag := 77, status := 0, rows := 2, oob := 1, gran := 3, bags := 1, empty := 1 }
def jobs (l : List Job) (s : State) : State := { s with cmp := { s.cmp with jobs := l } }
def smpJob_1 : Job := { j0 with waits := [(3,4096)]}
def jw : State := (jobs [{ j0 with waits := [(3, 4096)] }] b).setSpace 25 3 { store := [{ pkt := { dest := 3, addr := 4096 }, req := { dest := 3, cls := 2, op := 0, addr := 4096, agent := .engine } }] }

theorem test_hypotheses_EngineJobsRun_1 :
    ((1 < 12 ∧ (jobs [j0] b).alive = true ∧ (jobs [j0] b).get F.FLT_DOM0_STATE (68 + 1) = 0 ∧
    List.find? (fun (j : Job) => decide (j.id = 4) && decide (j.mbd = 1)) (jobs [j0] b).cmp.jobs = some j0 ∧ j0.waits = [] ∧ 0 < j0.bags ∧ 0 < j0.rows ∧ 0 < j0.gran) ∧
    (jobs [j0] b).mild) ∧
    ((1 < 12 ∧ jw.alive = true ∧ jw.get F.FLT_DOM0_STATE (68 + 1) = 0 ∧
    List.find? (fun (j : Job) => decide (j.id = 4) && decide (j.mbd = 1)) jw.cmp.jobs = some smpJob_1) ∧ jw.mild ∧ (∃ (w : Nat × Nat), w ∈ smpJob_1.waits ∧
    jw.outPending 1 w.fst w.snd = true)) :=
  ⟨⟨by decide +kernel, mild_of (by decide +kernel)⟩,
   ⟨by decide +kernel, mild_of (by decide +kernel), by decide +kernel⟩⟩

end EngineJobsRun_1

namespace EngineJobsRun_2

def b : State := (((pres up).wrN 4096 [1,2,3,4]).setPoison 64 true)
def job (rows : List Nat) (tab : Nat) (flags : Nat := 0) : List Byte :=
  natLe 2 tab ++ natLe 1 flags ++ natLe 1 0 ++ natLe 4 1 ++ natLe 4 rows.length ++ natLe 1 rows.length ++ natLe 3 0 ++ natLe 8 0 ++ natLe 8 (cacheAt 3 4096) ++ natLe 4 4 ++ natLe 2 (3 + 64*0) ++ natLe 2 0 ++ natLe 8 77 ++ List.replicate 16 0 ++ rows.flatMap (natLe 4)
def mb (site : Nat) (l : List (Nat × Nat × List Byte)) (s : State := b) : State := s.setStn site { s.stn site with mailbox := l }
def jobs (l : List Job) (s : State) : State := { s with cmp := { s.cmp with jobs := l } }
def runs (l : List OpRun) (s : State) : State := { s with cmp := { s.cmp with runs := l } }
def sj : SentJob := { tag := 77, table := 5, shard := 0, mcopy := false, mbd := 1, body := job [1] 5 }
def r0 : OpRun := { idx := 2, tile := 3, op := {opcode := 9, tiles := 8}, seq := some 5, jobs := [sj] }
def msg (st : Nat) : List Byte := natLe 8 st ++ natLe 8 77 ++ List.replicate 48 0
def M1 := mb 3 [(25,0,msg 0),(25,0,msg 3)]
def M2 := runs [r0, {r0 with idx := 3, jobs := []}] (mb 3 [(25,0,msg 3)])
def r2 : OpRun := { r0 with jobs := [sj, { sj with tag := 76 }] }
def M4 := runs [r2] (mb 3 [(25,0,msg 4)])
def W4 : State := ((M4.fresh.popBox 3 0).map (·.2)).getD up
def W1 : State := ((M1.fresh.popBox 3 0).map (·.2)).getD up
def W2 : State := ((M2.fresh.popBox 3 0).map (·.2)).getD up

theorem test_hypotheses_EngineJobsRun_2 :
    ((1 < 12 ∧ M1.alive = true ∧ M1.get F.FLT_DOM0_STATE (68 + 1) = 0 ∧ 3 < 24 ∧ M1.fresh.popBox 3 0 = some ((25, msg 0), W1) ∧ leAt (msg 0) 8 8 = 77 ∧
    (∀ (r : OpRun), r ∈ M1.cmp.runs → r.tile = 3 → ∀ (j : SentJob), j ∈ r.jobs → j.tag ≠ 77)) ∧ M1.mild) ∧
    ((1 < 12 ∧ M2.alive = true ∧ M2.get F.FLT_DOM0_STATE (68 + 1) = 0 ∧ 3 < 24 ∧ M2.fresh.popBox 3 0 = some ((25, msg 3), W2) ∧ leAt (msg 3) 8 8 = 77 ∧
    List.find? (fun (r : OpRun) => decide (r.tile = 3) && r.jobs.any fun (j : SentJob) => decide (j.tag = 77)) M2.cmp.runs = some r0 ∧
    List.find? (fun (j : SentJob) => decide (j.tag = 77)) r0.jobs = some sj ∧ leAt (msg 3) 0 1 ∈ [0, 1, 2, 3]) ∧ M2.mild) ∧
    ((M4.alive = true ∧ M4.fresh.popBox 3 0 = some ((25, msg 4), W4) ∧ leAt (msg 4) 8 8 = 77 ∧
    List.find? (fun (r : OpRun) => decide (r.tile = 3) && r.jobs.any fun (j : SentJob) => decide (j.tag = 77)) M4.cmp.runs = some r2 ∧
    List.find? (fun (j : SentJob) => decide (j.tag = 77)) r2.jobs = some sj ∧ leAt (msg 4) 0 1 = 4 ∧ sj.busy < 8 ∧ (∃ p ∈ W4.jobsAt 3 sj.mbd, p.2.tag ≠ 77)) ∧ M4.mild) :=
  ⟨⟨by decide +kernel, mild_of (by decide +kernel)⟩,
   ⟨by decide +kernel, mild_of (by decide +kernel)⟩,
   ⟨by decide +kernel, mild_of (by decide +kernel)⟩⟩

end EngineJobsRun_2

namespace HostLinkServes

def b : State := ((pres up).set F.DLR_STAT_LINK_UP 1).set F.FLT_BOOT_STEP 9
def acc : HostAcc := { id := 4, pkt := { src := 3, dest := 42, op := 1, seq := 9, payload := List.replicate 16 1, len := 16 } }
def ac (l : List HostAcc) (s : State := b) : State := { s with host := { s.host with accs := l } }

theorem test_hypotheses_HostLinkServes :
    ((b.on = true ∧ b.alive = true ∧ b.memActive = true ∧ regionOf 4 = Region.hbm 0 ∧ [1, 2, 3] ≠ [] ∧ 4 % 64 + [1, 2, 3].length ≤ 64 ∧ b.region 4 ≠ Region.unmapped ∧
    reservedOff 0 (4 % stackSize) = false ∧ b.inHotPrefix 4 [1, 2, 3].length = false ∧ b.inMirror 4 [1, 2, 3].length = false ∧ b.mirrorRuns 4 [1, 2, 3].length = []) ∧
    b.mild) ∧
    (((b.set F.MGT_SITE_PRESENT_MEM 0).on = true ∧ (b.set F.MGT_SITE_PRESENT_MEM 0).alive = true ∧ (b.set F.MGT_SITE_PRESENT_MEM 0).memActive = true ∧
    regionOf 4 = Region.hbm 0 ∧ [1, 2, 3] ≠ [] ∧ 4 % 64 + [1, 2, 3].length ≤ 64 ∧
    ((b.set F.MGT_SITE_PRESENT_MEM 0).region 4 = Region.unmapped ∨ reservedOff 0 (4 % stackSize) = true ∨ (b.set F.MGT_SITE_PRESENT_MEM 0).inHotPrefix 4 [1, 2, 3].length = true ∨ (b.set F.MGT_SITE_PRESENT_MEM 0).inMirror 4 [1, 2, 3].length = true)) ∧
    (b.set F.MGT_SITE_PRESENT_MEM 0).mild) ∧
    ((b.on = true ∧ b.alive = true ∧ b.memActive = true ∧ regionOf 4 = Region.hbm 0 ∧ [1, 2, 3] ≠ [] ∧ 4 % 64 + [1, 2, 3].length ≤ 64 ∧ b.region 4 ≠ Region.unmapped ∧
    b.region (4 / 64 * 64) ≠ Region.unmapped) ∧ b.mild) ∧
    (((b.set F.MGT_SITE_PRESENT_MEM 0).on = true ∧ (b.set F.MGT_SITE_PRESENT_MEM 0).alive = true ∧ (b.set F.MGT_SITE_PRESENT_MEM 0).memActive = true ∧
    regionOf 4 = Region.hbm 0 ∧ [1, 2, 3] ≠ [] ∧ 4 % 64 + [1, 2, 3].length ≤ 64 ∧ (b.set F.MGT_SITE_PRESENT_MEM 0).region (4 / 64 * 64) = Region.unmapped) ∧
    (b.set F.MGT_SITE_PRESENT_MEM 0).mild) ∧
    ((b.set F.DLR_STAT_LINK_UP 0).on = true ∧ (b.set F.DLR_STAT_LINK_UP 0).linkUp = false ∧ 3 ≤ (b.set F.DLR_STAT_LINK_UP 0).get F.FLT_BOOT_STEP ∧
    ∀ y, y < 44 → ((b.set F.DLR_STAT_LINK_UP 0).space y 42).held = []) ∧
    (b.on = true ∧ b.linkUp = true) ∧
    (((ac [acc]).on = true ∧ (ac [acc]).alive = true ∧ List.find? (fun (a : HostAcc) => decide (a.id = 4)) (ac [acc]).host.accs = some acc ∧ acc.pkt.src ≠ 42 ∧
    ((ac [acc]).space acc.pkt.src 42).held = []) ∧ (ac [acc]).mild) := by
  and_intros <;> (first | exact mild_of (by decide +kernel) | decide +kernel)

end HostLinkServes

/-! ## The Sky -/

namespace PacketsEnter

def ch (w r : Nat) (i : Nat := 0) : Chan := { orbit := 0, wg := i, lambda := i, writer := w, reader := r, allpairs := true, wring := i, rring := i, state := 1 }
def base : State := { (((pres up).set F.SKY_STN_STATUS_STATE 2 3).set F.SKY_STN_STATUS_STATE 2 5) with now := 10000, sky := { up.sky with chans := [ch 3 5, ch 5 3, ch 3 4 1, ch 4 3 1, ch 4 5 2, ch 24 3 3, ch 3 24 3] } }
def wr0 (src dest : Nat) (pl : List Byte) (seq : Nat := 0) (addr : Nat := 0x100000000000 + 268435456 * 5) : Pkt :=
  (({ dest := dest, src := src, cls := 2, op := 0, len := pl.length / 16, seq := seq, addr := addr, payload := pl } : Pkt)).seal
def sreq (d : Nat) (op : Nat := 3) (pl : List Byte := List.replicate 16 5) : SendReq := { dest := d, cls := 1, op := op, len := 1, addr := 1, payload := pl, agent := .engine }
def sp (a b : Nat) (x : Space) (s : State := base) : State := s.setSpace a b x
def host0 : Nat := 0x800000000000
def gp (dest : Nat) (src : Nat := 40) : Pkt := wr0 src dest (List.replicate 16 7) 0
def gp2 : Pkt := { gp 3 with hcrc := 5 }
def gp3 : Pkt := ({ gp 3 with aux := 9 }).seal
def ent (seq : Nat) (sends : Nat := 1) (sel := false) (g := false) : TxEnt := { pkt := wr0 3 5 (List.replicate 16 7) seq, req := sreq 5, sends := sends, sentAt := 9000, sel := sel, gaveUp := g }
def g40 (s : State) : State := s.set F.MGT_SITE_PRESENT_GUEST 3
def gack : Pkt := ({ dest := 3, src := 40, cls := 0, op := 4 } : Pkt).seal
def full : State := sp 3 5 { waits := [ent 7] } (g40 base)
def smpSendReq_4 : SendReq := { sreq 4 0 with agent := .croupier, addr := host0, dest := 42, cls := 2 }
def others_0 : State := g40 base
def others_2 : State := sp 3 5 { txNext := 5, txCum := 1, store := [ent 2, ent 3 1 true, ent 4 9, ent 6 9 false true] } base
def others_3 : State := sp 5 3 { oldest := some 9900, unacked := 2, rxCum := 9 } (base.setStn 3 { base.stn 3 with backlog := [sreq 5] })

theorem test_hypotheses_PacketsEnter :
    ((3 < 44 ∧ others_0.alive = true ∧ others_0.sendCheck 3 (sreq 3) = some 1) ∧ others_0.mild ∧
    ((sreq 3).agent = Agent.croupier → (sreq 3).op = 0 ∨ (sreq 3).op = 1 → regionOf (sreq 3).addr ≠ Region.host)) ∧
    ((3 < 44 ∧ others_0.alive = true ∧ others_0.sendCheck 3 (sreq 5) = none ∧ others_0.canNumber 3 (sreq 5) = true ∧
    (∀ (b : SendReq), b ∈ (others_0.stn 3).backlog → ¬ (b.dest = (sreq 5).dest ∧ b.agent = (sreq 5).agent)) ∧ others_0.hasRoom 3 (sreq 5).dest = true ∧
    (others_0.space 3 (sreq 5).dest).waits = [] ∧ (full.sendCheck 3 (sreq 5) = none ∧ full.canNumber 3 (sreq 5) = true ∧ (full.space 3 (sreq 5).dest).waits ≠ [])) ∧ others_0.mild ∧
    ((sreq 5).agent = Agent.croupier → (sreq 5).op = 0 ∨ (sreq 5).op = 1 → regionOf (sreq 5).addr ≠ Region.host)) ∧
    ((4 < 44 ∧ others_0.alive = true ∧ others_0.sendCheck 4 (sreq 5) = none ∧ others_0.canNumber 4 (sreq 5) = false) ∧ others_0.mild ∧
    ((sreq 5).agent = Agent.croupier → (sreq 5).op = 0 ∨ (sreq 5).op = 1 → regionOf (sreq 5).addr ≠ Region.host)) ∧
    ((3 < 44 ∧ others_0.alive = true ∧ smpSendReq_4.agent = Agent.croupier ∧ (smpSendReq_4.op = 0 ∨ smpSendReq_4.op = 1) ∧ regionOf smpSendReq_4.addr = Region.host) ∧
    others_0.mild) ∧
    ((40 < 44 ∧ others_0.alive = true ∧ 40 = 40 + 4 % 2 ∧ gp2.hcrc ≠ gp2.hcrcOf) ∧ others_0.mild) ∧
    ((40 < 44 ∧ others_0.alive = true ∧ 40 = 40 + 4 % 2 ∧ gp3.hcrc = gp3.hcrcOf ∧ gp3.dest < 44 ∧ gp3.src < 44 ∧ gp3.formatOk = false) ∧ others_0.mild) ∧
    ((40 < 44 ∧ others_0.alive = true ∧ 40 = 40 + 4 % 2 ∧ (gp 60).hcrc = (gp 60).hcrcOf ∧ (44 ≤ (gp 60).dest ∨ 44 ≤ (gp 60).src ∨ (gp 60).formatOk = true ∧
    ((gp 60).src ≠ 40 ∨ (gp 60).dest = 40 ∨ others_0.present (gp 60).dest = false))) ∧ others_0.mild) ∧
    ((40 < 44 ∧ others_0.alive = true ∧ 40 = 40 + 4 % 2 ∧ (gp 3).hcrc = (gp 3).hcrcOf ∧ (gp 3).dest < 44 ∧ (gp 3).formatOk = true ∧ (gp 3).src = 40 ∧ (gp 3).dest ≠ 40 ∧
    others_0.present (gp 3).dest = true ∧ (gp 3).op ≠ 4 ∧
    gack.hcrc = gack.hcrcOf ∧ gack.dest < 44 ∧ gack.formatOk = true ∧ gack.src = 40 ∧ others_0.present gack.dest = true ∧ gack.op = 4) ∧ others_0.mild) ∧
    ((3 < 44 ∧ others_3.alive = true ∧ (others_3.space 5 3).oldest = some 9900) ∧ others_3.mild) ∧
    ((3 < 44 ∧ others_2.alive = true ∧ (others_2.space 3 5).entry 2 = some (ent 2) ∧ others_2.awaits 3 5 (ent 2) = true ∧ (ent 2).sends < 9) ∧ others_2.mild) ∧
    ((3 < 44 ∧ others_2.alive = true ∧ (others_2.space 3 5).entry 3 = some (ent 3 1 true) ∧ others_2.awaits 3 5 (ent 3 1 true) = false) ∧ others_2.mild) ∧
    ((3 < 44 ∧ others_2.alive = true ∧ (others_2.space 3 5).entry 4 = some (ent 4 9) ∧ others_2.awaits 3 5 (ent 4 9) = true ∧ 9 ≤ (ent 4 9).sends ∧ 5 ≠ 3 ∧
    5 < 44) ∧ others_2.mild) := by
  and_intros <;> (first | exact mild_of (by decide +kernel) | decide +kernel)

end PacketsEnter

end Sys2Proof.Tests
end

