-- ==== Sys2Proof/Tests/Hypotheses3.lean ====
section
/-! SUPPORT. For each statement, states and operands that meet its hypotheses together, clause by clause. -/

-- One theorem after the other: kernel evaluations that wait for each other would hold a thread and its stack each.
set_option Elab.async false

namespace Sys2Proof.Tests

open Sys2Proof.Machine

namespace PacketsReceived

def ch (w r : Nat) (i : Nat := 0) : Chan := { orbit := 0, wg := i, lambda := i, writer := w, reader := r, allpairs := true, wring := i, rring := i, state := 1 }
def base : State := { ((((pres up).set F.SKY_DLV_EJECT_CLOSED 0 3).set F.SKY_STN_STATUS_STATE 2 3).set F.SKY_STN_STATUS_STATE 2 5) with now := 10000, sky := { up.sky with chans := [ch 3 5, ch 5 3, ch 3 4 1, ch 4 3 1, ch 4 5 2, ch 24 3 3, ch 3 24 3] } }
def qd (p : Pkt) (since : Nat) (head : Option Nat := none) (missed := false) (search := false) : Queued := ⟨p, since, head, missed, search, false, false⟩
def sp (a b : Nat) (x : Space) (s : State := base) : State := s.setSpace a b x
def cacheDpa (t : Nat) : Nat := 0x100000000000 + t * 268435456
def pk (op : Nat) (cls : Nat) (dest : Nat := 3) (src : Nat := 5) (seq : Nat := 0) (addr : Nat := cacheDpa 3) (pl : List Byte := List.replicate 16 7) (aux : Nat := 0) : Pkt :=
  ({ dest := dest, src := src, cls := cls, op := op, len := pl.length / 16, seq := seq, addr := addr, payload := pl, aux := aux } : Pkt).seal
def ackp (seq aux : Nat) : Pkt := pk 4 0 3 5 seq 0 [] aux
def full (s : State) : State := s.setStn 3 { s.stn 3 with r0 := List.replicate 32 (qd (pk 0 2 4) 9), r1 := List.replicate 32 (qd (pk 0 2 4) 9) }
def ps_0 : Pkt := pk 0 2
def ps_1 : Pkt := pk 3 1 3 5 0 4
def ps_2 : Pkt := { pk 0 2 with hcrc := 3 }
def ps_3 : Pkt := pk 0 2 60
def ps_4 : Pkt := pk 7 2
def ps_5 : Pkt := pk 0 2 4
def ps_6 : Pkt := pk 0 2 3 5 0xFFFFFF
def ps_7 : Pkt := pk 0 2 3 5 3
def ps_8 : Pkt := pk 0 2 3 5 9000
def ps_9 : Pkt := ({ (pk 0 2) with payload := List.replicate 16 9 })
def ps_10 : Pkt := ({ pk 0 2 with gen := 4 } : Pkt).seal
def ps_11 : Pkt := ackp 4 0
def ps_13 : Pkt := pk 0 2 3 5 0 (cacheDpa 7)
def others_0 : State := base
def others_1 : State := base.set F.SKY_DLV_EJECT_CLOSED 1 3
def others_3 : State := sp 5 3 { held := (List.range 2048).map fun i => { dest := 3, src := 5, seq := 100 + i } }
def others_5 : State := full base
def refusedEnt : TxEnt := { pkt := pk 0 2 5 3 4, req := { dest := 5, cls := 2, op := 0, len := 1, payload := List.replicate 16 7, agent := .engine } }
def others_6 : State := sp 3 5 { txNext := 6, txCum := 1, store := [refusedEnt] }
def others_7 : State := { base with sky := { base.sky with chans := base.sky.chans.map fun c => { c with busy := true } } }
def ps_12 : Pkt := ackp 4 (2 ^ 16 + 4 * 2 ^ 17 + 2 ^ 41)

theorem test_hypotheses_PacketsReceived_0 :
    ((3 < 44 ∧ others_0.alive = true ∧ others_0.receives 3 = true ∧ 0 < (others_0.rxChans 3).length ∧ 0 < 384 ∧ ps_2.cut.hcrc ≠ ps_2.cut.hcrcOf) ∧ others_0.mild) ∧
    ((3 < 44 ∧ others_0.alive = true ∧ others_0.receives 3 = true ∧ 0 < (others_0.rxChans 3).length ∧ 0 < 384 ∧ ps_3.cut.hcrc = ps_3.cut.hcrcOf ∧
    (44 ≤ ps_3.cut.dest ∨ 44 ≤ ps_3.cut.src)) ∧ others_0.mild) ∧
    ((3 < 44 ∧ others_0.alive = true ∧ others_0.receives 3 = true ∧ 0 < (others_0.rxChans 3).length ∧ 0 < 384 ∧ ps_4.cut.hcrc = ps_4.cut.hcrcOf ∧ ps_4.cut.dest < 44 ∧
    ps_4.cut.src < 44 ∧ ps_4.cut.formatOk = false) ∧ others_0.mild) ∧
    ((3 < 44 ∧ others_0.alive = true ∧ others_0.receives 3 = true ∧ 0 < (others_0.rxChans 3).length ∧ 0 < 384 ∧ ps_5.cut.hcrc = ps_5.cut.hcrcOf ∧ ps_5.cut.dest < 44 ∧
    ps_5.cut.src < 44 ∧ ps_5.cut.formatOk = true ∧ ps_5.cut.dest ≠ 3 ∧ relays 3 = true ∧ 0 < (others_0.stn 3).relayFree ps_5.cut.vc) ∧ others_0.mild) ∧
    ((3 < 44 ∧ others_7.alive = true ∧ others_7.receives 3 = true ∧ 0 < (others_7.rxChans 3).length ∧ ps_5.cut.hcrc = ps_5.cut.hcrcOf ∧ ps_5.cut.formatOk = true ∧
    relays 3 = true ∧ 0 < (others_7.stn 3).relayFree ps_5.cut.vc ∧ ∀ c ∈ others_7.sky.chans, c.writer = 3 → c.state = 1 → c.busy = true) ∧ others_7.mild) ∧
    ((3 < 44 ∧ others_5.alive = true ∧ others_5.receives 3 = true ∧ 0 < (others_5.rxChans 3).length ∧ 0 < 384 ∧ ps_5.cut.hcrc = ps_5.cut.hcrcOf ∧ ps_5.cut.dest < 44 ∧
    ps_5.cut.src < 44 ∧ ps_5.cut.formatOk = true ∧ ps_5.cut.dest ≠ 3 ∧ (relays 3 = false ∨ (others_5.stn 3).relayFree ps_5.cut.vc = 0)) ∧ others_5.mild) ∧
    ((3 < 44 ∧ others_1.alive = true ∧ others_1.receives 3 = true ∧ 0 < (others_1.rxChans 3).length ∧ 0 < 384 ∧ ps_0.cut.hcrc = ps_0.cut.hcrcOf ∧ ps_0.cut.dest = 3 ∧
    ps_0.cut.src < 44 ∧ ps_0.cut.formatOk = true ∧ (others_1.isSet F.SKY_DLV_EJECT_CLOSED 3 = true ∨ (others_1.space ps_0.cut.src 3).rxClosed = true)) ∧ others_1.mild) ∧
    ((3 < 44 ∧ others_0.alive = true ∧ others_0.receives 3 = true ∧ 0 < (others_0.rxChans 3).length ∧ 0 < 384 ∧ ps_9.cut.hcrc = ps_9.cut.hcrcOf ∧ ps_9.cut.dest = 3 ∧
    ps_9.cut.src < 44 ∧ ps_9.cut.formatOk = true ∧ others_0.isSet F.SKY_DLV_EJECT_CLOSED 3 = false ∧ (others_0.space ps_9.cut.src 3).rxClosed = false ∧
    ps_9.cut.pcrc ≠ ps_9.cut.pcrcOf) ∧ others_0.mild) ∧
    ((3 < 44 ∧ others_0.alive = true ∧ others_0.receives 3 = true ∧ 0 < (others_0.rxChans 3).length ∧ 0 < 384 ∧ ps_10.cut.hcrc = ps_10.cut.hcrcOf ∧ ps_10.cut.dest = 3 ∧
    ps_10.cut.src < 44 ∧ ps_10.cut.formatOk = true ∧ others_0.isSet F.SKY_DLV_EJECT_CLOSED 3 = false ∧ (others_0.space ps_10.cut.src 3).rxClosed = false ∧
    ps_10.cut.pcrc = ps_10.cut.pcrcOf ∧ ps_10.cut.gen ≠ (others_0.space ps_10.cut.src 3).rxGen) ∧ others_0.mild) ∧
    ((3 < 44 ∧ others_0.alive = true ∧ others_0.receives 3 = true ∧ 0 < (others_0.rxChans 3).length ∧ 0 < 384 ∧ ps_6.cut.hcrc = ps_6.cut.hcrcOf ∧ ps_6.cut.dest = 3 ∧
    ps_6.cut.src < 44 ∧ ps_6.cut.formatOk = true ∧ others_0.isSet F.SKY_DLV_EJECT_CLOSED 3 = false ∧ (others_0.space ps_6.cut.src 3).rxClosed = false ∧
    ps_6.cut.pcrc = ps_6.cut.pcrcOf ∧ ps_6.cut.gen = (others_0.space ps_6.cut.src 3).rxGen ∧ ps_6.cut.op ≠ 4 ∧ ps_6.cut.src ≠ 3 ∧
    (subMod 24 ps_6.cut.seq (others_0.space ps_6.cut.src 3).rxCum = 0 ∨ 2 ^ 23 < subMod 24 ps_6.cut.seq (others_0.space ps_6.cut.src 3).rxCum)) ∧ others_0.mild) ∧
    ((3 < 44 ∧ others_0.alive = true ∧ others_0.receives 3 = true ∧ 0 < (others_0.rxChans 3).length ∧ 0 < 384 ∧ ps_8.cut.hcrc = ps_8.cut.hcrcOf ∧ ps_8.cut.dest = 3 ∧
    ps_8.cut.src < 44 ∧ ps_8.cut.formatOk = true ∧ others_0.isSet F.SKY_DLV_EJECT_CLOSED 3 = false ∧ (others_0.space ps_8.cut.src 3).rxClosed = false ∧
    ps_8.cut.pcrc = ps_8.cut.pcrcOf ∧ ps_8.cut.gen = (others_0.space ps_8.cut.src 3).rxGen ∧ ps_8.cut.op ≠ 4 ∧ ps_8.cut.src ≠ 3 ∧
    8192 < subMod 24 ps_8.cut.seq (others_0.space ps_8.cut.src 3).rxCum ∧ subMod 24 ps_8.cut.seq (others_0.space ps_8.cut.src 3).rxCum ≤ 2 ^ 23) ∧ others_0.mild) ∧
    ((3 < 44 ∧ others_0.alive = true ∧ others_0.receives 3 = true ∧ 0 < (others_0.rxChans 3).length ∧ 0 < 384 ∧ ps_7.cut.hcrc = ps_7.cut.hcrcOf ∧ ps_7.cut.dest = 3 ∧
    ps_7.cut.src < 44 ∧ ps_7.cut.formatOk = true ∧ others_0.isSet F.SKY_DLV_EJECT_CLOSED 3 = false ∧ (others_0.space ps_7.cut.src 3).rxClosed = false ∧
    ps_7.cut.pcrc = ps_7.cut.pcrcOf ∧ ps_7.cut.gen = (others_0.space ps_7.cut.src 3).rxGen ∧ ps_7.cut.op ≠ 4 ∧ ps_7.cut.src ≠ 3 ∧
    2 ≤ subMod 24 ps_7.cut.seq (others_0.space ps_7.cut.src 3).rxCum ∧ subMod 24 ps_7.cut.seq (others_0.space ps_7.cut.src 3).rxCum ≤ 8192 ∧
    (∀ (x : Pkt), x ∈ (others_0.space ps_7.cut.src 3).held → x.seq ≠ ps_7.cut.seq) ∧ others_0.heldNow 3 < reorderLimit 3) ∧ others_0.mild) ∧
    ((3 < 44 ∧ others_3.alive = true ∧ others_3.receives 3 = true ∧ 0 < (others_3.rxChans 3).length ∧ 0 < 384 ∧ ps_7.cut.hcrc = ps_7.cut.hcrcOf ∧ ps_7.cut.dest = 3 ∧
    ps_7.cut.src < 44 ∧ ps_7.cut.formatOk = true ∧ others_3.isSet F.SKY_DLV_EJECT_CLOSED 3 = false ∧ (others_3.space ps_7.cut.src 3).rxClosed = false ∧
    ps_7.cut.pcrc = ps_7.cut.pcrcOf ∧ ps_7.cut.gen = (others_3.space ps_7.cut.src 3).rxGen ∧ ps_7.cut.op ≠ 4 ∧ ps_7.cut.src ≠ 3 ∧
    2 ≤ subMod 24 ps_7.cut.seq (others_3.space ps_7.cut.src 3).rxCum ∧ subMod 24 ps_7.cut.seq (others_3.space ps_7.cut.src 3).rxCum ≤ 8192 ∧
    (∀ (x : Pkt), x ∈ (others_3.space ps_7.cut.src 3).held → x.seq ≠ ps_7.cut.seq) ∧ reorderLimit 3 ≤ others_3.heldNow 3) ∧ others_3.mild) := by
  and_intros <;> (first | exact mild_of (by decide +kernel) | decide +kernel)

theorem test_hypotheses_PacketsReceived_1 :
    ((3 < 44 ∧ others_0.alive = true ∧ others_0.receives 3 = true ∧ 0 < (others_0.rxChans 3).length ∧ 0 < 384 ∧ ps_13.cut.hcrc = ps_13.cut.hcrcOf ∧ ps_13.cut.dest = 3 ∧
    ps_13.cut.src < 44 ∧ ps_13.cut.formatOk = true ∧ others_0.isSet F.SKY_DLV_EJECT_CLOSED 3 = false ∧ (others_0.space ps_13.cut.src 3).rxClosed = false ∧
    ps_13.cut.pcrc = ps_13.cut.pcrcOf ∧ ps_13.cut.gen = (others_0.space ps_13.cut.src 3).rxGen ∧ ps_13.cut.op ≠ 4 ∧ ps_13.cut.src ≠ 3 ∧
    subMod 24 ps_13.cut.seq (others_0.space ps_13.cut.src 3).rxCum = 1 ∧ (others_0.space ps_13.cut.src 3).held = [] ∧
    others_0.hostWaits 3 ps_13.cut.src ps_13.cut.seq = false ∧ (3 = 42 → others_0.linkUp = true) ∧ others_0.refusal 3 ps_13.cut = some (1, F.SKY_DECODE_REJ)) ∧ others_0.mild) ∧
    ((3 < 44 ∧ others_0.alive = true ∧ others_0.receives 3 = true ∧ 0 < (others_0.rxChans 3).length ∧ 0 < 384 ∧ ps_1.cut.hcrc = ps_1.cut.hcrcOf ∧ ps_1.cut.dest = 3 ∧
    ps_1.cut.src < 44 ∧ ps_1.cut.formatOk = true ∧ others_0.isSet F.SKY_DLV_EJECT_CLOSED 3 = false ∧ (others_0.space ps_1.cut.src 3).rxClosed = false ∧
    ps_1.cut.pcrc = ps_1.cut.pcrcOf ∧ ps_1.cut.gen = (others_0.space ps_1.cut.src 3).rxGen ∧ ps_1.cut.op ≠ 4 ∧ ps_1.cut.src ≠ 3 ∧
    subMod 24 ps_1.cut.seq (others_0.space ps_1.cut.src 3).rxCum = 1 ∧ (others_0.space ps_1.cut.src 3).held = [] ∧
    others_0.hostWaits 3 ps_1.cut.src ps_1.cut.seq = false ∧ (3 = 42 → others_0.linkUp = true) ∧ others_0.refusal 3 ps_1.cut = none ∧ ps_1.cut.op = 3 ∧ siteKind 3 ≠ SiteKind.guest) ∧ others_0.mild) ∧
    ((3 < 44 ∧ others_0.alive = true ∧ others_0.receives 3 = true ∧ 0 < (others_0.rxChans 3).length ∧ 0 < 384 ∧ ps_0.cut.hcrc = ps_0.cut.hcrcOf ∧ ps_0.cut.dest = 3 ∧
    ps_0.cut.src < 44 ∧ ps_0.cut.formatOk = true ∧ others_0.isSet F.SKY_DLV_EJECT_CLOSED 3 = false ∧ (others_0.space ps_0.cut.src 3).rxClosed = false ∧
    ps_0.cut.pcrc = ps_0.cut.pcrcOf ∧ ps_0.cut.gen = (others_0.space ps_0.cut.src 3).rxGen ∧ ps_0.cut.op ≠ 4 ∧ ps_0.cut.src ≠ 3 ∧
    subMod 24 ps_0.cut.seq (others_0.space ps_0.cut.src 3).rxCum = 1 ∧ (others_0.space ps_0.cut.src 3).held = [] ∧
    others_0.hostWaits 3 ps_0.cut.src ps_0.cut.seq = false ∧ (3 = 42 → others_0.linkUp = true) ∧ others_0.refusal 3 ps_0.cut = none ∧ ps_0.cut.op = 0 ∧
    (siteKind 3 = SiteKind.tile ∨ siteKind 3 = SiteKind.mem) ∧ ps_0.cut.payload ≠ [] ∧ others_0.mirrorRuns ps_0.cut.addr ps_0.cut.payload.length = []) ∧ others_0.mild) ∧
    ((3 < 44 ∧ others_0.alive = true ∧ others_0.receives 3 = true ∧ 0 < (others_0.rxChans 3).length ∧ 0 < 384 ∧ ps_11.cut.hcrc = ps_11.cut.hcrcOf ∧ ps_11.cut.dest = 3 ∧
    ps_11.cut.src < 44 ∧ ps_11.cut.formatOk = true ∧ others_0.isSet F.SKY_DLV_EJECT_CLOSED 3 = false ∧ (others_0.space ps_11.cut.src 3).rxClosed = false ∧
    ps_11.cut.pcrc = ps_11.cut.pcrcOf ∧ ps_11.cut.gen = (others_0.space ps_11.cut.src 3).rxGen ∧ ps_11.cut.op = 4 ∧ (others_0.stn 3).backlog = [] ∧ (others_0.space 3 ps_11.cut.src).waits = []) ∧ others_0.mild) ∧
    ((others_6.alive = true ∧ others_6.receives 3 = true ∧ ps_12.cut.hcrc = ps_12.cut.hcrcOf ∧ ps_12.cut.dest = 3 ∧ ps_12.cut.src < 44 ∧ ps_12.cut.formatOk = true ∧
    others_6.isSet F.SKY_DLV_EJECT_CLOSED 3 = false ∧ (others_6.space ps_12.cut.src 3).rxClosed = false ∧ ps_12.cut.pcrc = ps_12.cut.pcrcOf ∧
    ps_12.cut.gen = (others_6.space ps_12.cut.src 3).rxGen ∧ ps_12.cut.op = 4 ∧ (others_6.stn 3).backlog = [] ∧ (others_6.space 3 ps_12.cut.src).waits = [] ∧
    bit ps_12.cut.aux 16 = true ∧ (others_6.space 3 ps_12.cut.src).rejectable (bitsOf ps_12.cut.aux 17 24) = some refusedEnt) ∧ others_6.mild) ∧
    ((3 < 44 ∧ others_0.alive = true ∧ others_0.receives 3 = true ∧ 0 < (others_0.rxChans 3).length ∧ 0 < 384 ∧ (ps_0.cut.op ≠ 4 ∨ ps_0.cut.dest ≠ 3)) ∧ others_0.mild) := by
  and_intros <;> (first | exact mild_of (by decide +kernel) | decide +kernel)

end PacketsReceived

namespace RestartsAndFences

def ch (w r : Nat) (i : Nat := 0) : Chan := { orbit := 0, wg := i, lambda := i, writer := w, reader := r, allpairs := true, wring := i, rring := i, state := 1 }
def base : State := { ((((pres up).set F.SKY_DLV_EJECT_CLOSED 0 3).set F.SKY_STN_STATUS_STATE 2 3).set F.SKY_STN_STATUS_STATE 2 5) with now := 10000, sky := { up.sky with chans := [ch 3 5, ch 5 3, ch 3 4 1, ch 4 3 1, ch 4 5 2, ch 24 3 3, ch 3 24 3] } }
def wr0 (src dest : Nat) (pl : List Byte) (seq : Nat := 0) (addr : Nat := 0x100000000000 + 268435456 * 5) : Pkt :=
  (({ dest := dest, src := src, cls := 2, op := 0, len := pl.length / 16, seq := seq, addr := addr, payload := pl } : Pkt)).seal
def sreq (d : Nat) (op : Nat := 3) (pl : List Byte := List.replicate 16 5) : SendReq := { dest := d, cls := 1, op := op, len := 1, addr := 1, payload := pl, agent := .engine }
def qd (p : Pkt) (since : Nat) (head : Option Nat := none) (missed := false) (search := false) : Queued := ⟨p, since, head, missed, search, false, false⟩
def sp (a b : Nat) (x : Space) (s : State := base) : State := s.setSpace a b x
def ent (seq : Nat) : TxEnt := { pkt := wr0 3 5 (List.replicate 16 7) seq, req := sreq 5 }
def al : State := (base.set F.SKY_DLV_EJECT_CLOSED 0 5)
def loaded : State := sp 5 3 { txNext := 4, rxCum := 7, held := [wr0 5 3 [] 9] } (sp 3 5 { txNext := 6, txCum := 1, store := [ent 2, ent 3, ent 4], rxClosed := true } (al.setStn 3 { al.stn 3 with q2 := [qd (wr0 3 5 []) 4, qd (wr0 3 4 []) 4] }))
def rs (l : List Restart) (s : State := loaded) : State := { s with sky := { s.sky with restarts := l } }
def allS : List Nat := List.range 44
def fn (id : Nat) (ready : Bool) (imp := false) : Fence := { id := id, agent := .engine, scope := .all, work := none, covers := if ready then [] else [(5,2)], implicit := imp }
def fs (l w : List Fence) (s : State := loaded) : State := s.setStn 3 { s.stn 3 with fences := l, fwait := w }
def others_0 : State := loaded
def others_2 : State := rs [⟨false,3,5,0,4,allS⟩, ⟨false,3,5,0,4,[]⟩, ⟨true,4,0,7,4,allS⟩, ⟨false,7,8,0,4,[]⟩]
def others_1 : State := rs [⟨false,3,5,0,4,allS⟩, ⟨false,7,8,0,4,[]⟩]
def others_3 : State := fs [fn 5 true, fn 6 false, fn 5 true] [fn 9 true, fn 10 false]

theorem test_hypotheses_RestartsAndFences :
    ((3 < 44 ∧ others_0.alive = true ∧ others_0.barUp = true ∧ 4 ≤ others_0.get F.FLT_BOOT_STEP ∧ others_0.domStopped (84 + 3) = false ∧
    others_0.domStopped (24 + 3) = false ∧ 5 < 44 ∧ 5 ≠ 3 ∧ bit (3 + 5 * 64) 12 = false ∧ (bitsOf (3 + 5 * 64) 0 6 = 3 ∧
    bitsOf (3 + 5 * 64) 6 6 = 5 ∨ bitsOf (3 + 5 * 64) 0 6 = 5 ∧ bitsOf (3 + 5 * 64) 6 6 = 3)) ∧ others_0.mild) ∧
    ((3 < 44 ∧ others_2.alive = true ∧ others_2.get F.MGT_STAT_CROUPIER = 0) ∧ others_2.mild ∧ (∃ (r : Restart), r ∈ others_2.sky.restarts ∧
    others_2.restartDone r = true)) ∧
    ((others_1.alive = true ∧ others_1.get F.MGT_STAT_CROUPIER = 0 ∧ (∃ r ∈ others_1.sky.restarts, others_1.restartDone r = true ∧ r.scopeOne = false ∧
    (∀ x ∈ others_1.sky.restarts, others_1.restartDone x = false → inScope x.scopeOne x.a x.b r.a r.b = false))) ∧ others_1.mild) ∧
    ((3 < 44 ∧ others_0.alive = true ∧ ((∀ (r : Restart), r ∈ others_0.sky.restarts → others_0.restartDone r = false) ∨ others_0.get F.MGT_STAT_CROUPIER ≠ 0)) ∧
    others_0.mild) ∧
    ((3 < 44 ∧ others_3.alive = true ∧ List.find? (fun (f : Fence) => decide (f.id = 5) && f.ready) (others_3.stn 3).fences = some (fn 5 true)) ∧ others_3.mild) ∧
    ((3 < 44 ∧ others_0.alive = true ∧ (∀ (f : Fence), f ∈ (others_0.stn 3).fences → f.id = 3 → f.ready = false)) ∧ others_0.mild) := by
  and_intros <;> (first | exact mild_of (by decide +kernel) | decide +kernel)

end RestartsAndFences

/-! ## Transits, timing, charts -/

namespace TransitsRun

def base : State := { (pres up) with now := 500000, trn := { up.trn with tick := 400000, settled := 450000, quietAt := 460000 } }
def ph (n : Nat) (s : State := base) : State := s.set F.TRN_STAT_PHASE n
def fol (s : State) : State := { ((s.set F.TRN_CFG_ROLE 2).set F.TRN_STAT_SYNC 2) with trn := { s.trn with lastT := 1, poleAt := 499990 } }
def nopCard : List Byte := List.replicate 64 0
def ent (st : Nat) (fin : Bool) (s : State) : State := s.setEnt 5 { deck := 1, state := st, finished := fin, card := nopCard, chart := s.cht.epoch, acked := true, visible := true }
def dealS (s : State) : State := ((s.set F.TAL_STAT_STANDBY_OK 1).set F.DLR_STAT_LINK_UP 1).set F.DLR_DECK_STAT_STATE 1 1
def allF (s : State) : State := { s with trn := { s.trn with fenced := List.range 44 } }
def others_0 : State := ph 5
def others_3 : State := fol (ph 4)
def others_5 : State := ph 0
def others_7 : State := dealS (ent 1 false (ph 0))
def others_8 : State := ph 1
def others_9 : State := ph 2
def others_10 : State := allF (ent 2 true (ph 2))
def others_12 : State := ph 3
def copied (s : State) : State := { s with tally := { s.tally with copyWait := true } }

theorem test_hypotheses_TransitsRun :
    ((others_0.alive = true ∧ (others_0.inService = true ∧ others_0.boot.halt = false ∧ others_0.windowHeld = false ∧
    (others_0.get F.TRN_STAT_PHASE = 5 ∨ others_0.get F.TRN_STAT_PHASE = 4)) ∧ (others_0.follows = false ∨ others_0.get F.TRN_STAT_SYNC ≠ 2)) ∧ others_0.mild) ∧
    ((others_3.alive = true ∧ (others_3.inService = true ∧ others_3.boot.halt = false ∧ others_3.windowHeld = false ∧
    (others_3.get F.TRN_STAT_PHASE = 5 ∨ others_3.get F.TRN_STAT_PHASE = 4)) ∧ others_3.follows = true ∧ others_3.get F.TRN_STAT_SYNC = 2 ∧
    others_3.trn.lastT ≠ others_3.get F.TRN_NUM) ∧ others_3.mild) ∧
    ((others_5.alive = true ∧ (¬(others_5.inService = true ∧ others_5.boot.halt = false ∧ others_5.windowHeld = false ∧
    (others_5.get F.TRN_STAT_PHASE = 5 ∨ others_5.get F.TRN_STAT_PHASE = 4)))) ∧ others_5.mild) ∧
    ((others_5.alive = true ∧ others_5.get F.TRN_STAT_PHASE = 0 ∧ others_5.boot.halt = false ∧ others_5.tally.copyWait = false) ∧ others_5.mild) ∧
    ((copied others_5).get F.TRN_STAT_PHASE = 0 ∧ (copied others_12).get F.TRN_STAT_PHASE = 3 ∧ (copied others_5).tally.copyWait = true ∧ (copied others_5).mild) ∧
    ((others_7.alive = true ∧ others_7.get F.TRN_STAT_PHASE = 0 ∧ others_7.boot.halt = false ∧ others_7.tally.copyWait = false ∧ others_7.dealOn = true ∧ others_7.entsIn 1 = [5] ∧
    others_7.eligible 5 (others_7.ent 5) = true ∧ (others_7.ent 5).chart = others_7.cht.epoch ∧ others_7.needsRetired (others_7.ent 5).card = none ∧
    (others_7.ent 5).warm = false ∧ (others_7.lostTables (others_7.ent 5).card).isEmpty = true ∧ pipeOf (others_7.ent 5).card = none) ∧ others_7.mild) ∧
    ((others_8.alive = true ∧ others_8.get F.TRN_STAT_PHASE = 1) ∧ others_8.mild) ∧
    ((others_9.alive = true ∧ others_9.get F.TRN_STAT_PHASE = 2 ∧ others_9.present 3 = true ∧ others_9.trn.runOver.contains 3 = false ∧
    others_9.working 3 = false) ∧ others_9.mild) ∧
    ((others_10.alive = true ∧ others_10.get F.TRN_STAT_PHASE = 2 ∧
    (∀ (k : Nat), k ∈ others_10.sites → others_10.trn.fenced.contains k = true) ∧
    others_10.cometQuiet others_10.trn.runEnd = true ∧ others_10.dealing = true) ∧ others_10.mild) ∧
    ((others_9.alive = true ∧ others_9.get F.TRN_STAT_PHASE = 2) ∧ others_9.mild ∧ (∃ (k : Nat), k ∈ others_9.sites ∧ others_9.trn.fenced.contains k = false)) ∧
    ((others_12.alive = true ∧ others_12.inService = true ∧ others_12.get F.TRN_STAT_PHASE = 3 ∧ others_12.tally.copyWait = false) ∧ others_12.mild) := by
  and_intros <;> (first | exact mild_of (by decide +kernel) | decide +kernel)

end TransitsRun

namespace EntriesRun

def base : State := { (pres up) with now := 500000, trn := { up.trn with tick := 400000 } }
def ph (n : Nat) (s : State := base) : State := s.set F.TRN_STAT_PHASE n
def opnd (a : Nat) : Opnd := { dpa := a, fmt := 0, rows := 1, cols := 4, stride := 1 }
def act : OpDesc := { opcode := 2, tiles := 8, out := opnd (cacheAt 3 4096), in0 := opnd (cacheAt 3 8192) }
def ent0 (wb : Bool) : SchedEnt := { tile := 3, barrier := 2, waitBar := wb, op := 0, start := 10, dur := 20 }
def actGemm : OpDesc := { act with opcode := 1, path := 0 }
def actBag : OpDesc := { act with opcode := 9 }
def ruled (wb : Bool) (o : OpDesc := act) : Chart := { plain with ops := [(255, [o])], sched := [(255, [ent0 wb])] }
def card : List Byte := 1 :: List.replicate 19 0 ++ [1] ++ List.replicate 43 0
def wcard (s : State) : State := s.setEnt 5 { deck := 1, state := 2, pipe := some 0, card := card, started := true, slot := 1 }
def s1 (wb : Bool) (o : OpDesc := act) : State := charted (ruled wb o) (ph 2)
def brk (s : State) : State := { s with sky := { s.sky with broken := [2], released := [2] } }
def run0 : OpRun := { idx := 0, tile := 3, op := act, seq := some 5, outs := [⟨cacheAt 3 4096, [1,2,3,4], []⟩] }
def rn (l : List OpRun) (s : State) : State := { s with cmp := { s.cmp with runs := l } }
def sj : SentJob := { tag := 77, table := 5, shard := 0, mcopy := false, mbd := 1, body := [] }
def runJ : OpRun := { run0 with jobs := [sj] }
def smpOutPiece_0 : OutPiece := ⟨cacheAt 3 4096, [1,2,3,4], []⟩
def others_0 : State := s1 false
def others_1 : State := wcard (s1 false)
def others_2 : State := wcard (s1 true)
def others_3 : State := brk (wcard (s1 true))
def others_4 : State := rn [run0] (wcard (s1 false))
def others_5 : State := wcard (s1 false actGemm)
def others_6 : State := rn [runJ] (wcard (s1 false))
def others_7 : State := wcard (s1 false actBag)
def others_8 : State := rn [{ run0 with op := actGemm, rows := [3], todo := [[0]] }] (wcard (s1 false))

theorem test_hypotheses_EntriesRun :
    ((others_0.alive = true ∧ others_0.sched[0]? = some (ent0 false) ∧ others_0.entryReady 0 (ent0 false) = true ∧ others_0.slotCard 0 (ent0 false) = none) ∧
    others_0.mild) ∧
    ((others_1.alive = true ∧ others_1.sched[0]? = some (ent0 false) ∧ others_1.entryReady 0 (ent0 false) = true ∧ others_1.slotCard 0 (ent0 false) = some 5 ∧
    others_1.ops[(ent0 false).op]? = some act ∧ (applyCard (others_1.ent 5).card (ent0 false).op act).fst.opcode ≠ 9 ∧ (applyCard (others_1.ent 5).card (ent0 false).op act).fst.optical = false) ∧ others_1.mild ∧
    ((ent0 false).waitBar = true → others_1.sky.broken.contains (ent0 false).barrier = false)) ∧
    ((others_5.alive = true ∧ others_5.sched[0]? = some (ent0 false) ∧ others_5.entryReady 0 (ent0 false) = true ∧ others_5.slotCard 0 (ent0 false) = some 5 ∧
    others_5.ops[(ent0 false).op]? = some actGemm ∧ (applyCard (others_5.ent 5).card (ent0 false).op actGemm).fst.optical = true) ∧ others_5.mild ∧
    ((ent0 false).waitBar = true → others_5.sky.broken.contains (ent0 false).barrier = false)) ∧
    ((others_7.alive = true ∧ others_7.sched[0]? = some (ent0 false) ∧ others_7.entryReady 0 (ent0 false) = true ∧ others_7.slotCard 0 (ent0 false) = some 5 ∧
    others_7.ops[(ent0 false).op]? = some actBag ∧ (applyCard (others_7.ent 5).card (ent0 false).op actBag).fst.opcode = 9) ∧ others_7.mild ∧
    ((ent0 false).waitBar = true → others_7.sky.broken.contains (ent0 false).barrier = false)) ∧
    ((others_3.alive = true ∧ others_3.sched[0]? = some (ent0 true) ∧ others_3.entryReady 0 (ent0 true) = true ∧ others_3.slotCard 0 (ent0 true) = some 5 ∧
    others_3.ops[(ent0 true).op]? = some act ∧ (ent0 true).waitBar = true ∧ others_3.sky.broken.contains (ent0 true).barrier = true ∧ (others_3.ent 5).state = 2) ∧
    others_3.mild) ∧
    ((others_2.alive = true ∧ others_2.sched[0]? = some (ent0 true) ∧ others_2.entryReady 0 (ent0 true) = false) ∧ others_2.mild) ∧
    ((others_4.alive = true ∧ List.find? (fun (r : OpRun) => decide (r.idx = 0)) others_4.cmp.runs = some run0 ∧ run0.tile < 24 ∧ run0.jobs = [] ∧ others_4.gemmReady run0 = true ∧ run0.op.opcode ≠ 9 ∧ run0.op.optical = false ∧
    (∀ (r : Result), r ∈ run0.status → r.status ≠ 3) ∧ run0.outs = [smpOutPiece_0] ∧ others_4.siteOf smpOutPiece_0.addr = some run0.tile) ∧ others_4.mild ∧
    (∀ (a n : Nat), others_4.mirrorRuns a n = [])) ∧
    ((others_6.alive = true ∧ List.find? (fun (r : OpRun) => decide (r.idx = 0)) others_6.cmp.runs = some runJ ∧ runJ.tile < 24 ∧ runJ.jobs ≠ []) ∧ others_6.mild) ∧
    (others_8.alive = true ∧ others_8.mild ∧ ∃ run, others_8.cmp.runs.find? (fun r => decide (r.idx = 0)) = some run ∧ run.tile < 24 ∧ others_8.gemmReady run = false) :=
  ⟨⟨by decide +kernel, mild_of (by decide +kernel)⟩,
   ⟨by decide +kernel, mild_of (by decide +kernel), by decide +kernel⟩,
   ⟨by decide +kernel, mild_of (by decide +kernel), by decide +kernel⟩,
   ⟨by decide +kernel, mild_of (by decide +kernel), by decide +kernel⟩,
   ⟨by decide +kernel, mild_of (by decide +kernel)⟩,
   ⟨by decide +kernel, mild_of (by decide +kernel)⟩,
   ⟨by decide +kernel, mild_of (by decide +kernel), noMirror (by decide +kernel)⟩,
   ⟨by decide +kernel, mild_of (by decide +kernel)⟩,
   ⟨by decide +kernel, mild_of (by decide +kernel), _, rfl, by decide +kernel⟩⟩

end EntriesRun

namespace TimeIsFollowed

def pd : PeerDef := { part := 7, far := false, member := true, slot := 1, mac := 0x1000, paths := [(2, 3), (4, 5)] }
def con : Constell := { partId := 1, pole := 7, successor := 1, peers := [pd], logs := [0x4000, 0x4000], sources := 1 }
def meshed : Chart := { plain with constell := some con }
def se (x : Sess) (s : State) : State := s.setSess 7 x
def upP (s : State) : State := (s.set F.CMT_PORT_STATE 2 2).set F.CMT_PORT_STATE 2 4
def base : State := charted meshed { (pres up) with now := 500000, trn := { up.trn with tick := 400000, lastT := 8, good := 3, poleAt := 420000, hold := 16 } }
def fol (sync : Nat) (s : State := base) : State := (s.set F.TRN_CFG_ROLE 2).set F.TRN_STAT_SYNC sync
def fr (time transit flags : Nat) (ok := true) : TsyncFrame := { time := time, transit := transit, flags := flags, crc := if ok then crc16 (tsyncBody time transit flags) else 3 }
def lis (role : Nat) : State := { base.set F.TRN_CFG_ROLE role with cmt := { base.cmt with listening := true } }
def others_0 : State := fol 1
def others_1 : State := fol 2
def others_2 : State := fol 3
def others_3 : State := base
def others_4 : State := lis 1
def others_6 : State := se { up := true, ord := some 0, epoch := some 3 } (upP (fol 2))

theorem test_hypotheses_TimeIsFollowed :
    (others_0.alive = true ∧ others_0.inService = true ∧ others_0.follows = true ∧
    (¬crc16 (tsyncBody (fr 500100 9 0 false).time (fr 500100 9 0 false).transit (fr 500100 9 0 false).flags) = (fr 500100 9 0 false).crc)) ∧
    (others_0.alive = true ∧ others_0.inService = true ∧ others_0.follows = true ∧
    crc16 (tsyncBody (fr 500100 9 0).time (fr 500100 9 0).transit (fr 500100 9 0).flags) = (fr 500100 9 0).crc ∧ others_0.get F.TRN_CFG_SOURCE = 0 ∧
    others_0.cmt.acting = false ∧ others_0.get F.TRN_STAT_SYNC ≠ 2 ∧ (fr 500100 9 0).transit = others_0.trn.lastT + 1 ∧ 3 ≤ others_0.trn.good) ∧
    (others_0.alive = true ∧ others_0.inService = true ∧ others_0.follows = true ∧
    crc16 (tsyncBody (fr 500100 12 0).time (fr 500100 12 0).transit (fr 500100 12 0).flags) = (fr 500100 12 0).crc ∧ others_0.get F.TRN_CFG_SOURCE = 0 ∧
    others_0.cmt.acting = false ∧ others_0.get F.TRN_STAT_SYNC ≠ 2 ∧ (fr 500100 12 0).transit ≠ others_0.trn.lastT + 1) ∧
    (others_1.alive = true ∧ others_1.inService = true ∧ others_1.follows = true ∧
    crc16 (tsyncBody (fr 500100 9 0).time (fr 500100 9 0).transit (fr 500100 9 0).flags) = (fr 500100 9 0).crc ∧ others_1.get F.TRN_CFG_SOURCE = 0 ∧
    others_1.cmt.acting = false ∧ others_1.get F.TRN_STAT_SYNC = 2 ∧ bit (fr 500100 9 0).flags 0 = false) ∧
    ((others_2.alive = true ∧ others_2.get F.TRN_STAT_SYNC = 3 ∧ 16 ≤ others_2.trn.hold ∧ others_2.cmt.acting = false) ∧ others_2.calm 230) ∧
    (others_2.alive = true ∧ others_2.get F.TRN_STAT_SYNC = 3 ∧ 4 ≤ others_2.trn.hold ∧ others_2.con.successor = others_2.con.partId ∧
    others_2.con.pole ≠ others_2.con.partId) ∧
    (others_1.alive = true ∧ others_1.follows = true ∧ others_1.get F.TRN_STAT_SYNC = 2) ∧
    (others_4.alive = true ∧ others_4.cmt.listening = true) ∧
    (others_4.alive = true ∧ others_4.cmt.listening = true ∧ others_4.follows = false ∧ bit (fr 500100 9 1).flags 0 = true ∧
    crc16 (tsyncBody (fr 500100 9 1).time (fr 500100 9 1).transit (fr 500100 9 1).flags) = (fr 500100 9 1).crc) ∧
    (others_6.alive = true ∧ others_6.follows = true ∧ (others_6.peerDef others_6.con.pole).isSome = true ∧ (others_6.sess others_6.con.pole).ord = some 0 ∧
    (others_6.port (others_6.pathAt others_6.con.pole 0).1).cur = none ∧ others_6.portUp (others_6.pathAt others_6.con.pole 0).1 = true ∧
    (others_6.port (others_6.pathAt others_6.con.pole 0).1).q0 = []) ∧
    (others_3.alive = true ∧ others_3.follows = false) :=
  ⟨by decide +kernel,
   by decide +kernel,
   by decide +kernel,
   by decide +kernel,
   ⟨by decide +kernel, by unfold State.calm; decide +kernel⟩,
   by decide +kernel,
   by decide +kernel,
   by decide +kernel,
   by decide +kernel,
   by decide +kernel,
   by decide +kernel⟩

end TimeIsFollowed

namespace ChartsChange

def sect (ty : Nat) (b : List Byte) (crc : Nat) : List Byte := natLe 2 ty ++ [0xFF, 0] ++ natLe 4 b.length ++ natLe 4 crc ++ natLe 4 0 ++ b
def zeros (n : Nat) : List Byte := List.replicate n 0
def body : List Byte := sect 1 (natLe 2 100 ++ [4, 2, 0, 7] ++ zeros 10) 781503220 ++ sect 2 ([1] ++ zeros 7 ++ natLe 8 (2^42-1) ++ natLe 8 (2^64-1) ++ zeros 104) 2386284540 ++
  sect 3 (zeros 16) 1114675946 ++ sect 0x10 (zeros 16) 1114675946
def headr : List Byte := natLe 4 0x54435A48 ++ natLe 2 0x100 ++ natLe 2 0x3624 ++ [0xA0, 1] ++ natLe 2 4 ++ natLe 4 0 ++ natLe 8 (64 + body.length) ++ natLe 8 77 ++ zeros 28
def image : List Byte := headr ++ natLe 4 2181173226 ++ body
def base : State := ((({ up with host := { up.host with gib := 64 } } : State).set F.GRD_WP_UNSIGNED_CHARTS 1).set F.DLR_STAT_LINK_UP 1).set F.MGT_SITE_PRESENT_MEM 1
def src0 : Nat := 0x800000000000
def card (op : Nat) (l : List Byte) : List Byte := natLe 1 op ++ zeros 15 ++ l ++ zeros (48 - l.length)
def ent (op : Nat) (c : List Byte) (started := false) (s : State := base) : State := s.setEnt 5 { deck := 1, state := 2, opcode := op, card := c, started := started }
def ldc : List Byte := card 0xD (natLe 8 src0 ++ natLe 8 304)
def swc (v at_ : Nat) : List Byte := card 0xE ([0, BitVec.ofNat 8 v] ++ zeros 6 ++ natLe 8 at_)
def ld (l : Load) (s : State) : State := { s with cht := { s.cht with load := some l } }
def l0 : Load := ⟨5, 1, src0, 304⟩
def slots0 : Chart := { plain with variants := [{}] , maps := [(255, [])] }
def slotted (s : State) : State := { s.set F.CHT_SLOT_STATE 2 0 with cht := { s.cht with slots := [(0, slots0)] } }
def w0 (m := false) (a := 0) : Switch := { seq := some 5, slot := 0, variant := 0, atT := a, mapped := m }
def wsw (w : Switch) (st : Nat) (s : State := slotted base) : State := { s.set F.CHT_SWITCH_STATE st with cht := { (s.set F.CHT_SWITCH_STATE st).cht with sw := some w } }
def ph4 (s : State) : State := s.set F.TRN_STAT_PHASE 4
def stored : State := ld l0 (ent 0xD ldc true)
def draining (s : State) : State := s.set F.SKY_STN_STATUS_STATE 3 24
def drn (s : State) (d : Nat) : State := { s.set F.SKY_STN_STATUS_STATE 4 24 with trn := { s.trn with drain := some d } }
def undr (s : State) : State := s.setStn 24 { s.stn 24 with q2 := [⟨{dest := 3}, 5, none, false, false, false, false⟩] }
def pcI : Piece := ⟨image, fun _ => false⟩
def part (ty pos n : Nat) (idx : Nat) : Sect := { idx := idx, type := ty, var := 255, pos := pos, body := slice pcI.bytes pos n }
def imI : Img := { bytes := pcI.bytes, id := 77, nvar := 1, signed := false, sects := [part 1 80 16 0, part 2 112 128 1, part 3 256 16 2, part 16 288 16 3] }
def others_0 : State := ent 0xD ldc
def others_1 : State := stored
def others_3 : State := ent 0xE (swc 0 0)
def others_4 : State := ent 0xE (swc 0 0) false (slotted base)
def others_6 : State := wsw (w0) 1
def others_7 : State := ph4 (draining (wsw w0 3))
def others_8 : State := undr (ph4 (draining (wsw w0 3)))
def others_9 : State := drn (wsw (w0 true) 3) 7
def others_10 : State := (ph4 (draining (wsw w0 3))).set F.CHT_SWITCH_POSTPONED 7

theorem readSects_cons {b : List Byte} {nvar nsect i pos : Nat} {signed : Bool} {rest seen : List (Nat × Nat)} {l : List Sect}
    (h1 : leAt b (pos + 8) 4 = crc32c (slice b (pos + 16) (leAt b (pos + 4) 4))) (h2 : (typeErr b pos nvar nsect i signed seen || orderErr b pos seen) = false)
    (h3 : readSects b nvar nsect signed rest (seen ++ [(leAt b pos 2, leAt b (pos + 2) 1)]) = .ok l) :
    readSects b nvar nsect signed ((i, pos) :: rest) seen =
      .ok ({ idx := i, type := leAt b pos 2, var := leAt b (pos + 2) 1, pos := pos + 16, body := slice b (pos + 16) (leAt b (pos + 4) 4) } :: l) := by
  simp only [readSects, ← h1, h2, h3, ne_eq, not_true_eq_false, if_false, Bool.false_eq_true]

theorem image_sects : readSects pcI.bytes 1 4 false [(0, 64), (1, 96), (2, 240), (3, 272)] [] = .ok imI.sects := by
  refine (readSects_cons (by decide +kernel) (by decide +kernel) (readSects_cons (by rw [crc32c_seen]; decide +kernel) (by decide +kernel)
    (readSects_cons (by decide +kernel) (by decide +kernel) (readSects_cons (by decide +kernel) (by decide +kernel) (l := []) ?_)))).trans ?_
  · rw [readSects, if_neg (by decide +kernel), if_neg (by decide +kernel)]
  · simp only [Nat.reduceAdd, show leAt pcI.bytes 64 2 = 1 by decide +kernel, show leAt pcI.bytes 66 1 = 255 by decide +kernel, show leAt pcI.bytes 68 4 = 16 by decide +kernel,
      show leAt pcI.bytes 96 2 = 2 by decide +kernel, show leAt pcI.bytes 98 1 = 255 by decide +kernel, show leAt pcI.bytes 100 4 = 128 by decide +kernel,
      show leAt pcI.bytes 240 2 = 3 by decide +kernel, show leAt pcI.bytes 242 1 = 255 by decide +kernel, show leAt pcI.bytes 244 4 = 16 by decide +kernel,
      show leAt pcI.bytes 272 2 = 16 by decide +kernel, show leAt pcI.bytes 274 1 = 255 by decide +kernel, show leAt pcI.bytes 276 4 = 16 by decide +kernel]
    rfl

theorem readImage_of {b : List Byte} {len nvar nsect id : Nat} {signed : Bool} {ps : List (Nat × Nat)} {l : List Sect} (h0 : headerErr b len = none)
    (hv : leAt b 9 1 = nvar) (hn : leAt b 10 2 = nsect) (hs : bit (leAt b 12 4) 0 = signed) (hi : leAt b 24 8 = id)
    (hw : walkSects b (leAt b 16 8) nsect 0 64 = some ps) (hr : readSects b nvar nsect signed ps [] = .ok l) :
    readImage b len = .ok { bytes := b, id := id, nvar := nvar, signed := signed, sects := l } := by
  simp only [readImage, h0, hv, hn, hs, hi, hw, hr, Option.getD_some]

theorem checkChart_of {s : State} {b : List Byte} {len : Nat} {im : Img} (h0 : readImage b len = .ok im) (h1 : s.signErr im = none) (h2 : semanticErr s.chartEnv im = none) :
    s.checkChart b len = .ok im.chart := by
  simp only [State.checkChart, h0, h1, h2]

theorem image_read : readImage pcI.bytes l0.len = .ok imI :=
  readImage_of (by decide +kernel) (by decide +kernel) (by decide +kernel) (by decide +kernel) (by decide +kernel) (by decide +kernel) image_sects

theorem image_checked : others_1.checkChart pcI.bytes l0.len = .ok imI.chart :=
  checkChart_of image_read (by decide +kernel) (by decide +kernel)

theorem image_fetched : others_1.fetchRange l0.src l0.len image false = some pcI := by
  have h : others_1.region src0 = .host := by decide +kernel
  have h1 : others_1.rangeReadable src0 304 = true := by decide +kernel
  have h2 : slice image 0 304 = image := by
    have h : image.length = 304 := by decide +kernel
    simp [slice, ← h]
  show others_1.fetchRange src0 304 image false = some pcI
  simp only [State.fetchRange, h, h1, h2]
  rfl

theorem test_hypotheses_ChartsChange :
    ((others_0.alive = true ∧ (others_0.ent 5).state = 2 ∧ (others_0.ent 5).started = false ∧ (others_0.ent 5).finished = false ∧ (others_0.ent 5).opcode = 13) ∧
    others_0.mild) ∧
    ((others_1.alive = true ∧ others_1.cht.load = some l0 ∧ l0.slot < 2 ∧ (others_1.ent l0.seq).state = 2 ∧
    (others_1.hostGone l0.src = true ∨ false = false ∨ others_1.foreign l0.seq l0.src = true ∨ others_1.fetchRange l0.src l0.len image false = none)) ∧ others_1.mild) ∧
    ((others_1.alive = true ∧ others_1.cht.load = some l0 ∧ l0.slot < 2 ∧ (others_1.ent l0.seq).state = 2 ∧ others_1.hostGone l0.src = false ∧ true = true ∧ others_1.foreign l0.seq l0.src = false ∧
    (∀ (i : Nat), i < l0.len → pcI.bad i = false) ∧ readImage pcI.bytes l0.len = Except.ok imI ∧ others_1.checkChart pcI.bytes l0.len = Except.ok imI.chart) ∧
    others_1.mild ∧ others_1.fetchRange l0.src l0.len image false = some pcI) ∧
    ((others_3.alive = true ∧ (others_3.ent 5).state = 2 ∧ (others_3.ent 5).started = false ∧ (others_3.ent 5).finished = false ∧ (others_3.ent 5).opcode = 14 ∧
    others_3.switchErr (leAt (others_3.ent 5).card 16 1) (if leAt (others_3.ent 5).card 17 1 = 255 then (tabGet { } others_3.cht.slots (leAt (others_3.ent 5).card 16 1)).cover others_3.retTiles others_3.retMem else some (leAt (others_3.ent 5).card 17 1)) (leAt (others_3.ent 5).card 24 8) = some 1) ∧
    others_3.mild) ∧
    ((others_4.alive = true ∧ (others_4.ent 5).state = 2 ∧ (others_4.ent 5).started = false ∧ (others_4.ent 5).finished = false ∧ (others_4.ent 5).opcode = 14 ∧
    others_4.switchErr (leAt (others_4.ent 5).card 16 1) (if leAt (others_4.ent 5).card 17 1 = 255 then (tabGet { } others_4.cht.slots (leAt (others_4.ent 5).card 16 1)).cover others_4.retTiles others_4.retMem else some (leAt (others_4.ent 5).card 17 1)) (leAt (others_4.ent 5).card 24 8) = none ∧
    (if leAt (others_4.ent 5).card 17 1 = 255 then (tabGet { } others_4.cht.slots (leAt (others_4.ent 5).card 16 1)).cover others_4.retTiles others_4.retMem else some (leAt (others_4.ent 5).card 17 1)) = some 0) ∧
    others_4.mild) ∧
    ((others_6.alive = true ∧ others_6.cht.sw = some w0 ∧ others_6.get F.CHT_SWITCH_STATE = 1 ∧ w0.ready = false ∧
    (∀ (r : Nat × Nat × Nat), r ∈ others_6.prepRings ((tabGet { } others_6.cht.slots w0.slot).specs w0.variant) → r.snd.fst < 1024)) ∧ others_6.mild) ∧
    ((others_7.alive = true ∧ others_7.cht.sw = some w0 ∧ others_7.get F.CHT_SWITCH_STATE = 3 ∧ w0.mapped = false ∧ others_7.get F.TRN_STAT_PHASE = 4 ∧
    others_7.drainLine = true ∧ others_7.cmp.passes = [] ∧ others_7.trn.putOff = false) ∧ others_7.mild) ∧
    (({ others_7 with trn := { others_7.trn with putOff := true } }.alive = true ∧ { others_7 with trn := { others_7.trn with putOff := true } }.trn.putOff = true ∧
      { others_7 with trn := { others_7.trn with putOff := true } }.get F.TRN_STAT_PHASE = 4 ∧ { others_7 with trn := { others_7.trn with putOff := true } }.drainLine = true) ∧
      { others_7 with trn := { others_7.trn with putOff := true } }.mild) ∧
    ((others_8.alive = true ∧ others_8.cht.sw = some w0 ∧ others_8.drainLine = false) ∧ others_8.mild) ∧
    ((others_9.alive = true ∧ others_9.cht.sw = some (w0 true) ∧ (w0 true).mapped = true ∧ others_9.trn.drain = some 7 ∧ others_9.trn.putOff = false) ∧ others_9.mild) ∧
    ((others_7.alive = true ∧ others_7.cht.sw = some w0 ∧ others_7.get F.CHT_SWITCH_STATE = 3 ∧ w0.mapped = false ∧ others_7.get F.CHT_SWITCH_POSTPONED < 7 ∧
    w0.atT = 0) ∧ others_7.mild) ∧
    ((others_10.alive = true ∧ others_10.cht.sw = some w0 ∧ others_10.get F.CHT_SWITCH_STATE = 3 ∧ w0.mapped = false ∧
    (others_10.get F.CHT_SWITCH_POSTPONED = 7 ∨ w0.atT ≠ 0 ∧ others_10.get F.CHT_SWITCH_POSTPONED < 7)) ∧ others_10.mild) :=
  ⟨⟨by decide +kernel, mild_of (by decide +kernel)⟩,
   ⟨by decide +kernel, mild_of (by decide +kernel)⟩,
   ⟨⟨by decide +kernel, by decide +kernel, by decide +kernel, by decide +kernel, by decide +kernel, rfl, by decide +kernel, fun _ _ => rfl, image_read, image_checked⟩, mild_of (by decide +kernel), image_fetched⟩,
   ⟨by decide +kernel, mild_of (by decide +kernel)⟩,
   ⟨by decide +kernel, mild_of (by decide +kernel)⟩,
   ⟨by decide +kernel, mild_of (by decide +kernel)⟩,
   ⟨by decide +kernel, mild_of (by decide +kernel)⟩,
   ⟨by decide +kernel, mild_of (by decide +kernel)⟩,
   ⟨by decide +kernel, mild_of (by decide +kernel)⟩,
   ⟨by decide +kernel, mild_of (by decide +kernel)⟩,
   ⟨by decide +kernel, mild_of (by decide +kernel)⟩,
   ⟨by decide +kernel, mild_of (by decide +kernel)⟩⟩

end ChartsChange

/-! ## Decks, cards, the two hubs -/

namespace CardsAreTaken

def d1 : Deck := { sqTail := 3, fetch := 1, posted := [(0,5),(1,0)], cqHead := 0, unsig := 1, unsigAt := some 5 }
def ring : State := ((((up.setDeck 1 d1).set F.DLR_DECK_STAT_STATE 1 1).set F.DLR_DECK_OUT_OUTSTANDING 2 1).set F.DLR_DECK_CFG_IRQ_TIME_US 3 1)
def mirrored : State := up.set F.TAL_MIRROR_BASE 1
def intake : State := ((ring.set F.DLR_STAT_LINK_UP 1).set F.TAL_STAT_STANDBY_OK 1).set F.TAL_NEXT_SEQ 7
def entered : State := ring.setEnt 3 { deck := 1, state := 1 }
def entered2 : State := intake.setEnt 3 { deck := 1, state := 1, acked := true }
def entered3 : State := intake.setEnt 3 { deck := 1, state := 3, acked := true, tries := 3 }
def heard : State := intake.setEnt 3 { deck := 1, state := 1 }
def failing : State := { heard.set F.TAL_STAT_MIRROR_ERR 1 with tally := { heard.tally with failed := [(4, false)] } }
def fullS : State := (intake.set F.TAL_NEXT_SEQ 65539).setEnt 3 { deck := 1, state := 3 }
def smpResult_1 : Result := { status := 0x41 }
def vector : State := up.setDeck 1 { pend := true }

theorem test_hypotheses_CardsAreTaken_0 :
    (1 < 64 ∧ up.alive = true ∧ up.deckState 1 ≠ 1) ∧
    (1 < 64 ∧ ring.alive = true ∧ ring.deckState 1 = 1 ∧ 1 % 65536 < ring.sqSize 1) ∧
    (1 < 64 ∧ ring.alive = true ∧ ring.deckState 1 = 1 ∧ ring.sqSize 1 ≤ 64 % 65536) ∧
    (1 < 64 ∧ ring.alive = true ∧ (ring.deckState 1 = 1 ∨ ring.deckState 1 = 2) ∧ 0 < (1 % 65536 + ring.cqSize 1 - (ring.deck 1).cqHead) % ring.cqSize 1 ∧ 1 % 65536 < ring.cqSize 1 ∧
    (1 % 65536 + ring.cqSize 1 - (ring.deck 1).cqHead) % ring.cqSize 1 ≤ (ring.deck 1).posted.length) ∧
    (1 < 64 ∧ ring.alive = true ∧ (ring.deckState 1 = 1 ∨ ring.deckState 1 = 2) ∧ 0 < (3 % 65536 + ring.cqSize 1 - (ring.deck 1).cqHead) % ring.cqSize 1 ∧
    (ring.cqSize 1 ≤ 3 % 65536 ∨ (ring.deck 1).posted.length < (3 % 65536 + ring.cqSize 1 - (ring.deck 1).cqHead) % ring.cqSize 1)) ∧
    (1 < 64 ∧ mirrored.alive = true ∧ mirrored.inService = true ∧ mirrored.deckState 1 = 0 ∧ 397 % 2 = 1 ∧ 6 ≤ 397 / 2 % 32 ∧ 397 / 2 % 32 ≤ 16 ∧ 6 ≤ 397 / 64 % 32 ∧
    397 / 64 % 32 ≤ 16 ∧ mirrored.get F.TAL_MIRROR_BASE ≠ 0 ∧ (∀ (x : Nat × Entry), x ∈ mirrored.tally.entries → x.snd.deck ≠ 1 ∨ x.snd.state = 0)) ∧
    (1 < 64 ∧ up.alive = true ∧ up.inService = true ∧ up.deckState 1 = 0 ∧ 1 % 2 = 1 ∧
    (1 / 2 % 32 < 6 ∨ 16 < 1 / 2 % 32 ∨ 1 / 64 % 32 < 6 ∨ 16 < 1 / 64 % 32 ∨ up.get F.TAL_MIRROR_BASE = 0)) ∧
    (1 < 64 ∧ ring.alive = true ∧ ring.inService = true ∧ (ring.deckState 1 = 1 ∨ ring.deckState 1 = 3) ∧ 64 % 2 = 0) ∧
    (1 < 64 ∧ up.alive = true ∧ up.intakeOn = false) ∧
    (1 < 64 ∧ ring.alive = true ∧ ring.intakeOn = false ∧ ring.deckState 1 = 1 ∧ ring.get F.DLR_DECK_OUT_OUTSTANDING 1 ≠ 0) ∧
    (1 < 64 ∧ intake.alive = true ∧ intake.intakeOn = true ∧ intake.nextDeck = some (1, 2) ∧
    intake.checkCard 1 (slice [] 0 64) (intake.descBytes (slice [] 0 64) []) false = none ∧ intake.indexFree = true) ∧
    (1 < 64 ∧ intake.alive = true ∧ intake.intakeOn = true ∧ intake.nextDeck = some (1, 2) ∧
    intake.checkCard 1 (slice [18] 0 64) (intake.descBytes (slice [18] 0 64) []) false = some smpResult_1 ∧ intake.indexFree = true ∧ 1 < intake.cqSize 1) ∧
    (1 < 64 ∧ fullS.alive = true ∧ fullS.intakeOn = true ∧ fullS.nextDeck = some (1, 2) ∧ fullS.indexFree = false) ∧
    (1 < 64 ∧ entered.alive = true ∧ (entered.ent 3).deck = 1 ∧ (entered.ent 3).state = 1 ∧ (entered.ent 3).acked = false ∧ entered.standbyHeard = false) ∧
    (1 < 64 ∧ failing.alive = true ∧ (failing.ent 3).deck = 1 ∧ (failing.ent 3).state = 1 ∧ (failing.ent 3).acked = false ∧ failing.standbyHeard = true ∧
    failing.get F.TAL_STAT_MIRROR_ERR = 1) ∧
    (1 < 64 ∧ heard.alive = true ∧ (heard.ent 3).deck = 1 ∧ (heard.ent 3).state = 1 ∧ (heard.ent 3).acked = false ∧ (heard.ent 3).held = false ∧
    heard.standbyHeard = true ∧ heard.get F.TAL_STAT_MIRROR_ERR ≠ 1) := by
  and_intros <;> decide +kernel

theorem test_hypotheses_CardsAreTaken_1 :
    ((1 < 64 ∧ entered2.alive = true ∧ (entered2.ent 3).deck = 1 ∧ entered2.linkUp = true ∧ (entered2.ent 3).state ≠ 0 ∧ entered2.get F.TAL_STAT_MIRROR_ERR ≠ 1) ∧
    entered2.calm 228) ∧
    (1 < 64 ∧ entered2.alive = true ∧ (entered2.ent 3).deck = 1 ∧ entered2.linkUp = true ∧ (entered2.ent 3).state ≠ 0 ∧ (entered2.ent 3).acked = true ∧
    (entered2.ent 3).visible = false ∧ (∀ x ∈ entered2.tally.failed, x = (3, false)) ∧ (∀ p ∈ entered2.tally.entries, p.2.held = false)) ∧
    (failing.linkUp = true ∧ (failing.ent 3).state ≠ 0 ∧ failing.get F.TAL_STAT_MIRROR_ERR = 1 ∧ (∃ x ∈ failing.tally.failed, x ≠ (3, false))) ∧
    (1 < 64 ∧ entered3.alive = true ∧ (entered3.ent 3).deck = 1 ∧ entered3.linkUp = true ∧ (entered3.ent 3).state ≠ 0 ∧ (entered3.ent 3).state = 3 ∧
    (∀ x ∈ entered3.tally.failed, x = (3, true)) ∧ (∀ p ∈ entered3.tally.entries, p.2.held = false)) ∧
    (1 < 64 ∧ ring.alive = true ∧ (ring.deck 1).unsigAt = some 5 ∧ ring.get F.DLR_DECK_CFG_IRQ_TIME_US 1 ≠ 0) ∧
    (1 < 64 ∧ vector.alive = true ∧ vector.inService = true ∧ (vector.deck 1).pend = true) :=
  ⟨⟨by decide +kernel, by unfold State.calm; decide +kernel⟩,
   by decide +kernel,
   by decide +kernel,
   by decide +kernel,
   by decide +kernel,
   by decide +kernel⟩

end CardsAreTaken

namespace DecksNeedAMirror

def en : State := up.set F.DLR_DECK_STAT_STATE 1 3

theorem test_hypotheses_DecksNeedAMirror :
    ((up.logFull = false ∧ 0 < 64 ∧ up.inService = true ∧ up.deckState 0 = 0 ∧ up.get F.TAL_MIRROR_BASE = 0 ∧ 3 % 2 = 1) ∧ up.clocked) ∧
    ((up.logFull = false ∧ (∀ (d : Nat), d < 64 → up.deckState d = 0)) ∧ up.clocked) ∧
    ((en.logFull = false ∧ en.get F.TAL_MIRROR_BASE < 2 ^ 29) ∧ en.clocked ∧ (∃ (d : Nat), d < 64 ∧ en.deckState d ≠ 0)) :=
  ⟨⟨by decide +kernel, by unfold State.clocked; decide +kernel⟩,
   ⟨by decide +kernel, by unfold State.clocked; decide +kernel⟩,
   ⟨by decide +kernel, by unfold State.clocked; decide +kernel, by decide +kernel⟩⟩

end DecksNeedAMirror

end Sys2Proof.Tests
end

