-- ==== Sys2Proof/Tests/Hypotheses4.lean ====
section
/-! SUPPORT. For each statement, states and operands that meet its hypotheses together, clause by clause. -/

-- One theorem after the other: kernel evaluations that wait for each other would hold a thread and its stack each.
set_option Elab.async false

namespace Sys2Proof.Tests

open Sys2Proof.Machine

namespace CardsRun

def card (op a b c : Nat) (rest : List Byte := List.replicate 24 0) : List Byte := List.replicate 16 0 ++ natLe 8 a ++ natLe 8 b ++ natLe 8 c ++ rest
def en (op : Nat) (cd : List Byte) (started : Bool) (s : State := pres up) (hand : Nat := 0) : State := s.setEnt 2 { deck := 1, state := 2, opcode := op, card := cd, started := started, hand := hand, value := 4, desc := List.replicate 128 3 }
def tb : Table := { id := 5, fmt := 0, part := 0, d := 16, stride := 4, rows := 4, hotRows := 0, hotTiles := 0, shards := [{ firstRow := 0, nrows := 4, engine := 1, mirror := 0xFF, state := 0, base := 4096 * 64, mbase := 0 }] }
def tabd (s : State) : State := { s with mems := { s.mems with tables := [tb] } }
def H0 : Hand := { id := 9, state := 1, reserved := 1 }
def handed (h : Hand) (s : State) : State := { s with hands := { s.hands with slots := [(2, h)] } }
def base : State := { (pres up) with trn := { up.trn with tick := 5000 } }
def lit (s : State) : State := s.set F.DLR_STAT_LINK_UP 1
def HW : Nat := 0x800000000000
def row1 : StagedRow := { table := 5, row := 1, data := List.replicate 64 7, poison := false, held := [1] }
def hw (src : Nat) : List Byte := List.replicate 16 0 ++ natLe 2 5 ++ natLe 2 0 ++ natLe 4 1 ++ natLe 4 2 ++ natLe 4 0 ++ natLe 8 src ++ natLe 2 0 ++ List.replicate 22 0
def tele (src : Nat) : List Byte := List.replicate 16 0 ++ natLe 8 src ++ natLe 4 0 ++ natLe 1 2 ++ natLe 3 0 ++ List.replicate 12 0 ++ natLe 4 9 ++ natLe 4 100 ++ List.replicate 12 0
def pcs_0 : Piece := ⟨(pres up).rdN 4096 64, fun _ => false⟩
def pcs_3 : Piece := ⟨(pres up).rdN 4096 (moveLen (hw 4096) tb), fun _ => false⟩
def sts_0 : State := en 0 (card 0 4096 8192 64) false
def sts_1 : State := en 1 (card 1 4096 8192 64) false
def sts_2 : State := en 2 (card 2 4096 8192 64) false
def sts_3 : State := en 3 (card 3 4096 8192 64) false
def sts_4 : State := en 4 (card 4 4096 8192 64) false
def sts_5 : State := en 5 (card 5 4096 8192 64) false
def sts_6 : State := en 6 (card 6 4096 8192 64) false
def sts_7 : State := en 8 (card 8 4096 8192 64) false
def sts_8 : State := en 9 (card 9 4096 8192 64) false
def sts_9 : State := en 10 (card 10 4096 8192 64) false
def sts_10 : State := en 11 (card 11 4096 8192 64) false
def sts_11 : State := en 12 (card 12 4096 8192 64) false
def sts_12 : State := en 15 (card 15 4096 8192 64) false
def sts_13 : State := en 16 (card 16 4096 8192 64) false
def sts_14 : State := lit (en 5 (card 5 HW 8192 64) false)
def sts_15 : State := en 5 (card 5 4096 8192 64) true
def sts_16 : State := en 5 (card 5 (2 ^ 51) 8192 64) true
def sts_17 : State := en 5 (card 5 HW 8192 64) true
def sts_19 : State := en 6 (card 6 8193 40 0xAABBCCDD) true
def sts_20 : State := handed H0 (tabd (en 9 (hw 4096) true (hand := 9)))
def sts_21 : State := en 16 (tele 8192) true base
def sts_23 : State := handed { H0 with state := 3, rows := [row1], shapes := [tb] } (tabd (en 0 [] false))

theorem test_hypotheses_CardsRun_0 :
    ((sts_0.alive = true ∧ (sts_0.ent 2).state = 2 ∧ (sts_0.ent 2).started = false ∧ (sts_0.ent 2).finished = false ∧ (sts_0.ent 2).opcode = 0) ∧ sts_0.mild) ∧
    ((sts_1.alive = true ∧ (sts_1.ent 2).state = 2 ∧ (sts_1.ent 2).started = false ∧ (sts_1.ent 2).finished = false ∧ (sts_1.ent 2).opcode = 1) ∧ sts_1.mild) ∧
    ((sts_2.alive = true ∧ (sts_2.ent 2).state = 2 ∧ (sts_2.ent 2).started = false ∧ (sts_2.ent 2).finished = false ∧ (sts_2.ent 2).opcode = 2) ∧ sts_2.mild) ∧
    ((sts_3.alive = true ∧ (sts_3.ent 2).state = 2 ∧ (sts_3.ent 2).started = false ∧ (sts_3.ent 2).finished = false ∧ (sts_3.ent 2).opcode = 3) ∧ sts_3.mild) ∧
    ((sts_4.alive = true ∧ (sts_4.ent 2).state = 2 ∧ (sts_4.ent 2).started = false ∧ (sts_4.ent 2).finished = false ∧ (sts_4.ent 2).opcode = 4) ∧ sts_4.mild) ∧
    ((sts_5.alive = true ∧ (sts_5.ent 2).state = 2 ∧ (sts_5.ent 2).started = false ∧ (sts_5.ent 2).finished = false ∧ (sts_5.ent 2).opcode = 5) ∧ sts_5.mild) ∧
    ((sts_6.alive = true ∧ (sts_6.ent 2).state = 2 ∧ (sts_6.ent 2).started = false ∧ (sts_6.ent 2).finished = false ∧ (sts_6.ent 2).opcode = 6) ∧ sts_6.mild) ∧
    ((sts_7.alive = true ∧ (sts_7.ent 2).state = 2 ∧ (sts_7.ent 2).started = false ∧ (sts_7.ent 2).finished = false ∧ (sts_7.ent 2).opcode = 8) ∧ sts_7.mild) ∧
    ((sts_8.alive = true ∧ (sts_8.ent 2).state = 2 ∧ (sts_8.ent 2).started = false ∧ (sts_8.ent 2).finished = false ∧ (sts_8.ent 2).opcode = 9) ∧ sts_8.mild) ∧
    ((sts_9.alive = true ∧ (sts_9.ent 2).state = 2 ∧ (sts_9.ent 2).started = false ∧ (sts_9.ent 2).finished = false ∧ (sts_9.ent 2).opcode = 10) ∧ sts_9.mild) ∧
    ((sts_10.alive = true ∧ (sts_10.ent 2).state = 2 ∧ (sts_10.ent 2).started = false ∧ (sts_10.ent 2).finished = false ∧ (sts_10.ent 2).opcode = 11) ∧ sts_10.mild) ∧
    ((sts_11.alive = true ∧ (sts_11.ent 2).state = 2 ∧ (sts_11.ent 2).started = false ∧ (sts_11.ent 2).finished = false ∧ (sts_11.ent 2).opcode = 12) ∧ sts_11.mild) :=
  ⟨⟨by decide +kernel, mild_of (by decide +kernel)⟩,
   ⟨by decide +kernel, mild_of (by decide +kernel)⟩,
   ⟨by decide +kernel, mild_of (by decide +kernel)⟩,
   ⟨by decide +kernel, mild_of (by decide +kernel)⟩,
   ⟨by decide +kernel, mild_of (by decide +kernel)⟩,
   ⟨by decide +kernel, mild_of (by decide +kernel)⟩,
   ⟨by decide +kernel, mild_of (by decide +kernel)⟩,
   ⟨by decide +kernel, mild_of (by decide +kernel)⟩,
   ⟨by decide +kernel, mild_of (by decide +kernel)⟩,
   ⟨by decide +kernel, mild_of (by decide +kernel)⟩,
   ⟨by decide +kernel, mild_of (by decide +kernel)⟩,
   ⟨by decide +kernel, mild_of (by decide +kernel)⟩⟩

theorem test_hypotheses_CardsRun_2 :
    (sts_16.alive = true ∧ (sts_16.ent 2).state = 2 ∧ (sts_16.ent 2).started = true ∧ (sts_16.ent 2).finished = false ∧ sts_16.moverBehind (sts_16.ent 2) = false ∧ (sts_16.ent 2).opcode = 5 ∧
    0 < leAt (sts_16.ent 2).card 32 8 ∧
    (∀ (x : Nat × Nat), x ∈ chunks (leAt (sts_16.ent 2).card 24 8) (leAt (sts_16.ent 2).card 32 8) → sts_16.moveRefused (leAt (sts_16.ent 2).card 24 8 + x.fst) x.snd = false ∧
      sts_16.foreign 2 (leAt (sts_16.ent 2).card 24 8 + x.fst) = false) ∧ sts_16.hostGone (leAt (sts_16.ent 2).card 16 8) = false) ∧ sts_16.mild ∧
    (∃ (k : Nat), regionOf (leAt (sts_16.ent 2).card 24 8) = Region.hbm k ∨ regionOf (leAt (sts_16.ent 2).card 24 8) = Region.cache k) ∧
    (∀ (a b : Nat), sts_16.mirrorRuns a b = []) ∧
    (sts_16.foreign 2 (leAt (sts_16.ent 2).card 16 8) = true ∨ (sts_16.peerGone (leAt (sts_16.ent 2).card 16 8) = false ∧ sts_16.fetchRange (leAt (sts_16.ent 2).card 16 8) (leAt (sts_16.ent 2).card 32 8) [] true = none)) :=
  ⟨by decide +kernel, mild_of (by decide +kernel), ⟨0, by decide +kernel⟩, noMirror (by decide +kernel), Or.inr ⟨by decide +kernel, rfl⟩⟩

theorem test_hypotheses_CardsRun_1 :
    ((sts_13.alive = true ∧ (sts_13.ent 2).state = 2 ∧ (sts_13.ent 2).started = false ∧ (sts_13.ent 2).finished = false ∧ (sts_13.ent 2).opcode = 16) ∧ sts_13.mild) ∧
    ((sts_14.alive = true ∧ (sts_14.ent 2).state = 2 ∧ (sts_14.ent 2).started = false ∧ (sts_14.ent 2).finished = false ∧ (sts_14.ent 2).opcode = 5 ∧
    regionOf (leAt (sts_14.ent 2).card 16 8) = Region.host ∧ sts_14.linkUp = true) ∧ sts_14.mild) ∧
    ((sts_12.alive = true ∧ (sts_12.ent 2).state = 2 ∧ (sts_12.ent 2).started = false ∧ (sts_12.ent 2).finished = false ∧ (sts_12.ent 2).opcode = 15 ∧
    (sts_12.ent 2).hand = 0) ∧ sts_12.mild) ∧
    ((sts_15.alive = true ∧ (sts_15.ent 2).state = 2 ∧ (sts_15.ent 2).started = true ∧ (sts_15.ent 2).finished = false ∧ sts_15.moverBehind (sts_15.ent 2) = false ∧ (sts_15.ent 2).opcode = 5 ∧
    0 < leAt (sts_15.ent 2).card 32 8 ∧
    (∀ (x : Nat × Nat), x ∈ chunks (leAt (sts_15.ent 2).card 24 8) (leAt (sts_15.ent 2).card 32 8) → sts_15.moveRefused (leAt (sts_15.ent 2).card 24 8 + x.fst) x.snd = false ∧
      sts_15.foreign 2 (leAt (sts_15.ent 2).card 24 8 + x.fst) = false) ∧
    sts_15.foreign 2 (leAt (sts_15.ent 2).card 16 8) = false ∧
    sts_15.hostGone (leAt (sts_15.ent 2).card 16 8) = false ∧ pcs_0.bytes.length = leAt (sts_15.ent 2).card 32 8) ∧ sts_15.mild ∧
    (∃ (k : Nat), regionOf (leAt (sts_15.ent 2).card 24 8) = Region.hbm k ∨ regionOf (leAt (sts_15.ent 2).card 24 8) = Region.cache k) ∧
    (∀ (a b : Nat), sts_15.mirrorRuns a b = []) ∧ sts_15.fetchRange (leAt (sts_15.ent 2).card 16 8) (leAt (sts_15.ent 2).card 32 8) [] true = some pcs_0) ∧
    ((sts_17.alive = true ∧ (sts_17.ent 2).state = 2 ∧ (sts_17.ent 2).started = true ∧ (sts_17.ent 2).finished = false ∧ sts_17.moverBehind (sts_17.ent 2) = false ∧ (sts_17.ent 2).opcode = 5 ∧
    0 < leAt (sts_17.ent 2).card 32 8 ∧
    (∀ (x : Nat × Nat), x ∈ chunks (leAt (sts_17.ent 2).card 24 8) (leAt (sts_17.ent 2).card 32 8) → sts_17.moveRefused (leAt (sts_17.ent 2).card 24 8 + x.fst) x.snd = false ∧
      sts_17.foreign 2 (leAt (sts_17.ent 2).card 24 8 + x.fst) = false) ∧
    sts_17.hostGone (leAt (sts_17.ent 2).card 16 8) = true) ∧ sts_17.mild ∧
    (∃ (k : Nat), regionOf (leAt (sts_17.ent 2).card 24 8) = Region.hbm k ∨ regionOf (leAt (sts_17.ent 2).card 24 8) = Region.cache k) ∧
    (∀ (a b : Nat), sts_17.mirrorRuns a b = [])) ∧
    ((sts_19.alive = true ∧ (sts_19.ent 2).state = 2 ∧ (sts_19.ent 2).started = true ∧ (sts_19.ent 2).finished = false ∧ sts_19.moverBehind (sts_19.ent 2) = false ∧ (sts_19.ent 2).opcode = 6 ∧
    0 < leAt (sts_19.ent 2).card 24 8 ∧
    (∀ (x : Nat × Nat), x ∈ chunks (leAt (sts_19.ent 2).card 16 8) (leAt (sts_19.ent 2).card 24 8) → sts_19.moveRefused (leAt (sts_19.ent 2).card 16 8 + x.fst) x.snd = false ∧
      sts_19.foreign 2 (leAt (sts_19.ent 2).card 16 8 + x.fst) = false)) ∧
    sts_19.mild ∧ (∃ (k : Nat), regionOf (leAt (sts_19.ent 2).card 16 8) = Region.hbm k ∨ regionOf (leAt (sts_19.ent 2).card 16 8) = Region.cache k) ∧
    (∀ (a b : Nat), sts_19.mirrorRuns a b = [])) ∧
    ((sts_20.alive = true ∧ (sts_20.ent 2).state = 2 ∧ (sts_20.ent 2).started = true ∧ (sts_20.ent 2).finished = false ∧ sts_20.moverBehind (sts_20.ent 2) = false ∧ (sts_20.ent 2).opcode = 9 ∧
    sts_20.table (leAt (sts_20.ent 2).card 16 2) = some tb ∧ sts_20.handOf (sts_20.ent 2).hand = some (2, H0) ∧ sts_20.hostGone (leAt (sts_20.ent 2).card 32 8) = false ∧
    sts_20.foreign 2 (leAt (sts_20.ent 2).card 32 8) = false) ∧
    sts_20.mild ∧ sts_20.fetchRange (leAt (sts_20.ent 2).card 32 8) (moveLen (sts_20.ent 2).card tb) [] true = some pcs_3) ∧
    ((sts_21.alive = true ∧ (sts_21.ent 2).state = 2 ∧ (sts_21.ent 2).started = true ∧ (sts_21.ent 2).finished = false ∧ sts_21.moverBehind (sts_21.ent 2) = false ∧ (sts_21.ent 2).opcode = 16 ∧
    0 < leAt (sts_21.ent 2).card 28 1 ∧ sts_21.hostGone (leAt (sts_21.ent 2).card 16 8) = false) ∧ sts_21.mild) ∧
    ((sts_23.alive = true ∧ (sts_23.ent 2).state = 2 ∧ sts_23.writingBack 2 = true ∧ (∃ r ∈ (tabGet ({ } : Hand) sts_23.hands.slots 2).rows, 1 ∈ r.held) ∧
    (∀ r ∈ (tabGet ({ } : Hand) sts_23.hands.slots 2).rows, ∀ k ∈ r.held, 1 ≤ k ∧ sts_23.retired (24 + k) = false)) ∧
    sts_23.mild) :=
  ⟨⟨by decide +kernel, mild_of (by decide +kernel)⟩,
   ⟨by decide +kernel, mild_of (by decide +kernel)⟩,
   ⟨by decide +kernel, mild_of (by decide +kernel)⟩,
   ⟨by decide +kernel, mild_of (by decide +kernel), ⟨0, by decide +kernel⟩, noMirror (by decide +kernel), rfl⟩,
   ⟨by decide +kernel, mild_of (by decide +kernel), ⟨0, by decide +kernel⟩, noMirror (by decide +kernel)⟩,
   ⟨by decide +kernel, mild_of (by decide +kernel), ⟨0, by decide +kernel⟩, noMirror (by decide +kernel)⟩,
   ⟨by decide +kernel, mild_of (by decide +kernel), rfl⟩,
   ⟨by decide +kernel, mild_of (by decide +kernel)⟩,
   ⟨by decide +kernel, mild_of (by decide +kernel)⟩⟩

end CardsRun

namespace HubsFailOver

def base : State := { ((pres up).set F.TAL_STAT_STANDBY_OK 1) with now := 100, trn := { up.trn with tick := 50 } }
def ta (f : Tally → Tally) (s : State) : State := { s with tally := f s.tally }
def lit (s : State) : State := s.set F.DLR_STAT_LINK_UP 1
def card : List Byte := List.replicate 64 4
def e1 : Entry := { deck := 1, state := 1, card := card, acked := true, visible := true }
def img (s : State) : State := ta (fun t => { t with image := { t.image with entries := [(5, e1)], transit := 3 }, takeover := some 60, takeT := 9 }) (s.setEnt 5 { e1 with state := 2, transit := 4 })
def body (q st : Nat) : List Byte := natLe 6 q ++ natLe 1 1 ++ natLe 1 st ++ natLe 8 3 ++ List.replicate 12 0
def tail_ : List Byte := List.replicate 32 7 ++ card
def rec_ (q st crc : Nat) : List Byte := body q st ++ natLe 4 crc ++ tail_
def good : List Byte := rec_ 5 1 4247947675
def bad : List Byte := rec_ 4 1 0
def rc (n : Nat) (s : State) : State := s.set F.TAL_STAT_RECOVERY n
def sts_0 : State := base
def sts_1 : State := base.set F.TAL_STAT_STANDBY_OK 0
def sts_2 : State := ta (fun t => { t with copyWait := true }) base
def sts_5 : State := img base
def sts_6 : State := img (lit base)
def sts_7 : State := ta (fun t => { t with resync := true }) ((base.setEnt 5 e1).setEnt 6 { e1 with state := 2 })
def sts_8 : State := ta (fun t => { t with takeT := 0 }) sts_5
def sts_9 : State := rc 2 base
def sts_10 : State := (rc 2 base).set F.TAL_MIRROR_BASE 1

theorem test_hypotheses_HubsFailOver_0 :
    ((sts_2.alive = true ∧ sts_2.get F.TAL_STAT_DEALER_HUB ≤ 1 ∧ sts_2.tally.copyWait = true ∧ sts_2.dealing = true) ∧ sts_2.mild) ∧
    ((sts_0.alive = true ∧ sts_0.get F.TAL_STAT_DEALER_HUB ≤ 1 ∧ sts_0.tally.copyWait = false) ∧ sts_0.mild) ∧
    ((sts_0.alive = true ∧ sts_0.get F.TAL_STAT_DEALER_HUB ≤ 1 ∧ sts_0.tally.takeover = none ∧ sts_0.get F.TAL_STAT_STANDBY_OK = 1) ∧ sts_0.mild ∧
    (0 = 1 → sts_0.tally.copyWait = true)) ∧
    ((sts_1.alive = true ∧ sts_1.get F.TAL_STAT_DEALER_HUB ≤ 1 ∧ sts_1.tally.takeover = none ∧ sts_1.get F.TAL_STAT_STANDBY_OK ≠ 1) ∧ sts_1.mild ∧
    (0 = 1 → sts_1.tally.copyWait = true)) ∧
    ((sts_5.alive = true ∧ sts_5.get F.TAL_STAT_DEALER_HUB ≤ 1 ∧ sts_5.tally.takeover.isSome = true ∧ sts_5.get F.TRN_NUM ≠ sts_5.tally.takeT ∧ sts_5.linkUp = false) ∧ sts_5.mild) ∧
    ((sts_6.alive = true ∧ sts_6.get F.TAL_STAT_DEALER_HUB ≤ 1 ∧ sts_6.tally.takeover.isSome = true ∧ sts_6.get F.TRN_NUM ≠ sts_6.tally.takeT ∧ sts_6.linkUp = true) ∧ sts_6.mild) ∧
    ((sts_8.alive = true ∧ sts_8.tally.takeover.isSome = true ∧ sts_8.get F.TRN_NUM = sts_8.tally.takeT) ∧ sts_8.mild) ∧
    ((sts_5.alive = true ∧ sts_5.get F.TAL_STAT_DEALER_HUB ≤ 1 ∧ sts_5.tally.takeover = some 60) ∧ sts_5.mild) ∧
    ((sts_1.alive = true ∧ sts_1.get F.TAL_STAT_DEALER_HUB ≤ 1 ∧ sts_1.get F.TAL_STAT_STANDBY_OK ≠ 1 ∧ sts_1.tally.noDummy = false ∧ sts_1.tally.takeover = none ∧
    sts_1.get F.FLT_DOM0_STATE (129 - sts_1.get F.TAL_STAT_DEALER_HUB) = 0) ∧ sts_1.mild) ∧
    ((sts_7.alive = true ∧ sts_7.get F.TAL_STAT_DEALER_HUB ≤ 1 ∧ sts_7.tally.resync = true) ∧ sts_7.mild) ∧
    ((sts_0.alive = true ∧ sts_0.get F.TAL_STAT_DEALER_HUB ≤ 1 ∧ sts_0.tally.resync = false) ∧ sts_0.mild) ∧
    ((sts_0.alive = true ∧ sts_0.get F.TAL_STAT_DEALER_HUB ≤ 1 ∧ sts_0.inService = true) ∧ sts_0.mild) ∧
    ((sts_0.alive = true ∧ sts_0.get F.TAL_STAT_DEALER_HUB ≤ 1 ∧ sts_0.get F.TAL_STAT_RECOVERY ≠ 2) ∧ sts_0.mild) :=
  ⟨⟨by decide +kernel, mild_of (by decide +kernel)⟩,
   ⟨by decide +kernel, mild_of (by decide +kernel)⟩,
   ⟨by decide +kernel, mild_of (by decide +kernel), by decide +kernel⟩,
   ⟨by decide +kernel, mild_of (by decide +kernel), by decide +kernel⟩,
   ⟨by decide +kernel, mild_of (by decide +kernel)⟩,
   ⟨by decide +kernel, mild_of (by decide +kernel)⟩,
   ⟨by decide +kernel, mild_of (by decide +kernel)⟩,
   ⟨by decide +kernel, mild_of (by decide +kernel)⟩,
   ⟨by decide +kernel, mild_of (by decide +kernel)⟩,
   ⟨by decide +kernel, mild_of (by decide +kernel)⟩,
   ⟨by decide +kernel, mild_of (by decide +kernel)⟩,
   ⟨by decide +kernel, mild_of (by decide +kernel)⟩,
   ⟨by decide +kernel, mild_of (by decide +kernel)⟩⟩

theorem good_ok : recordOk good = true := by
  rw [recordOk, crc32c_seen]; decide +kernel

theorem bad_not : recordOk bad = false := by
  rw [recordOk, crc32c_seen]; decide +kernel

theorem test_hypotheses_HubsFailOver_1 :
    ((sts_9.alive = true ∧ sts_9.get F.TAL_STAT_DEALER_HUB ≤ 1 ∧ sts_9.get F.TAL_STAT_RECOVERY = 2 ∧ sts_9.get F.TAL_MIRROR_BASE = 0) ∧ sts_9.mild) ∧
    ((sts_10.alive = true ∧ sts_10.get F.TAL_STAT_DEALER_HUB ≤ 1 ∧ sts_10.get F.TAL_STAT_RECOVERY = 2 ∧ sts_10.get F.TAL_MIRROR_BASE ≠ 0 ∧ recordOk good = true ∧
    recordOk bad = false ∧ 0 < 4 ∧ 4 ≤ leAt good 0 6 ∧ leAt good 0 6 < 4 + 65536 ∧ 4 % 65536 = 4 % 65536) ∧ sts_10.mild) ∧
    ((sts_10.alive = true ∧ sts_10.get F.TAL_STAT_DEALER_HUB ≤ 1 ∧ sts_10.get F.TAL_STAT_RECOVERY = 2 ∧ sts_10.get F.TAL_MIRROR_BASE ≠ 0 ∧ recordOk good = true ∧
    leAt good 0 6 ≠ 0 ∧ sts_10.hands.slots = [] ∧ sts_10.cht.ended = none) ∧ sts_10.mild) :=
  ⟨⟨by decide +kernel, mild_of (by decide +kernel)⟩,
   ⟨⟨by decide +kernel, by decide +kernel, by decide +kernel, by decide +kernel, good_ok, bad_not, by decide +kernel, by decide +kernel, by decide +kernel, rfl⟩, mild_of (by decide +kernel)⟩,
   ⟨⟨by decide +kernel, by decide +kernel, by decide +kernel, by decide +kernel, good_ok, by decide +kernel, by decide +kernel, by decide +kernel⟩, mild_of (by decide +kernel)⟩⟩

end HubsFailOver

/-! ## Comet -/

namespace CometFrames

def pd : PeerDef := { part := 7, far := false, member := true, slot := 1, mac := 0x1000, paths := [(2, 3), (4, 5)] }
def con : Constell := { partId := 1, pole := 7, successor := 1, peers := [pd], logs := [0x4000, 0x4000], sources := 1 }
def meshed : Chart := { plain with constell := some con }
def se (x : Sess) (s : State) : State := s.setSess 7 x
def upP (s : State) : State := (s.set F.CMT_PORT_STATE 2 2).set F.CMT_PORT_STATE 2 4
def fr (op : Nat) (pl : List Byte) (kind : Nat := 0) (addr : Nat := 8192) (seq : Nat := 0) (space : Nat := 0) (rtag : Nat := 9) (atype : Nat := 1) (aop : Nat := 0) (len : Nat := pl.length) (aux : Nat := 0) (ackOk : Bool := false) (ack : Nat := 0) : Frame :=
  let f : Frame := { kind := kind, op := op, srcPart := 7, dstPart := 1, epoch := 3, space := space, seq := seq, len := len, payload := pl, addr := addr, rtag := rtag, atype := atype, aop := aop, dmac := 2, etype := 0x88B5, ver := 1, aux := aux, ackOk := ackOk, ack := ack }
  { f with pcrc := f.pcrcOf }
def x0 : Sess := { epoch := some 3, up := true, rxLost := false, fresh := false }
def m0 : State := se x0 (upP (charted meshed (pres up)))
def P16 : List Byte := List.replicate 16 1
def rq (k : ReqKind) : CReq := { rtag := 9, kind := k, chip := 36, site := 3, addr := 8192, len := 16, off := 16, dst := 4096 }
def bar : ConBar := { valid := true, ctx := 5, root := 7, nmembers := 2 }
def barred : Chart := { plain with constell := some { con with bars := [bar] } }
def lg (seq old : Nat) : State := m0.logPut (2^30) 1 seq 0 old
def follow : State := { (m0.set F.TRN_CFG_ROLE 2) with cmt := { m0.cmt with there := some 100, asked := some 500 } }
def frames_0 : Frame := fr 0 P16
def frames_1 : Frame := fr 0 P16 0 (2^47)
def frames_2 : Frame := fr 0 P16 0 8192 0xFFFFFFFF
def frames_3 : Frame := fr 0 P16 0 8192 5
def frames_4 : Frame := fr 1 [] (len := 16)
def frames_5 : Frame := fr 2 P16
def frames_6 : Frame := fr 3 P16
def frames_7 : Frame := fr 3 P16 (seq := 0xFFFFFFFF)
def frames_8 : Frame := fr 4 (List.replicate 8 2)
def frames_9 : Frame := fr 5 P16 (space := 1)
def frames_10 : Frame := fr 6 [] (space := 1) (aux := 1)
def frames_11 : Frame := fr 7 []
def frames_13 : Frame := fr 0 (natLe 4 9 ++ natLe 4 8 ++ natLe 2 3 ++ List.replicate 6 0) 2
def frames_15 : Frame := fr 0 (List.replicate 16 0 ++ [0] ++ natBe 8 0 ++ natLe 8 900) 3
def frames_17 : Frame := fr 0 (natLe 8 (packBits [(0,8,0),(8,8,1),(16,16,0)])) 4
def frames_18 : Frame := fr 0 (natLe 8 (packBits [(0,8,0),(8,8,1),(16,16,4)])) 4
def frames_19 : Frame := fr 0 [] 1 (ackOk := true) (ack := 4)
def frames_20 : Frame := { fr 0 P16 with dmac := 9 }
def sts_0 : State := m0
def sts_2 : State := (se { x0 with reqs := [rq .load] } m0)
def sts_3 : State := (se { x0 with reqs := [rq .pull] } m0)
def sts_4 : State := (se { x0 with reqs := [rq .atomic] } m0)
def sts_5 : State := charted barred m0
def sts_7 : State := lg 0xFFFFFFFF 5
def sts_8 : State := follow
def sts_9 : State := (lg 0xFFFFFFFF 5).setSess 7 { x0 with rxCum := 0xFFFFFFFE, doubt := true }
def sts_10 : State := (se { x0 with rxLost := true } m0)
def frames_21 : Frame := fr 0 (natLe 4 0 ++ natLe 4 0xFFFFFFFE ++ natLe 2 4 ++ List.replicate 6 0) 2

theorem test_hypotheses_CometFrames_0 :
    ((2 < 32 ∧ sts_0.alive = true ∧ 2 < 12 ∧ (sts_0.portUp 2 = false ∨ frames_20.dmac ≠ (sts_0.get F.CMT_ID_MAC_BASE + 2) % 2 ^ 48)) ∧ sts_0.mild) ∧
    ((2 < 32 ∧ sts_0.alive = true ∧ 2 < 12 ∧ sts_0.portUp 2 = true ∧ frames_0.dmac = (sts_0.get F.CMT_ID_MAC_BASE + 2) % 2 ^ 48 ∧
    (false = false ∨ frames_0.etype ≠ sts_0.cmt.etype ∨ frames_0.ver ≠ 1 ∨ frames_0.codesOk = false ∨ frames_0.dstPart ≠ sts_0.con.partId ∨ sts_0.peerDef frames_0.srcPart = none ∨ frames_0.pcrc ≠ frames_0.pcrcOf ∨ frames_0.kind ≠ 2 ∧
    (sts_0.sess frames_0.srcPart).epoch ≠ some frames_0.epoch)) ∧ sts_0.mild) ∧
    ((2 < 32 ∧ sts_0.alive = true ∧ frames_0.ackOk = false ∧ (frames_0.space = 0 ∧ subMod 32 frames_0.seq (sts_0.sess frames_0.srcPart).rxCum = 1 ∧
    (sts_0.sess frames_0.srcPart).held = [] ∧ (sts_0.sess frames_0.srcPart).owed = []) ∧ sts_0.remoteCheck 2 frames_0.addr frames_0.len = 0 ∧ 0 < frames_0.len ∧
    sts_0.writeRefused frames_0.addr frames_0.len = false) ∧ sts_0.mild ∧ sts_0.framePort 2 0 0 frames_0 ∧ (∀ (a m : Nat), sts_0.mirrorRuns a m = [])) ∧
    ((2 < 32 ∧ sts_0.alive = true ∧ frames_1.ackOk = false ∧ (frames_1.space = 0 ∧ subMod 32 frames_1.seq (sts_0.sess frames_1.srcPart).rxCum = 1 ∧
    (sts_0.sess frames_1.srcPart).held = [] ∧ (sts_0.sess frames_1.srcPart).owed = []) ∧ sts_0.remoteCheck 2 frames_1.addr frames_1.len ≠ 0) ∧ sts_0.mild ∧ sts_0.framePort 2 0 0 frames_1) ∧
    ((2 < 32 ∧ sts_0.alive = true ∧ frames_2.ackOk = false ∧ (frames_2.space = 0 ∧ subMod 32 frames_2.seq (sts_0.sess frames_2.srcPart).rxCum = 0)) ∧ sts_0.mild ∧
    sts_0.framePort 2 0 0 frames_2) ∧
    ((2 < 32 ∧ sts_0.alive = true ∧ frames_3.ackOk = false ∧ frames_3.space = 0 ∧ 1 < subMod 32 frames_3.seq (sts_0.sess frames_3.srcPart).rxCum ∧
    subMod 32 frames_3.seq (sts_0.sess frames_3.srcPart).rxCum ≤ 16384 ∧ (∀ (g : Frame), g ∈ (sts_0.sess frames_3.srcPart).held → g.seq ≠ frames_3.seq)) ∧ sts_0.mild ∧
    sts_0.framePort 2 0 0 frames_3) ∧
    ((2 < 32 ∧ sts_0.alive = true ∧ frames_4.ackOk = false ∧ (frames_4.space = 0 ∧ subMod 32 frames_4.seq (sts_0.sess frames_4.srcPart).rxCum = 1 ∧
    (sts_0.sess frames_4.srcPart).held = [] ∧ (sts_0.sess frames_4.srcPart).owed = []) ∧ sts_0.remoteCheck 2 frames_4.addr frames_4.len = 0 ∧ 0 < frames_4.len ∧
    frames_4.addr / 64 = (frames_4.addr + frames_4.len - 1) / 64) ∧ sts_0.mild ∧ sts_0.framePort 2 0 1 frames_4) ∧
    ((2 < 32 ∧ sts_2.alive = true ∧ frames_5.ackOk = false ∧ (frames_5.space = 0 ∧ subMod 32 frames_5.seq (sts_2.sess frames_5.srcPart).rxCum = 1 ∧
    (sts_2.sess frames_5.srcPart).held = [] ∧ (sts_2.sess frames_5.srcPart).owed = []) ∧
    List.find? (fun (r : CReq) => decide (r.rtag = frames_5.rtag) && decide (r.kind ≠ ReqKind.atomic)) (sts_2.sess frames_5.srcPart).reqs = some (rq ReqKind.load) ∧
    frames_5.addr = (rq ReqKind.load).addr ∧ (rq ReqKind.load).got = [] ∧ (rq ReqKind.load).len ≤ frames_5.len ∧ (rq ReqKind.load).kind = ReqKind.load) ∧ sts_2.mild ∧
    sts_2.framePort 2 0 2 frames_5) ∧
    ((2 < 32 ∧ sts_3.alive = true ∧ frames_5.ackOk = false ∧ (frames_5.space = 0 ∧ subMod 32 frames_5.seq (sts_3.sess frames_5.srcPart).rxCum = 1 ∧
    (sts_3.sess frames_5.srcPart).held = [] ∧ (sts_3.sess frames_5.srcPart).owed = []) ∧
    List.find? (fun (r : CReq) => decide (r.rtag = frames_5.rtag) && decide (r.kind ≠ ReqKind.atomic)) (sts_3.sess frames_5.srcPart).reqs = some (rq ReqKind.pull) ∧
    frames_5.addr = (rq ReqKind.pull).addr ∧ (rq ReqKind.pull).got = [] ∧ (rq ReqKind.pull).len ≤ frames_5.len ∧ (rq ReqKind.pull).kind = ReqKind.pull ∧
    0 < frames_5.len ∧ frames_5.len ≤ (rq ReqKind.pull).off ∧
    (∀ (c : Nat × Nat), c ∈ chunks (rq ReqKind.pull).dst frames_5.len → sts_3.moveRefused ((rq ReqKind.pull).dst + c.fst) c.snd = false ∧ sts_3.foreign ((rq ReqKind.pull).work.getD 0) ((rq ReqKind.pull).dst + c.fst) = false)) ∧ sts_3.mild ∧
    sts_3.framePort 2 0 2 frames_5 ∧ (∃ (k : Nat), regionOf (rq ReqKind.pull).dst = Region.hbm k ∨ regionOf (rq ReqKind.pull).dst = Region.cache k) ∧
    (∀ (a m : Nat), sts_3.mirrorRuns a m = [])) ∧
    ((2 < 32 ∧ sts_0.alive = true ∧ frames_6.ackOk = false ∧ sts_0.peerDef frames_6.srcPart = some pd ∧ regionOf frames_6.addr = Region.hbm 0 ∧
    sts_0.logBase 0 = some (2 ^ 30) ∧ sts_0.remoteCheck 2 frames_6.addr (atomicSize frames_6.atype) = 0 ∧ frames_6.addr % atomicSize frames_6.atype = 0 ∧ pd.slot < 1024 ∧
    sts_0.writeRefused frames_6.addr (atomicSize frames_6.atype) = false ∧ (frames_6.space = 0 ∧ subMod 32 frames_6.seq (sts_0.sess frames_6.srcPart).rxCum = 1 ∧
    (sts_0.sess frames_6.srcPart).held = [] ∧ (sts_0.sess frames_6.srcPart).owed = []) ∧ (sts_0.sess frames_6.srcPart).doubt = false ∧ sts_0.poisoned (frames_6.addr / 64) = false ∧ (frames_6.addr + 8 ≤ 2 ^ 30 ∨ 2 ^ 30 + 2 ^ 27 ≤ frames_6.addr)) ∧
    sts_0.mild ∧ sts_0.framePort 2 0 3 frames_6 ∧ (∀ (a k : Nat), sts_0.mirrorRuns a k = [])) ∧
    ((2 < 32 ∧ sts_7.alive = true ∧ frames_7.ackOk = false ∧ sts_7.peerDef frames_7.srcPart = some pd ∧ regionOf frames_7.addr = Region.hbm 0 ∧
    sts_7.logBase 0 = some (2 ^ 30) ∧ sts_7.remoteCheck 2 frames_7.addr (atomicSize frames_7.atype) = 0 ∧ frames_7.addr % atomicSize frames_7.atype = 0 ∧ pd.slot < 1024 ∧
    sts_7.writeRefused frames_7.addr (atomicSize frames_7.atype) = false ∧ (frames_7.space = 0 ∧ subMod 32 frames_7.seq (sts_7.sess frames_7.srcPart).rxCum = 0) ∧
    sts_7.logFind (2 ^ 30) pd.slot frames_7.seq = some (0, 5)) ∧ sts_7.mild ∧ sts_7.framePort 2 0 3 frames_7) ∧
    ((2 < 32 ∧ sts_9.alive = true ∧ frames_7.ackOk = false ∧ sts_9.peerDef frames_7.srcPart = some pd ∧ regionOf frames_7.addr = Region.hbm 0 ∧
    sts_9.logBase 0 = some (2 ^ 30) ∧ sts_9.remoteCheck 2 frames_7.addr (atomicSize frames_7.atype) = 0 ∧ frames_7.addr % atomicSize frames_7.atype = 0 ∧ pd.slot < 1024 ∧
    sts_9.writeRefused frames_7.addr (atomicSize frames_7.atype) = false ∧ (frames_7.space = 0 ∧ subMod 32 frames_7.seq (sts_9.sess frames_7.srcPart).rxCum = 1 ∧
    (sts_9.sess frames_7.srcPart).held = [] ∧ (sts_9.sess frames_7.srcPart).owed = []) ∧ (sts_9.sess frames_7.srcPart).doubt = true ∧ sts_9.logFind (2 ^ 30) pd.slot frames_7.seq = some (0, 5)) ∧ sts_9.mild ∧
    sts_9.framePort 2 0 3 frames_7) ∧
    ((2 < 32 ∧ sts_4.alive = true ∧ frames_8.ackOk = false ∧ (frames_8.space = 0 ∧ subMod 32 frames_8.seq (sts_4.sess frames_8.srcPart).rxCum = 1 ∧
    (sts_4.sess frames_8.srcPart).held = [] ∧ (sts_4.sess frames_8.srcPart).owed = [])) ∧ sts_4.mild ∧ sts_4.framePort 2 0 4 frames_8 ∧ (∃ (r : CReq), r ∈ (sts_4.sess frames_8.srcPart).reqs ∧
    r.rtag = frames_8.rtag ∧ r.kind = ReqKind.atomic)) :=
  ⟨⟨by decide +kernel, mild_of (by decide +kernel)⟩,
   ⟨by decide +kernel, mild_of (by decide +kernel)⟩,
   ⟨by decide +kernel, mild_of (by decide +kernel), by unfold State.framePort; decide +kernel, noMirror (by decide +kernel)⟩,
   ⟨by decide +kernel, mild_of (by decide +kernel), by unfold State.framePort; decide +kernel⟩,
   ⟨by decide +kernel, mild_of (by decide +kernel), by unfold State.framePort; decide +kernel⟩,
   ⟨by decide +kernel, mild_of (by decide +kernel), by unfold State.framePort; decide +kernel⟩,
   ⟨by decide +kernel, mild_of (by decide +kernel), by unfold State.framePort; decide +kernel⟩,
   ⟨by decide +kernel, mild_of (by decide +kernel), by unfold State.framePort; decide +kernel⟩,
   ⟨by decide +kernel, mild_of (by decide +kernel), by unfold State.framePort; decide +kernel, ⟨0, by decide +kernel⟩, noMirror (by decide +kernel)⟩,
   ⟨by decide +kernel, mild_of (by decide +kernel), by unfold State.framePort; decide +kernel, noMirror (by decide +kernel)⟩,
   ⟨by decide +kernel, mild_of (by decide +kernel), by unfold State.framePort; decide +kernel⟩,
   ⟨by decide +kernel, mild_of (by decide +kernel), by unfold State.framePort; decide +kernel⟩,
   ⟨by decide +kernel, mild_of (by decide +kernel), by unfold State.framePort; decide +kernel, by decide +kernel⟩⟩

theorem test_hypotheses_CometFrames_1 :
    ((2 < 32 ∧ sts_0.alive = true ∧ frames_9.ackOk = false ∧ frames_9.space ≠ 0 ∧ frames_9.seq = tabGet 0 (sts_0.sess frames_9.srcPart).bulkCum frames_9.space ∧
    (sts_0.sess frames_9.srcPart).bulkHeld = [] ∧ sts_0.remoteCheck 2 frames_9.addr frames_9.len = 0 ∧ 0 < frames_9.len ∧
    sts_0.writeRefused frames_9.addr frames_9.len = false) ∧ sts_0.mild ∧ sts_0.framePort 2 0 5 frames_9 ∧ (∀ (a m : Nat), sts_0.mirrorRuns a m = [])) ∧
    ((2 < 32 ∧ sts_0.alive = true ∧ frames_10.ackOk = false ∧ frames_10.space ≠ 0 ∧ frames_10.seq = tabGet 0 (sts_0.sess frames_10.srcPart).bulkCum frames_10.space ∧
    (sts_0.sess frames_10.srcPart).bulkHeld = [] ∧ sts_0.remoteCheck 2 frames_10.addr (frames_10.aux * 1024) = 0) ∧ sts_0.mild ∧ sts_0.framePort 2 0 6 frames_10) ∧
    ((2 < 32 ∧ sts_0.alive = true ∧ frames_11.ackOk = false ∧ (frames_11.space = 0 ∧ subMod 32 frames_11.seq (sts_0.sess frames_11.srcPart).rxCum = 1 ∧
    (sts_0.sess frames_11.srcPart).held = [] ∧ (sts_0.sess frames_11.srcPart).owed = [])) ∧ sts_0.mild ∧ sts_0.framePort 2 0 7 frames_11) ∧
    ((2 < 32 ∧ sts_0.alive = true ∧ frames_13.ackOk = false ∧
    List.find? (fun (p : Nat × Nat) => decide (p.fst = frames_13.srcPart)) (sts_0.pathsOver 2) = some (frames_13.srcPart, 0) ∧
    0 < (sts_0.paths frames_13.srcPart).length ∧ (sts_0.pathAt frames_13.srcPart 0).fst = 2 ∧ (sts_0.sess 7).rxLost = false ∧
    (sts_0.sess 7).epoch = some (leAt frames_13.payload 8 2)) ∧ sts_0.mild ∧ sts_0.framePort 2 2 0 frames_13) ∧
    ((2 < 32 ∧ sts_0.alive = true ∧ frames_21.ackOk = false ∧
    List.find? (fun (p : Nat × Nat) => decide (p.fst = frames_21.srcPart)) (sts_0.pathsOver 2) = some (frames_21.srcPart, 0) ∧
    0 < (sts_0.paths frames_21.srcPart).length ∧ (sts_0.pathAt frames_21.srcPart 0).fst = 2 ∧ (sts_0.sess 7).rxLost = false ∧
    helloBlank (leAt frames_21.payload 0 4) (leAt frames_21.payload 4 4) = true) ∧ sts_0.mild ∧ sts_0.framePort 2 2 0 frames_21) ∧
    ((2 < 32 ∧ sts_10.alive = true ∧ frames_13.ackOk = false ∧
    List.find? (fun (p : Nat × Nat) => decide (p.fst = frames_13.srcPart)) (sts_10.pathsOver 2) = some (frames_13.srcPart, 0) ∧
    0 < (sts_10.paths frames_13.srcPart).length ∧ (sts_10.pathAt frames_13.srcPart 0).fst = 2 ∧ (sts_10.sess 7).rxLost = true) ∧ sts_10.mild ∧
    sts_10.framePort 2 2 0 frames_13) ∧
    ((2 < 32 ∧ sts_8.alive = true ∧ frames_15.ackOk = false ∧ sts_8.follows = true ∧ leAt frames_15.payload 0 8 = 0 ∧ leAt frames_15.payload 8 8 = 0 ∧
    sts_8.cmt.there = some 100 ∧ sts_8.cmt.asked = some 500) ∧ sts_8.mild ∧ sts_8.framePort 2 3 0 frames_15) ∧
    ((2 < 32 ∧ sts_5.alive = true ∧ frames_18.ackOk = false ∧ subMod 32 frames_18.seq (sts_5.sess frames_18.srcPart).rxCum = 1 ∧
    (sts_5.sess frames_18.srcPart).held = [] ∧ (sts_5.sess frames_18.srcPart).owed = [] ∧ leAt frames_18.payload 0 1 = 0 ∧ sts_5.conBar 0 = some bar ∧ bar.ctx < 32 ∧
    leAt frames_18.payload 2 2 ≠ (sts_5.cbar 0).round) ∧ sts_5.mild ∧ sts_5.framePort 2 4 0 frames_18) ∧
    ((2 < 32 ∧ sts_5.alive = true ∧ frames_17.ackOk = false ∧ subMod 32 frames_17.seq (sts_5.sess frames_17.srcPart).rxCum = 1 ∧
    (sts_5.sess frames_17.srcPart).held = [] ∧ (sts_5.sess frames_17.srcPart).owed = [] ∧ leAt frames_17.payload 0 1 = 0 ∧ sts_5.conBar 0 = some bar ∧ bar.ctx < 32 ∧
    leAt frames_17.payload 2 2 = (sts_5.cbar 0).round ∧ leAt frames_17.payload 1 1 = 1 ∧ bar.root = frames_17.srcPart ∧ bar.root ≠ sts_5.con.partId) ∧ sts_5.mild ∧
    sts_5.framePort 2 4 0 frames_17) ∧
    ((2 < 32 ∧ sts_0.alive = true ∧ frames_19.ackOk = true ∧ (sts_0.sess frames_19.srcPart).wait = []) ∧ sts_0.mild ∧ sts_0.framePort 2 1 0 frames_19) :=
  ⟨⟨by decide +kernel, mild_of (by decide +kernel), by unfold State.framePort; decide +kernel, noMirror (by decide +kernel)⟩,
   ⟨by decide +kernel, mild_of (by decide +kernel), by unfold State.framePort; decide +kernel⟩,
   ⟨by decide +kernel, mild_of (by decide +kernel), by unfold State.framePort; decide +kernel⟩,
   ⟨by decide +kernel, mild_of (by decide +kernel), by unfold State.framePort; decide +kernel⟩,
   ⟨by decide +kernel, mild_of (by decide +kernel), by unfold State.framePort; decide +kernel⟩,
   ⟨by decide +kernel, mild_of (by decide +kernel), by unfold State.framePort; decide +kernel⟩,
   ⟨by decide +kernel, mild_of (by decide +kernel), by unfold State.framePort; decide +kernel⟩,
   ⟨by decide +kernel, mild_of (by decide +kernel), by unfold State.framePort; decide +kernel⟩,
   ⟨by decide +kernel, mild_of (by decide +kernel), by unfold State.framePort; decide +kernel⟩,
   ⟨by decide +kernel, mild_of (by decide +kernel), by unfold State.framePort; decide +kernel⟩⟩

end CometFrames

namespace AtomicsNeedALog

def pd : PeerDef := { part := 7, far := false, member := true, slot := 1, mac := 0x1000, paths := [(2, 3), (4, 5)] }
def con : Constell := { partId := 1, pole := 7, successor := 1, peers := [pd], logs := [0x4000, 0x4000], sources := 1 }
def meshed : Chart := { plain with constell := some con }
def se (x : Sess) (s : State) : State := s.setSess 7 x
def upP (s : State) : State := (s.set F.CMT_PORT_STATE 2 2).set F.CMT_PORT_STATE 2 4
def fr (op : Nat) (pl : List Byte) (kind : Nat := 0) (addr : Nat := 8192) (seq : Nat := 0) (space : Nat := 0) (rtag : Nat := 9) (atype : Nat := 1) (aop : Nat := 0) : Frame :=
  let f : Frame := { kind := kind, op := op, srcPart := 7, dstPart := 1, epoch := 3, space := space, seq := seq, len := pl.length, payload := pl, addr := addr, rtag := rtag, atype := atype, aop := aop, dmac := 2, etype := 0x88B5, ver := 1 }
  { f with pcrc := f.pcrcOf }
def m0 : State := se { ({} : Sess) with epoch := some 3, up := true } (upP (charted meshed (pres up)))
def nolog : Chart := { plain with constell := some { con with logs := [] } }

theorem test_hypotheses_AtomicsNeedALog :
    ((2 < 32 ∧ (charted nolog m0).alive = true ∧ (fr 3 (List.replicate 16 1)).ackOk = false ∧ (fr 3 (List.replicate 16 1)).space = 0 ∧
    ((charted nolog m0).sess (fr 3 (List.replicate 16 1)).srcPart).held = [] ∧ ((charted nolog m0).sess (fr 3 (List.replicate 16 1)).srcPart).owed = [] ∧
    subMod 32 (fr 3 (List.replicate 16 1)).seq ((charted nolog m0).sess (fr 3 (List.replicate 16 1)).srcPart).rxCum ≤ 1 ∧
    (charted nolog m0).peerDef (fr 3 (List.replicate 16 1)).srcPart = some pd ∧ regionOf (fr 3 (List.replicate 16 1)).addr = Region.hbm 0 ∧
    (charted nolog m0).remoteCheck 2 (fr 3 (List.replicate 16 1)).addr (atomicSize (fr 3 (List.replicate 16 1)).atype) = 0 ∧
    (pd.slot = 65535 ∨ (charted nolog m0).logBase 0 = none)) ∧ (charted nolog m0).framePort 2 0 3 (fr 3 (List.replicate 16 1))) :=
  ⟨by decide +kernel, by unfold State.framePort; decide +kernel⟩

end AtomicsNeedALog

namespace CometServes

def pd : PeerDef := { part := 7, far := false, member := true, slot := 1, mac := 0x1000, paths := [(2, 3), (4, 5)] }
def con : Constell := { partId := 1, pole := 7, successor := 1, peers := [pd], logs := [0x4000, 0x4000], sources := 1 }
def meshed : Chart := { plain with constell := some con }
def se (x : Sess) (s : State) : State := s.setSess 7 x
def upP (s : State) : State := (s.set F.CMT_PORT_STATE 2 2).set F.CMT_PORT_STATE 2 4
def fr (op : Nat) (pl : List Byte) (kind : Nat := 0) (addr : Nat := 8192) (seq : Nat := 0) (space : Nat := 0) (rtag : Nat := 9) (atype : Nat := 1) (aop : Nat := 0) (len : Nat := pl.length) (aux : Nat := 0) (ackOk : Bool := false) (ack : Nat := 0) : Frame :=
  let f : Frame := { kind := kind, op := op, srcPart := 7, dstPart := 1, epoch := 3, space := space, seq := seq, len := len, payload := pl, addr := addr, rtag := rtag, atype := atype, aop := aop, dmac := 2, etype := 0x88B5, ver := 1, aux := aux, ackOk := ackOk, ack := ack }
  { f with pcrc := f.pcrcOf }
def x0 : Sess := { epoch := some 3, up := true, rxLost := false, fresh := false }
def W0 : Win := { valid := true, read := true, write := true, atomic := true, bulk := true, peer := 7, base := 0xC00000000000, size := 2^30, remote := 4096 }
def m0 : State := (se x0 (upP (charted meshed (pres up))))
def m1 (w : Win := W0) (x : Sess := x0) : State := let s := se x m0; { s with cmt := { s.cmt with wins := [(0, w)], server := [(7, 36)] } }
def P16 : List Byte := List.replicate 16 1
def bx (site : Nat) (l : List (Nat × Nat × List Byte)) (s : State) : State := s.setStn site { s.stn site with mailbox := l }
def at_ (a : Nat) : Nat × Nat × List Byte := (3, 2, natLe 8 a ++ natLe 8 (packBits [(0,8,5),(8,8,3),(16,8,1),(32,32,77)]) ++ P16)
def tx1 (seq space : Nat) (sends : Nat := 1) (path := 0) : CTx := { f := { fr 0 P16 with seq := seq, space := space }, sends := sends, path := path }
def lg (seq old : Nat) : State := (m0.logPut (2^30) 0 seq 0 old).setPoison 3 false
def q (sl seq : Nat) (s : State) (stack : Nat := 0) : State := { (((s.set F.CMT_ALOG_Q_STACK stack).set F.CMT_ALOG_Q_SLOT sl).set F.CMT_ALOG_Q_SEQ seq) with cmt := { s.cmt with query := true } }
def A : Nat := 0xC00000000000
def cardS (src dst : Nat) (s : State) : State := s.setEnt 2 { deck := 1, state := 2, opcode := 0x11, card := List.replicate 16 0 ++ natLe 8 src ++ natLe 8 dst ++ natLe 8 64 ++ List.replicate 24 0 }
def gw : Gw := { win := 0, site := 3, block := 4096, bytes := [(5, 1)], bad := [], since := 7, peer := 7 }
def smpPack_0 : Pack := ⟨3, 8192, P16, false, 100⟩
def smpCPort_0 : CPort := { attempt := 0 }
def pc : Piece := ⟨(m1).rdN 4096 64, fun _ => false⟩
def sts_0 : State := m0
def sts_1 : State := bx 3 [at_ A] (m1)
def sts_2 : State := bx 36 [at_ 5] (m1)
def sts_3 : State := bx 36 [at_ A] (m1)
def sts_4 : State := m1 W0 { x0 with pack := some ⟨3, 8192, P16, false, 100⟩ }
def sts_5 : State := m1 W0 { x0 with tx := [tx1 3 0 99] }
def sts_6 : State := m1 W0 { x0 with tx := [tx1 3 0 99], failed := [0] }
def sts_7 : State := m1 W0 { x0 with tx := [tx1 3 0] }
def sts_9 : State := m1 W0 { x0 with up := false }
def sts_10 : State := { m1 with cmt := { (m1).cmt with gws := [gw] } }
def sts_12 : State := m0.set F.CMT_PORT_STATE 1 2
def sts_14 : State := (m0.set F.CMT_PORT_STATE 1 2).setPort 2 { attempt := 7, since := 9 }
def sts_15 : State := m0.setPort 2 { cur := some (fr 0 []) }
def sts_16 : State := m0.setPort 2 { cur := some (fr 0 []), q0 := [fr 2 P16] }
def sts_17 : State := m0.setPort 2 { cur := some (fr 2 P16), q0 := [fr 2 P16] }
def sts_19 : State := q 0 5 m0 7
def sts_21 : State := q 0 5 (lg 5 77)
def sts_22 : State := q 0 4 (lg 5 77)
def sts_24 : State := cardS 4096 5000 (m1)
def sts_26 : State := cardS 4096 A (m1 W0 { x0 with lost := true })
def sts_27 : State := cardS 4096 A m1
def sts_28 : State := cardS A 4096 m1

theorem test_hypotheses_CometServes_0 :
    ((sts_1.alive = true ∧ List.find? (fun (m : Nat × Nat × List Byte) => decide (m.snd.fst = 2)) (sts_1.stn 3).mailbox = some (at_ A) ∧ siteKind 3 ≠ SiteKind.xio) ∧
    sts_1.mild) ∧
    ((sts_2.alive = true ∧ List.find? (fun (m : Nat × Nat × List Byte) => decide (m.snd.fst = 2)) (sts_2.stn 36).mailbox = some (at_ 5) ∧ siteKind 36 = SiteKind.xio ∧
    sts_2.atomicServed 36 (leAt (at_ 5).snd.snd 0 8 % 2 ^ 52) = false) ∧ sts_2.mild) ∧
    ((sts_3.alive = true ∧ List.find? (fun (m : Nat × Nat × List Byte) => decide (m.snd.fst = 2)) (sts_3.stn 36).mailbox = some (at_ A) ∧ siteKind 36 = SiteKind.xio ∧
    sts_3.atomicServed 36 (leAt (at_ A).snd.snd 0 8 % 2 ^ 52) = true ∧ sts_3.winFor (leAt (at_ A).snd.snd 0 8 % 2 ^ 52) = some (0, W0) ∧
    (sts_3.sess W0.peer).lost = false) ∧ sts_3.mild) ∧
    ((sts_4.alive = true ∧ (sts_4.sess 7).pack = some smpPack_0) ∧ sts_4.mild) ∧
    ((sts_0.alive = true ∧ (sts_0.sess 2).pack = none) ∧ sts_0.mild) ∧
    ((sts_0.alive = true ∧ List.find? (fun (e : CTx) => decide (e.f.space = 2) && decide (e.f.seq = 2)) (sts_0.sess 2).tx = none) ∧ sts_0.mild) ∧
    ((sts_5.alive = true ∧ List.find? (fun (e : CTx) => decide (e.f.space = 0) && decide (e.f.seq = 3)) (sts_5.sess 7).tx = some (tx1 3 0 99) ∧
    (tx1 3 0 99).acked = false ∧ sts_5.retries < (tx1 3 0 99).sends ∧ (sts_5.sess 7).failed.contains (tx1 3 0 99).path = false) ∧ sts_5.mild) ∧
    ((sts_7.alive = true ∧ List.find? (fun (e : CTx) => decide (e.f.space = 0) && decide (e.f.seq = 3)) (sts_7.sess 7).tx = some (tx1 3 0) ∧
    (tx1 3 0).sends ≤ sts_7.retries ∧ sts_7.pathUp 7 (tx1 3 0).path = true) ∧ sts_7.mild) ∧
    ((sts_6.alive = true ∧ List.filter (fun (i : Nat) => sts_6.portUp (sts_6.pathAt 7 i).fst) (sts_6.sess 7).failed ≠ []) ∧ sts_6.mild) ∧
    ((sts_0.alive = true ∧ List.filter (fun (i : Nat) => sts_0.portUp (sts_0.pathAt 2 i).fst) (sts_0.sess 2).failed = []) ∧ sts_0.mild) ∧
    ((sts_9.alive = true ∧ (sts_9.peerDef 7).isSome = true ∧ (sts_9.sess 7).up = false ∧ (sts_9.sess 7).lost = false) ∧ sts_9.mild) ∧
    ((sts_0.alive = true ∧ ((sts_0.sess 7).up = true ∨ (sts_0.sess 7).lost = true)) ∧ sts_0.mild) :=
  ⟨⟨by decide +kernel, mild_of (by decide +kernel)⟩,
   ⟨by decide +kernel, mild_of (by decide +kernel)⟩,
   ⟨by decide +kernel, mild_of (by decide +kernel)⟩,
   ⟨by decide +kernel, mild_of (by decide +kernel)⟩,
   ⟨by decide +kernel, mild_of (by decide +kernel)⟩,
   ⟨by decide +kernel, mild_of (by decide +kernel)⟩,
   ⟨by decide +kernel, mild_of (by decide +kernel)⟩,
   ⟨by decide +kernel, mild_of (by decide +kernel)⟩,
   ⟨by decide +kernel, mild_of (by decide +kernel)⟩,
   ⟨by decide +kernel, mild_of (by decide +kernel)⟩,
   ⟨by decide +kernel, mild_of (by decide +kernel)⟩,
   ⟨by decide +kernel, mild_of (by decide +kernel)⟩⟩

theorem test_hypotheses_CometServes_1 :
    ((sts_10.alive = true ∧ List.find? (fun (g : Gw) => decide (g.win = 0) && decide (g.site = 3)) sts_10.cmt.gws = some gw) ∧ sts_10.mild) ∧
    ((sts_0.alive = true ∧ 2 < 32 ∧ sts_0.portUp 2 = true) ∧ sts_0.mild) ∧
    ((sts_0.alive = true ∧ 3 < 32 ∧ sts_0.portUp 3 = false) ∧ sts_0.mild) ∧
    ((sts_0.alive = true ∧ 2 < 32 ∧ sts_0.inService = true ∧ sts_0.get F.CMT_PORT_STATE 2 < 8 ∧ 2 ^ 15 / 2 ^ 15 % 2 = 1 ∧ sts_0.get F.CMT_PORT_STATE 2 ≠ 0) ∧ sts_0.mild) ∧
    ((sts_0.alive = true ∧ 2 < 32 ∧ sts_0.inService = true ∧ sts_0.get F.CMT_PORT_STATE 2 < 8 ∧ (2 / 2 ^ 15 % 2 = 0 ∨ sts_0.get F.CMT_PORT_STATE 2 = 0)) ∧ sts_0.mild) ∧
    ((sts_0.alive = true ∧ 2 < 32 ∧ sts_0.get F.CMT_PORT_STATE 2 ≠ 1) ∧ sts_0.mild) ∧
    ((sts_12.alive = true ∧ 2 < 32 ∧ sts_12.get F.CMT_PORT_STATE 2 = 1 ∧ (sts_12.port 2).attempt < 7) ∧ sts_12.mild) ∧
    ((sts_14.alive = true ∧ 2 < 32 ∧ sts_14.get F.CMT_PORT_STATE 2 = 1 ∧ 7 ≤ (sts_14.port 2).attempt) ∧ sts_14.mild) ∧
    ((sts_0.alive = true ∧ 2 < 32 ∧ (sts_0.port 2).cur = none) ∧ sts_0.mild) ∧
    ((sts_15.alive = true ∧ 2 < 32 ∧ (sts_15.port 2).cur = some (fr 0 []) ∧
    ({ sts_15.port 2 with cur := none } : CPort).next = none ∧ ¬ ((fr 0 []).kind = 0 ∧ ((fr 0 []).op = 2 ∨ (fr 0 []).op = 7))) ∧
    sts_15.mild) ∧
    ((sts_16.alive = true ∧ 2 < 32 ∧ (sts_16.port 2).cur = some (fr 0 []) ∧ sts_16.portUp 2 = true ∧
    ({ sts_16.port 2 with cur := none } : CPort).next = some (fr 2 P16, smpCPort_0) ∧ ¬ ((fr 0 []).kind = 0 ∧ ((fr 0 []).op = 2 ∨ (fr 0 []).op = 7))) ∧
    sts_16.mild) ∧
    ((sts_17.alive = true ∧ 2 < 32 ∧ (sts_17.port 2).cur = some (fr 2 P16) ∧ sts_17.portUp 2 = true ∧ (sts_17.sess (fr 2 P16).dstPart).held = [] ∧
    ({ sts_17.port 2 with cur := none } : CPort).next = some (fr 2 P16, smpCPort_0) ∧ (fr 2 P16).kind = 0 ∧ ((fr 2 P16).op = 2 ∨ (fr 2 P16).op = 7)) ∧
    sts_17.mild) ∧
    ((sts_0.alive = true ∧ sts_0.cmt.query = false) ∧ sts_0.mild) :=
  ⟨⟨by decide +kernel, mild_of (by decide +kernel)⟩,
   ⟨by decide +kernel, mild_of (by decide +kernel)⟩,
   ⟨by decide +kernel, mild_of (by decide +kernel)⟩,
   ⟨by decide +kernel, mild_of (by decide +kernel)⟩,
   ⟨by decide +kernel, mild_of (by decide +kernel)⟩,
   ⟨by decide +kernel, mild_of (by decide +kernel)⟩,
   ⟨by decide +kernel, mild_of (by decide +kernel)⟩,
   ⟨by decide +kernel, mild_of (by decide +kernel)⟩,
   ⟨by decide +kernel, mild_of (by decide +kernel)⟩,
   ⟨by decide +kernel, mild_of (by decide +kernel)⟩,
   ⟨by decide +kernel, mild_of (by decide +kernel)⟩,
   ⟨by decide +kernel, mild_of (by decide +kernel)⟩,
   ⟨by decide +kernel, mild_of (by decide +kernel)⟩⟩

theorem test_hypotheses_CometServes_2 :
    ((sts_19.alive = true ∧ sts_19.cmt.query = true ∧ sts_19.logBase (sts_19.get F.CMT_ALOG_Q_STACK) = none) ∧ sts_19.mild) ∧
    ((sts_21.alive = true ∧ sts_21.cmt.query = true ∧ sts_21.logBase (sts_21.get F.CMT_ALOG_Q_STACK) = some (2 ^ 30) ∧ sts_21.get F.CMT_ALOG_Q_SLOT < sts_21.con.sources ∧
    sts_21.logFind (2 ^ 30) (sts_21.get F.CMT_ALOG_Q_SLOT) (sts_21.get F.CMT_ALOG_Q_SEQ) = some (0, 77)) ∧ sts_21.mild) ∧
    ((sts_22.alive = true ∧ sts_22.cmt.query = true ∧ sts_22.logBase (sts_22.get F.CMT_ALOG_Q_STACK) = some (2 ^ 30) ∧ sts_22.get F.CMT_ALOG_Q_SLOT < sts_22.con.sources ∧
    sts_22.logFind (2 ^ 30) (sts_22.get F.CMT_ALOG_Q_SLOT) (sts_22.get F.CMT_ALOG_Q_SEQ) = none ∧ (sts_22.logHead (2 ^ 30) (sts_22.get F.CMT_ALOG_Q_SLOT)).fst = some 5 ∧
    aheadMod 32 (sts_22.get F.CMT_ALOG_Q_SEQ) 5 = false) ∧ sts_22.mild) ∧
    ((sts_24.alive = true ∧ (sts_24.ent 2).state = 2 ∧ (sts_24.ent 2).opcode = 17 ∧ (sts_24.ent 2).started = false ∧ (sts_24.ent 2).finished = false ∧
    (sts_24.winFor (if regionOf (leAt (sts_24.ent 2).card 24 8) = Region.comet then leAt (sts_24.ent 2).card 24 8 else leAt (sts_24.ent 2).card 16 8) = none ∨ ∃ (i : Nat), ∃ (w : Win), sts_24.winFor (if regionOf (leAt (sts_24.ent 2).card 24 8) = Region.comet then leAt (sts_24.ent 2).card 24 8 else leAt (sts_24.ent 2).card 16 8) = some (i, w) ∧
    w.bulk = false)) ∧ sts_24.mild) ∧
    ((sts_26.alive = true ∧ (sts_26.ent 2).state = 2 ∧ (sts_26.ent 2).opcode = 17 ∧ (sts_26.ent 2).started = false ∧ (sts_26.ent 2).finished = false ∧
    sts_26.winFor (if regionOf (leAt (sts_26.ent 2).card 24 8) = Region.comet then leAt (sts_26.ent 2).card 24 8 else leAt (sts_26.ent 2).card 16 8) = some (0, W0) ∧
    W0.bulk = true ∧ (sts_26.sess W0.peer).lost = true) ∧ sts_26.mild) ∧
    ((sts_28.alive = true ∧ (sts_28.ent 2).state = 2 ∧ (sts_28.ent 2).opcode = 17 ∧ (sts_28.ent 2).started = false ∧ (sts_28.ent 2).finished = false ∧
    sts_28.winFor (if regionOf (leAt (sts_28.ent 2).card 24 8) = Region.comet then leAt (sts_28.ent 2).card 24 8 else leAt (sts_28.ent 2).card 16 8) = some (0, W0) ∧
    W0.bulk = true ∧ (sts_28.sess W0.peer).lost = false ∧ 0 < leAt (sts_28.ent 2).card 32 8 ∧ regionOf (leAt (sts_28.ent 2).card 24 8) ≠ Region.comet) ∧ sts_28.mild) ∧
    ((sts_27.alive = true ∧ (sts_27.ent 2).state = 2 ∧ (sts_27.ent 2).opcode = 17 ∧ (sts_27.ent 2).started = false ∧ (sts_27.ent 2).finished = false ∧
    sts_27.winFor (if regionOf (leAt (sts_27.ent 2).card 24 8) = Region.comet then leAt (sts_27.ent 2).card 24 8 else leAt (sts_27.ent 2).card 16 8) = some (0, W0) ∧
    W0.bulk = true ∧ (sts_27.sess W0.peer).lost = false ∧ 0 < leAt (sts_27.ent 2).card 32 8 ∧ regionOf (leAt (sts_27.ent 2).card 24 8) = Region.comet ∧
    sts_27.hostGone (leAt (sts_27.ent 2).card 16 8) = false ∧ sts_27.foreign 2 (leAt (sts_27.ent 2).card 16 8) = false ∧ pc.bytes.length = leAt (sts_27.ent 2).card 32 8) ∧ sts_27.mild ∧
    sts_27.fetchRange (leAt (sts_27.ent 2).card 16 8) (leAt (sts_27.ent 2).card 32 8) [] true = some pc) :=
  ⟨⟨by decide +kernel, mild_of (by decide +kernel)⟩,
   ⟨by decide +kernel, mild_of (by decide +kernel)⟩,
   ⟨by decide +kernel, mild_of (by decide +kernel)⟩,
   ⟨⟨by decide +kernel, by decide +kernel, by decide +kernel, by decide +kernel, by decide +kernel, Or.inl (by decide +kernel)⟩, mild_of (by decide +kernel)⟩,
   ⟨by decide +kernel, mild_of (by decide +kernel)⟩,
   ⟨by decide +kernel, mild_of (by decide +kernel)⟩,
   ⟨by decide +kernel, mild_of (by decide +kernel), by rfl⟩⟩

end CometServes

end Sys2Proof.Tests
end

