-- ==== Sys2Proof/Tests/Hypotheses5.lean ====
section
/-! SUPPORT. For each statement, states and operands that meet its hypotheses together, clause by clause. -/

-- One theorem after the other: kernel evaluations that wait for each other would hold a thread and its stack each.
set_option Elab.async false

namespace Sys2Proof.Tests

open Sys2Proof.Machine

namespace AlmanacCommandsEnd

/-- The Almanac at work on a command, answering or not, its writes open. -/
def asked (n : Nat) (s : State) : State := { s with mgt := { s.mgt with cmd := some (n, false) } }
def ok : State := (((up.set F.THM_STAT_ALM_OK 1).set F.GRD_WP_FW_UPDATE 1).set F.GRD_WP_LOG_CLEAR 1).set F.GRD_WP_DUMP_CLEAR 1
def shut : State := up.set F.THM_STAT_ALM_OK 1
def long (n : Nat) : State := (asked n ok).set F.ALM_LEN 70000
def placed : State := (asked 2 ok).set F.ALM_ADDR (imageBase (asked 2 ok).idle)
def verified : State := ((asked 4 ok).set F.ALM_STAT_A_VALID 1).set F.ALM_STAT_B_VALID 1

theorem test_hypotheses_AlmanacCommandsEnd :
    ((asked 1 up).on = true ∧ (asked 1 up).mgt.cmd = some (1, false) ∧ (asked 1 up).almUp = false) ∧
    (∀ n ∈ [1, 2, 3, 4, 5, 6, 7, 8, 9], (asked n ok).on = true ∧ (asked n ok).mgt.cmd = some (n, false) ∧ (asked n ok).almUp = true) ∧
    ((asked 1 ok).get F.ALM_LEN ≤ 4096 ∧ (asked 1 ok).get F.ALM_ADDR + (asked 1 ok).get F.ALM_LEN ≤ 2 ^ 28) ∧
    ((long 1).almUp = true ∧ ¬ (long 1).get F.ALM_LEN ≤ 4096) ∧
    ((asked 2 shut).almUp = true ∧ (asked 2 shut).isSet F.GRD_WP_FW_UPDATE = false) ∧
    ((long 2).almUp = true ∧ (long 2).isSet F.GRD_WP_FW_UPDATE = true ∧ ¬ (long 2).get F.ALM_LEN ≤ 65536) ∧
    (placed.almUp = true ∧ placed.isSet F.GRD_WP_FW_UPDATE = true ∧ placed.get F.ALM_LEN ≤ 65536 ∧ imageBase placed.idle ≤ placed.get F.ALM_ADDR ∧
      placed.get F.ALM_ADDR + placed.get F.ALM_LEN ≤ imageBase placed.idle + 0x3000000) ∧
    ((asked 4 ok).imageOk (asked 4 ok).idle = false) ∧ (verified.almUp = true ∧ verified.imageOk verified.idle = true) ∧
    ((asked 7 shut).isSet F.GRD_WP_LOG_CLEAR = false ∧ (asked 8 shut).isSet F.GRD_WP_DUMP_CLEAR = false ∧ (asked 9 shut).isSet F.GRD_WP_FW_UPDATE = false) ∧
    ((asked 7 ok).isSet F.GRD_WP_LOG_CLEAR = true ∧ (asked 8 ok).isSet F.GRD_WP_DUMP_CLEAR = true ∧ (asked 9 ok).isSet F.GRD_WP_FW_UPDATE = true) := by
  decide +kernel

end AlmanacCommandsEnd

namespace SitesAndTilesReset

def two (e1 e2 : Nat) : State := (pres up).set F.FLT_DOM0_STATE e2 e1
def opnd (a : Nat) : Opnd := { dpa := a, fmt := 0, rows := 1, cols := 4, stride := 1 }
def act : OpDesc := { opcode := 2, tiles := 8, out := opnd (cacheAt 3 4096), in0 := opnd (cacheAt 3 8192) }
def ent0 : SchedEnt := { tile := 3, barrier := 2, waitBar := false, op := 0, start := 10, dur := 20 }
def slotted : Chart := { plain with ops := [(255, [act])], sched := [(255, [ent0])] }
def card : List Byte := 1 :: List.replicate 19 0 ++ [1] ++ List.replicate 43 0
def hung : State := (charted slotted (((pres up).set F.TRN_STAT_PHASE 2))).setEnt 5 { deck := 1, state := 2, pipe := some 0, card := card, started := true, slot := 1 }
/-- With its rings lit, a Firmament site in reset below a tile fenced off. -/
def relit : State := ((two 27 1).set F.TWK_STAT_LIGHT 2).set F.FLT_DOM0_STATE 2 3
def guilty : State := (hung.set F.FLT_HANG_HUNT 8).setEnt 5 { hung.ent 5 with suspect := true }

theorem test_hypotheses_SitesAndTilesReset :
    ((pres up).alive = true ∧ (pres up).patience = false ∧ (pres up).get F.FLT_DOM0_STATE (84 + 3) = 0 ∧ (pres up).get F.FLT_DOM0_WINDOW (84 + 3) < 2 ∧
      (pres up).get F.FLT_DOM0_STATE (24 + 3) = 0 ∧ (pres up).get F.FLT_DOM0_STATE (84 + 3) ≠ 3 ∧ (pres up).get F.FLT_DOM0_WINDOW (24 + 3) < 2 ∧
      dieDom 3 = some 3 ∧ (pres up).get F.FLT_DOM0_STATE 3 = 0) ∧ (pres up).mild ∧
    (hung.alive = true ∧ hung.patience = false ∧ hung.get F.TRN_STAT_PHASE = 2 ∧ hung.trn.runOver.contains 3 = false ∧ hung.get F.FLT_DOM0_STATE 3 = 0 ∧ hung.present 3 = true ∧
      hung.unended 3 = true ∧ hung.get F.FLT_DOM0_WINDOW 3 < 2 ∧ hung.cardsOn 3 = [5] ∧ bit (hung.get F.FLT_HANG_HUNT) 3 = false) ∧ hung.mild ∧
    (guilty.alive = true ∧ guilty.patience = false ∧ guilty.get F.TRN_STAT_PHASE = 2 ∧ guilty.trn.runOver.contains 3 = false ∧ guilty.get F.FLT_DOM0_STATE 3 = 0 ∧
      guilty.present 3 = true ∧ guilty.unended 3 = true ∧ guilty.cardsOn 3 = [5] ∧ bit (guilty.get F.FLT_HANG_HUNT) 3 = true ∧ (guilty.ent 5).suspect = true) ∧ guilty.mild ∧
    (up.alive = true ∧ up.get F.TRN_STAT_PHASE ≠ 2) ∧
    ((two 27 1).alive = true ∧ (two 27 1).get F.FLT_DOM0_STATE (24 + 3) = 1 ∧ (two 27 1).ringsLit = false) ∧ (two 27 1).mild ∧
    (relit.alive = true ∧ relit.get F.FLT_DOM0_STATE (24 + 3) = 1 ∧ relit.ringsLit = true ∧ relit.light.rest = false ∧ relit.drainShows = 0 ∧ relit.cmp.passes = [] ∧
      relit.hasRing 3 768 = true ∧ relit.ringDark 3 768 = false ∧ relit.get F.TWK_RING_STATE 3 768 ≠ 6 ∧ relit.ringUsed 3 768 = true ∧
      relit.hasRing 3 0 = true ∧ relit.ringDark 3 0 = false ∧ relit.get F.TWK_RING_STATE 3 0 ≠ 6 ∧ relit.get F.FLT_DOM0_STATE 3 = 2) ∧ relit.mild :=
  ⟨by decide +kernel, mild_of (by decide +kernel), by decide +kernel, mild_of (by decide +kernel), by decide +kernel, mild_of (by decide +kernel), by decide +kernel,
   by decide +kernel, mild_of (by decide +kernel), by decide +kernel, mild_of (by decide +kernel)⟩

end SitesAndTilesReset

namespace SkyArbitrates

def ch (w r : Nat) (i : Nat := 0) (busy := false) : Chan := { orbit := 0, wg := i, lambda := i, writer := w, reader := r, allpairs := true, wring := i, rring := i, state := 1, busy := busy }
def base : State := { pres up with now := 10000, sky := { up.sky with chans := [ch 3 2 0 true, ch 2 3, ch 3 5 1, ch 5 3 1, ch 5 2 2] } }
def pk (defl : Nat) : Pkt := ({ dest := 2, src := 3, cls := 2, op := 0, len := 1, seq := 4, addr := cacheAt 2 0, payload := List.replicate 16 7, defl := defl } : Pkt).seal
def qd (defl : Nat) (search limit missed : Bool) : Queued := { pkt := pk defl, since := 9000, head := some 9500, search := search, limit := limit, missed := missed }
def wait (e : Queued) (s : State := base) : State := s.setStn 3 { s.stn 3 with q2 := [e] }
/-- No relay has room. -/
def shut (s : State) : State := (List.range 36).foldl (fun t r => t.setStn r { t.stn r with pub0 := false, pub1 := false }) s
def barred (l : Nat) (s : State := pres up) : State := charted { plain with barriers := [(255, [{ valid := true, sites := l }])] } s

theorem test_hypotheses_SkyArbitrates_0 :
    (3 < 44 ∧ base.alive = true ∧ (base.txChans 3)[0]? = some (0, ch 3 2 0 true) ∧ (∀ q, q < 6 → (base.stn 3).queue q = [])) ∧ base.mild ∧
    ((wait (qd 2 false false false)).alive = true ∧ ((wait (qd 2 false false false)).stn 3).headOf 0 2 = some (qd 2 false false false) ∧
      (wait (qd 2 false false false)).hasDirect 3 2 = true ∧ (qd 2 false false false).missed = false ∧ (qd 2 false false false).search = false) ∧ (wait (qd 2 false false false)).mild ∧
    ((wait (qd 2 false true true)).alive = true ∧ ((wait (qd 2 false true true)).stn 3).headOf 0 2 = some (qd 2 false true true) ∧ (wait (qd 2 false true true)).hasDirect 3 2 = true) ∧
      (wait (qd 2 false true true)).mild ∧
    ((wait (qd 1 true false false)).alive = true ∧ ((wait (qd 1 true false false)).stn 3).headOf 0 2 = some (qd 1 true false false) ∧
      (wait (qd 1 true false false)).freeTo 3 2 = [] ∧ (wait (qd 1 true false false)).relayFor 3 (pk 1) = some (5, 1, 2)) ∧ (wait (qd 1 true false false)).mild ∧
    ((shut (wait (qd 1 true false false))).alive = true ∧ ((shut (wait (qd 1 true false false))).stn 3).headOf 0 2 = some (qd 1 true false false) ∧
      (shut (wait (qd 1 true false false))).freeTo 3 2 = [] ∧ (shut (wait (qd 1 true false false))).relayFor 3 (pk 1) = none) ∧ (shut (wait (qd 1 true false false))).mild := by
  and_intros <;> (first | exact mild_of (by decide +kernel) | decide +kernel)

theorem test_hypotheses_SkyArbitrates_1 :
    ((barred 24).alive = true ∧ ((section_ [] (barred 24).cht.chart.barriers (barred 24).variant).getD 0 {}).valid = true ∧
      bit ((section_ [] (barred 24).cht.chart.barriers (barred 24).variant).getD 0 {}).sites 3 = true ∧
      ((barred 24).get F.SKY_BAR_STAT_ARRIVED 0 ||| 2 ^ 3) &&& bitMask ((bitList 42 24).filter (barred 24).present) ≠ bitMask ((bitList 42 24).filter (barred 24).present)) ∧ (barred 24).mild ∧
    ((barred 8).alive = true ∧ ((section_ [] (barred 8).cht.chart.barriers (barred 8).variant).getD 0 {}).valid = true ∧
      bit ((section_ [] (barred 8).cht.chart.barriers (barred 8).variant).getD 0 {}).sites 3 = true ∧
      ((barred 8).get F.SKY_BAR_STAT_ARRIVED 0 ||| 2 ^ 3) &&& bitMask ((bitList 42 8).filter (barred 8).present) = bitMask ((bitList 42 8).filter (barred 8).present) ∧
      (barred 8).extends_ 0 = none) ∧ (barred 8).mild :=
  ⟨by decide +kernel, mild_of (by decide +kernel), by decide +kernel, mild_of (by decide +kernel)⟩

end SkyArbitrates

namespace ResetsComplete

def al (s : State) : State := { s with boot := { s.boot with almOk := true }, pins := { s.pins with perst := false } }
def held : State := { up with pins := { up.pins with perst := true } }
def dumping (st : Nat) (ds : List Dump) : State := { up.set F.FLT_STAT_STATE st with flt := { up.flt with dumps := ds } }
def d1 : Dump := { src := 70, kind := 3, transit := 9 }
def at_ (k : Nat) : State := { (al up).set F.FLT_BOOT_STEP k with boot := { (al up).boot with done := List.range k, cold := false } }
def cold (s : State) : State := { s with boot := { s.boot with cold := true } }
def lit (s : State) : State := s.set F.TWK_STAT_LIGHT 2
def rs (d : Nat) : State := up.set F.FLT_DOM0_STATE 1 d
def win : State := { (up.set F.FLT_DOM0_WINDOW 2 3) with flt := { up.flt with window := [(2,4),(3,6),(3,9)] } }

theorem test_hypotheses_ResetsComplete :
    ((al up).alive = true ∧ (al up).pins.perst = false) ∧ (held.alive = true ∧ held.pins.perst = true) ∧
    (up.barUp = true ∧ up.fatal = false ∧ up.logFull = false ∧ 0xA5 % 256 = 0xA5) ∧
    ((up.set F.FLT_STAT_STATE 3).barUp = true ∧ (up.set F.FLT_STAT_STATE 3).logFull = false ∧ (up.set F.FLT_STAT_STATE 3).patience = true ∧ bit 131072 16 = false ∧
      bit 131072 17 = true ∧ bit 131072 18 = false) ∧
    ((al (up.set F.FLT_STAT_STATE 3)).patience = true ∧ (al (up.set F.FLT_STAT_STATE 3)).pins.perst = false ∧ (al (up.set F.FLT_STAT_STATE 3)).boot.almOk = true) ∧
    ((dumping 0 []).alive = true ∧ (dumping 0 []).get F.FLT_STAT_STATE = 0) ∧
    ((dumping 1 [d1]).alive = true ∧ (dumping 1 [d1]).get F.FLT_STAT_STATE = 1 ∧ (dumping 1 [d1]).flt.dumps = [d1] ∧ [d1] ≠ []) ∧
    ((dumping 1 []).alive = true ∧ (dumping 1 []).get F.FLT_STAT_STATE = 1 ∧ (dumping 1 []).flt.dumps = []) ∧
    ((dumping 1 [d1]).on = true ∧ (dumping 1 [d1]).get F.MGT_STAT_CROUPIER = 0 ∧ d1.kind ≠ 2 ∧ (dumping 1 [d1]).get F.FLT_DUMP_VALID = 0 ∧ (dumping 1 [d1]).retired 24 = false) ∧
    ((at_ 3).alive = true ∧ (at_ 3).stepRuns 3 = true ∧ (at_ 3).boot.cold = false) ∧ ((cold (at_ 3)).alive = true ∧ (cold (at_ 3)).stepRuns 3 = true ∧ (cold (at_ 3)).boot.cold = true) ∧
    ((lit (at_ 4)).alive = true ∧ (lit (at_ 4)).stepRuns 4 = true ∧ (lit (at_ 4)).get F.TWK_STAT_LIGHT = 2 ∧ (lit (at_ 4)).cmp.passes = []) ∧
    ((at_ 5).alive = true ∧ (at_ 5).stepRuns 5 = true ∧ (∀ p ∈ (at_ 5).omus.pilots, p.2.2 = false)) ∧
    ((at_ 7).alive = true ∧ (at_ 7).stepRuns 7 = true) ∧
    ((at_ 2).alive = true ∧ (at_ 2).get F.FLT_STAT_STATE = 0 ∧ 1 ≤ (at_ 2).get F.FLT_BOOT_STEP ∧ (at_ 2).get F.FLT_BOOT_STEP < 9 ∧ (at_ 2).boot.suspend = false ∧
      (at_ 2).get F.FLT_BOOT_STEP ≠ 1 ∧ (at_ 2).get F.FLT_BOOT_FAILS < 3 ∧ (at_ 2).boot.counted.length < 3 ∧ (at_ 2).pins.perst = false ∧ (at_ 2).boot.almOk = true) ∧
    ((up.alive = true ∧ up.patience = false ∧ up.get F.TAL_STAT_DEALER_HUB ≠ 1 ∧
      ∀ d ∈ [3, 68 + 3, 80 + 3, 84 + 3, 24 + 3, 128 + 1, 130], up.get F.FLT_DOM0_STATE d = 0 ∧ up.get F.FLT_DOM0_WINDOW d < 2) ∧ up.mild) ∧
    (∀ d ∈ [128, 129, 130], (rs d).alive = true ∧ (rs d).get F.FLT_DOM0_STATE d = 1) ∧
    (win.alive = true ∧ win.flt.window.find? (fun p => decide (p.1 = 3)) = some (3, 6)) := by
  and_intros <;> (first | exact mild_of (by decide +kernel) | decide +kernel)

end ResetsComplete

namespace ListedCommandsComplete

def w (fast : Bool) : Swap := { feed := 1, fast := fast, step := 4, old := 1, spare := 6, since := 77 }
def sw (fast : Bool) : State := { pres up with light := { up.light with swaps := [w fast] } }

theorem test_hypotheses_ListedCommandsComplete :
    (up.barUp = true ∧ up.logFull = false ∧ up.get F.ALM_STAT_STATE = 0) ∧ (up.clocked ∧ up.logFull = false ∧ bit 2 1 = true ∧ bit 2 2 = false) ∧
    (∀ fast ∈ [false, true], (sw fast).alive = true ∧ (sw fast).swapOf 1 = some (w fast) ∧ (w fast).feed = 1 ∧ (w fast).old < 8 ∧ (w fast).spare < 8 ∧ (w fast).old ≠ (w fast).spare ∧
      (sw fast).light.net.length = 8 ∧ (w fast).step = 4 ∧ (w fast).donor = none ∧ (w fast).fast = fast) ∧ (sw true).mild ∧ (sw false).mild :=
  ⟨by decide +kernel, ⟨by unfold State.clocked; decide +kernel, by decide +kernel⟩, by decide +kernel, mild_of (by decide +kernel), mild_of (by decide +kernel)⟩

end ListedCommandsComplete

end Sys2Proof.Tests
end

section
/-! The laser interlock loop (R106): what a command leaves of the registers and of memory, a source raised at severity FATAL, and a light
start stopped at its first step. -/

namespace Sys2Proof.Laws

open Sys2Proof Sys2Proof.Machine

/-! ## Frames over register fields -/

/-- The homes of the first `n` registers of a field's family. -/
def keysOf (f : Fld) (n : Nat) : List Nat := (List.range n).map fun i => f.key i 0

/-- From `s` to `t` memory stands, and every register field whose home is not in `ks` reads as before. -/
structure RegFrame (ks : List Nat) (s t : State) : Prop where
  keeps : Keeps ks s t
  mem : t.mem = s.mem

namespace RegFrame

variable {ks ks' : List Nat} {s t u : State}

theorem refl (ks : List Nat) (s : State) : RegFrame ks s s := ⟨fun _ _ _ _ => rfl, rfl⟩

theorem mono (h : RegFrame ks s t) (hk : ks ⊆ ks') : RegFrame ks' s t := ⟨fun f i j hf => h.keeps f i j fun hm => hf (hk hm), h.mem⟩

theorem trans (h : RegFrame ks s t) (h' : RegFrame ks' t u) : RegFrame (ks ++ ks') s u where
  keeps f i j hf := by
    rw [List.mem_append, not_or] at hf
    exact (h'.keeps f i j hf.2).trans (h.keeps f i j hf.1)
  mem := h'.mem.trans h.mem

/-- A later state with the same registers and the same memory. -/
theorem same (h : RegFrame ks s t) (hr : u.regs = t.regs) (hm : u.mem = t.mem) : RegFrame ks s u where
  keeps f i j hf := (congrArg (fun r => tabGet f.rst r (f.key i j)) hr).trans (h.keeps f i j hf)
  mem := hm.trans h.mem

/-- An earlier state with the same registers and the same memory. -/
theorem ofSame (h : RegFrame ks t u) (hr : t.regs = s.regs) (hm : t.mem = s.mem) : RegFrame ks s u where
  keeps f i j hf := (h.keeps f i j hf).trans (congrArg (fun r => tabGet f.rst r (f.key i j)) hr)
  mem := h.mem.trans hm

/-- One more field written among those of the frame. -/
theorem set (h : RegFrame ks s t) {f : Fld} {i j : Nat} (hk : f.key i j ∈ ks) (v : Nat) : RegFrame ks s (t.set f v i j) where
  keeps g k l hg := (get_set_ne t f g v i j k l fun he => hg (he.symm ▸ hk)).trans (h.keeps g k l hg)
  mem := h.mem

/-- One more counter advanced among the fields of the frame. -/
theorem add (h : RegFrame ks s t) {f : Fld} {i j : Nat} (hk : f.key i j ∈ ks) (n : Nat) : RegFrame ks s (t.add f n i j) where
  keeps g k l hg := (add_get_ne t f g n i j k l fun he => hg (he.symm ▸ hk)).trans (h.keeps g k l hg)
  mem := (add_mem ..).trans h.mem

theorem setLight (h : RegFrame ks s t) (x : Light) : RegFrame ks s (t.setLight x) := h.same rfl rfl

/-- A frame whose homes all lie in blocks of BAR0. -/
theorem keepsBut (h : RegFrame ks s t) {bs : List (Nat × Nat)} (hk : ∀ k ∈ ks, ∃ b ∈ bs, b.1 * 64 ≤ k ∧ k < b.2 * 64) : KeepsBut bs [] s t := by
  intro f i j _ hout
  refine h.keeps f i j fun hm => ?_
  obtain ⟨b, hb, hlo, hhi⟩ := hk _ hm
  have := hout b hb
  omega

end RegFrame

theorem set_frame (s : State) (f : Fld) (v i j : Nat) : RegFrame [f.key i j] s (s.set f v i j) := (RegFrame.refl _ s).set (by simp) v

theorem foldl_frame {α : Type} {g : State → α → State} {k : α → List Nat} (hg : ∀ t x, RegFrame (k x) t (g t x)) (l : List α) :
    ∀ s, RegFrame (l.flatMap k) s (l.foldl g s) := by
  induction l with
  | nil => exact fun s => .refl _ s
  | cons x l ih => exact fun s => (hg s x).trans (ih _)

/-- A field of each register of a family written. -/
theorem foldl_set_frame (f : Fld) (v : State → Nat → Nat) (n : Nat) (s : State) :
    RegFrame (keysOf f n) s ((List.range n).foldl (fun t i => t.set f (v t i) i) s) := by
  rw [keysOf, List.map_eq_flatMap]
  exact foldl_frame (fun t i => set_frame t f (v t i) i 0) _ s

/-- A field of each register of a family written reads what was written. -/
theorem foldl_set_get (f : Fld) (v i : Nat) (s : State) : ∀ n, i < n → ((List.range n).foldl (fun t k => t.set f v k) s).get f i = v % 2 ^ f.w := by
  intro n
  induction n with
  | zero => exact fun h => absurd h (Nat.not_lt_zero _)
  | succ n ih =>
    intro hi
    rw [List.range_succ, List.foldl_append, List.foldl_cons, List.foldl_nil]
    by_cases hk : f.key i 0 = f.key n 0
    · rw [State.get, hk]
      exact get_set_same _ f v n 0
    · rw [get_set_ne _ _ _ _ _ _ _ _ hk]
      have hne : i ≠ n := fun he => hk (by rw [he])
      exact ih (by omega)

/-- Writing fields changes the register table alone. -/
theorem foldl_set_eq (f : Fld) (v : Nat) (l : List Nat) :
    ∀ s : State, l.foldl (fun t k => t.set f v k) s = { s with regs := (l.foldl (fun t k => t.set f v k) s).regs } := by
  induction l with
  | nil => exact fun _ => rfl
  | cons k l ih => exact fun s => ih (s.set f v k)

/-! ## Every line released -/

theorem releaseEls_frame (s : State) : RegFrame (keysOf F.TWK_ELS_EN 8) s s.releaseEls :=
  (foldl_set_frame F.TWK_ELS_EN (fun _ _ => 0) 8 { s with light := { s.light with asks := [] } }).ofSame rfl rfl

/-- R105, R106: no line stays asserted. -/
theorem releaseEls_line (s : State) {n : Nat} (hn : n < 8) : s.releaseEls.get F.TWK_ELS_EN n = 0 := foldl_set_get F.TWK_ELS_EN 0 n _ 8 hn

theorem releaseEls_eq (s : State) : s.releaseEls = { s with regs := s.releaseEls.regs, light := { s.light with asks := [] } } :=
  foldl_set_eq F.TWK_ELS_EN 0 _ _

/-! ## A source raised (R464) -/

/-- A counter advanced reads what the statements count. -/
theorem add_get_same (s : State) (f : Fld) (n i j : Nat) : (s.add f n i j).get f i j = s.counted f n i j := by
  have hlt : ∀ m k : Nat, satTo (2 ^ m - 1) k < 2 ^ m := fun m k => by
    have := Nat.two_pow_pos m
    unfold satTo
    split <;> omega
  cases hz : s.frozen f i with
  | true => simp [State.get, State.counted, hz, add_frozen]
  | false => cases hl : lifeOff f i <;> cases hc : f.cls <;> simp [State.add, State.counted, hz, hl, hc, Nat.mod_eq_of_lt (hlt _ _)]

theorem record_frame (s : State) (type site content : Nat) : RegFrame [F.EVF_DROP.key 0 0] s (s.record type site content) := by
  unfold State.record
  dsimp only
  split
  · split
    · unfold State.evfVector
      split <;> exact (RegFrame.refl _ s).same rfl rfl
    · exact (RegFrame.refl _ s).same rfl rfl
  · exact (RegFrame.add (.refl _ _) (List.mem_singleton_self _) 1).ofSame rfl rfl

theorem faultRecord_frame (s : State) (src sev : Nat) : RegFrame [F.EVF_DROP.key 0 0] s (s.faultRecord src sev) := by
  unfold State.faultRecord
  dsimp only
  split
  · exact record_frame ..
  · exact (record_frame (s.draw 6).2 1 _ _).ofSame rfl rfl

theorem note_frame (s : State) (src sev : Nat) : RegFrame [F.EVF_DROP.key 0 0] s (s.note src sev) := by
  unfold State.note
  dsimp only
  split
  · exact (RegFrame.refl _ s).same rfl rfl
  · split
    · exact .refl _ s
    · exact (faultRecord_frame _ src sev).ofSame rfl rfl

theorem alert_frame (s : State) : RegFrame [F.FLT_STAT_ALERT.key 0 0, F.FLT_STAT_DEGRADED.key 0 0] s s.alert :=
  (set_frame s F.FLT_STAT_ALERT _ 0 0).trans (set_frame _ F.FLT_STAT_DEGRADED _ 0 0)

/-- The homes a raise writes beside its source's own register. -/
def tellKeys : List Nat := [F.EVF_DROP.key 0 0, F.FLT_STAT_ALERT.key 0 0, F.FLT_STAT_DEGRADED.key 0 0]

theorem note_alert_frame (s : State) (src sev : Nat) : RegFrame tellKeys s (s.note src sev).alert := (note_frame s src sev).trans (alert_frame _)

/-- Once STICKY and COUNT are written, a raise's bookkeeping leaves the source's register alone. -/
theorem raiseBasic_frame_counted (s : State) (src : Nat) :
    RegFrame (F.FLT_STAT_LAST_SRC.key 0 0 :: tellKeys) ((s.set F.FLT_SRC_STICKY 1 src).add F.FLT_SRC_COUNT 1 src) (s.raiseBasic src) := by
  unfold State.raiseBasic
  dsimp only
  split
  · exact ((set_frame _ F.FLT_STAT_LAST_SRC src 0 0).trans (note_alert_frame _ src _)).ofSame rfl rfl
  · exact ((alert_frame _).mono (by decide)).ofSame rfl rfl

theorem raiseBasic_frame (s : State) (src : Nat) :
    RegFrame (F.FLT_SRC_STICKY.key src 0 :: F.FLT_SRC_COUNT.key src 0 :: F.FLT_STAT_LAST_SRC.key 0 0 :: tellKeys) s (s.raiseBasic src) :=
  ((set_frame s F.FLT_SRC_STICKY 1 src 0).trans ((RegFrame.refl _ _).add (List.mem_singleton_self _) 1)).trans (raiseBasic_frame_counted s src)

theorem raiseBasic_lastSrc (s : State) {src : Nat} (hsrc : src < 512) (hsev : 1 ≤ s.get F.FLT_SRC_SEV src) :
    (s.raiseBasic src).get F.FLT_STAT_LAST_SRC = src := by
  unfold State.raiseBasic
  dsimp only
  rw [if_pos hsev, (note_alert_frame _ _ _).keeps _ _ _ (by decide), get_set_same]
  exact Nat.mod_eq_of_lt hsrc

/-- A raise in the fields that show it: COUNT is not a counter that freezes, and it saturates. -/
theorem raised_iff {src : Nat} {s t : State} :
    Raised src s t ↔ t.get F.FLT_SRC_STICKY src = 1 ∧ t.get F.FLT_SRC_COUNT src = satTo (2 ^ 32 - 1) (s.get F.FLT_SRC_COUNT src + 1) ∧
      (1 ≤ s.get F.FLT_SRC_SEV src → t.get F.FLT_STAT_LAST_SRC = src) := Iff.rfl

/-- R464: the bookkeeping of a raise. -/
theorem raiseBasic_raised (s : State) {src : Nat} (hsrc : src < 512) : Raised src s (s.raiseBasic src) := by
  have hframe := (raiseBasic_frame_counted s src).keeps
  have hout (f : Fld) (hf : f ∈ [F.FLT_SRC_STICKY, F.FLT_SRC_COUNT]) : f.key src 0 ∉ F.FLT_STAT_LAST_SRC.key 0 0 :: tellKeys := by
    simp only [List.mem_cons, List.not_mem_nil, or_false] at hf
    rcases hf with rfl | rfl <;>
      simp [tellKeys, Fld.key, F.FLT_SRC_STICKY, F.FLT_SRC_COUNT, F.FLT_STAT_LAST_SRC, F.EVF_DROP, F.FLT_STAT_ALERT, F.FLT_STAT_DEGRADED] <;> omega
  have hne : F.FLT_SRC_STICKY.key src 0 ≠ F.FLT_SRC_COUNT.key src 0 := by simp [Fld.key, F.FLT_SRC_STICKY, F.FLT_SRC_COUNT]
  refine ⟨?_, ?_, raiseBasic_lastSrc s hsrc⟩
  · rw [hframe _ _ _ (hout _ (by simp)), add_get_ne _ _ _ _ _ _ _ _ hne, get_set_same]
    rfl
  · rw [CountsBy, hframe _ _ _ (hout _ (by simp)), add_get_same]
    simp only [State.counted]
    rw [get_set_ne _ _ _ _ _ _ _ _ hne.symm]
    rfl

/-! ## FATAL entered (R446, R466) -/

/-- The homes that entering FATAL writes. -/
def fatalKeys : List Nat := F.FLT_STAT_STATE.key 0 0 :: F.FLT_STAT_FAULT.key 0 0 :: keysOf F.TWK_ELS_EN 8

/-- Of the registers, entering FATAL writes the state and the summary bit, then releases the lines. -/
theorem enterFatal_regs (s : State) (src : Nat) : (s.enterFatal src).regs = ((s.set F.FLT_STAT_STATE 2).set F.FLT_STAT_FAULT 1).releaseEls.regs := by
  unfold State.enterFatal
  dsimp only
  generalize State.releaseEls _ = t
  rfl

theorem enterFatal_get (s : State) (src : Nat) (f : Fld) (i j : Nat) :
    (s.enterFatal src).get f i j = ((s.set F.FLT_STAT_STATE 2).set F.FLT_STAT_FAULT 1).releaseEls.get f i j := by
  rw [State.get, enterFatal_regs, State.get]

theorem enterFatal_frame (s : State) (src : Nat) : RegFrame fatalKeys s (s.enterFatal src) where
  keeps f i j hf := by
    rw [enterFatal_get]
    exact (((set_frame s F.FLT_STAT_STATE 2 0 0).trans (set_frame _ F.FLT_STAT_FAULT 1 0 0)).trans (releaseEls_frame _)).keeps f i j hf
  mem := enterFatal_mem s src

theorem enterFatal_line (s : State) (src : Nat) {n : Nat} (hn : n < 8) : (s.enterFatal src).get F.TWK_ELS_EN n = 0 := by
  rw [enterFatal_get]
  exact releaseEls_line _ hn

theorem enterFatal_fatal (s : State) (src : Nat) : (s.enterFatal src).fatal = true := by
  have h : (s.enterFatal src).get F.FLT_STAT_STATE = 2 := by
    rw [enterFatal_get, (releaseEls_frame _).keeps _ _ _ (by decide), get_set_ne _ _ _ _ _ _ _ _ (by decide), get_set_same]
    rfl
  simp [State.fatal, h]

/-- R464: a source set to FATAL puts the part in FATAL. -/
theorem raise_of_sev_fatal {s : State} {src : Nat} (hsrc : src < 248) (hsev : s.get F.FLT_SRC_SEV src = 4) :
    s.raise src = (s.raiseBasic src).enterFatal src := by
  unfold State.raise
  rw [if_neg (by omega)]
  simp [hsev]

/-! ## The loop opens (R106) -/

/-- The part with its loop open and every line released. -/
def loopOpened (s : State) : State := (s.set F.TWK_STAT_INTLK 0).releaseEls

theorem exec_elsIntlkOpen {s : State} (hon : s.on = true) :
    exec .elsIntlkOpen s =
      .next (if ((List.range 8).any fun n => s.fresh.isSet F.TWK_ELS_EN n) = true then (loopOpened s.fresh).raise 224 else loopOpened s.fresh) := by
  change execElsIntlkOpen s = _
  rw [execElsIntlkOpen, liveHub_next hon]
  simp only [loopOpened]

theorem exec_elsIntlkOpen_of_lit {s : State} (hon : s.on = true) (hlit : ∃ n, n < 8 ∧ s.get F.TWK_ELS_EN n = 1) :
    exec .elsIntlkOpen s = .next ((loopOpened s.fresh).raise 224) := by
  rw [exec_elsIntlkOpen hon, if_pos]
  simpa [isSet_iff] using hlit

theorem exec_elsIntlkOpen_of_dark {s : State} (hon : s.on = true) (hdark : ∀ n, n < 8 → s.get F.TWK_ELS_EN n ≠ 1) :
    exec .elsIntlkOpen s = .next (loopOpened s.fresh) := by
  rw [exec_elsIntlkOpen hon, if_neg]
  simpa [isSet_iff] using hdark

theorem loopOpened_frame (s : State) : RegFrame (F.TWK_STAT_INTLK.key 0 0 :: keysOf F.TWK_ELS_EN 8) s (loopOpened s) :=
  (set_frame s F.TWK_STAT_INTLK 0 0 0).trans (releaseEls_frame _)

theorem loopOpened_intlk (s : State) : (loopOpened s).get F.TWK_STAT_INTLK = 0 :=
  ((releaseEls_frame _).keeps F.TWK_STAT_INTLK 0 0 (by decide)).trans (get_set_same ..)

/-- What a raise of the laser interlock fault at severity FATAL writes. -/
theorem raise_interlock_frame {s : State} (hsev : s.get F.FLT_SRC_SEV 224 = 4) :
    RegFrame ((F.FLT_SRC_STICKY.key 224 0 :: F.FLT_SRC_COUNT.key 224 0 :: F.FLT_STAT_LAST_SRC.key 0 0 :: tellKeys) ++ fatalKeys) s (s.raise 224) := by
  rw [raise_of_sev_fatal (by decide) hsev]
  exact (raiseBasic_frame s 224).trans (enterFatal_frame _ 224)

/-- The laser interlock fault at severity FATAL is raised once; FATAL, entered after it, does not touch what shows it. -/
theorem raise_interlock_raised {s : State} (hsev : s.get F.FLT_SRC_SEV 224 = 4) : Raised 224 s (s.raise 224) := by
  rw [raise_of_sev_fatal (by decide) hsev]
  have hraised := raised_iff.1 (raiseBasic_raised s (show 224 < 512 by decide))
  have hfatal := (enterFatal_frame (s.raiseBasic 224) 224).keeps
  rw [raised_iff, hfatal _ _ _ (by decide), hfatal _ _ _ (by decide), hfatal _ _ _ (by decide)]
  exact hraised

/-- Opening the loop leaves the collector alone, so the fault is raised from the command's own state. -/
theorem loopOpened_raised (s : State) {t : State} (h : Raised 224 (loopOpened s) t) : Raised 224 s t := by
  have hloop := (loopOpened_frame s).keeps
  rw [raised_iff, hloop _ _ _ (by decide), hloop _ _ _ (by decide)] at h
  exact raised_iff.2 h

/-! ## A light start stopped (R112) -/

/-- The homes of what is shown of feeds that no slot feeds (R136). -/
def feedsDarkKeys : List Nat :=
  keysOf F.TWK_ELS_FEED 8 ++ ((List.range 6).flatMap fun f => [F.TWK_FEED_SLOT.key f 0, F.TWK_FEED_STATE.key f 0]) ++ [F.TWK_STAT_SPARES.key 0 0]

theorem feedsDark_frame (s : State) : RegFrame feedsDarkKeys s s.feedsDark :=
  ((foldl_set_frame F.TWK_ELS_FEED (fun _ _ => 7) 8 s).trans
    (foldl_frame (fun t f => (set_frame t F.TWK_FEED_SLOT 7 f 0).trans (set_frame _ F.TWK_FEED_STATE 0 f 0)) _ _)).trans
    (set_frame _ F.TWK_STAT_SPARES _ 0 0)

theorem feedsDark_line (s : State) {n : Nat} (hn : n < 8) : s.feedsDark.get F.TWK_ELS_EN n = s.get F.TWK_ELS_EN n :=
  (feedsDark_frame s).keeps _ _ _ ((show ∀ n, n < 8 → F.TWK_ELS_EN.key n 0 ∉ feedsDarkKeys by decide) n hn)

/-- Orders to modules write no register. -/
theorem foldl_order_frame (m : Nat) (l : List Nat) (s : State) : RegFrame [] s (l.foldl (fun t n => t.order n m) s) := by
  have h : RegFrame (l.flatMap fun _ => []) s (l.foldl (fun t n => t.order n m) s) :=
    foldl_frame (g := fun t n => t.order n m) (fun t _ => (RegFrame.refl [] t).same rfl rfl) l s
  exact h.mono (by simp)

theorem lightDark_frame (s : State) : RegFrame (keysOf F.TWK_ELS_EN 8 ++ [] ++ feedsDarkKeys) s s.lightDark := by
  unfold State.lightDark
  exact (((releaseEls_frame s).setLight _).trans (foldl_order_frame 0 _ _)).trans (feedsDark_frame _)

theorem lightDark_line (s : State) {n : Nat} (hn : n < 8) : s.lightDark.get F.TWK_ELS_EN n = 0 := by
  rw [State.lightDark, feedsDark_line _ hn, (foldl_order_frame 0 _ _).keeps _ _ _ List.not_mem_nil, setLight_get]
  exact releaseEls_line s hn

/-- The state in which a light start that stops shows where: every line released, and the gate's state given up where it was kept (R112, R113). -/
def stopReleased (s : State) : State := if s.light.keep then s.lightDark else s.releaseEls

theorem stopReleased_line (s : State) {n : Nat} (hn : n < 8) : (stopReleased s).get F.TWK_ELS_EN n = 0 := by
  unfold stopReleased
  split
  · exact lightDark_line s hn
  · exact releaseEls_line s hn

theorem stopReleased_mem (s : State) : (stopReleased s).mem = s.mem := by
  unfold stopReleased
  split
  · exact (lightDark_frame s).mem
  · exact releaseEls_mem s

/-- What a light start that stops shows in TWK_STAT (R112). -/
def stopShown (s : State) (err slot : Nat) : State := ((s.set F.TWK_STAT_LIGHT 4).set F.TWK_STAT_START_ERR err).set F.TWK_STAT_ERR_SLOT slot

/-- The homes of what TWK_STAT shows of a light start. -/
def stopShownKeys : List Nat := [F.TWK_STAT_LIGHT.key 0 0, F.TWK_STAT_START_ERR.key 0 0, F.TWK_STAT_ERR_SLOT.key 0 0]

theorem stopShown_frame (s : State) (err slot : Nat) : RegFrame stopShownKeys s (stopShown s err slot) :=
  ((set_frame s F.TWK_STAT_LIGHT 4 0 0).trans (set_frame _ F.TWK_STAT_START_ERR err 0 0)).trans (set_frame _ F.TWK_STAT_ERR_SLOT slot 0 0)

theorem stopShown_light (s : State) (err slot : Nat) : (stopShown s err slot).get F.TWK_STAT_LIGHT = 4 := by
  rw [stopShown, get_set_ne _ _ _ _ _ _ _ _ (by decide), get_set_ne _ _ _ _ _ _ _ _ (by decide), get_set_same]
  rfl

theorem stopShown_startErr (s : State) (err slot : Nat) : (stopShown s err slot).get F.TWK_STAT_START_ERR = err % 16 := by
  rw [stopShown, get_set_ne _ _ _ _ _ _ _ _ (by decide), get_set_same]
  rfl

/-- The homes a light start that stops writes after TWK_STAT: roles and feeds. -/
def stopEndKeys : List Nat := keysOf F.TWK_ELS_ROLE 8 ++ feedsDarkKeys

/-- R112: a start that stops at step 1 or 3 fails no boot: with its lines released and TWK_STAT written, it writes roles and feeds alone. -/
theorem lightStop_frame (s : State) {step : Nat} (hstep : step = 1 ∨ step = 3) (err slot : Nat) :
    RegFrame stopEndKeys (stopShown (stopReleased s) err slot) (s.lightStop step err slot) := by
  have hsuspend : (decide (step = 1) || decide (step = 3)) = true := by simpa using hstep
  unfold State.lightStop
  dsimp only
  rw [if_pos hsuspend]
  have hend := (foldl_set_frame F.TWK_ELS_ROLE (fun t n => b2n (t.isSet F.TWK_ELS_PRESENT n)) 8 (stopShown (stopReleased s) err slot)).trans (feedsDark_frame _)
  unfold stopShown stopReleased at hend ⊢
  generalize State.feedsDark _ = t at hend ⊢
  exact hend.same rfl rfl

section StopAtRepeatedStep

variable (s : State) {step : Nat} (hstep : step = 1 ∨ step = 3) (err slot : Nat)
include hstep

theorem lightStop_light : (s.lightStop step err slot).get F.TWK_STAT_LIGHT = 4 :=
  ((lightStop_frame s hstep err slot).keeps _ _ _ (by decide)).trans (stopShown_light ..)

theorem lightStop_startErr : (s.lightStop step err slot).get F.TWK_STAT_START_ERR = err % 16 :=
  ((lightStop_frame s hstep err slot).keeps _ _ _ (by decide)).trans (stopShown_startErr ..)

theorem lightStop_line {n : Nat} (hn : n < 8) : (s.lightStop step err slot).get F.TWK_ELS_EN n = 0 := by
  rw [(lightStop_frame s hstep err slot).keeps _ _ _ ((show ∀ n, n < 8 → F.TWK_ELS_EN.key n 0 ∉ stopEndKeys by decide) n hn),
    (stopShown_frame _ err slot).keeps _ _ _ ((show ∀ n, n < 8 → F.TWK_ELS_EN.key n 0 ∉ stopShownKeys by decide) n hn)]
  exact stopReleased_line s hn

theorem lightStop_mem : (s.lightStop step err slot).mem = s.mem :=
  ((lightStop_frame s hstep err slot).mem.trans (stopShown_frame _ err slot).mem).trans (stopReleased_mem s)

end StopAtRepeatedStep

/-! ## A light start under an open loop (R106, R112 step 1) -/

/-- The fields of TWK_ELS that a module's reading writes (R104, R136). -/
def moduleFlds : List Fld :=
  [F.TWK_ELS_PRESENT, F.TWK_ELS_LOCAL_INTLK, F.TWK_ELS_GRID_LOCK, F.TWK_ELS_CASE_T, F.TWK_ELS_OUT_PWR, F.TWK_ELS_TAP, F.TWK_ELS_EN, F.TWK_ELS_ROLE]

/-- The homes that the reading of one module writes. -/
def moduleKeys (n : Nat) : List Nat := F.TWK_STAT_SPARES.key 0 0 :: moduleFlds.map fun f => f.key n 0

theorem key_mem_moduleKeys {f : Fld} (hf : f ∈ moduleFlds) (n : Nat) : f.key n 0 ∈ moduleKeys n :=
  List.mem_cons_of_mem _ (List.mem_map_of_mem (f := fun f : Fld => f.key n 0) hf)

theorem readModule_frame (s : State) (n : Nat) (r : ModRead) : RegFrame (moduleKeys n) s (s.readModule n r) := by
  have put {t : State} (h : RegFrame (moduleKeys n) s t) (f : Fld) (v : Nat) (hf : f ∈ moduleFlds) : RegFrame (moduleKeys n) s (t.set f v n) :=
    h.set (key_mem_moduleKeys hf n) v
  have hstart := RegFrame.refl (moduleKeys n) s
  unfold State.readModule
  dsimp only
  split
  · have hstatus := put (put (put hstart F.TWK_ELS_PRESENT 1 (by decide)) F.TWK_ELS_LOCAL_INTLK (b2n r.intlk) (by decide))
      F.TWK_ELS_GRID_LOCK (b2n r.grid) (by decide)
    have hread := put (put (put hstatus F.TWK_ELS_CASE_T (ofSigned 8 r.temp) (by decide)) F.TWK_ELS_OUT_PWR (ofSigned 16 (outPower r)) (by decide))
      F.TWK_ELS_TAP (ofSigned 16 (r.tap - s.refOf (.input n))) (by decide)
    split <;> exact hread.same rfl rfl
  · have habsent := put hstart F.TWK_ELS_PRESENT 0 (by decide)
    split
    · exact habsent
    · have hfree := put (habsent.setLight { s.light with asks := keyDrop s.light.asks n }) F.TWK_ELS_EN 0 (by decide)
      exact (put hfree F.TWK_ELS_ROLE 0 (by decide)).set List.mem_cons_self _

/-- Step 1 finds the loop open before it looks at any module. -/
theorem lightFault_of_open {s : State} (hopen : s.get F.TWK_STAT_INTLK = 0) (mods : List ModRead) : s.lightFault mods = some (1, 4, 0) := by
  simp [State.lightFault, State.isSet, hopen]

/-- TWK_STAT as a light start begins, and every module read. -/
def startRead (s : State) (mods : List ModRead) : State :=
  (List.range 8).foldl (fun t n => t.readModule n (mods.getD n {})) (((s.set F.TWK_STAT_LIGHT 1).set F.TWK_STAT_START_ERR 0).set F.TWK_STAT_ERR_SLOT 0)

theorem startRead_frame (s : State) (mods : List ModRead) : RegFrame (stopShownKeys ++ (List.range 8).flatMap moduleKeys) s (startRead s mods) :=
  RegFrame.trans (((set_frame s F.TWK_STAT_LIGHT 1 0 0).trans (set_frame _ F.TWK_STAT_START_ERR 0 0 0)).trans (set_frame _ F.TWK_STAT_ERR_SLOT 0 0 0))
    (foldl_frame (fun t n => readModule_frame t n (mods.getD n {})) _ _)

theorem runLight_of_open {s : State} (hopen : s.get F.TWK_STAT_INTLK = 0) (mods : List ModRead) (ok : Bool) :
    s.runLight mods ok = (startRead s mods).lightStop 1 4 0 := by
  have hread : (startRead s mods).get F.TWK_STAT_INTLK = 0 := ((startRead_frame s mods).keeps _ _ _ (by decide)).trans hopen
  have hfault := lightFault_of_open hread mods
  unfold startRead at hfault ⊢
  unfold State.runLight
  dsimp only
  rw [hfault]

/-- Where a light start begins: a start that does not keep the gate's state gives it up (R113). -/
def startGiven (s : State) : State := if s.light.keep then s else (List.range 8).foldl (fun t n => t.set F.TWK_ELS_ROLE 2 n) s.lightDark

theorem startGiven_frame (s : State) : RegFrame (keysOf F.TWK_ELS_EN 8 ++ [] ++ feedsDarkKeys ++ keysOf F.TWK_ELS_ROLE 8) s (startGiven s) := by
  unfold startGiven
  split
  · exact .refl _ s
  · exact (lightDark_frame s).trans (foldl_set_frame F.TWK_ELS_ROLE (fun _ _ => 2) 8 _)

theorem exec_lightStart_of_open {s : State} (mods : List ModRead) (ok : Bool) (halive : s.alive = true) (hboot : s.get F.FLT_BOOT_STEP = 4)
    (hstep : s.light.step = 0) (hcroupier : s.get F.MGT_STAT_CROUPIER = 0) (hstate : s.get F.FLT_STAT_STATE = 0) (hopen : s.get F.TWK_STAT_INTLK = 0) :
    exec (.lightStart mods ok) s = .next ((startRead (startGiven s.fresh) mods).lightStop 1 4 0) := by
  have hgiven : (startGiven s.fresh).get F.TWK_STAT_INTLK = 0 := ((startGiven_frame s.fresh).keeps _ _ _ (by decide)).trans hopen
  have hruns : (decide (s.fresh.get F.FLT_BOOT_STEP = 4) && decide (s.fresh.light.step = 0) && decide (s.fresh.get F.MGT_STAT_CROUPIER = 0) &&
      decide (s.fresh.get F.FLT_STAT_STATE = 0)) = true := by simp [hboot, hstep, hcroupier, hstate]
  change execLightStart mods ok s = _
  rw [execLightStart, live_next halive, if_pos hruns, ← runLight_of_open hgiven, startGiven]

/-! ## The obligation -/

/-- A line was asserted: FATAL, with the laser interlock fault raised. -/
theorem elsIntlkOpen_of_lit {s : State} (hon : s.on = true) (hsev : s.get F.FLT_SRC_SEV 224 = 4) (hlit : ∃ n, n < 8 ∧ s.get F.TWK_ELS_EN n = 1) :
    Gives .elsIntlkOpen s fun t =>
      t.fatal = true ∧ t.get F.TWK_STAT_INTLK = 0 ∧ (∀ n, n < 8 → t.get F.TWK_ELS_EN n = 0) ∧ Raised 224 s t ∧
        KeepsBut [evfBlock, fltBlock, lightBlock] [] s t ∧ t.mem = s.mem := by
  have hloop := loopOpened_frame s.fresh
  have hsev' : (loopOpened s.fresh).get F.FLT_SRC_SEV 224 = 4 := (hloop.keeps _ _ _ (by decide)).trans hsev
  have hraise := raise_interlock_frame hsev'
  have hall := hloop.trans hraise
  have hraised := loopOpened_raised s.fresh (raise_interlock_raised hsev')
  refine ⟨_, exec_elsIntlkOpen_of_lit hon hlit, ?_, ?_, ?_, hraised, hall.keepsBut (by decide), hall.mem⟩
  · rw [raise_of_sev_fatal (by decide) hsev']
    exact enterFatal_fatal ..
  · exact (hraise.keeps _ _ _ (by decide)).trans (loopOpened_intlk _)
  · intro n hn
    rw [raise_of_sev_fatal (by decide) hsev']
    exact enterFatal_line _ _ hn

/-- No line was asserted: the loop is shown open, and nothing is raised. -/
theorem elsIntlkOpen_of_dark {s : State} (hon : s.on = true) (hdark : ∀ n, n < 8 → s.get F.TWK_ELS_EN n ≠ 1) :
    Gives .elsIntlkOpen s fun t =>
      t.get F.TWK_STAT_INTLK = 0 ∧ (∀ n, n < 8 → t.get F.TWK_ELS_EN n = 0) ∧
        KeepsBut [] (F.TWK_STAT_INTLK.key 0 0 :: (List.range 8).map fun n => F.TWK_ELS_EN.key n 0) s t ∧
        t = { s with regs := t.regs, light := { s.light with asks := [] }, out := [] } :=
  ⟨_, exec_elsIntlkOpen_of_dark hon hdark, loopOpened_intlk _, fun _ hn => releaseEls_line _ hn,
    fun f i j hf _ => (loopOpened_frame s.fresh).keeps f i j hf, releaseEls_eq _⟩

/-- Settles O25: the three parts are the loop opening on a lit part, on a dark one, and a light start that stops at step 1. -/
theorem interlockOpens : Obligations.InterlockOpens := by
  refine ⟨fun s hon hsev hlit => elsIntlkOpen_of_lit hon hsev hlit, fun s hon hdark => elsIntlkOpen_of_dark hon hdark, ?_⟩
  intro s mods ok halive hboot hstep hcroupier hstate hopen
  have hmem : (startRead (startGiven s.fresh) mods).mem = s.mem := (startRead_frame _ mods).mem.trans (startGiven_frame _).mem
  have hone : 1 = 1 ∨ 1 = 3 := .inl rfl
  exact ⟨_, exec_lightStart_of_open mods ok halive hboot hstep hcroupier hstate hopen, lightStop_light _ hone 4 0, lightStop_startErr _ hone 4 0,
    fun n hn => lightStop_line _ hone 4 0 hn, (lightStop_mem _ hone 4 0).trans hmem⟩

end Sys2Proof.Laws
end

section
/-! The event FIFO (R332 to R335): a record stored whole or counted as lost, the OVERFLOW record once room has returned, a read of EVF_DATA. -/

namespace Sys2Proof.Laws

open Sys2Proof Sys2Proof.Machine

/-! ## Words packed from fields -/

theorem packBits_nil : packBits [] = 0 := rfl

/-- A field packed first adds its own share to the rest. -/
theorem packBits_cons (lsb w v : Nat) (fs : List (Nat × Nat × Nat)) : packBits ((lsb, w, v) :: fs) = v % 2 ^ w * 2 ^ lsb + packBits fs := by
  have hstart (l : List (Nat × Nat × Nat)) : ∀ acc, l.foldl (fun acc f => acc + f.2.2 % 2 ^ f.2.1 * 2 ^ f.1) acc = acc + packBits l := by
    induction l with
    | nil => exact fun acc => rfl
    | cons f l ih =>
      intro acc
      rw [packBits, List.foldl_cons, List.foldl_cons, ih, ih, Nat.zero_add, Nat.add_assoc]
  rw [packBits, List.foldl_cons, hstart, Nat.zero_add]

/-! ## A record's first word (R332) -/

/-- The first word of a two-word record: TYPE, LEN, SITE, the transit's number, FIRST. -/
def recordWord (s : State) (type site : Nat) : Nat :=
  packBits [(0, 8, type), (8, 2, 1), (10, 6, site), (16, 32, s.get F.TRN_NUM), (63, 1, 1)]

/-- TYPE lies in the low byte, FIRST in bit 63, and every other field between them. -/
theorem recordWord_eq (s : State) (type site : Nat) : ∃ m, m < 2 ^ 55 ∧ recordWord s type site = 2 ^ 63 + (type % 256 + 256 * m) :=
  ⟨1 + site % 64 * 4 + s.get F.TRN_NUM % 2 ^ 32 * 256, by omega, by
    rw [recordWord, packBits_cons, packBits_cons, packBits_cons, packBits_cons, packBits_cons, packBits_nil]
    omega⟩

theorem recordWord_type (s : State) (type site : Nat) : recordWord s type site % 256 = type % 256 := by
  obtain ⟨m, -, hm⟩ := recordWord_eq s type site
  omega

theorem recordWord_first (s : State) (type site : Nat) : bit (recordWord s type site) 63 = true := by
  obtain ⟨m, hlt, hm⟩ := recordWord_eq s type site
  rw [bit, hm, Nat.testBit_two_pow_add_eq, Nat.testBit_lt_two_pow (by omega), Bool.not_false]

/-! ## A record put in, or lost (R333) -/

theorem add_evf (s : State) (f : Fld) (n i j : Nat) : (s.add f n i j).evf = s.evf := by
  unfold State.add
  cases lifeOff f i <;> cases s.frozen f i <;> cases f.cls <;> rfl

/-- Vector 64 changes whether it waits and what goes out, no more. -/
theorem evfVector_eq (s : State) : ∃ p o, s.evfVector = { s with evf := { s.evf with pend := p }, out := o } := by
  unfold State.evfVector
  split
  · exact ⟨true, s.out, rfl⟩
  · exact ⟨s.evf.pend, _, rfl⟩

theorem record_of_room {s : State} (hroom : s.evf.words.length + 2 ≤ 4096) (type site content : Nat) :
    ∃ p o, s.record type site content =
      { s with evf := { s.evf with words := s.evf.words ++ [recordWord s type site, content % 2 ^ 62], pend := p }, out := o } := by
  unfold State.record
  dsimp only
  rw [if_pos hroom]
  split
  · exact evfVector_eq _
  · exact ⟨s.evf.pend, s.out, rfl⟩

theorem record_of_full {s : State} (hfull : 4096 < s.evf.words.length + 2) (type site content : Nat) :
    s.record type site content = ({ s with evf := { s.evf with lost := s.evf.lost + 1 } }).add F.EVF_DROP 1 := by
  unfold State.record
  exact if_neg (by omega)

/-! ## The OVERFLOW record (R333) -/

/-- The state from which the OVERFLOW record is put in: no loss left to tell, the free value of its SITE drawn. -/
def tellingLoss (s : State) : State := { s with evf := { s.evf with lost := 0 }, free := s.free + 1 }

/-- One record of type 7 behind the words held, which carries the number lost; none is left to be told. -/
theorem overflow_of_room {s : State} (hlost : 0 < s.evf.lost) (hroom : s.evf.words.length + 2 ≤ 4096) :
    ∃ w0 p o, w0 % 256 = 7 ∧ bit w0 63 = true ∧
      s.overflow =
        { s with
          evf := { s.evf with words := s.evf.words ++ [w0, min s.evf.lost 0xFFFFFFFF], lost := 0, pend := p }
          out := o, free := s.free + 1 } := by
  have hsat : satTo 0xFFFFFFFF s.evf.lost = min s.evf.lost 0xFFFFFFFF := by
    unfold satTo
    split <;> omega
  have hfits : min s.evf.lost 0xFFFFFFFF % 2 ^ 62 = min s.evf.lost 0xFFFFFFFF := Nat.mod_eq_of_lt (by omega)
  have htells : s.overflow = (tellingLoss s).record 7 (s.draw 6).1 (min s.evf.lost 0xFFFFFFFF) := by
    unfold State.overflow
    rw [if_pos (Bool.and_eq_true_iff.2 ⟨decide_eq_true hlost, decide_eq_true hroom⟩), ← hsat]
    rfl
  obtain ⟨p, o, hrec⟩ := record_of_room (s := tellingLoss s) hroom 7 (s.draw 6).1 (min s.evf.lost 0xFFFFFFFF)
  rw [hfits] at hrec
  exact ⟨_, p, o, recordWord_type .., recordWord_first .., htells.trans hrec⟩

theorem overflow_of_full {s : State} (hfull : 4096 < s.evf.words.length + 2) : s.overflow = s :=
  if_neg fun h => Nat.not_le.2 hfull (of_decide_eq_true (Bool.and_eq_true_iff.1 h).2)

/-! ## A read of EVF_DATA (R334) -/

/-- The FIFO with its front word `w` read, which leaves `ws`. -/
def popped (s : State) (w : Nat) (ws : List Nat) : State := ({ s with evf := { s.evf with last := w } }).setWords ws

theorem popEvf_of_cons {s : State} {w : Nat} {ws : List Nat} (hwords : s.evf.words = w :: ws) (hflush : s.get F.EVF_STAT_FLUSHING = 0) :
    s.popEvf 0 = (w, (popped s w ws).overflow) := by
  have hflips : w ^^^ evfFlips 0 = w := Nat.xor_zero w
  have hparity : evfFails 0 = false := by decide
  have hflushing : (popped s w ws).isSet F.EVF_STAT_FLUSHING = false := (decide_eq_false (by rw [hflush]; decide) : s.isSet F.EVF_STAT_FLUSHING = false)
  unfold popped at hflushing ⊢
  unfold State.popEvf
  rw [hwords]
  simp only [hflips, hparity, hflushing, Bool.false_and, Bool.false_eq_true, if_false]

/-- EVF_DATA in the register map. -/
def evfDataReg : Reg := ⟨"EVF_DATA", 0x10000, 1, 0, 1, 0, true, false, .dev, [F.EVF_DATA]⟩

theorem spotAt_evfData : spotAt 0x10000 = some (evfDataReg, 0, 0, false) := rfl

theorem spotAt_evfData_high : spotAt (0x10000 + 4) = some (evfDataReg, 0, 0, true) := rfl

/-- R423: EVF_DATA answers whatever clock stands. -/
theorem evfData_not_stopped (s : State) : s.stopped evfDataReg 0 = false := rfl

theorem read64_evfData (s : State) (src : Iface) (flip : Nat) : s.read64 src 0x10000 flip = s.popEvf flip := by
  unfold State.read64
  rw [spotAt_evfData, spotAt_evfData_high]
  dsimp only
  rw [evfData_not_stopped]
  rfl

theorem on_of_barUp {s : State} (h : s.barUp = true) : s.on = true := (Bool.and_eq_true_iff.1 h).1

theorem exec_evfDataRead {s : State} (hbar : s.barUp = true) (src : Iface) (flip : Nat) :
    exec (.evfDataRead src flip) s = .next ((s.fresh.popEvf flip).2.emit (.value src 0x10000 (s.fresh.popEvf flip).1)) := by
  have hbar' : s.fresh.barUp = true := hbar
  change barRead src 0x10000 true flip s = _
  rw [barRead, liveHub_next (on_of_barUp hbar), if_pos hbar', State.busRead, if_pos rfl, read64_evfData]

/-- A word read from a FIFO that is not flushing: out it goes, and OVERFLOW follows where it fits. -/
theorem exec_evfDataRead_of_cons {s : State} (hbar : s.barUp = true) {w : Nat} {ws : List Nat} (hwords : s.evf.words = w :: ws)
    (hflush : s.get F.EVF_STAT_FLUSHING = 0) (src : Iface) :
    exec (.evfDataRead src 0) s = .next ((popped s.fresh w ws).overflow.emit (.value src 0x10000 w)) := by
  rw [exec_evfDataRead hbar, popEvf_of_cons (s := s.fresh) hwords hflush]

/-! ## The obligation -/

/-- A read makes room for two words: the OVERFLOW record stands behind the words left. -/
theorem evfDataRead_of_room {s : State} (hbar : s.barUp = true) {w : Nat} {ws : List Nat} (hwords : s.evf.words = w :: ws)
    (hflush : s.get F.EVF_STAT_FLUSHING = 0) (hlost : 0 < s.evf.lost) (hroom : ws.length + 2 ≤ 4096) (src : Iface) :
    Gives (.evfDataRead src 0) s fun t =>
      ∃ w0, t.evf.words = ws ++ [w0, min s.evf.lost 0xFFFFFFFF] ∧ w0 % 256 = 7 ∧ bit w0 63 = true ∧ t.evf.lost = 0 ∧ .value src 0x10000 w ∈ t.out ∧
        t = { s with evf := t.evf, out := t.out, free := t.free } := by
  obtain ⟨w0, p, o, htype, hfirst, hover⟩ := overflow_of_room (s := popped s.fresh w ws) hlost hroom
  refine ⟨_, exec_evfDataRead_of_cons hbar hwords hflush src, w0, ?_⟩
  rw [hover]
  exact ⟨rfl, htype, hfirst, rfl, List.mem_append_right _ (List.mem_singleton_self _), rfl⟩

/-- A FIFO without that room stays as the read left it. -/
theorem evfDataRead_of_full {s : State} (hbar : s.barUp = true) {w : Nat} {ws : List Nat} (hwords : s.evf.words = w :: ws)
    (hflush : s.get F.EVF_STAT_FLUSHING = 0) (hfull : 4096 < ws.length + 2) (src : Iface) :
    Gives (.evfDataRead src 0) s fun t => t.evf.words = ws ∧ t.evf.lost = s.evf.lost ∧ t.regs = s.regs := by
  refine ⟨_, exec_evfDataRead_of_cons hbar hwords hflush src, ?_⟩
  rw [overflow_of_full (s := popped s.fresh w ws) hfull]
  exact ⟨rfl, rfl, rfl⟩

/-- Settles O19: the three parts are a record that fits, one that does not, and a read while losses are still to be told. -/
theorem eventRecords : Obligations.EventRecords := by
  refine ⟨fun s type site content hroom => ?_, fun s type site content hfull => ?_, fun s src w ws hbar hwords hlost hflush =>
    ⟨fun hroom => evfDataRead_of_room hbar hwords hflush hlost hroom src, fun hfull => evfDataRead_of_full hbar hwords hflush hfull src⟩⟩
  · obtain ⟨p, o, hrec⟩ := record_of_room hroom type site content
    rw [hrec]
    exact ⟨recordWord s type site, rfl, recordWord_type .., recordWord_first .., rfl⟩
  · refine ⟨?_, ?_, (record_frame s type site content).keeps⟩ <;> rw [record_of_full hfull]
    · exact add_evf ..
    · exact add_get_same ..

end Sys2Proof.Laws
end

section
/-! Decks and the Tally's mirror (R311, R350): a deck enabled while TAL_MIRROR_BASE is 0, and a write of TAL_MIRROR_BASE, taken while every deck is
DISABLED and ignored at any other time. -/

namespace Sys2Proof.Laws

open Sys2Proof Sys2Proof.Machine

/-! ## A value listed again -/

/-- A list that never lists its default reads every default where it reads its own. -/
theorem tabGet_of_default_unlisted {α : Type} {d : α} {k : Nat} {m : List (Nat × α)} (hm : (k, d) ∉ m) (hd : tabGet d m k = d) (e : α) : tabGet e m k = e := by
  induction m with
  | nil => rfl
  | cons p m ih =>
    obtain ⟨k', v⟩ := p
    by_cases hk : k' = k
    · subst hk
      have hv : v = d := by simpa [tabGet] using hd
      exact absurd (hv ▸ List.mem_cons_self) hm
    · simp only [tabGet, if_neg hk] at hd ⊢
      exact ih (fun h => hm (List.mem_cons_of_mem _ h)) hd

/-- What reads otherwise than the default is listed, so it reads the same beside any default. -/
theorem tabGet_of_ne_default {α : Type} {d : α} {k : Nat} {m : List (Nat × α)} (hd : tabGet d m k ≠ d) (e : α) : tabGet e m k = tabGet d m k := by
  induction m with
  | nil => exact absurd rfl hd
  | cons p m ih =>
    obtain ⟨k', v⟩ := p
    by_cases hk : k' = k
    · simp [tabGet, hk]
    · simp only [tabGet, if_neg hk] at hd ⊢
      exact ih hd

/-- A field set to the value it has leaves every field as it was, where the register table does not list it at its Reset value. -/
theorem set_self_get {s : State} {f : Fld} {i j : Nat} (hfits : s.get f i j < 2 ^ f.w)
    (hunlisted : s.get f i j = f.rst → ∀ e, tabGet e s.regs (f.key i j) = e) (g : Fld) (k l : Nat) :
    (s.set f (s.get f i j) i j).get g k l = s.get g k l := by
  by_cases hkey : g.key k l = f.key i j
  · have hset : (s.set f (s.get f i j) i j).regs = tabPut f.rst s.regs (f.key i j) (s.get f i j) := by rw [State.set, Nat.mod_eq_of_lt hfits]
    change tabGet g.rst (s.set f (s.get f i j) i j).regs (g.key k l) = tabGet g.rst s.regs (g.key k l)
    rw [hkey, hset]
    by_cases hrst : s.get f i j = f.rst
    · rw [tabPut, if_pos hrst, tabGet_drop_same, hunlisted hrst]
    · rw [tabPut, if_neg hrst, tabGet_ins_same]
      exact (tabGet_of_ne_default hrst _).symm
  · exact get_set_ne _ _ _ _ _ _ _ _ hkey

/-! ## What keeps the Tally -/

theorem add_tally (s : State) (f : Fld) (n i j : Nat) : (s.add f n i j).tally = s.tally := by
  unfold State.add
  cases lifeOff f i <;> cases s.frozen f i <;> cases f.cls <;> rfl

theorem record_tally (s : State) (type site content : Nat) : (s.record type site content).tally = s.tally := by
  by_cases hroom : s.evf.words.length + 2 ≤ 4096
  · obtain ⟨p, o, hrec⟩ := record_of_room hroom type site content
    rw [hrec]
  · rw [record_of_full (by omega), add_tally]

theorem logChange_tally (s : State) (src : Iface) (off : Nat) (wide took : Bool) (v : Nat) : (s.logChange src off wide took v).tally = s.tally := by
  unfold State.logChange
  dsimp only
  split <;> rfl

/-- R450, R488: an entry of the change log moves CLOG_SEQ and, where it cannot be written yet, ALM_HELD. -/
theorem logChange_frame (s : State) (src : Iface) (off : Nat) (wide took : Bool) (v : Nat) : RegFrame logKeys s (s.logChange src off wide took v) := by
  have hseq : RegFrame logKeys s (s.set F.ALM_CLOG_SEQ (s.get F.ALM_CLOG_SEQ + 1)) :=
    (RegFrame.refl _ s).set (by decide) _
  have hentry (x : Mgmt) : RegFrame logKeys s { s.set F.ALM_CLOG_SEQ (s.get F.ALM_CLOG_SEQ + 1) with mgt := x } := hseq.same rfl rfl
  unfold State.logChange
  dsimp only
  split
  · exact hentry _
  · exact (hentry _).set (f := F.THM_STAT_ALM_HELD) (by decide) _

/-! ## A write's way to its register -/

theorem barUp_of_clocked {s : State} (h : s.clocked) : s.barUp = true := by
  obtain ⟨hon, -, hstep⟩ := h
  have hlink : 3 ≤ s.get F.FLT_BOOT_STEP := by omega
  simp [State.barUp, hon, hlink]

/-- R423: with the clocks running, the registers below the check-value engines that are reset with the device alone do not stand. -/
theorem stopped_of_clocked {s : State} (h : s.clocked) {r : Reg} (hdom : r.dom = .dev) (hbase : r.base < 0x1C00000) (i : Nat) : s.stopped r i = false := by
  obtain ⟨-, hfatal, hstep⟩ := h
  have hpll : ¬ s.get F.FLT_BOOT_STEP < 4 := by omega
  have hchk : ¬ 0x1C00000 ≤ r.base := by omega
  simp [State.stopped, hfatal, hpll, hdom, hchk]

/-- A deck's CFG in the register map. -/
def deckCfgReg : Reg :=
  ⟨"DLR_DECK_CFG", 0x1018, 64, 0x40, 1, 0x0, false, false, .dev,
    [F.DLR_DECK_CFG_ENABLE, F.DLR_DECK_CFG_SQ_LOG2, F.DLR_DECK_CFG_CQ_LOG2, F.DLR_DECK_CFG_WEIGHT, F.DLR_DECK_CFG_IRQ_COUNT, F.DLR_DECK_CFG_IRQ_TIME_US]⟩

/-- TAL_MIRROR_BASE in the register map. -/
def mirrorBaseReg : Reg := ⟨"TAL_MIRROR_BASE", 0x20008, 1, 0x0, 1, 0x0, true, true, .dev, [F.TAL_MIRROR_BASE]⟩

theorem spotAt_deckCfg {d : Nat} (hd : d < 64) : spotAt (0x1018 + d * 0x40) = some (deckCfgReg, d, 0, false) :=
  (by decide : ∀ d, d < 64 → spotAt (0x1018 + d * 0x40) = some (deckCfgReg, d, 0, false)) d hd

theorem spotAt_mirrorBase : spotAt 0x20008 = some (mirrorBaseReg, 0, 0, false) := rfl

theorem spotAt_mirrorBase_high : spotAt (0x20008 + 4) = some (mirrorBaseReg, 0, 0, true) := rfl

theorem exec_deckEnable {s : State} (h : s.clocked) {d : Nat} (hd : d < 64) (src : Iface) (v : Nat) :
    exec (.deckEnable src d v) s =
      .next (s.fresh.commitReg src deckCfgReg d 0 (v % 2 ^ 32) 0xFFFFFFFF (0x1018 + d * 0x40) false (v % 2 ^ 32)) := by
  have hbar : s.fresh.barUp = true := barUp_of_clocked h
  have hruns : s.fresh.stopped deckCfgReg d = false := stopped_of_clocked h rfl (by decide) d
  have hnarrow : deckCfgReg.wide = false := rfl
  change barWriteIf (decide (d < 64)) src (0x1018 + d * 0x40) false v s = _
  rw [barWriteIf, decide_eq_true hd, if_pos rfl, barWrite, liveHub_next h.1, if_pos hbar, State.busWrite, State.write32, spotAt_deckCfg hd]
  simp [hruns, hnarrow]

theorem exec_mirrorBaseWrite {s : State} (h : s.clocked) (src : Iface) (v : Nat) :
    exec (.registerWrite src 0x20008 true v) s =
      .next ((s.fresh.setHeld 0x20008 src 0).commitReg src mirrorBaseReg 0 0 (v % 2 ^ 64) (2 ^ 64 - 1) 0x20008 true (v % 2 ^ 64)) := by
  have hbar : s.fresh.barUp = true := barUp_of_clocked h
  have hruns : s.fresh.stopped mirrorBaseReg 0 = false := stopped_of_clocked h rfl (by decide) 0
  change barWrite src 0x20008 true v s = _
  rw [barWrite, liveHub_next h.1, if_pos hbar, State.busWrite, if_pos rfl, State.write64, spotAt_mirrorBase, spotAt_mirrorBase_high]
  simp [hruns]

/-! ## A deck enabled without a mirror (R311, R350) -/

theorem putFields_frame (s : State) (r : Reg) (i j v mask : Nat) : RegFrame (r.flds.map fun f => f.key i j) s (s.putFields r i j v mask) := by
  rw [List.map_eq_flatMap]
  exact foldl_frame (fun t f => set_frame t f _ i j) _ s

theorem putFields_tally (s : State) (r : Reg) (i j v mask : Nat) : (s.putFields r i j v mask).tally = s.tally := by
  have hfold (val : Fld → Nat) (l : List Fld) : ∀ t : State, (l.foldl (fun t f => t.set f (val f) i j) t).tally = t.tally := by
    induction l with
    | nil => exact fun _ => rfl
    | cons f l ih => exact fun t => ih _
  exact hfold (fun f => f.written (s.get f i j) v mask) r.flds s

/-- R333: of the registers, a record moves at most the drop counter. -/
theorem recordAny_frame (s : State) (type content : Nat) : RegFrame [F.EVF_DROP.key 0 0] s (s.recordAny type content) :=
  (record_frame (s.draw 6).2 type (s.draw 6).1 content).ofSame rfl rfl

theorem recordAny_tally (s : State) (type content : Nat) : (s.recordAny type content).tally = s.tally := record_tally (s.draw 6).2 type (s.draw 6).1 content

theorem deckStat_key_not_evfDrop (d : Nat) : F.DLR_DECK_STAT_STATE.key d 0 ∉ [F.EVF_DROP.key 0 0] ∧ F.DLR_DECK_STAT_ERR.key d 0 ∉ [F.EVF_DROP.key 0 0] := by
  constructor <;> simp only [Fld.key, F.DLR_DECK_STAT_STATE, F.DLR_DECK_STAT_ERR, F.EVF_DROP, List.mem_singleton] <;> omega

theorem deckError_state (s : State) (d err : Nat) : (s.deckError d err).deckState d = 3 := by
  have hne : F.DLR_DECK_STAT_STATE.key d 0 ≠ F.DLR_DECK_STAT_ERR.key d 0 := by simp [Fld.key, F.DLR_DECK_STAT_STATE, F.DLR_DECK_STAT_ERR]
  rw [State.deckState, State.deckError, (recordAny_frame _ 2 _).keeps _ _ _ (deckStat_key_not_evfDrop d).1, get_set_ne _ _ _ _ _ _ _ _ hne, get_set_same]
  rfl

theorem deckError_err (s : State) (d err : Nat) : (s.deckError d err).get F.DLR_DECK_STAT_ERR d = err % 8 := by
  rw [State.deckError, (recordAny_frame _ 2 _).keeps _ _ _ (deckStat_key_not_evfDrop d).2, get_set_same]
  rfl

theorem deckError_tally (s : State) (d err : Nat) : (s.deckError d err).tally = s.tally := recordAny_tally ..

theorem deckError_mem (s : State) (d err : Nat) : (s.deckError d err).mem = s.mem := (recordAny_frame _ 2 _).mem

theorem enableDeck_of_no_mirror {s : State} (hbase : s.get F.TAL_MIRROR_BASE = 0) (d : Nat) : s.enableDeck d = s.deckError d 1 := by
  unfold State.enableDeck
  exact if_pos (by simp [hbase])

/-- ENABLE 1 reaches a DISABLED deck. -/
theorem deckCfg_of_disabled {s : State} {d v mask : Nat} (hmask : bit mask 0 = true) (hv : bit v 0 = true) (hdisabled : s.deckState d = 0) :
    s.deckCfg d v mask = s.enableDeck d := by
  simp [State.deckCfg, hmask, hv, hdisabled]

/-- In service, a write to the CFG of a DISABLED deck is taken whole; its ENABLE acts after its fields are written. -/
theorem commitReg_deckCfg {s : State} {d : Nat} (hservice : s.inService = true) (hdisabled : s.deckState d = 0) (src : Iface) (v off logged : Nat) :
    s.commitReg src deckCfgReg d 0 v 0xFFFFFFFF off false logged = (s.putFields deckCfgReg d 0 v 0xFFFFFFFF).deckCfg d (v &&& 0xFFFFFFFF) 0xFFFFFFFF := by
  have hscreen : s.screen src deckCfgReg d 0 v 0xFFFFFFFF = (0xFFFFFFFF, s) := by
    change s.screenDeck deckCfgReg d 0 v 0xFFFFFFFF = _
    simp [State.screenDeck, hdisabled, hservice]
  have hcfg : deckCfgReg.cfg = false := rfl
  rw [State.commitReg, hscreen]
  simp only [hcfg, Bool.false_and, Bool.false_eq_true, if_false]
  rw [if_neg (by decide)]
  rfl

/-- A write to a deck's CFG touches neither its state nor the mirror's base. -/
theorem deckCfg_keys {d : Nat} (hd : d < 64) :
    F.DLR_DECK_STAT_STATE.key d 0 ∉ deckCfgReg.flds.map (fun f => f.key d 0) ∧ F.TAL_MIRROR_BASE.key 0 0 ∉ deckCfgReg.flds.map (fun f => f.key d 0) :=
  (by decide : ∀ d, d < 64 → F.DLR_DECK_STAT_STATE.key d 0 ∉ deckCfgReg.flds.map (fun f => f.key d 0) ∧
    F.TAL_MIRROR_BASE.key 0 0 ∉ deckCfgReg.flds.map (fun f => f.key d 0)) d hd

/-- R350: a deck enabled while TAL_MIRROR_BASE is 0 goes to ERROR with ERR 1. -/
theorem deckEnable_of_no_mirror {s : State} (hclock : s.clocked) {d : Nat} (hd : d < 64) (hservice : s.inService = true) (hdisabled : s.deckState d = 0)
    (hbase : s.get F.TAL_MIRROR_BASE = 0) {v : Nat} (hv : v % 2 = 1) (src : Iface) :
    Gives (.deckEnable src d v) s fun t => t.deckState d = 3 ∧ t.get F.DLR_DECK_STAT_ERR d = 1 ∧ t.tally = s.tally ∧ t.mem = s.mem := by
  obtain ⟨hstate, hmirror⟩ := deckCfg_keys hd
  have hput := putFields_frame s.fresh deckCfgReg d 0 (v % 2 ^ 32) 0xFFFFFFFF
  have henable : bit (v % 2 ^ 32 &&& 0xFFFFFFFF) 0 = true := by simp [bit, hv]
  refine ⟨_, exec_deckEnable hclock hd src v, ?_⟩
  rw [commitReg_deckCfg (s := s.fresh) hservice hdisabled, deckCfg_of_disabled (by decide) henable ((hput.keeps _ _ _ hstate).trans hdisabled),
    enableDeck_of_no_mirror ((hput.keeps _ _ _ hmirror).trans hbase)]
  exact ⟨deckError_state .., deckError_err .., (deckError_tally ..).trans (putFields_tally ..), (deckError_mem ..).trans hput.mem⟩

/-! ## A write of TAL_MIRROR_BASE (R350) -/

theorem screen_mirrorBase_of_disabled {s : State} (hdecks : ∀ d, d < 64 → s.deckState d = 0) (src : Iface) (v mask : Nat) :
    s.screen src mirrorBaseReg 0 0 v mask = (mask, s) := if_pos (by simpa using hdecks)

theorem screen_mirrorBase_of_enabled {s : State} (hdeck : ∃ d, d < 64 ∧ s.deckState d ≠ 0) (src : Iface) (v mask : Nat) :
    s.screen src mirrorBaseReg 0 0 v mask = (0, s.add F.TAL_STAT_IGN 1) := if_neg (by simpa using hdeck)

/-- Whatever the screen leaves of the write, the field is written and the change log has its entry; the write does nothing beside. -/
theorem commitReg_mirrorBase {s u : State} {src : Iface} {v mask taken : Nat} (hroom : s.logFull = false)
    (hscreen : s.screen src mirrorBaseReg 0 0 v mask = (taken, u)) (off logged : Nat) :
    ∃ took, s.commitReg src mirrorBaseReg 0 0 v mask off true logged =
      (u.set F.TAL_MIRROR_BASE (F.TAL_MIRROR_BASE.written (u.get F.TAL_MIRROR_BASE) v taken)).logChange src off true took logged := by
  rw [State.commitReg, hscreen, hroom, Bool.and_false, if_neg (by decide)]
  exact ⟨_, ite_self _⟩

/-- A field whose bits are all carried and taken holds what was written. -/
theorem mixBits_ones_mod {cur x w : Nat} (hx : x < 2 ^ w) : mixBits cur x (2 ^ w - 1) % 2 ^ w = x := by
  have hcur : cur - cur % 2 ^ w = 2 ^ w * (cur / 2 ^ w) := by
    have := Nat.div_add_mod cur (2 ^ w)
    omega
  rw [mixBits, Nat.and_two_pow_sub_one_eq_mod, Nat.and_two_pow_sub_one_eq_mod, hcur, Nat.mul_add_mod, Nat.mod_mod, Nat.mod_eq_of_lt hx]

theorem written_mirrorBase_taken (cur v : Nat) :
    F.TAL_MIRROR_BASE.written cur (v % 2 ^ 64) (2 ^ 64 - 1) % 2 ^ F.TAL_MIRROR_BASE.w = v / 2 ^ 23 % 2 ^ 29 := by
  have hbits : v % 2 ^ 64 / 2 ^ 23 % 2 ^ 29 = v / 2 ^ 23 % 2 ^ 29 := by omega
  exact (mixBits_ones_mod (Nat.mod_lt _ (Nat.two_pow_pos 29))).trans hbits

/-- A field none of whose bits is taken keeps its value. -/
theorem written_mirrorBase_ignored (cur v : Nat) : F.TAL_MIRROR_BASE.written cur v 0 = cur := by
  have hmask : bitsOf 0 F.TAL_MIRROR_BASE.lsb F.TAL_MIRROR_BASE.w = 0 := by decide
  change mixBits cur (bitsOf v F.TAL_MIRROR_BASE.lsb F.TAL_MIRROR_BASE.w) (bitsOf 0 F.TAL_MIRROR_BASE.lsb F.TAL_MIRROR_BASE.w) = cur
  rw [hmask, mixBits, Nat.and_zero, Nat.and_zero, Nat.sub_zero, Nat.add_zero]

/-- R350: while every deck is DISABLED the write is taken. -/
theorem mirrorBaseWrite_of_disabled {s : State} (hclock : s.clocked) (hroom : s.logFull = false) (hdecks : ∀ d, d < 64 → s.deckState d = 0) (src : Iface)
    (v : Nat) :
    Gives (.registerWrite src 0x20008 true v) s fun t =>
      t.get F.TAL_MIRROR_BASE = v / 2 ^ 23 % 2 ^ 29 ∧ KeepsBut [] (F.TAL_MIRROR_BASE.key 0 0 :: logKeys) s t ∧ t.tally = s.tally ∧ t.mem = s.mem := by
  let u := s.fresh.setHeld 0x20008 src 0
  obtain ⟨took, hcommit⟩ := commitReg_mirrorBase (s := u) hroom (screen_mirrorBase_of_disabled (s := u) hdecks src (v % 2 ^ 64) (2 ^ 64 - 1)) 0x20008 (v % 2 ^ 64)
  let base := F.TAL_MIRROR_BASE.written (u.get F.TAL_MIRROR_BASE) (v % 2 ^ 64) (2 ^ 64 - 1)
  have hlog := logChange_frame (u.set F.TAL_MIRROR_BASE base) src 0x20008 true took (v % 2 ^ 64)
  have hall := (set_frame u F.TAL_MIRROR_BASE base 0 0).trans hlog
  refine ⟨_, (exec_mirrorBaseWrite hclock src v).trans (congrArg _ hcommit), ?_, fun f i j hf _ => hall.keeps f i j hf, logChange_tally .., hall.mem⟩
  rw [hlog.keeps _ _ _ (by decide), get_set_same]
  exact written_mirrorBase_taken ..

/-- While a deck is not DISABLED the write is counted, and the field written with the value it has. -/
theorem exec_mirrorBaseWrite_of_enabled {s : State} (hclock : s.clocked) (hroom : s.logFull = false) (hdeck : ∃ d, d < 64 ∧ s.deckState d ≠ 0) (src : Iface)
    (v : Nat) :
    ∃ (u : State) (took : Bool), u.regs = s.regs ∧ u.tally = s.tally ∧ u.mem = s.mem ∧ exec (.registerWrite src 0x20008 true v) s =
      .next (((u.add F.TAL_STAT_IGN 1).set F.TAL_MIRROR_BASE ((u.add F.TAL_STAT_IGN 1).get F.TAL_MIRROR_BASE)).logChange src 0x20008 true took (v % 2 ^ 64)) := by
  let u := s.fresh.setHeld 0x20008 src 0
  obtain ⟨took, hcommit⟩ := commitReg_mirrorBase (s := u) hroom (screen_mirrorBase_of_enabled (s := u) hdeck src (v % 2 ^ 64) (2 ^ 64 - 1)) 0x20008 (v % 2 ^ 64)
  rw [written_mirrorBase_ignored] at hcommit
  exact ⟨u, took, rfl, rfl, rfl, (exec_mirrorBaseWrite hclock src v).trans (congrArg _ hcommit)⟩

/-- R350: while a deck is not DISABLED the write is ignored and counted, and moves no field beside that count and the change log's, where the register table does not
list the base at its Reset value 0. -/
theorem mirrorBaseWrite_of_enabled {s : State} (hclock : s.clocked) (hroom : s.logFull = false) (hdeck : ∃ d, d < 64 ∧ s.deckState d ≠ 0)
    (hfits : s.get F.TAL_MIRROR_BASE < 2 ^ 29) (hlist : (F.TAL_MIRROR_BASE.key 0 0, 0) ∉ s.regs) (src : Iface) (v : Nat) :
    Gives (.registerWrite src 0x20008 true v) s fun t =>
      t.get F.TAL_MIRROR_BASE = s.get F.TAL_MIRROR_BASE ∧ CountsBy F.TAL_STAT_IGN 1 0 0 s t ∧ KeepsBut [] (F.TAL_STAT_IGN.key 0 0 :: logKeys) s t ∧
        t.tally = s.tally ∧ t.mem = s.mem := by
  obtain ⟨u, took, hregs, htally, hmem, hexec⟩ := exec_mirrorBaseWrite_of_enabled hclock hroom hdeck src v
  have hadd : RegFrame [F.TAL_STAT_IGN.key 0 0] s (u.add F.TAL_STAT_IGN 1) := ((RegFrame.refl _ u).add (List.mem_singleton_self _) 1).ofSame hregs hmem
  have hother : F.TAL_MIRROR_BASE.key 0 0 ∉ [F.TAL_STAT_IGN.key 0 0] := by decide
  have hbase (e : Nat) : tabGet e (u.add F.TAL_STAT_IGN 1).regs (F.TAL_MIRROR_BASE.key 0 0) = tabGet e s.regs (F.TAL_MIRROR_BASE.key 0 0) :=
    hadd.keeps { F.TAL_MIRROR_BASE with rst := e } 0 0 hother
  have hself := set_self_get (s := u.add F.TAL_STAT_IGN 1) (f := F.TAL_MIRROR_BASE) (i := 0) (j := 0) (Nat.lt_of_le_of_lt (Nat.le_of_eq (hbase 0)) hfits)
    fun hzero e => (hbase e).trans (tabGet_of_default_unlisted hlist ((hbase 0).symm.trans hzero) e)
  refine ⟨_, hexec, ?_, ?_, fun f i j hf _ => ?_, ?_, ?_⟩
  · rw [(logChange_frame ..).keeps _ _ _ (by decide), hself]
    exact hbase 0
  · rw [CountsBy, (logChange_frame ..).keeps _ _ _ (by decide), hself, add_get_same]
    simp only [State.counted, State.get, hregs]
    rfl
  · rw [List.mem_cons, not_or] at hf
    rw [(logChange_frame ..).keeps _ _ _ hf.2, hself]
    exact hadd.keeps f i j (by simpa using hf.1)
  · exact (logChange_tally ..).trans ((add_tally ..).trans htally)
  · exact (logChange_frame ..).mem.trans hadd.mem

/-! ## The obligation -/

/-- A part in service with deck 0 ACTIVE, whose register table lists TAL_MIRROR_BASE at its Reset value 0: `State.set` never lists a field so, but the
statement ranges over such states too. -/
def zeroListed : State :=
  { State.reset with power := .on, regs := [(F.DLR_DECK_STAT_STATE.key 0 0, 1), (F.TAL_MIRROR_BASE.key 0 0, 0), (F.FLT_BOOT_STEP.key 0 0, 9)] }

/-- A field at the home of TAL_MIRROR_BASE with another Reset value: no register of the part has it, but the statement's frame ranges over it too. -/
def mirrorBaseFromOne : Fld := { F.TAL_MIRROR_BASE with rst := 1 }

theorem zeroListed_clocked : zeroListed.clocked := ⟨by decide, by decide, by decide⟩

/-- The ignored write takes the base off the table, so that the field beside it falls back to its own Reset value. -/
theorem mirrorBaseWrite_zeroListed :
    ∃ t, exec (.registerWrite .host 0x20008 true 0) zeroListed = .next t ∧ zeroListed.get mirrorBaseFromOne = 0 ∧ t.get mirrorBaseFromOne = 1 := by
  obtain ⟨u, took, hregs, -, -, hexec⟩ := exec_mirrorBaseWrite_of_enabled zeroListed_clocked (by decide) ⟨0, by decide, by decide⟩ .host 0
  have hbase : (u.add F.TAL_STAT_IGN 1).get F.TAL_MIRROR_BASE = 0 := by
    rw [add_get_ne _ _ _ _ _ _ _ _ (by decide), State.get, hregs]
    decide
  refine ⟨_, hexec, by decide, ?_⟩
  rw [(logChange_frame ..).keeps _ _ _ (by decide), hbase]
  exact tabGet_drop_same ..

/-- Refutes O53: its last clause keeps every field record of any Reset value at the home of TAL_MIRROR_BASE, in every state. Where the register table lists that home
at 0, the ignored write, which sets the field to the value it has, takes it off the table, and a field there with Reset value 1 reads 1 after 0. The part does what R350
says: the first two clauses hold as stated (`deckEnable_of_no_mirror`, `mirrorBaseWrite_of_disabled`), the last where the table does not list the base at 0 (`mirrorBaseWrite_of_enabled`). -/
theorem not_decksNeedAMirror : ¬ Obligations.DecksNeedAMirror := by
  unfold Obligations.DecksNeedAMirror
  intro h
  obtain ⟨-, -, hignored⟩ := h zeroListed .host 0 zeroListed_clocked (by decide)
  obtain ⟨t, hexec, -, -, hkeeps, -, -⟩ := hignored ⟨0, by decide, by decide⟩ (by decide)
  obtain ⟨t', hexec', hbefore, hafter⟩ := mirrorBaseWrite_zeroListed
  obtain rfl : t = t' := Host.Outcome.next.inj (hexec.symm.trans hexec')
  have hsame : t.get mirrorBaseFromOne = zeroListed.get mirrorBaseFromOne := hkeeps mirrorBaseFromOne 0 0 (by decide) (by simp)
  omega

end Sys2Proof.Laws
end

section
/-! Comet's atomics at a target without a log (R394): what the transport leaves of a part that queues and sends frames, and the refusal. -/

namespace Sys2Proof.Laws

open Sys2Proof Sys2Proof.Machine

/-! ## What the transport keeps -/

/-- Two frames say the same to the part that takes them: numbering and sealing a frame leave these fields as they are. -/
def Says (f g : Frame) : Prop := f.op = g.op ∧ f.aux = g.aux ∧ f.rtag = g.rtag ∧ f.addr = g.addr

/-- A session has a frame under way, sent or waiting, that says what `g` says. -/
def Tells (x : Sess) (g : Frame) : Prop := ∃ e ∈ x.sending, Says e.f g

theorem Says.refl (f : Frame) : Says f f := ⟨rfl, rfl, rfl, rfl⟩

theorem Says.trans {f g h : Frame} (hfg : Says f g) (hgh : Says g h) : Says f h := by
  obtain ⟨hop, haux, hrtag, haddr⟩ := hgh
  rwa [Says, ← hop, ← haux, ← hrtag, ← haddr]

/-- What the queueing and sending of frames keeps: memory, the Tally, every register field below the ports' byte counters, and of each session what its
frames under way say. -/
structure Carries (s t : State) : Prop where
  low : ∀ (f : Fld) (i j : Nat), f.key i j < F.CMT_PORT_TX_BYTES.key 0 0 → t.get f i j = s.get f i j
  mem : t.mem = s.mem
  poison : t.poison = s.poison
  tally : t.tally = s.tally
  tells : ∀ (q : Nat) (g : Frame), Tells (s.sess q) g → Tells (t.sess q) g

theorem sameMemory_of_eq {s t : State} (hmem : t.mem = s.mem) (hpoison : t.poison = s.poison) : SameMemory s t := fun a =>
  ⟨congrArg (fun m => tabGet 0 m a) hmem, congrArg (fun p => p.contains a) hpoison⟩

theorem sess_setSess_same (s : State) (peer : Nat) (x : Sess) : (s.setSess peer x).sess peer = x := tabGet_put_same ..

theorem sess_setSess_ne (s : State) {peer q : Nat} (x : Sess) (h : q ≠ peer) : (s.setSess peer x).sess q = s.sess q := tabGet_put_ne _ _ _ _ _ h

theorem add_cmt (s : State) (f : Fld) (n i j : Nat) : (s.add f n i j).cmt = s.cmt := by
  unfold State.add
  cases lifeOff f i <;> cases s.frozen f i <;> cases f.cls <;> rfl

theorem add_cht (s : State) (f : Fld) (n i j : Nat) : (s.add f n i j).cht = s.cht := by
  unfold State.add
  cases lifeOff f i <;> cases s.frozen f i <;> cases f.cls <;> rfl

theorem tells_of_frames {x y : Sess} {g : Frame} (htx : ∀ e ∈ x.tx, ∃ e' ∈ y.tx, e'.f = e.f) (hwait : x.wait ⊆ y.wait) (h : Tells x g) : Tells y g := by
  obtain ⟨e, he, hsays⟩ := h
  rcases List.mem_append.mp he with hsent | hwaits
  · obtain ⟨e', he', hf⟩ := htx e hsent
    exact ⟨e', List.mem_append_left _ he', by rwa [hf]⟩
  · exact ⟨e, List.mem_append_right _ (hwait hwaits), hsays⟩

namespace Carries

variable {s t u : State}

theorem trans (h : Carries s t) (h' : Carries t u) : Carries s u where
  low f i j hf := (h'.low f i j hf).trans (h.low f i j hf)
  mem := h'.mem.trans h.mem
  poison := h'.poison.trans h.poison
  tally := h'.tally.trans h.tally
  tells q g hg := h'.tells q g (h.tells q g hg)

theorem ofSame (hregs : t.regs = s.regs) (hmem : t.mem = s.mem) (hpoison : t.poison = s.poison) (htally : t.tally = s.tally)
    (hsess : t.cmt.sess = s.cmt.sess) : Carries s t where
  low f i j _ := congrArg (fun r => tabGet f.rst r (f.key i j)) hregs
  mem := hmem
  poison := hpoison
  tally := htally
  tells q g hg := by rwa [State.sess, hsess]

theorem refl (s : State) : Carries s s := ofSame rfl rfl rfl rfl rfl

/-- A counter at or above the ports' byte counters advanced. -/
theorem add (s : State) {f : Fld} {i j : Nat} (hf : F.CMT_PORT_TX_BYTES.key 0 0 ≤ f.key i j) (n : Nat) : Carries s (s.add f n i j) where
  low g k l hg := add_get_ne _ _ _ _ _ _ _ _ (Nat.ne_of_lt (Nat.lt_of_lt_of_le hg hf))
  mem := add_mem ..
  poison := add_poison ..
  tally := add_tally ..
  tells q g hg := by rwa [State.sess, add_cmt]

/-- A session replaced by one whose frames say as much. -/
theorem setSess {peer : Nat} {x : Sess} (hx : ∀ g, Tells (s.sess peer) g → Tells x g) : Carries s (s.setSess peer x) where
  low _ _ _ _ := rfl
  mem := rfl
  poison := rfl
  tally := rfl
  tells q g hg := by
    by_cases hq : q = peer
    · subst hq
      rw [sess_setSess_same]
      exact hx g hg
    · rwa [sess_setSess_ne s x hq]

/-- A counter below the ports' byte counters would count as before. -/
theorem counted (h : Carries s t) {f : Fld} (hfrz : f.frz = .cmt) {i j : Nat} (hf : f.key i j < F.CMT_PORT_TX_BYTES.key 0 0) (n : Nat) :
    t.counted f n i j = s.counted f n i j := by
  have hfrozen : t.frozen f i = s.frozen f i := by
    simp only [State.frozen, hfrz, State.isSet, h.low F.CMT_CTRL_FREEZE 0 0 (by decide)]
  rw [State.counted, State.counted, hfrozen, h.low f i j hf]

theorem ite (h : Carries s t) {c : Prop} [Decidable c] (h' : Carries t u) : Carries s (if c then u else t) := by
  split
  · exact h.trans h'
  · exact h

end Carries

/-! ## Frames queued and sent (R383, R385) -/

theorem txBytes_key (p : Nat) : F.CMT_PORT_TX_BYTES.key 0 0 ≤ F.CMT_PORT_TX_BYTES.key p 0 := by
  simp only [Fld.key, F.CMT_PORT_TX_BYTES]
  omega

theorem rxBytes_key (p : Nat) : F.CMT_PORT_TX_BYTES.key 0 0 ≤ F.CMT_PORT_RX_BYTES.key p 0 := by
  simp only [Fld.key, F.CMT_PORT_TX_BYTES, F.CMT_PORT_RX_BYTES]
  omega

/-- Noting when a frame left changes no frame. -/
theorem tells_sentNow {x : Sess} {g : Frame} (f : Frame) (t : Nat) : Tells x g → Tells (x.sentNow f t) g := by
  refine tells_of_frames (fun e he => ⟨_, List.mem_map_of_mem he, ?_⟩) (List.Subset.refl _)
  split <;> rfl

theorem portPump_carries (s : State) (p : Nat) : Carries s (s.portPump p) := by
  unfold State.portPump
  extract_lets x
  split
  · exact .refl s
  · split
    · exact .refl s
    next f y _ =>
      extract_lets g s0 s1 s2 _ s3
      have hqueued : Carries s (s0.setPort p { y with cur := some g }) := .ofSame rfl rfl rfl rfl rfl
      have hcounted : Carries s s1 := hqueued.trans (.add _ (txBytes_key p) _)
      have hnoted : Carries s s2 := hcounted.ite (.setSess fun _ => tells_sentNow f _)
      have hasked : Carries s s3 := hnoted.ite (.ofSame rfl rfl rfl rfl rfl)
      exact hasked.trans (.ofSame rfl rfl rfl rfl rfl)

theorem sendOn_carries (s : State) (peer path : Nat) (f : Frame) : Carries s (s.sendOn peer path f) :=
  Carries.trans (t := s.setPort (s.pathAt peer path).1 ((s.port (s.pathAt peer path).1).put (s.seal peer path f))) (.ofSame rfl rfl rfl rfl rfl)
    (portPump_carries _ _)

theorem sendCometAck_carries (s : State) (peer space : Nat) : Carries s (s.sendCometAck peer space) := by
  unfold State.sendCometAck
  dsimp only
  split
  · exact sendOn_carries ..
  · exact .refl s

theorem ackMoved_carries (s : State) (peer space old : Nat) : Carries s (s.ackMoved peer space old) := by
  unfold State.ackMoved
  split
  · exact .refl s
  · exact sendCometAck_carries ..

/-- A frame numbered, put behind those sent and sent says what it said while it waited. -/
theorem sendNumbered_carries (s : State) {peer : Nat} {x : Sess} {e : CTx} (htx : ∃ y, x.tx = (s.sess peer).tx ++ [y] ∧ Says y.f e.f)
    (hwait : x.wait = (s.sess peer).wait) (path : Nat) (f : Frame) :
    Carries s ((s.setSess peer x).sendOn peer path f) ∧ Tells (((s.setSess peer x).sendOn peer path f).sess peer) e.f := by
  obtain ⟨y, htx, hsays⟩ := htx
  have hkeeps : Carries s (s.setSess peer x) := .setSess fun g =>
    tells_of_frames (fun z hz => ⟨z, by simp [htx, hz], rfl⟩) (hwait ▸ List.Subset.refl _)
  have htells : Tells ((s.setSess peer x).sess peer) e.f := by
    rw [sess_setSess_same]
    exact ⟨y, by simp [Sess.sending, htx], hsays⟩
  have hsent := sendOn_carries (s.setSess peer x) peer path f
  exact ⟨hkeeps.trans hsent, hsent.tells _ _ htells⟩

theorem number1_carries {s u : State} {peer : Nat} {e : CTx} (h : s.number1 peer e = some u) : Carries s u ∧ Tells (u.sess peer) e.f := by
  unfold State.number1 at h
  dsimp only at h
  split at h
  · cases h
  · split at h
    · split at h
      · cases h
      · split at h
        · cases h
        · rw [← Option.some.inj h]
          refine sendNumbered_carries s ?_ ?_ _ _
          · exact ⟨_, rfl, .refl e.f⟩
          · rfl
    · split at h
      · cases h
      · split at h
        · cases h
        · rw [← Option.some.inj h]
          refine sendNumbered_carries s ?_ ?_ _ _
          · exact ⟨_, rfl, .refl e.f⟩
          · rfl

/-- One step of `State.cometDrain`: a waiting frame is sent, or waits on. -/
def drainStep (peer : Nat) (t : State) (e : CTx) : State :=
  match t.number1 peer e with
  | some u => u
  | none => t.setSess peer { t.sess peer with wait := (t.sess peer).wait ++ [e] }

/-- A session whose frames under way are joined by a waiting one. -/
theorem wait_carries (s : State) (peer : Nat) (e : CTx) :
    Carries s (s.setSess peer { s.sess peer with wait := (s.sess peer).wait ++ [e] }) ∧
    Tells ((s.setSess peer { s.sess peer with wait := (s.sess peer).wait ++ [e] }).sess peer) e.f := by
  refine ⟨.setSess fun g => tells_of_frames (fun z hz => ⟨z, hz, rfl⟩) (List.subset_append_left _ _), ?_⟩
  rw [sess_setSess_same]
  exact ⟨e, by simp [Sess.sending], .refl e.f⟩

theorem drainStep_carries (s : State) (peer : Nat) (e : CTx) : Carries s (drainStep peer s e) ∧ Tells ((drainStep peer s e).sess peer) e.f := by
  unfold drainStep
  split
  next u hu => exact number1_carries hu
  · exact wait_carries s peer e

theorem foldl_drainStep_carries (peer : Nat) (l : List CTx) :
    ∀ s, Carries s (l.foldl (drainStep peer) s) ∧ ∀ e ∈ l, Tells ((l.foldl (drainStep peer) s).sess peer) e.f := by
  induction l with
  | nil => exact fun s => ⟨.refl s, by simp⟩
  | cons e l ih =>
    intro s
    obtain ⟨hfirst, hsays⟩ := drainStep_carries s peer e
    obtain ⟨hrest, hothers⟩ := ih (drainStep peer s e)
    refine ⟨hfirst.trans hrest, fun e' he' => ?_⟩
    rcases List.mem_cons.mp he' with rfl | hin
    · exact hrest.tells _ _ hsays
    · exact hothers e' hin

theorem cometDrain_eq (s : State) (peer : Nat) :
    s.cometDrain peer = (s.sess peer).wait.foldl (drainStep peer) (s.setSess peer { s.sess peer with wait := [] }) := rfl

/-- The queue is emptied and each frame of it is sent or put back, so that none is lost. -/
theorem cometDrain_carries (s : State) (peer : Nat) : Carries s (s.cometDrain peer) := by
  rw [cometDrain_eq]
  obtain ⟨hfold, hqueued⟩ := foldl_drainStep_carries peer (s.sess peer).wait (s.setSess peer { s.sess peer with wait := [] })
  refine ⟨hfold.low, hfold.mem, hfold.poison, hfold.tally, fun q g hg => ?_⟩
  by_cases hq : q = peer
  · subst hq
    obtain ⟨e, he, hsays⟩ := hg
    rcases List.mem_append.mp he with hsent | hwaits
    · refine hfold.tells q g ?_
      rw [sess_setSess_same]
      exact ⟨e, List.mem_append_left _ hsent, hsays⟩
    · obtain ⟨e', he', hsame⟩ := hqueued e hwaits
      exact ⟨e', he', hsame.trans hsays⟩
  · refine hfold.tells q g ?_
    rwa [sess_setSess_ne _ _ hq]

theorem cometPush_carries (s : State) (peer : Nat) (e : CTx) : Carries s (s.cometPush peer e) ∧ Tells ((s.cometPush peer e).sess peer) e.f := by
  obtain ⟨hwaits, hsays⟩ := wait_carries s peer e
  have hdrained := cometDrain_carries (s.setSess peer { s.sess peer with wait := (s.sess peer).wait ++ [e] }) peer
  exact ⟨hwaits.trans hdrained, hdrained.tells _ _ hsays⟩

/-! ## A frame refused (R379, R391) -/

/-- A remote access that passes its check goes to a site of the part whose die is up. -/
theorem dieUp_of_remoteCheck {s : State} {port a n : Nat} (h : s.remoteCheck port a n = 0) :
    ownerSite a ≤ 43 ∧ s.isSet F.SKY_DLV_DIE_DIE_DOWN (ownerSite a) = false := by
  unfold State.remoteCheck at h
  split at h
  · cases h
  next hserved =>
    split at h
    · cases h
    · split at h
      · cases h
      next hdie =>
        simp only [Bool.or_eq_true, decide_eq_true_eq, not_or, Nat.not_lt] at hserved
        exact ⟨hserved.2, by simpa using hdie⟩

theorem refuseFrame_of_dieUp {s : State} {f : Frame} (hdie : s.isSet F.SKY_DLV_DIE_DIE_DOWN (ownerSite f.addr) = false) (peer why : Nat) :
    s.refuseFrame peer why f = (s.add F.CMT_REFUSED_IN 1).cometPush peer { f := { op := 7, addr := f.addr, rtag := f.rtag, aux := why } } := by
  simp [State.refuseFrame, State.bump, F.CMT_REFUSED_IN, hdie]

/-- What R394 asks of the state `t` after a refused atomic in `s`. -/
def AtomicRefused (s : State) (f : Frame) (t : State) : Prop :=
  (∃ e ∈ (t.sess f.srcPart).sending, e.f.op = 7 ∧ e.f.aux = 3 ∧ e.f.rtag = f.rtag ∧ e.f.addr = f.addr) ∧ CountsBy F.CMT_REFUSED_IN 1 0 0 s t ∧ SameMemory s t ∧
    t.tally = s.tally

/-- A refusal between whatever the transport does before and after it. -/
theorem atomicRefused_of_carries {s u t : State} {f : Frame} (hbefore : Carries s u) (hsite : ownerSite f.addr ≤ 43)
    (hdie : s.isSet F.SKY_DLV_DIE_DIE_DOWN (ownerSite f.addr) = false) (hafter : Carries (u.refuseFrame f.srcPart 3 f) t) : AtomicRefused s f t := by
  have hkey : F.SKY_DLV_DIE_DIE_DOWN.key (ownerSite f.addr) 0 < F.CMT_PORT_TX_BYTES.key 0 0 := by
    simp only [Fld.key, F.SKY_DLV_DIE_DIE_DOWN, F.CMT_PORT_TX_BYTES]
    omega
  rw [refuseFrame_of_dieUp (by rwa [State.isSet, hbefore.low _ _ _ hkey])] at hafter
  obtain ⟨hpush, hsays⟩ := cometPush_carries (u.add F.CMT_REFUSED_IN 1) f.srcPart { f := { op := 7, addr := f.addr, rtag := f.rtag, aux := 3 } }
  have hsent := hpush.trans hafter
  have hmem : t.mem = s.mem := (hsent.mem.trans (add_mem ..)).trans hbefore.mem
  have hpoison : t.poison = s.poison := (hsent.poison.trans (add_poison ..)).trans hbefore.poison
  refine ⟨hafter.tells _ _ hsays, ?_, sameMemory_of_eq hmem hpoison, (hsent.tally.trans (add_tally ..)).trans hbefore.tally⟩
  calc t.get F.CMT_REFUSED_IN
      = (u.add F.CMT_REFUSED_IN 1).get F.CMT_REFUSED_IN := hsent.low _ _ _ (by decide)
    _ = u.counted F.CMT_REFUSED_IN 1 := add_get_same ..
    _ = s.counted F.CMT_REFUSED_IN 1 := hbefore.counted rfl (by decide) 1

/-! ## An atomic taken (R384, R385, R394) -/

theorem remoteAtomic_of_no_log {s : State} {peer : Nat} {f : Frame} {m : Nat} {p : PeerDef} (hpeer : s.peerDef peer = some p) (hregion : regionOf f.addr = .hbm m)
    (hno : p.slot = 0xFFFF ∨ s.logBase m = none) (port : Nat) (dup : Bool) (ecc : List EccHit) :
    s.remoteAtomic peer port f dup ecc = s.refuseFrame peer 3 f := by
  unfold State.remoteAtomic
  simp only [hregion, hpeer]
  cases hlog : s.logBase m with
  | none => rfl
  | some base =>
    have hslot : p.slot = 0xFFFF := by simpa [hlog] using hno
    simp [hslot]

theorem recvData_of_framePort {s : State} {port op : Nat} {f : Frame} (h : s.framePort port 0 op f) (hack : f.ackOk = false) (hspace : f.space = 0)
    (ecc : List EccHit) : s.recvData port op f true ecc = (s.add F.CMT_PORT_RX_BYTES f.wire port).takeOrdered f.srcPart port f ecc := by
  obtain ⟨hup, hdmac, hetype, hver, hcodes, hdst, hpeer, hcrc, hepoch, hkind, hop⟩ := h
  have hepoch : (s.sess f.srcPart).epoch = some f.epoch := hepoch.resolve_left (by omega)
  have hknown : (s.peerDef f.srcPart).isNone = false := by simpa using hpeer
  simp [State.recvData, State.recvFrame, hup, hdmac, hetype, hver, hcodes, hdst, hknown, ← hcrc, hepoch, hkind, hop, hack, hspace]

theorem exec_atomic_of_framePort {s : State} {port : Nat} {f : Frame} (halive : s.alive = true) (h : s.framePort port 0 3 f) (hack : f.ackOk = false)
    (hspace : f.space = 0) :
    exec (.atomic port f true []) s = .next ((s.fresh.add F.CMT_PORT_RX_BYTES f.wire port).takeOrdered f.srcPart port f []) :=
  (live_next (f := fun u => u.recvData port 3 f true []) halive).trans (congrArg _ (recvData_of_framePort (s := s.fresh) h hack hspace []))

/-- A frame already taken is answered again, and its point acknowledged. -/
theorem takeOrdered_of_repeat {s : State} {peer : Nat} {f : Frame} (hrepeat : subMod 32 f.seq (s.sess peer).rxCum = 0) (hkind : f.kind = 0) (hop : f.op = 3)
    (port : Nat) (ecc : List EccHit) : s.takeOrdered peer port f ecc = (s.remoteAtomic peer port f true ecc).sendCometAck peer 0 := by
  simp [State.takeOrdered, State.duplicate, hrepeat, hkind, hop]

/-- The next frame, with no response outstanding and none held behind it, is committed. -/
theorem takeOrdered_of_next {s : State} {peer : Nat} {f : Frame} (hnext : subMod 32 f.seq (s.sess peer).rxCum = 1) (hkind : f.kind = 0) (hop : f.op = 3)
    (hheld : (s.sess peer).held = []) (howed : (s.sess peer).owed = []) (port : Nat) (ecc : List EccHit) :
    s.takeOrdered peer port f ecc =
      ((s.setSess peer { s.sess peer with rxCum := f.seq }).remoteAtomic peer port f (s.sess peer).doubt ecc).ackMoved peer 0 ((s.sess peer).cum 0) := by
  simp [State.takeOrdered, Sess.blocked, State.commitFrame, State.commitHeld, hnext, hkind, hop, hheld, howed, sess_setSess_same]

/-- R394: in its turn or repeated, an atomic without a source slot or a log is refused with ADDRESS. -/
theorem takeOrdered_atomicRefused {s u : State} {port m : Nat} {f : Frame} {p : PeerDef} (hbefore : Carries s u) (hsite : ownerSite f.addr ≤ 43)
    (hdie : s.isSet F.SKY_DLV_DIE_DIE_DOWN (ownerSite f.addr) = false) (hkind : f.kind = 0) (hop : f.op = 3) (hheld : (u.sess f.srcPart).held = [])
    (howed : (u.sess f.srcPart).owed = []) (hseq : subMod 32 f.seq (u.sess f.srcPart).rxCum ≤ 1) (hpeer : u.peerDef f.srcPart = some p)
    (hregion : regionOf f.addr = .hbm m) (hno : p.slot = 0xFFFF ∨ u.logBase m = none) (ecc : List EccHit) :
    AtomicRefused s f (u.takeOrdered f.srcPart port f ecc) := by
  rcases Nat.le_one_iff_eq_zero_or_eq_one.mp hseq with hrepeat | hnext
  · rw [takeOrdered_of_repeat hrepeat hkind hop, remoteAtomic_of_no_log hpeer hregion hno]
    exact atomicRefused_of_carries hbefore hsite hdie (sendCometAck_carries ..)
  · rw [takeOrdered_of_next hnext hkind hop hheld howed, remoteAtomic_of_no_log (s := u.setSess _ _) hpeer hregion hno]
    have hmoved : Carries u (u.setSess f.srcPart { u.sess f.srcPart with rxCum := f.seq }) := .setSess fun _ hg => hg
    exact atomicRefused_of_carries (hbefore.trans hmoved) hsite hdie (ackMoved_carries ..)

/-- Settles O57: the frame is taken off its port and counted there, and taken in its turn or as a repeat. -/
theorem atomicsNeedALog : Obligations.AtomicsNeedALog := by
  unfold Obligations.AtomicsNeedALog
  intro s port f m p _ halive hframe hack hspace hheld howed hseq hpeer hregion hcheck hno
  obtain ⟨hsite, hdie⟩ := dieUp_of_remoteCheck hcheck
  have ⟨_, _, _, _, _, _, _, _, _, hkind, hop⟩ := hframe
  have hcounted : Carries s (s.fresh.add F.CMT_PORT_RX_BYTES f.wire port) :=
    .trans (t := s.fresh) (.ofSame rfl rfl rfl rfl rfl) (.add _ (rxBytes_key port) _)
  have hsess : (s.fresh.add F.CMT_PORT_RX_BYTES f.wire port).sess f.srcPart = s.sess f.srcPart := by rw [State.sess, add_cmt]; rfl
  have hcht : (s.fresh.add F.CMT_PORT_RX_BYTES f.wire port).cht = s.cht := add_cht ..
  refine ⟨_, exec_atomic_of_framePort halive hframe hack hspace, takeOrdered_atomicRefused (p := p) hcounted hsite hdie hkind hop (hsess ▸ hheld)
    (hsess ▸ howed) (hsess ▸ hseq) ?_ hregion ?_ []⟩
  · rwa [State.peerDef, State.con, hcht]
  · rwa [State.logBase, State.con, hcht]

end Sys2Proof.Laws
end
